-- ==== Sys2Proof/Word.lean ====
section
/-! DEFINITION. Word types of the M7: bytes, 32-bit CSR words, 64-bit instruction words, 64-byte rows. -/

namespace Sys2Proof

/-- One byte (R8: bit 0 is the least significant bit). -/
abbrev Byte := BitVec 8
/-- A 32-bit CSR word (R10). -/
abbrev Word := BitVec 32
/-- A 64-bit value: a tile or steep instruction, a wide register. -/
abbrev DWord := BitVec 64
/-- A 64-byte row of a tile store, byte 0 in bits 7:0. -/
abbrev Row := BitVec 512

end Sys2Proof
end

