-- ==== Sys2Proof/Syntax.lean ====
section
/-! DEFINITION. The commands the M7 takes: one constructor of `Instr` per row of the opcode table, and the types
of their operands. A command row carries the packet that asked for it, an event row what its surroundings supply. -/

namespace Sys2Proof

/-- The transports of a command packet (R43, R55, R57). A Holwell link stream is keyed by its source device. -/
inductive Transport where
  | pcie | spi | smbus | i3c
  | holwell (src : Fin 64)
  | fabric (die : Fin 2)
deriving DecidableEq, Repr

/-- A stream: the traffic of one (transport, ROLE, SESSION) triple. -/
structure StreamId where
  via : Transport
  role : Nat
  session : Nat
deriving DecidableEq, Repr

/-- A command packet as it was framed (R27, Table CMD-1): the sixteen header bytes by field, and every byte that
followed the header (payload, then the tag where FLAGS.AUTH is set). -/
structure Packet where
  via : Transport
  magic : BitVec 16
  ver : Byte
  flags : Byte
  opcode : BitVec 16
  seq : BitVec 16
  role : Byte
  session : Byte
  len : BitVec 16
  crc : BitVec 32
  body : List Byte
deriving DecidableEq, Repr

/-- What a boot finds at the pins: the three samples of the nine straps (R648: CFG_MODE in bits 1:0, ENS_ID in 7:2,
Q6_SEL in 8), a TEST ball read high (R655), the TAMPER level, and VIO_AO at 3.3 V (R616). -/
structure BootPins where
  s0 : BitVec 9
  s1 : BitVec 9
  s2 : BitVec 9
  test : Bool
  tamper : Bool
  vio33 : Bool
deriving DecidableEq, Repr

/-- The kettle-switched rails (R68); F stands for VDD_F0 and VDD_F1 together. -/
inductive Rail where
  | b | f | c | l
deriving DecidableEq, Repr
/-- The PLLs of the start order (R71): plinth, caddy, fabric. -/
inductive Pll where
  | nclk | cclk | fab
deriving DecidableEq, Repr
/-- How a restore from the save area ends (R83, R88, Table FLT-7). -/
inductive RestoreOutcome where
  | ok | digest | caddyUe | supplyC
deriving DecidableEq, Repr
/-- How the bytes of an image source arrived (Table CAST-11). -/
inductive SourceResult where
  | ok | flashFailed | memUe | hole
deriving DecidableEq, Repr
/-- One port operation of a queue block in RAM mode (R247): the word address, and the data and byte enables of a write. -/
structure RamOp where
  addr : Nat
  data : Nat
  be : Nat
  write : Bool
deriving DecidableEq, Repr
/-- A requester of the CSR space (R399): the PCIe BAR2 path, or one tile with its two steepers. -/
inductive Requester where
  | host
  | tile (t : Fin 192)
deriving DecidableEq, Repr
/-- A memory channel: a caddy micro-channel or an external channel. -/
inductive MemChannel where
  | caddy (n : Fin 192)
  | xdram (c : Fin 4)
deriving DecidableEq, Repr
/-- A link packet as its flits carry it (Table HOL-2): header bytes and payload. -/
structure LinkPacket where
  header : List Byte
  payload : List Byte
deriving DecidableEq, Repr
/-- What the kettle measures over one 100 µs period (R554, R563), in mW: everything but tile dynamic power and the kettle's share,
the tile dynamic power of each die at its present step, and the dies' own totals. -/
structure PowerSample where
  u : Nat
  tile0 : Nat
  tile1 : Nat
  f0 : Nat
  f1 : Nat
  b : Nat
  c : Nat
deriving DecidableEq, Repr
/-- The modes of a queue block (Table PLB-4). -/
inductive QbMode where
  | ram | ramWide | fifo | credit | handle
deriving DecidableEq, Repr
/-- A queue block as a cast sets it (R237–R246): its device number, mode, width in bits, the protected shape, the clocks of its write side
or port A and of its read side or port B (0 to 7 a UCLK, 8 SECLK, 9 the plinth's), the read latency of each RAM port, RDW (0 COHERENT,
1 SNAPSHOT, 2 QUIET), the thresholds, first-word fall-through, and in handle queue mode HQN and DEPTH. -/
structure QbCfg where
  qb : Nat
  mode : QbMode
  width : Nat
  prot : Bool
  ckA : Nat
  ckB : Nat
  latA : Nat
  latB : Nat
  rdw : Nat
  afT : Nat
  aeT : Nat
  fwft : Bool
  hqn : Nat
  depth : Nat
deriving DecidableEq, Repr

/-! ### Fabric logic as a cast sets it (R221–R235) -/

/-- A product term: the literals it uses, true and complemented, one bit per input (R221). -/
structure PlbTerm where
  pos : Nat
  neg : Nat
deriving DecidableEq, Repr
/-- The second input of the XOR stage (R223). -/
inductive XorIn where
  | zero | one | term0
deriving DecidableEq, Repr
/-- A flip-flop's mode (R224), its clock enable (R226) and its answer to ASR (R227). -/
inductive FfMode where
  | d | t | bypass
deriving DecidableEq, Repr
inductive FfEnable where
  | always | term1 | ce
deriving DecidableEq, Repr
inductive FfAsr where
  | none | set | reset
deriving DecidableEq, Repr
/-- A macrocell: its five terms, the macrocell its cluster is steered to, the settings, whether its output is Q, which clock line it
uses (false CK0), its initial value. -/
structure PlbCell where
  terms : List PlbTerm
  owner : Nat
  xin : XorIn
  mode : FfMode
  enable : FfEnable
  asr : FfAsr
  outQ : Bool
  ck : Bool
  init : Bool
deriving DecidableEq, Repr
/-- A signal of the fabric: a constant; the output of a macrocell, by its CELL of Table RCST-3; a user I/O's input; inbound crossing signal
`j` of region `r` (R229); a flag (FULL, AFULL, EMPTY, AEMPTY, OVF, UDF, ECC_FIX, ECC_BAD) or a bit of the data output of a queue block; bit
`k` of a signal engine's EO; any other signal, by a number. -/
inductive Net where
  | zero | one
  | cell (c : Nat)
  | io (k : Nat)
  | cross (r j : Nat)
  | qbFlag (b f : Nat)
  | qbOut (b i : Nat)
  | eo (e k : Nat)
  | other (n : Nat)
deriving DecidableEq, Repr
/-- A PLB: its device number, the UCLKs of CK0 and CK1, its 48 inputs, CE and ASR_IN, its sixteen macrocells, and whether term 4 of
macrocell 15's cluster is its ASR source. -/
structure PlbSet where
  plb : Nat
  ck0 : Nat
  ck1 : Nat
  ins : List Net
  ce : Net
  asrIn : Net
  cells : List PlbCell
  asrTerm : Bool
deriving DecidableEq, Repr
/-- A user I/O (R234, R235): its device number, which of its input, output and output-enable flip-flops it uses, their UCLK, the signals it
drives the pin and its enable from, their initial values, the standard (0 LVCMOS12, 1 LVCMOS18, 2 LVCMOS33, 3 LVTTL), the drive in mA,
Schmitt input, slow slew, and the pull (0 none, 1 down, 2 up, 3 keeper). -/
structure IoSet where
  io : Nat
  useIn : Bool
  useOut : Bool
  useOe : Bool
  uclk : Nat
  out : Net
  oe : Net
  initIn : Bool
  initOut : Bool
  initOe : Bool
  std : Nat
  drive : Nat
  schmitt : Bool
  slow : Bool
  pull : Nat
deriving DecidableEq, Repr
/-- The outbound crossing signals of a region (die * 16 + region), their UCLK and the initial values of their registers (R229). -/
structure CrossSet where
  region : Nat
  uclk : Nat
  outs : List Net
  init : Nat
deriving DecidableEq, Repr
/-- What a cast's frames instantiate, since the manual does not give its place in the frames: PLBs, user I/O, crossings, queue blocks, the
queue blocks of each engine's IN and OUT, the regions marked recastable, the regions (die * 16 + region) that hold a match result
interface, the fabric command ports with their region, request block and reply block (R57), and the levels and regions of LGATE7–0. -/
structure Personality where
  plbs : List PlbSet
  ios : List IoSet
  crossings : List CrossSet
  qbs : List QbCfg
  inQb : List (Nat × Nat)
  outQb : List (Nat × Nat)
  recastable : Nat
  matchRegion : List Nat
  cmdPort : List (Nat × Nat × Nat)
  lgate : Nat
  lgateRegion : List Nat
deriving DecidableEq, Repr

/-- A lamp channel's output near ground: the channel and the voltage across it in mV (R97). -/
structure LampTrip where
  ch : Fin 8
  mv : BitVec 16
deriving DecidableEq, Repr
/-- The end of a lamp channel's inrush window: the channel and how long its rail had dipped, in µs (R96, R101). -/
structure LampWindow where
  ch : Fin 8
  dip : Nat
deriving DecidableEq, Repr
/-- A read of CSR space: its address and its width in bytes (R10). -/
structure CsrRead where
  addr : Nat
  width : Nat
deriving DecidableEq, Repr
/-- Bits that come in on a lane, first first. -/
structure LineBits where
  lane : Fin 32
  line : List Bool
deriving DecidableEq, Repr
/-- A PTP event message at a MAC: its direction, the rate in Mb/s of that link, the offset that the firmware has computed from the
exchange it completes, if it completes one (R541), and the offset to UTC where the master has reported one since the last message (R532). -/
structure PtpMessage where
  mac : Fin 2
  egress : Bool
  mbps : Nat
  offset : Option Int
  utc : Option (BitVec 16)
deriving DecidableEq, Repr

/-- THE COMMANDS: one constructor per row of spec/opcode_table.json, in the table's order. -/
inductive Instr where
  /-- ECHO (R66). -/
  | echo (p : Packet)
  /-- GET_INFO (R66). -/
  | getInfo (p : Packet)
  /-- SESSION_OPEN (R46). -/
  | sessionOpen (p : Packet)
  /-- SESSION_CLOSE (R50). -/
  | sessionClose (p : Packet)
  /-- CMD_POLL (R41). -/
  | cmdPoll (p : Packet)
  /-- KEY_PROVISION (R66). -/
  | keyProvision (p : Packet)
  /-- PEEK (R67). -/
  | peek (p : Packet)
  /-- POKE (R67). -/
  | poke (p : Packet)
  /-- SESSION_IDLE_TIMEOUT (R50). -/
  | sessionIdleTimeout (n : Fin 256)
  /-- CHAIN_TIMEOUT (R39). -/
  | chainTimeout (st : StreamId)
  /-- MCTP_MESSAGE_TIMEOUT (R55). -/
  | mctpMessageTimeout
  /-- SET_ENDPOINT_ID (R55). -/
  | setEndpointId (eid : Byte)
  /-- GET_ENDPOINT_ID (R55). -/
  | getEndpointId
  /-- GET_MCTP_VERSION_SUPPORT (R55). -/
  | getMctpVersionSupport (msgType : Byte)
  /-- GET_MESSAGE_TYPE_SUPPORT (R55). -/
  | getMessageTypeSupport
  /-- ENTDAA (R55). -/
  | entdaa (addr : BitVec 7)
  /-- WRITE_PACKET (R54). -/
  | writePacket (bytes : List Byte)
  /-- READ_REPLY (R54). -/
  | readReply (whole : Bool)
  /-- READ_STATUS (R53). -/
  | readStatus
  /-- MBX_DOORBELL (R51). -/
  | mbxDoorbell (tail : BitVec 16) (placed : List Packet)
  /-- MBX_RPL_HEAD_WRITE (R52). -/
  | mbxRplHeadWrite (head : BitVec 16)
  /-- MBX_RESET (R51). -/
  | mbxReset (w : Word)
  /-- PWR_SET_STATE (R77). -/
  | pwrSetState (p : Packet)
  /-- PWR_QUIESCE_TIMEOUT (R77). -/
  | pwrQuiesceTimeout
  /-- PWR_QUIESCE_DONE (R77). -/
  | pwrQuiesceDone
  /-- PWR_ENTRY_COMMIT (R78). -/
  | pwrEntryCommit
  /-- PWR_GET_STATE (R92). -/
  | pwrGetState (p : Packet)
  /-- PWR_WAKE_CONFIG (R92). -/
  | pwrWakeConfig (p : Packet)
  /-- PWR_DOZE_CONFIG (R85). -/
  | pwrDozeConfig (p : Packet)
  /-- PWR_WAKE_CLEAR (R92). -/
  | pwrWakeClear (p : Packet)
  /-- PWR_WAKE (R74). -/
  | pwrWake (w : Word)
  /-- AUTO_IDLE_EXPIRE (R80). -/
  | autoIdleExpire
  /-- DOZE_LIMIT_EXPIRE (R90). -/
  | dozeLimitExpire
  /-- RESET_N_FALL (R69). -/
  | resetNFall
  /-- RESET_N_RISE (R69). -/
  | resetNRise (b : BootPins)
  /-- SUPPLY_MONITOR_TRIP (R636). -/
  | supplyMonitorTrip
  /-- SUPPLY_MONITOR_RELEASE (R636). -/
  | supplyMonitorRelease (b : BootPins)
  /-- RAIL_UP (R68). -/
  | railUp (r : Rail)
  /-- RAIL_UP_TIMEOUT (R68). -/
  | railUpTimeout (r : Rail)
  /-- PG_FALL (R637). -/
  | pgFall (r : Rail)
  /-- REFCLK_VALID (R71). -/
  | refclkValid
  /-- PLL_LOCK (R71). -/
  | pllLock (pll : Pll) (ok : Bool) (calFail : List (Fin 192))
  /-- REFCLK_FAIL (R87). -/
  | refclkFail
  /-- CLK_LOSS (R72). -/
  | clkLoss
  /-- WAKE_PIN (R81). -/
  | wakePin (n : Fin 4)
  /-- HLINK_WAKE_BURST (R81). -/
  | hlinkWakeBurst (port : Fin 7)
  /-- CADDY_SR_EXIT_DONE (R436). -/
  | caddySrExitDone (calFail : List (Fin 192))
  /-- DOZE_RESTORE_DONE (R83). -/
  | dozeRestoreDone (o : RestoreOutcome)
  /-- LAMP_SET (R95). -/
  | lampSet (p : Packet)
  /-- LAMP_GET (R120). -/
  | lampGet (p : Packet)
  /-- LAMP_RETRY (R98). -/
  | lampRetry (p : Packet)
  /-- TOUCH_CONFIG (R106). -/
  | touchConfig (p : Packet)
  /-- TOUCH_GET (R120). -/
  | touchGet (p : Packet)
  /-- KEY_CONFIG (R110). -/
  | keyConfig (p : Packet)
  /-- KEY_READ (R112). -/
  | keyRead (p : Packet)
  /-- DOOR_STATUS (R120). -/
  | doorStatus (p : Packet)
  /-- TAMPER_CLEAR (R116). -/
  | tamperClear (p : Packet) (loopOpen : Bool)
  /-- AUDIO_MUTE (R118). -/
  | audioMute (p : Packet)
  /-- LAMP_SHORT (R97). -/
  | lampShort (x : LampTrip)
  /-- LAMP_AUTO_RETRY (R98). -/
  | lampAutoRetry (ch : Fin 8)
  /-- LAMP_RETRIES_RESET (R98). -/
  | lampRetriesReset (ch : Fin 8)
  /-- LAMP_OPEN (R99). -/
  | lampOpen (ch : Fin 8)
  /-- INRUSH_WINDOW_END (R96). -/
  | inrushWindowEnd (x : LampWindow)
  /-- RAMP_END (R102). -/
  | rampEnd (ch : Fin 8)
  /-- LAMP_RAIL_UV (R100). -/
  | lampRailUv (rail : Fin 4)
  /-- RAIL_UV_RELEASE (R100). -/
  | railUvRelease (rail : Fin 4)
  /-- RAIL_RESTART_WAIT_END (R100). -/
  | railRestartWaitEnd (rail : Fin 4)
  /-- LGATE_EDGE (R105). -/
  | lgateEdge (ch : Fin 8) (level : Bool)
  /-- TOUCH_SCAN (R106). -/
  | touchScan (counts : List (List (BitVec 16)))
  /-- TOUCH_RECAL (R108). -/
  | touchRecal (ch : Fin 12)
  /-- KEY_ROW_LOW (R110). -/
  | keyRowLow
  /-- KEY_SCAN (R110). -/
  | keyScan (down : BitVec 16) (ms : BitVec 24)
  /-- PLUG_CHANGE (R113). -/
  | plugChange (n : Fin 2) (present : Bool)
  /-- TAMPER (R115). -/
  | tamper
  /-- VAULT_STATUS (R158). -/
  | vaultStatus (p : Packet)
  /-- VAULT_ENROL (R133). -/
  | vaultEnrol (p : Packet)
  /-- ENROL_CAPTURE_TIMEOUT (R134). -/
  | enrolCaptureTimeout
  /-- VAULT_ERASE (R137). -/
  | vaultErase (p : Packet)
  /-- VAULT_SCRUB_DONE (R137). -/
  | vaultScrubDone
  /-- VAULT_LIST (R151). -/
  | vaultList (p : Packet)
  /-- VAULT_POLICY (R158). -/
  | vaultPolicy (p : Packet)
  /-- VAULT_EXPORT (R146). -/
  | vaultExport (p : Packet)
  /-- VAULT_EXPORT_DONE (R146). -/
  | vaultExportDone (answers : List (BitVec 16))
  /-- VAULT_IMPORT (R147). -/
  | vaultImport (p : Packet)
  /-- VAULT_COMMIT (R126). -/
  | vaultCommit (res : Fin 3)
  /-- VAULT_RECLAIM (R128). -/
  | vaultReclaim (sector : Nat)
  /-- VAULT_FILL_DONE (R132). -/
  | vaultFillDone
  /-- QUERY_ROW_WRITE (R139). -/
  | queryRowWrite (port : Fin 2) (tile : Fin 192) (row : Fin 16) (data : List Byte)
  /-- QUERY_SUBMIT (R139). -/
  | querySubmit (port : Fin 2) (tile : Fin 192) (desc : List Byte)
  /-- VAULT_PORT_STALE (R139). -/
  | vaultPortStale (port : Fin 2) (tile : Fin 192)
  /-- MATCH (R144). -/
  | match
  /-- CAST_LOAD (R173). -/
  | castLoad (p : Packet)
  /-- CAST_SOURCE_READ (R170). -/
  | castSourceRead (bytes : List Byte) (src : SourceResult)
  /-- CAST_LOAD_COMPLETE (R173). -/
  | castLoadComplete (pers : Personality)
  /-- RELAY_BLOCK (R185). -/
  | relayBlock (port : Fin 7) (no : Word) (data : List Byte) (crc : Word)
  /-- RELAY_TIMEOUT (R185). -/
  | relayTimeout
  /-- CAST_STATUS_GET (R194). -/
  | castStatusGet (p : Packet)
  /-- CAST_RELEASE (R200). -/
  | castRelease (p : Packet)
  /-- CAST_UNLOAD (R177). -/
  | castUnload (p : Packet)
  /-- CAST_KEY_SET (R194). -/
  | castKeySet (p : Packet)
  /-- CAST_SIGNER_SET (R165). -/
  | castSignerSet (p : Packet)
  /-- CAST_POLICY_SET (R194). -/
  | castPolicySet (p : Packet)
  /-- CAST_FLASH_PREFER (R179). -/
  | castFlashPrefer (p : Packet)
  /-- RECAST_LOAD (R199). -/
  | recastLoad (p : Packet)
  /-- RECAST_VERIFY_DONE (R199). -/
  | recastVerifyDone (pers : Personality)
  /-- ROLLBACK_CAPTURE_DONE (R213). -/
  | rollbackCaptureDone
  /-- RECAST_RELEASE (R207). -/
  | recastRelease
  /-- RECAST_TIMEOUT (R201). -/
  | recastTimeout
  /-- RECAST_ABORT (R214). -/
  | recastAbort (p : Packet)
  /-- RECAST_STATUS (R220). -/
  | recastStatus (p : Packet)
  /-- FIFO_WRITE (R243). -/
  | fifoWrite (qb : Fin 2304) (data : DWord)
  /-- FIFO_READ (R243). -/
  | fifoRead (qb : Fin 2304)
  /-- QB_RST (R244). -/
  | qbRst (qb : Fin 2304)
  /-- RAM_ACCESS (R238). -/
  | ramAccess (qb : Fin 2304) (a : Option RamOp) (b : Option RamOp)
  /-- HQ_FABRIC_ACCESS (R246). -/
  | hqFabricAccess (q : Fin 1024) (push : Option Word) (pop : Bool)
  /-- IO_BANK_LOSS (R251). -/
  | ioBankLoss (bank : Fin 16)
  /-- BANK_SUPPLY_RETURN (R251). -/
  | bankSupplyReturn (bank : Fin 16) (code : Fin 5)
  /-- ENG_NOP (R258). -/
  | engNop (e : Fin 96)
  /-- MPY (R254). -/
  | mpy (e : Fin 96)
  /-- MAC (R254). -/
  | mac (e : Fin 96)
  /-- MSU (R254). -/
  | msu (e : Fin 96)
  /-- ENG_ACC (R258). -/
  | engAcc (e : Fin 96)
  /-- EXT (R255). -/
  | ext (e : Fin 96)
  /-- MOV (R258). -/
  | mov (e : Fin 96)
  /-- SETAG (R257). -/
  | setag (e : Fin 96)
  /-- RPT (R260). -/
  | rpt (e : Fin 96)
  /-- BLK (R261). -/
  | blk (e : Fin 96)
  /-- ENG_JMP (R262). -/
  | engJmp (e : Fin 96)
  /-- WAIT (R267). -/
  | wait (e : Fin 96)
  /-- SIGO (R267). -/
  | sigo (e : Fin 96)
  /-- RETI (R264). -/
  | reti (e : Fin 96)
  /-- ENG_STOP (R267). -/
  | engStop (e : Fin 96)
  /-- ENG_HPOP (R269). -/
  | engHpop (e : Fin 96)
  /-- ENG_HPUSH (R269). -/
  | engHpush (e : Fin 96)
  /-- ENG_STALL_RELEASE (R259). -/
  | engStallRelease (e : Fin 96)
  /-- ENG_EVENT_EDGE (R263). -/
  | engEventEdge (e : Fin 96) (k : Fin 8)
  /-- GO_EDGE (R267). -/
  | goEdge (e : Fin 96)
  /-- ENG_START (R267). -/
  | engStart (e : Fin 96) (w : Word)
  /-- ENG_HALT (R264). -/
  | engHalt (e : Fin 96) (w : Word)
  /-- ENG_CLR_FAULT (R272). -/
  | engClrFault (e : Fin 96) (w : Word)
  /-- ENG_MEMORY_ACCESS (R271). -/
  | engMemoryAccess (e : Fin 96) (off : Fin 24576) (wr : Option Word)
  /-- TCFG (R301). -/
  | tcfg (t : Fin 192)
  /-- TLOAD (R302). -/
  | tload (t : Fin 192) (rows : Nat)
  /-- TSTORE (R303). -/
  | tstore (t : Fin 192) (rows : Nat)
  /-- TMMA (R305). -/
  | tmma (t : Fin 192) (rows : Nat)
  /-- TEW (R307). -/
  | tew (t : Fin 192) (rows : Nat)
  /-- TRED (R308). -/
  | tred (t : Fin 192) (rows : Nat)
  /-- TCVT (R309). -/
  | tcvt (t : Fin 192) (rows : Nat)
  /-- TPAIR (R310). -/
  | tpair (t : Fin 192) (rows : Nat)
  /-- TREL (R311). -/
  | trel (t : Fin 192)
  /-- SALU (R312). -/
  | salu (t : Fin 192)
  /-- SALUI (R312). -/
  | salui (t : Fin 192)
  /-- SLD (R312). -/
  | sld (t : Fin 192)
  /-- SST (R312). -/
  | sst (t : Fin 192)
  /-- PSET (R312). -/
  | pset (t : Fin 192)
  /-- BR (R313). -/
  | br (t : Fin 192)
  /-- TILE_JMP (R313). -/
  | tileJmp (t : Fin 192)
  /-- TILE_NOP (R300). -/
  | tileNop (t : Fin 192)
  /-- TILE_STOP (R290). -/
  | tileStop (t : Fin 192)
  /-- TILE_SWAIT (R314). -/
  | tileSwait (t : Fin 192)
  /-- TILE_SSIG (R314). -/
  | tileSsig (t : Fin 192)
  /-- TILE_HPOP (R315). -/
  | tileHpop (t : Fin 192)
  /-- TILE_HPUSH (R315). -/
  | tileHpush (t : Fin 192)
  /-- SRUN (R316). -/
  | srun (t : Fin 192)
  /-- TCTRL_START (R286). -/
  | tctrlStart (t : Fin 192) (w : Word)
  /-- TCTRL_STEP (R286). -/
  | tctrlStep (t : Fin 192) (w : Word)
  /-- TCTRL_HALT (R290). -/
  | tctrlHalt (t : Fin 192) (w : Word)
  /-- TCTRL_CLR_FAULT (R286). -/
  | tctrlClrFault (t : Fin 192) (w : Word)
  /-- TILE_INSTR_WRITE (R285). -/
  | tileInstrWrite (req : Requester) (t : Fin 192) (k : Fin 4096) (high : Bool) (w : Word)
  /-- TILE_START (R297). -/
  | tileStart (p : Packet)
  /-- TILE_HALT (R297). -/
  | tileHalt (p : Packet)
  /-- TILE_STATUS (R297). -/
  | tileStatus (p : Packet)
  /-- TILE_CTX_SAVE (R293). -/
  | tileCtxSave (p : Packet)
  /-- TILE_CTX_RESTORE (R294). -/
  | tileCtxRestore (p : Packet)
  /-- TILE_CTX_COMPLETE (R294). -/
  | tileCtxComplete (t : Fin 192)
  /-- TILE_FAULT_CLEAR (R297). -/
  | tileFaultClear (p : Packet)
  /-- SETB (R353). -/
  | setb (t : Fin 192) (st : Fin 2)
  /-- ADDB (R353). -/
  | addb (t : Fin 192) (st : Fin 2)
  /-- LOOP (R353). -/
  | loop (t : Fin 192) (st : Fin 2)
  /-- XFER (R353). -/
  | xfer (t : Fin 192) (st : Fin 2)
  /-- STEEP_SWAIT (R353). -/
  | steepSwait (t : Fin 192) (st : Fin 2)
  /-- STEEP_SSIG (R353). -/
  | steepSsig (t : Fin 192) (st : Fin 2)
  /-- STEEP_HPOP (R353). -/
  | steepHpop (t : Fin 192) (st : Fin 2)
  /-- STEEP_HPUSH (R353). -/
  | steepHpush (t : Fin 192) (st : Fin 2)
  /-- STEEP_END (R351). -/
  | steepEnd (t : Fin 192) (st : Fin 2)
  /-- TRANSFER_COMPLETE (R365). -/
  | transferComplete (t : Fin 192) (st : Fin 2)
  /-- XLAT_WALK_DONE (R408). -/
  | xlatWalkDone (t : Fin 192) (st : Fin 2)
  /-- STEEP_START (R349). -/
  | steepStart (t : Fin 192) (st : Fin 2) (w : Word)
  /-- STEEP_RESUME (R367). -/
  | steepResume (t : Fin 192) (st : Fin 2) (w : Word)
  /-- STEEP_HALT (R367). -/
  | steepHalt (t : Fin 192) (st : Fin 2) (w : Word)
  /-- STEEP_CLR_FAULT (R367). -/
  | steepClrFault (t : Fin 192) (st : Fin 2) (w : Word)
  /-- STREAM_START (R349). -/
  | streamStart (p : Packet)
  /-- STREAM_STATUS (R375). -/
  | streamStatus (p : Packet)
  /-- STREAM_RESUME (R367). -/
  | streamResume (p : Packet)
  /-- STREAM_HALT (R367). -/
  | streamHalt (p : Packet)
  /-- STREAM_ABORT (R367). -/
  | streamAbort (p : Packet)
  /-- HQ_CONFIG (R375). -/
  | hqConfig (p : Packet)
  /-- HQ_STATUS (R375). -/
  | hqStatus (p : Packet)
  /-- HQ_PUSH (R375). -/
  | hqPush (p : Packet)
  /-- HQ_POP (R375). -/
  | hqPop (p : Packet)
  /-- HQ_PUSH_WRITE (R363). -/
  | hqPushWrite (q : Fin 1024) (w : Word)
  /-- HQ_POP_READ (R363). -/
  | hqPopRead (q : Fin 1024)
  /-- HQ_CFG_WRITE (R362). -/
  | hqCfgWrite (q : Fin 1024) (w : Word)
  /-- HQ_OP_ARRIVE (R360). -/
  | hqOpArrive (i : Nat)
  /-- HQ_RESERVATION_EXPIRE (R361). -/
  | hqReservationExpire (q : Fin 1024) (push : Bool)
  /-- HQ_RETRY (R361). -/
  | hqRetry (i : Nat)
  /-- SYNC_CONFIG (R392). -/
  | syncConfig (p : Packet)
  /-- SYNC_SIGNAL (R379). -/
  | syncSignal (p : Packet)
  /-- SYNC_READ (R392). -/
  | syncRead (p : Packet)
  /-- SYNC_WAIT (R392). -/
  | syncWait (p : Packet)
  /-- SYNC_WAIT_TIMEOUT (R392). -/
  | syncWaitTimeout (i : Nat)
  /-- SYNC_OP_ARRIVE (R382). -/
  | syncOpArrive (i : Nat)
  /-- SYNC_WAIT_RESPONSE (R382). -/
  | syncWaitResponse (i : Nat)
  /-- SYNC_WAIT_RETRY (R381). -/
  | syncWaitRetry (i : Nat)
  /-- SO_OP_WRITE (R383). -/
  | soOpWrite (j : Fin 131072) (w : Word)
  /-- SO_VAL_WRITE (R383). -/
  | soValWrite (req : Requester) (j : Fin 131072) (hi : Word)
  /-- SO_CFG_WRITE (R378). -/
  | soCfgWrite (j : Fin 131072) (w : Word)
  /-- XLAT_SET_BASE (R419). -/
  | xlatSetBase (p : Packet)
  /-- XLAT_INVALIDATE (R409). -/
  | xlatInvalidate (p : Packet)
  /-- XLAT_STATUS (R420). -/
  | xlatStatus (p : Packet)
  /-- TNET_STATUS (R420). -/
  | tnetStatus (p : Packet)
  /-- BAR4_ACCESS (R398). -/
  | bar4Access (off : Nat) (len : Nat) (wr : Option (List Byte))
  /-- WIDE_VALUE_LOW_READ (R400). -/
  | wideValueLowRead (req : Requester) (r : CsrRead)
  /-- WIDE_VALUE_HIGH_READ (R400). -/
  | wideValueHighRead (req : Requester) (r : CsrRead)
  /-- WIDE_VALUE_WRITE (R401). -/
  | wideValueWrite (req : Requester) (addr : Nat) (w : Word)
  /-- SYS_STALE_READ (R400). -/
  | sysStaleRead (req : Requester)
  /-- RC_FIELD_READ (R11). -/
  | rcFieldRead (req : Requester) (r : CsrRead)
  /-- KEY_FIFO_READ (R112). -/
  | keyFifoRead
  /-- CAPTURE_READ (R550). -/
  | captureRead (req : Requester) (c : Fin 20)
  /-- LOG_DATA_READ (R611). -/
  | logDataRead (req : Requester)
  /-- REGISTER_WRITE (R11). -/
  | registerWrite (req : Requester) (addr : Nat) (width : Nat) (w : Word)
  /-- XDRAM_CONFIG (R448). -/
  | xdramConfig (p : Packet)
  /-- XDRAM_TRAIN (R430). -/
  | xdramTrain (p : Packet)
  /-- XDRAM_TRAIN_DONE (R432). -/
  | xdramTrainDone (recs : List (List Byte))
  /-- XDRAM_RESULT (R448). -/
  | xdramResult (p : Packet)
  /-- MEM_GUARD (R438). -/
  | memGuard (p : Packet)
  /-- MEM_SCRUB (R443). -/
  | memScrub (p : Packet)
  /-- MEM_STATUS (R448). -/
  | memStatus (p : Packet)
  /-- MEM_INJECT (R448). -/
  | memInject (p : Packet)
  /-- REFRESH_DUE (R435). -/
  | refreshDue (ch : MemChannel) (queued : Bool)
  /-- MR4_POLL (R434). -/
  | mr4Poll (ch : Fin 4) (rate : Nat)
  /-- THROTTLE_WINDOW_END (R439). -/
  | throttleWindowEnd (ch : MemChannel)
  /-- SCRUB_READ (R443). -/
  | scrubRead (ch : MemChannel) (addr : Nat)
  /-- LANE_CONFIG (R450). -/
  | laneConfig (p : Packet)
  /-- LANE_STATUS (R473). -/
  | laneStatus (p : Packet)
  /-- LANE_TXEQ (R462). -/
  | laneTxeq (p : Packet)
  /-- LANE_TEST (R463). -/
  | laneTest (p : Packet)
  /-- LANE_ALIGN (R458). -/
  | laneAlign (p : Packet)
  /-- LANE_EYE (R460). -/
  | laneEye (p : Packet)
  /-- LANE_SLIP (R458). -/
  | laneSlip (l : Fin 32)
  /-- LANE_RESTART (R457). -/
  | laneRestart (l : Fin 32)
  /-- LANE_SIGNAL_DETECT (R457). -/
  | laneSignalDetect (l : Fin 32)
  /-- LANE_CDR_LOCK (R457). -/
  | laneCdrLock (l : Fin 32)
  /-- LANE_ADAPT_DONE (R461). -/
  | laneAdaptDone (l : Fin 32) (sweep : List (Fin 65 × Fin 65)) (dfe : BitVec 24) (h : Fin 65) (v : Fin 65)
  /-- ALIGN_SEARCH_STEP (R458). -/
  | alignSearchStep (l : Fin 32) (seen : Option Bool)
  /-- ALIGN_RETRY (R458). -/
  | alignRetry (l : Fin 32)
  /-- MARKER_RECEIVED (R456). -/
  | markerReceived (l : Fin 32) (line : List Bool) (placed : Bool)
  /-- LANE_HOLDOVER (R459). -/
  | laneHoldover (l : Fin 32) (cause : Fin 3)
  /-- LANE_HOLDOVER_TIMEOUT (R459). -/
  | laneHoldoverTimeout (l : Fin 32)
  /-- EYEQ_MEASURE (R461). -/
  | eyeqMeasure (l : Fin 32) (h : Fin 65) (v : Fin 65)
  /-- LANE_REF_LOSS (R470). -/
  | laneRefLoss (r : Fin 2)
  /-- PCIE_RESET (R467). -/
  | pcieReset (cause : Fin 4)
  /-- HLINK_STATUS (R504). -/
  | hlinkStatus (p : Packet)
  /-- HLINK_SET (R504). -/
  | hlinkSet (p : Packet)
  /-- HLINK_RETRAIN (R496). -/
  | hlinkRetrain (p : Packet)
  /-- HLINK_WAKE (R498). -/
  | hlinkWake (p : Packet)
  /-- HL_RETRAIN (R497). -/
  | hlRetrain (port : Fin 7)
  /-- HL_WAKE (R498). -/
  | hlWake (port : Fin 7)
  /-- FLIT_RECEIVE (R484). -/
  | flitReceive (port : Fin 7) (flit : List Byte)
  /-- CTRL_FLIT (R486). -/
  | ctrlFlit (port : Fin 7) (flit : List Byte)
  /-- CTRL_FLIT_DUE (R485). -/
  | ctrlFlitDue (port : Fin 7)
  /-- REPLAY_TIMEOUT (R486). -/
  | replayTimeout (port : Fin 7)
  /-- TRAIN_FLIT (R495). -/
  | trainFlit (port : Fin 7) (flit : List Byte)
  /-- TRAINING_TIMEOUT (R495). -/
  | trainingTimeout (port : Fin 7)
  /-- RETRAIN_FAST_TIMEOUT (R496). -/
  | retrainFastTimeout (l : Fin 32)
  /-- LINK_RETRY_TIMER (R497). -/
  | linkRetryTimer (port : Fin 7)
  /-- TAG_TIMEOUT (R491). -/
  | tagTimeout (port : Fin 7) (tag : Fin 256)
  /-- READ (R513). -/
  | read (port : Fin 7) (pk : LinkPacket)
  /-- WRITE (R513). -/
  | write (port : Fin 7) (pk : LinkPacket)
  /-- READ_RSP (R490). -/
  | readRsp (port : Fin 7) (pk : LinkPacket)
  /-- WRITE_RSP (R490). -/
  | writeRsp (port : Fin 7) (pk : LinkPacket)
  /-- SYNC (R387). -/
  | sync (port : Fin 7) (pk : LinkPacket)
  /-- SYNC_RSP (R490). -/
  | syncRsp (port : Fin 7) (pk : LinkPacket)
  /-- CMD (R480). -/
  | cmd (port : Fin 7) (pk : LinkPacket)
  /-- CMD_REASSEMBLY_TIMEOUT (R480). -/
  | cmdReassemblyTimeout (src : Fin 64) (num : Byte)
  /-- ENS_JOIN (R512). -/
  | ensJoin (p : Packet)
  /-- ENS_LEAVE (R531). -/
  | ensLeave (p : Packet)
  /-- ENS_STATUS (R531). -/
  | ensStatus (p : Packet)
  /-- ENS_MEMBER (R531). -/
  | ensMember (p : Packet)
  /-- ENS_KEY_SET (R514). -/
  | ensKeySet (p : Packet)
  /-- ENS_RESOLVE (R523). -/
  | ensResolve (p : Packet)
  /-- ENS_FORCE (R521). -/
  | ensForce (p : Packet)
  /-- ENS_ROUTES (R531). -/
  | ensRoutes (p : Packet)
  /-- ACCORD_RECORD (R516). -/
  | accordRecord (p : Packet)
  /-- ACCORD_COMMIT (R518). -/
  | accordCommit (p : Packet)
  /-- ACCORD_EPOCH_ADOPT (R518). -/
  | accordEpochAdopt
  /-- ACCORD_NOTICE (R528). -/
  | accordNotice (p : Packet)
  /-- ACCORD_SHARE (R526). -/
  | accordShare (p : Packet)
  /-- HEARTBEAT (R516). -/
  | heartbeat (tray : List (BitVec 16 × BitVec 16))
  /-- LEADER_LOST (R518). -/
  | leaderLost
  /-- SHARE_TIMEOUT (R526). -/
  | shareTimeout
  /-- TIME_GET (R553). -/
  | timeGet (p : Packet)
  /-- TIME_SET (R537). -/
  | timeSet (p : Packet)
  /-- TIME_ADJUST (R537). -/
  | timeAdjust (p : Packet)
  /-- TIME_SOURCE (R538). -/
  | timeSource (p : Packet)
  /-- TIME_ALARM (R546). -/
  | timeAlarm (p : Packet)
  /-- TIME_PTP_CONFIG (R540). -/
  | timePtpConfig (p : Packet)
  /-- TIME_CAPTURE (R549). -/
  | timeCapture (p : Packet)
  /-- TIME_SYNC (R542). -/
  | timeSync (p : Packet)
  /-- TIME_SYNC_EXCHANGE (R542). -/
  | timeSyncExchange (t1 : Nat) (t2 : Nat) (t3 : Nat) (t4 : Nat) (valid : Bool) (parentLocked : Bool)
  /-- PTP_EVENT_MESSAGE (R541). -/
  | ptpEventMessage (m : PtpMessage)
  /-- HOLDOVER_TIMEOUT (R539). -/
  | holdoverTimeout
  /-- XTAL_COMPENSATION (R544). -/
  | xtalCompensation (temp : Int)
  /-- XTAL_OK_CHANGE (R535). -/
  | xtalOkChange (ok : Bool)
  /-- SLEW_COMPLETE (R537). -/
  | slewComplete
  /-- ALARM_FIRE (R546). -/
  | alarmFire
  /-- TOD_PPS (R549). -/
  | todPps (level : Bool)
  /-- TCAP_CAPTURE (R549). -/
  | tcapCapture (c : Fin 16)
  /-- CSI_FRAME_START (R548). -/
  | csiFrameStart (r : Fin 4)
  /-- BUD_SET_CAP (R557). -/
  | budSetCap (p : Packet)
  /-- BUD_BRAKE (R560). -/
  | budBrake (p : Packet)
  /-- BUD_STATUS (R576). -/
  | budStatus (p : Packet)
  /-- BUD_TRAY_CAP (R565). -/
  | budTrayCap (p : Packet)
  /-- THERM_READ (R576). -/
  | thermRead (p : Packet)
  /-- BUD_CONFIG (R576). -/
  | budConfig (p : Packet)
  /-- BRAKE_TIMEOUT (R560). -/
  | brakeTimeout
  /-- BUDGET_PERIOD (R563). -/
  | budgetPeriod (m : PowerSample)
  /-- THERMAL_PERIOD (R569). -/
  | thermalPeriod (temps : List Int)
  /-- BUD_CAP_HOLD (R564). -/
  | budCapHold (enter : Bool) (onFraction : Byte)
  /-- THERM_SENSOR_FAIL (R568). -/
  | thermSensorFail (sensor : Fin 24)
  /-- THERMAL_SHUTDOWN (R570). -/
  | thermalShutdown (sensor : Fin 24) (reading : Int)
  /-- THERMAL_OFF_ENTRY (R571). -/
  | thermalOffEntry (deferral : BitVec 16)
  /-- THERMAL_OFF_EXIT (R573). -/
  | thermalOffExit (b : BootPins) (reading : Int)
  /-- BIST_RUN (R584). -/
  | bistRun (p : Packet)
  /-- BIST_TEST_COMPLETE (R578). -/
  | bistTestComplete (test : Fin 9) (failure : Option (List Byte)) (tj : Int)
  /-- BIST_RUN_END (R589). -/
  | bistRunEnd (ms : Nat) (calFail : List (Fin 192))
  /-- BIST_STATUS (R595). -/
  | bistStatus (p : Packet)
  /-- BIST_RESULT (R595). -/
  | bistResult (p : Packet)
  /-- BIST_ABORT (R593). -/
  | bistAbort (p : Packet)
  /-- LOG_SUBMIT (R601). -/
  | logSubmit
  /-- LOG_PERSIST (R605). -/
  | logPersist (ok : Bool)
  /-- LOG_STATUS (R613). -/
  | logStatus (p : Packet)
  /-- LOG_READ (R612). -/
  | logRead (p : Packet)
  /-- LOG_WRITE (R613). -/
  | logWrite (p : Packet)
  /-- LOG_CONFIG (R609). -/
  | logConfig (p : Packet)
  /-- LOG_ERASE (R664). -/
  | logErase (p : Packet)
  /-- LOG_ERASED (R664). -/
  | logErased
  /-- FIFO_POINTER_CROSS (R242). -/
  | fifoPointerCross (qb : Fin 2304) (toWrite : Bool)
  /-- HQ_RESPONSE (R315). -/
  | hqResponse (i : Nat)
  /-- COMMA_ALIGN (R452). -/
  | commaAlign (x : LineBits)
  /-- PRBS_CHECKER_LOCK (R464). -/
  | prbsCheckerLock (l : Fin 32) (line : List Bool)
  /-- LANE_ALIGN_TIMEOUT (R473). -/
  | laneAlignTimeout (l : Fin 32)
  /-- LREFCLK_RETURN (R470). -/
  | lrefclkReturn (r : Fin 2)
  /-- XDRAM_SELF_REFRESH_EXIT (R436). -/
  | xdramSelfRefreshExit (ch : Fin 4) (supplyLost : Bool)
  /-- CAMERA_RING_WRITE (R427). -/
  | cameraRingWrite (r : Fin 4) (addr : Nat) (bytes : List Byte)
  /-- BIST_ENTRY_DONE (R584). -/
  | bistEntryDone
deriving DecidableEq, Repr

end Sys2Proof
end

