-- ==== Sys2Proof/Machine/Bits.lean ====
section
/-! DEFINITION. Bit fields, byte order and signed views of the numbers the M7 moves (R8: little-endian,
bit 0 least significant). Plain Nat arithmetic, so that the kernel evaluates it on numerals. -/

namespace Sys2Proof.Machine

/-- Bits [lsb + w - 1 : lsb] of `x`. -/
def bits (x lsb w : Nat) : Nat := (x >>> lsb) % 2 ^ w
/-- Bit `k` of `x` as a Bool. -/
def bit (x k : Nat) : Bool := bits x k 1 == 1
/-- A Bool as a field value. -/
def b2n (b : Bool) : Nat := if b then 1 else 0
/-- `x` with bits [lsb + w - 1 : lsb] replaced by the low `w` bits of `v`. -/
def setBits (x lsb w v : Nat) : Nat :=
  x - (bits x lsb w <<< lsb) + ((v % 2 ^ w) <<< lsb)
/-- `x` cut to `w` bits. -/
def cut (w x : Nat) : Nat := x % 2 ^ w
/-- The two's-complement value of the low `w` bits of `x`. -/
def sgn (w x : Nat) : Int :=
  let y := x % 2 ^ w
  if 2 * y < 2 ^ w then (y : Int) else (y : Int) - (2 ^ w : Nat)
/-- The low `w` bits of the two's complement of `i`. -/
def unsgn (w : Nat) (i : Int) : Nat := (i % ((2 ^ w : Nat) : Int)).toNat
/-- `i` limited to the signed range of `w` bits. -/
def satS (w : Nat) (i : Int) : Int :=
  let hi : Int := (2 ^ (w - 1) : Nat) - 1
  let lo : Int := -((2 ^ (w - 1) : Nat) : Int)
  if i > hi then hi else if i < lo then lo else i
/-- `x` limited to the largest value of `w` bits. -/
def satU (w x : Nat) : Nat := if x < 2 ^ w then x else 2 ^ w - 1
/-- `x + n` in a saturating counter of `w` bits. -/
def satAdd (w x n : Nat) : Nat := satU w (x + n)
/-- `x + n` in a wrapping counter of `w` bits. -/
def wrapAdd (w x n : Nat) : Nat := (x + n) % 2 ^ w

/-- The `n` low bytes of `x`, least significant first (R8). -/
def leBytes : Nat → Nat → List Byte
  | 0, _ => []
  | n + 1, x => BitVec.ofNat 8 x :: leBytes n (x >>> 8)
/-- The number whose little-endian bytes these are (R8). -/
def leNat : List Byte → Nat
  | [] => 0
  | b :: bs => b.toNat + 256 * leNat bs
/-- The number whose big-endian bytes these are. -/
def beNat (bs : List Byte) : Nat := bs.foldl (fun a b => a * 256 + b.toNat) 0
/-- The `n` low bytes of `x`, most significant first. -/
def beBytes (n x : Nat) : List Byte := (leBytes n x).reverse
/-- `n` bytes from offset `off`. -/
def slice (l : List Byte) (off n : Nat) : List Byte := (l.drop off).take n
/-- The little-endian value of the `n` bytes at offset `off`. -/
def leAt (l : List Byte) (off n : Nat) : Nat := leNat (slice l off n)
/-- `n` zero bytes. -/
def zeros (n : Nat) : List Byte := List.replicate n 0
/-- Exactly `n` bytes: cut, or filled with zeros. -/
def padTo (n : Nat) (l : List Byte) : List Byte := (l ++ zeros (n - l.length)).take n
/-- All bytes are zero. -/
def allZero (l : List Byte) : Bool := l.all (· == 0)
/-- The bytes of a 32-bit word list, words little-endian (R8). -/
def wordBytes (ws : List Nat) : List Byte := ws.flatMap (leBytes 4)
/-- The 32-bit words of a byte list. -/
def bytesWords : Nat → List Byte → List Nat
  | 0, _ => []
  | n + 1, l => leAt l 0 4 :: bytesWords n (l.drop 4)
/-- The number of bits set among the low `w`. -/
def popcount : Nat → Nat → Nat
  | 0, _ => 0
  | w + 1, x => x % 2 + popcount w (x / 2)
/-- The indexes below `w` whose bit is set in `x`, rising. -/
def setBitsOf (w x : Nat) : List Nat := (List.range w).filter (fun k => bit x k)
/-- Ceiling division. -/
def ceilDiv (a b : Nat) : Nat := (a + b - 1) / b

end Sys2Proof.Machine
end

