-- ==== Sys2Proof/Machine/Crypto.lean ====
section
/-! DEFINITION. The checks and ciphers the manual names: CRC-32C (R30), CRC-16 (R476), SHA-256, HMAC-SHA-256,
AES-256-GCM and ECDSA on P-256. PRESUMED: the manual names the algorithms and this file takes them from their public
standards (FIPS 180-4, 198-1, 197, 186-4, NIST SP 800-38D), log entry 4. -/

namespace Sys2Proof.Machine

/-- One bit of the reflected CRC-32C (R30). -/
def crc32cBit (c : Nat) : Nat := if c % 2 = 1 then (c >>> 1) ^^^ 0x82F63B78 else c >>> 1
/-- `n` bits. -/
def crc32cBits : Nat → Nat → Nat
  | 0, c => c
  | n + 1, c => crc32cBits n (crc32cBit c)
/-- The running CRC over bytes. -/
def crc32cRun (c : Nat) : List Byte → Nat
  | [] => c
  | b :: bs => crc32cRun (crc32cBits 8 (c ^^^ b.toNat)) bs
/-- CRC-32C of bytes: initial value and final XOR 0xFFFF_FFFF (R30). -/
def crc32c (bs : List Byte) : Nat := crc32cRun 0xFFFFFFFF bs ^^^ 0xFFFFFFFF

/-- One bit of CRC-16, polynomial 0x1021, not reflected (R476). -/
def crc16Bit (c : Nat) : Nat := if c ≥ 0x8000 then (2 * c % 65536) ^^^ 0x1021 else 2 * c
/-- `n` bits. -/
def crc16Bits : Nat → Nat → Nat
  | 0, c => c
  | n + 1, c => crc16Bits n (crc16Bit c)
/-- The running CRC over bytes. -/
def crc16Run (c : Nat) : List Byte → Nat
  | [] => c
  | b :: bs => crc16Run (crc16Bits 8 (c ^^^ (b.toNat * 256))) bs
/-- CRC-16 of bytes: initial value 0xFFFF, no final XOR (R476). -/
def crc16 (bs : List Byte) : Nat := crc16Run 0xFFFF bs

/-- Round constants of SHA-256 (FIPS 180-4), part 0. -/
def shaK0 : List Nat := [0x428a2f98, 0x71374491, 0xb5c0fbcf, 0xe9b5dba5, 0x3956c25b, 0x59f111f1, 0x923f82a4, 0xab1c5ed5, 0xd807aa98, 0x12835b01, 0x243185be, 0x550c7dc3, 0x72be5d74, 0x80deb1fe, 0x9bdc06a7, 0xc19bf174]
/-- Round constants of SHA-256 (FIPS 180-4), part 1. -/
def shaK1 : List Nat := [0xe49b69c1, 0xefbe4786, 0xfc19dc6, 0x240ca1cc, 0x2de92c6f, 0x4a7484aa, 0x5cb0a9dc, 0x76f988da, 0x983e5152, 0xa831c66d, 0xb00327c8, 0xbf597fc7, 0xc6e00bf3, 0xd5a79147, 0x6ca6351, 0x14292967]
/-- Round constants of SHA-256 (FIPS 180-4), part 2. -/
def shaK2 : List Nat := [0x27b70a85, 0x2e1b2138, 0x4d2c6dfc, 0x53380d13, 0x650a7354, 0x766a0abb, 0x81c2c92e, 0x92722c85, 0xa2bfe8a1, 0xa81a664b, 0xc24b8b70, 0xc76c51a3, 0xd192e819, 0xd6990624, 0xf40e3585, 0x106aa070]
/-- Round constants of SHA-256 (FIPS 180-4), part 3. -/
def shaK3 : List Nat := [0x19a4c116, 0x1e376c08, 0x2748774c, 0x34b0bcb5, 0x391c0cb3, 0x4ed8aa4a, 0x5b9cca4f, 0x682e6ff3, 0x748f82ee, 0x78a5636f, 0x84c87814, 0x8cc70208, 0x90befffa, 0xa4506ceb, 0xbef9a3f7, 0xc67178f2]
/-- Round constants of SHA-256 (FIPS 180-4). -/
def shaK : List Nat := shaK0 ++ shaK1 ++ shaK2 ++ shaK3

/-- Initial hash value of SHA-256 (FIPS 180-4). -/
def shaH0 : List Nat := [0x6a09e667, 0xbb67ae85, 0x3c6ef372, 0xa54ff53a, 0x510e527f, 0x9b05688c, 0x1f83d9ab, 0x5be0cd19]

/-- The AES substitution box (FIPS 197), part 0. -/
def aesSbox0 : List Nat := [0x63, 0x7c, 0x77, 0x7b, 0xf2, 0x6b, 0x6f, 0xc5, 0x30, 0x1, 0x67, 0x2b, 0xfe, 0xd7, 0xab, 0x76, 0xca, 0x82, 0xc9, 0x7d, 0xfa, 0x59, 0x47, 0xf0, 0xad, 0xd4, 0xa2, 0xaf, 0x9c, 0xa4, 0x72, 0xc0]
/-- The AES substitution box (FIPS 197), part 1. -/
def aesSbox1 : List Nat := [0xb7, 0xfd, 0x93, 0x26, 0x36, 0x3f, 0xf7, 0xcc, 0x34, 0xa5, 0xe5, 0xf1, 0x71, 0xd8, 0x31, 0x15, 0x4, 0xc7, 0x23, 0xc3, 0x18, 0x96, 0x5, 0x9a, 0x7, 0x12, 0x80, 0xe2, 0xeb, 0x27, 0xb2, 0x75]
/-- The AES substitution box (FIPS 197), part 2. -/
def aesSbox2 : List Nat := [0x9, 0x83, 0x2c, 0x1a, 0x1b, 0x6e, 0x5a, 0xa0, 0x52, 0x3b, 0xd6, 0xb3, 0x29, 0xe3, 0x2f, 0x84, 0x53, 0xd1, 0x0, 0xed, 0x20, 0xfc, 0xb1, 0x5b, 0x6a, 0xcb, 0xbe, 0x39, 0x4a, 0x4c, 0x58, 0xcf]
/-- The AES substitution box (FIPS 197), part 3. -/
def aesSbox3 : List Nat := [0xd0, 0xef, 0xaa, 0xfb, 0x43, 0x4d, 0x33, 0x85, 0x45, 0xf9, 0x2, 0x7f, 0x50, 0x3c, 0x9f, 0xa8, 0x51, 0xa3, 0x40, 0x8f, 0x92, 0x9d, 0x38, 0xf5, 0xbc, 0xb6, 0xda, 0x21, 0x10, 0xff, 0xf3, 0xd2]
/-- The AES substitution box (FIPS 197), part 4. -/
def aesSbox4 : List Nat := [0xcd, 0xc, 0x13, 0xec, 0x5f, 0x97, 0x44, 0x17, 0xc4, 0xa7, 0x7e, 0x3d, 0x64, 0x5d, 0x19, 0x73, 0x60, 0x81, 0x4f, 0xdc, 0x22, 0x2a, 0x90, 0x88, 0x46, 0xee, 0xb8, 0x14, 0xde, 0x5e, 0xb, 0xdb]
/-- The AES substitution box (FIPS 197), part 5. -/
def aesSbox5 : List Nat := [0xe0, 0x32, 0x3a, 0xa, 0x49, 0x6, 0x24, 0x5c, 0xc2, 0xd3, 0xac, 0x62, 0x91, 0x95, 0xe4, 0x79, 0xe7, 0xc8, 0x37, 0x6d, 0x8d, 0xd5, 0x4e, 0xa9, 0x6c, 0x56, 0xf4, 0xea, 0x65, 0x7a, 0xae, 0x8]
/-- The AES substitution box (FIPS 197), part 6. -/
def aesSbox6 : List Nat := [0xba, 0x78, 0x25, 0x2e, 0x1c, 0xa6, 0xb4, 0xc6, 0xe8, 0xdd, 0x74, 0x1f, 0x4b, 0xbd, 0x8b, 0x8a, 0x70, 0x3e, 0xb5, 0x66, 0x48, 0x3, 0xf6, 0xe, 0x61, 0x35, 0x57, 0xb9, 0x86, 0xc1, 0x1d, 0x9e]
/-- The AES substitution box (FIPS 197), part 7. -/
def aesSbox7 : List Nat := [0xe1, 0xf8, 0x98, 0x11, 0x69, 0xd9, 0x8e, 0x94, 0x9b, 0x1e, 0x87, 0xe9, 0xce, 0x55, 0x28, 0xdf, 0x8c, 0xa1, 0x89, 0xd, 0xbf, 0xe6, 0x42, 0x68, 0x41, 0x99, 0x2d, 0xf, 0xb0, 0x54, 0xbb, 0x16]
/-- The AES substitution box (FIPS 197). -/
def aesSbox : List Nat := aesSbox0 ++ aesSbox1 ++ aesSbox2 ++ aesSbox3 ++ aesSbox4 ++ aesSbox5 ++ aesSbox6 ++ aesSbox7

/-- Sum modulo 2^32. -/
def add32 (a b : Nat) : Nat := (a + b) % 2 ^ 32
/-- A 32-bit word turned right by each amount of a list, and the results taken together without carry. -/
def turns (x : Nat) (by_ : List Nat) : Nat := by_.foldl (fun y n => y ^^^ (x >>> n) ^^^ (x <<< (32 - n)) % 2 ^ 32) 0
/-- `n` words more of a block's schedule, the newest first: each is a sum of the words 2, 7, 15 and 16 places back, the first and third of them
turned. -/
def shaSched : Nat → List Nat → List Nat
  | 0, w => w
  | n + 1, w =>
    let back (k : Nat) : Nat := w.getD (k - 1) 0
    let near := turns (back 2) [17, 19] ^^^ (back 2 >>> 10)
    let far := turns (back 15) [7, 18] ^^^ (back 15 >>> 3)
    shaSched n ((near + back 7 + far + back 16) % 2 ^ 32 :: w)
/-- The two sequences that the compression writes, newest first: of the eight working variables the first four are the newest of `up`, the other four
the newest of `down`. -/
structure ShaRun where
  up : List Nat
  down : List Nat
/-- One step, with the sum of its constant and its schedule word. -/
def ShaRun.step (r : ShaRun) (kw : Nat) : ShaRun :=
  let u (k : Nat) : Nat := r.up.getD k 0
  let d (k : Nat) : Nat := r.down.getD k 0
  let chosen := d 2 ^^^ (d 0 &&& (d 1 ^^^ d 2))
  let most := (u 0 &&& (u 1 ||| u 2)) ||| (u 1 &&& u 2)
  let x := d 3 + turns (d 0) [6, 11, 25] + chosen + kw
  { up := (x + turns (u 0) [2, 13, 22] + most) % 2 ^ 32 :: r.up.take 3, down := (u 3 + x) % 2 ^ 32 :: r.down.take 3 }
/-- One 64-byte block. -/
def shaBlock (h : List Nat) (blk : List Byte) : List Nat :=
  let w := (shaSched 48 ((List.range 16).reverse.map (fun i => beNat (slice blk (4 * i) 4)))).reverse
  let r := (List.zipWith (· + ·) shaK w).foldl ShaRun.step { up := h.take 4, down := h.drop 4 }
  List.zipWith add32 h (r.up ++ r.down)
/-- `n` blocks. -/
def shaBlocks : Nat → List Nat → List Byte → List Nat
  | 0, h, _ => h
  | n + 1, h, m => shaBlocks n (shaBlock h (m.take 64)) (m.drop 64)
/-- SHA-256. -/
def sha256 (m : List Byte) : List Byte :=
  let z := (119 - m.length % 64) % 64
  let p := m ++ [0x80] ++ zeros z ++ beBytes 8 (8 * m.length)
  (shaBlocks (p.length / 64) shaH0 p).flatMap (beBytes 4)
/-- HMAC-SHA-256. -/
def hmac (key msg : List Byte) : List Byte :=
  let k := padTo 64 (if key.length > 64 then sha256 key else key)
  sha256 (k.map (· ^^^ 0x5C) ++ sha256 (k.map (· ^^^ 0x36) ++ msg))

/-- Multiplication by x in GF(2^8). -/
def xtime (a : Nat) : Nat := if a ≥ 128 then (2 * a) ^^^ 0x11B else 2 * a
/-- Substitution of a byte. -/
def aesSub (x : Nat) : Nat := aesSbox.getD x 0
/-- The key schedule of AES-256: words as byte lists, the newest first; `i` words stand, `n` more follow. -/
def aesExpand : Nat → Nat → Nat → List (List Nat) → List (List Nat)
  | 0, _, _, w => w
  | n + 1, i, rc, w =>
    let t := w.getD 0 []
    let t1 :=
      if i % 8 = 0 then
        match t with
        | [a, b, c, d] => [aesSub b ^^^ rc, aesSub c, aesSub d, aesSub a]
        | t => t
      else if i % 8 = 4 then t.map aesSub else t
    aesExpand n (i + 1) (if i % 8 = 0 then xtime rc else rc) (List.zipWith (· ^^^ ·) (w.getD 7 []) t1 :: w)
/-- The fifteen round keys of AES-256, sixteen bytes each. -/
def aesKeys (key : List Byte) : List (List Nat) :=
  let k := (padTo 32 key).map (·.toNat)
  let w0 := (List.range 8).map (fun i => (k.drop (4 * i)).take 4)
  let w := (aesExpand 52 8 1 w0.reverse).reverse
  (List.range 15).map (fun r => ((w.drop (4 * r)).take 4).flatten)
/-- ShiftRows on sixteen bytes in column order. -/
def aesShift (s : List Nat) : List Nat :=
  (List.range 16).map (fun i => s.getD ((i + 4 * (i % 4)) % 16) 0)
/-- MixColumns of one column. -/
def aesMixCol (s : List Nat) (c : Nat) : List Nat :=
  let a := s.getD (4 * c) 0
  let b := s.getD (4 * c + 1) 0
  let d := s.getD (4 * c + 2) 0
  let e := s.getD (4 * c + 3) 0
  let t := a ^^^ b ^^^ d ^^^ e
  [a ^^^ t ^^^ xtime (a ^^^ b), b ^^^ t ^^^ xtime (b ^^^ d), d ^^^ t ^^^ xtime (d ^^^ e), e ^^^ t ^^^ xtime (e ^^^ a)]
/-- The rounds after the first key: every round but the last mixes columns. -/
def aesRounds : List (List Nat) → List Nat → List Nat
  | [], s => s
  | [k], s => List.zipWith (· ^^^ ·) (aesShift (s.map aesSub)) k
  | k :: ks, s =>
    let t := aesShift (s.map aesSub)
    aesRounds ks (List.zipWith (· ^^^ ·) ((List.range 4).flatMap (aesMixCol t)) k)
/-- One block encrypted under expanded keys, as a big-endian number. -/
def aesBlock (keys : List (List Nat)) (x : Nat) : Nat :=
  let s := (beBytes 16 x).map (·.toNat)
  match keys with
  | [] => x
  | k :: ks => (aesRounds ks (List.zipWith (· ^^^ ·) s k)).foldl (fun a b => a * 256 + b) 0

/-- The product in GF(2^128) of GCM, bit-reflected numbers: `n` bits of `x` remain, from the most significant. -/
def gcmMulGo : Nat → Nat → Nat → Nat → Nat
  | 0, _, _, z => z
  | n + 1, x, v, z =>
    gcmMulGo n x (if v % 2 = 1 then (v >>> 1) ^^^ (0xE1 <<< 120) else v >>> 1) (if bit x n then z ^^^ v else z)
/-- The product of two blocks. -/
def gcmMul (x y : Nat) : Nat := gcmMulGo 128 x y 0
/-- GHASH over `n` blocks of 16 bytes. -/
def ghash (h : Nat) : Nat → List Byte → Nat → Nat
  | 0, _, y => y
  | n + 1, m, y => ghash h n (m.drop 16) (gcmMul (y ^^^ beNat (padTo 16 (m.take 16))) h)
/-- Counter mode over the 16-byte blocks of the text, from counter `c`. -/
def gcmCtr (keys : List (List Nat)) (iv : Nat) : Nat → Nat → List Byte → List Byte
  | 0, _, _ => []
  | n + 1, c, m =>
    let ks := beBytes 16 (aesBlock keys (iv <<< 32 ||| c))
    List.zipWith (· ^^^ ·) (m.take 16) ks ++ gcmCtr keys iv n (c + 1) (m.drop 16)
/-- The GCM tag of a ciphertext and its additional data, 96-bit IV. -/
def gcmTag (key iv aad ct : List Byte) : List Byte :=
  let keys := aesKeys key
  let h := aesBlock keys 0
  let y1 := ghash h (ceilDiv aad.length 16) aad 0
  let y2 := ghash h (ceilDiv ct.length 16) ct y1
  let y3 := gcmMul (y2 ^^^ ((8 * aad.length) <<< 64 ||| 8 * ct.length)) h
  beBytes 16 (y3 ^^^ aesBlock keys (beNat iv <<< 32 ||| 1))
/-- AES-256-GCM: ciphertext followed by its tag. -/
def gcmSeal (key iv aad pt : List Byte) : List Byte :=
  let ct := gcmCtr (aesKeys key) (beNat iv) (ceilDiv pt.length 16) 2 pt
  ct ++ gcmTag key iv aad ct
/-- AES-256-GCM: the plaintext of a ciphertext with its tag last, none where the tag fails. -/
def gcmOpen (key iv aad blob : List Byte) : Option (List Byte) :=
  let n := blob.length - 16
  let ct := blob.take n
  if blob.length < 16 then none
  else if gcmTag key iv aad ct = blob.drop n then
    some (gcmCtr (aesKeys key) (beNat iv) (ceilDiv n 16) 2 ct)
  else none

/-- The prime, the order, the coefficient and the base point of P-256. -/
def ecP : Nat := 0xffffffff00000001000000000000000000000000ffffffffffffffffffffffff
def ecN : Nat := 0xffffffff00000000ffffffffffffffffbce6faada7179e84f3b9cac2fc632551
def ecB : Nat := 0x5ac635d8aa3a93e7b3ebbd55769886bc651d06b0cc53b0f63bce3c3e27d2604b
def ecGx : Nat := 0x6b17d1f2e12c4247f8bce6e563a440f277037d812deb33a0f4a13945d898c296
def ecGy : Nat := 0x4fe342e2fe1a7f9b8ee7eb4a7c0f9e162bce33576b315ececbb6406837bf51f5
/-- `b ^ e` modulo `m` by squaring, `n` bits of `e`. -/
def powMod (m b : Nat) : Nat → Nat → Nat
  | 0, _ => 1 % m
  | n + 1, e =>
    let h := powMod m b n (e / 2)
    let q := h * h % m
    if e % 2 = 1 then q * b % m else q
/-- The inverse modulo a prime. -/
def invMod (m a : Nat) : Nat := powMod m a 256 (m - 2)
/-- Difference modulo `m`. -/
def subMod (m a b : Nat) : Nat := (a % m + m - b % m) % m
/-- A curve point, `none` the point at infinity. -/
abbrev EcPt := Option (Nat × Nat)
/-- The sum of two curve points. -/
def ecAdd : EcPt → EcPt → EcPt
  | none, q => q
  | p, none => p
  | some (x1, y1), some (x2, y2) =>
    if x1 = x2 ∧ (y1 + y2) % ecP = 0 then none
    else
      let l := if x1 = x2 then (3 * x1 * x1 + (ecP - 3)) * invMod ecP (2 * y1 % ecP) % ecP
        else subMod ecP y2 y1 * invMod ecP (subMod ecP x2 x1) % ecP
      let x3 := subMod ecP (l * l) (x1 + x2)
      some (x3, subMod ecP (l * subMod ecP x1 x3) y1)
/-- A multiple of a point, `n` bits of `k`. -/
def ecMul (p : EcPt) : Nat → Nat → EcPt
  | 0, _ => none
  | n + 1, k =>
    let h := ecMul p n (k / 2)
    let d := ecAdd h h
    if k % 2 = 1 then ecAdd d p else d
/-- ECDSA P-256 over a SHA-256 digest: public key X ‖ Y, signature r ‖ s, big-endian. -/
def ecdsaOk (pub digest sig : List Byte) : Bool :=
  let x := beNat (slice pub 0 32)
  let y := beNat (slice pub 32 32)
  let r := beNat (slice sig 0 32)
  let t := beNat (slice sig 32 32)
  if x < ecP ∧ y < ecP ∧ (y * y) % ecP = (x * x * x + (ecP - 3) * x + ecB) % ecP ∧ 0 < r ∧ r < ecN ∧ 0 < t ∧ t < ecN then
    let w := invMod ecN t
    match ecAdd (ecMul (some (ecGx, ecGy)) 256 (beNat digest * w % ecN)) (ecMul (some (x, y)) 256 (r * w % ecN)) with
    | some (px, _) => px % ecN == r
    | none => false
  else false

end Sys2Proof.Machine
end

