-- ==== Sys2Proof/Config.lean ====
section
/-! DEFINITION. What an implementation fixes and what the manual leaves open: constants without a body, so that
nothing can be proved about their values (FREE VALUES), and the fixed sizes of the part. -/

namespace Sys2Proof.Config

/-- FREE VALUE number `n` of a run: the model draws a fresh one wherever the manual states that a value results
but not which (State.draws counts them). UNVERIFIED: nothing constrains it. -/
opaque freeNat : Nat → Nat
/-- FREE VALUE of a byte by address and generation: ciphertext that a read returns (R76), contents the manual does
not state. -/
opaque freeByte : Nat → Nat → Nat

/-- The firmware version that GET_INFO reports (major, minor, patch), of the installed firmware. -/
opaque fwVersion : Nat × Nat × Nat
/-- The vendor identifier of the PCIe configuration header (R55). -/
opaque vendorId : Nat
/-- The subsystem vendor and subsystem IDs of that header (Table LANE-6). -/
opaque subsystemIds : Nat × Nat
/-- The endpoint ID and the SMBus address of the manager, which management replies are addressed to (R55). -/
opaque managerEid : Nat
opaque managerAddr : Nat

/-- The firmware in the NVM's two image slots, the MAGIC of a record copy, and the KIND and the sector pair of each record whose the
manual does not give (R121, R122). -/
opaque firmwareByte : Nat → Nat
opaque recordMagic : Nat
opaque recordKind : Nat → Nat
opaque recordSector : Nat → Nat
/-- The offsets of the two image slots in flash that the board's boot pointer record gives (R179). -/
opaque bootSlot : Nat → Nat

/-- FREE VALUE: where in the n-th millisecond cap hold stops the clocks (R564). -/
opaque holdFrom : Nat → Nat

/-- FREE VALUE: whether TAMPER reads low at an instant of the kettle's elapsed time, so that an open loop has closed (Table DOOR-4). -/
opaque tamperClosed : Nat → Bool

/-- The bank and the row of an external DRAM channel that a channel address falls in, which the manual does not give (R439). -/
opaque xdramBank : Nat → Nat
opaque xdramRow : Nat → Nat
/-- FREE VALUE: whether probabilistic neighbour refresh with the exponent K samples the n-th activate (R438). -/
opaque pnrSample : Nat → Nat → Bool

/-- FREE VALUE: the SECDED check byte of a 64-bit queue block word. The manual does not give the code (R240). -/
opaque secded : Nat → Nat
/-- FREE VALUES of an instant, by the elapsed time and the count of free values: what the board does at a user I/O's pin (0 drives it low, 1
high, else it does not drive it), a signal of the fabric that the model gives no source, and a loop of logic (chapter 8). -/
opaque pin : Nat → Nat → Nat → Nat
opaque fabricSignal : Nat → Nat → Nat → Nat
opaque loopSignal : Nat → Nat → Nat → Nat

/-- The root that the kettle reconstructs from its unclonable structure, and the vault seed of a part that has never been wiped, 256 bits
each (R130). -/
opaque vaultRoot : Nat
opaque vaultSeed : Nat

/-- Matrix tiles, and caddy micro-channels (R14). -/
def tiles : Nat := 192
/-- Signal engines (Table WHOLE-7). -/
def engines : Nat := 96
/-- Queue blocks (Table WHOLE-7). -/
def queueBlocks : Nat := 2304
/-- Sync objects (R377). -/
def syncObjects : Nat := 131072
/-- Handle queues (R363). -/
def handleQueues : Nat := 1024

end Sys2Proof.Config
end

