-- ==== Sys2Proof/Machine/Tab.lean ====
section
/-! DEFINITION. Sparse tables: a list of (key, value) pairs with strictly rising keys. What an unlisted key
reads as is the reader's default, and a value equal to it is never listed, so equal tables are equal lists. -/

namespace Sys2Proof.Machine

/-- A sparse table by Nat key. -/
abbrev Tab (α : Type) := List (Nat × α)

/-- The listed value of key `k`, if any. -/
def tfind {α : Type} : Tab α → Nat → Option α
  | [], _ => none
  | (j, v) :: t, k => if j = k then some v else tfind t k
/-- The value of key `k`, `d` where it is unlisted. -/
def tget {α : Type} (d : α) (t : Tab α) (k : Nat) : α := (tfind t k).getD d
/-- `t` without key `k`. -/
def terase {α : Type} (t : Tab α) (k : Nat) : Tab α := t.filter (fun e => e.1 != k)
/-- `t` with key `k` listed as `v`. -/
def tinsert {α : Type} : Tab α → Nat → α → Tab α
  | [], k, v => [(k, v)]
  | (j, w) :: t, k, v =>
    if j = k then (k, v) :: t else if k < j then (k, v) :: (j, w) :: t else (j, w) :: tinsert t k v
/-- `t` with key `k` holding `v`, in the canonical form for the default `d`. -/
def tput {α : Type} [DecidableEq α] (d : α) (t : Tab α) (k : Nat) (v : α) : Tab α :=
  if v = d then terase t k else tinsert t k v
/-- `t` with every key of [lo, hi) back at its default. -/
def tclear {α : Type} (t : Tab α) (lo hi : Nat) : Tab α := t.filter (fun e => e.1 < lo || hi ≤ e.1)
/-- `n` consecutive keys read from `k`. -/
def tgetN {α : Type} (d : α) (t : Tab α) (k : Nat) : Nat → List α
  | 0 => []
  | n + 1 => tget d t k :: tgetN d t (k + 1) n
/-- Consecutive keys written from `k`. -/
def tputN {α : Type} [DecidableEq α] (d : α) (t : Tab α) (k : Nat) : List α → Tab α
  | [] => t
  | v :: vs => tputN d (tput d t k v) (k + 1) vs

/-- Consecutive keys listed from `k`. -/
def tinsertN {α : Type} (t : Tab α) (k : Nat) : List α → Tab α
  | [] => t
  | v :: vs => tinsertN (tinsert t k v) (k + 1) vs
/-- Every key of `t` is at least `lo`, strictly rising. -/
def tRising {α : Type} : Nat → Tab α → Bool
  | _, [] => true
  | lo, (j, _) :: t => decide (lo ≤ j) && tRising (j + 1) t

/-- Every key of `t` is above `k`, strictly rising, and no value equals the default. -/
def tAbove {α : Type} [DecidableEq α] (d : α) : Nat → Tab α → Bool
  | _, [] => true
  | lo, (j, v) :: t => decide (lo ≤ j) && decide (v ≠ d) && tAbove d (j + 1) t
/-- The canonical form of a table with default `d`. -/
def tWf {α : Type} [DecidableEq α] (d : α) (t : Tab α) : Bool := tAbove d 0 t

end Sys2Proof.Machine
end

