-- ==== Sys2Proof/Machine/RegTable.lean ====
section
/-! DEFINITION. The M7's registers: every field of every register table of the manual, one home each, with its
CSR address (R9), place, width and reset value, and the layout of each CSR word with its access types (R11). -/

namespace Sys2Proof.Machine

/-- Table SCOPE-4: the access types. -/
inductive Acc where
  | ro | rw | wo | w1c | rc
deriving DecidableEq, Repr

/-- A register field: the CSR address of the word that holds its bit 0, its lowest bit, its width and its reset value. -/
structure Fld where
  addr : Nat
  lsb : Nat
  width : Nat
  reset : Nat
deriving DecidableEq, Repr

/-- A run of bits of a CSR word: its place, its access type, the field it shows and the field's bit it starts at. -/
structure Bitf where
  lsb : Nat
  width : Nat
  acc : Acc
  home : Fld
  off : Nat
deriving DecidableEq, Repr

namespace Reg

/-- SYS_ID.PART [31:16], RO, 0x4D37 (R2). -/
def SYS_ID_PART : Fld := ⟨0x0, 16, 16, 0x4D37⟩
/-- SYS_ID.STEP [7:0], RO, 0xB1 on stepping B1 (R2). -/
def SYS_ID_STEP : Fld := ⟨0x0, 0, 8, 0xB1⟩
/-- MBX_CTRL.IRQ_EN [2], RW, reset 0 (Table CMD-5, R50). -/
def MBX_CTRL_IRQ_EN : Fld := ⟨0x100, 2, 1, 0⟩
/-- MBX_CTRL.RESET [1], WO, reset 0 (Table CMD-5, R50). -/
def MBX_CTRL_RESET : Fld := ⟨0x100, 1, 1, 0⟩
/-- MBX_CTRL.ENABLE [0], RW, reset 0 (Table CMD-5, R50). -/
def MBX_CTRL_ENABLE : Fld := ⟨0x100, 0, 1, 0⟩
/-- MBX_STATUS.HELD [1], RO, reset 0 (Table CMD-5, R50). -/
def MBX_STATUS_HELD : Fld := ⟨0x104, 1, 1, 0⟩
/-- MBX_STATUS.READY [0], RO, reset 0 (Table CMD-5, R50). -/
def MBX_STATUS_READY : Fld := ⟨0x104, 0, 1, 0⟩
/-- MBX_REQ_TAIL.TAIL [15:0], RW, reset 0x0000 (Table CMD-5, R50). -/
def MBX_REQ_TAIL_TAIL : Fld := ⟨0x108, 0, 16, 0⟩
/-- MBX_REQ_HEAD.HEAD [15:0], RO, reset 0x0000 (Table CMD-5, R50). -/
def MBX_REQ_HEAD_HEAD : Fld := ⟨0x10c, 0, 16, 0⟩
/-- MBX_RPL_TAIL.TAIL [15:0], RO, reset 0x0000 (Table CMD-5, R50). -/
def MBX_RPL_TAIL_TAIL : Fld := ⟨0x110, 0, 16, 0⟩
/-- MBX_RPL_HEAD.HEAD [15:0], RW, reset 0x0000 (Table CMD-5, R50). -/
def MBX_RPL_HEAD_HEAD : Fld := ⟨0x114, 0, 16, 0⟩
/-- MBX_IRQ.RPL [0], W1C, reset 0 (Table CMD-5, R50). -/
def MBX_IRQ_RPL : Fld := ⟨0x118, 0, 1, 0⟩
/-- CMD_DROPS.COUNT [31:0], RC, reset 0x0000_0000 (Table CMD-5, R50). -/
def CMD_DROPS_COUNT : Fld := ⟨0x11c, 0, 32, 0⟩
/-- PWR_STATE.RESTORE [15:12], RO, reset 0x0 (Table KET-6, R84). -/
def PWR_STATE_RESTORE : Fld := ⟨0x10000, 12, 4, 0⟩
/-- PWR_STATE.MOVING [8], RO, reset 0 (Table KET-6, R84). -/
def PWR_STATE_MOVING : Fld := ⟨0x10000, 8, 1, 0⟩
/-- PWR_STATE.TGT [6:4], RO, reset 0 (Table KET-6, R84). -/
def PWR_STATE_TGT : Fld := ⟨0x10000, 4, 3, 0⟩
/-- PWR_STATE.CUR [2:0], RO, reset 0 (Table KET-6, R84). -/
def PWR_STATE_CUR : Fld := ⟨0x10000, 0, 3, 0⟩
/-- PWR_CTRL.IDLE_DELAY [31:16], RW, reset 0x03E8 (Table KET-6, R84). -/
def PWR_CTRL_IDLE_DELAY : Fld := ⟨0x10004, 16, 16, 1000⟩
/-- PWR_CTRL.AUTO_IDLE [9], RW, reset 0 (Table KET-6, R84). -/
def PWR_CTRL_AUTO_IDLE : Fld := ⟨0x10004, 9, 1, 0⟩
/-- PWR_CTRL.WAKE [8], WO, reset 0 (Table KET-6, R84). -/
def PWR_CTRL_WAKE : Fld := ⟨0x10004, 8, 1, 0⟩
/-- PWR_CTRL.IDLE_UCLK [7:0], RW, reset 0x00 (Table KET-6, R84). -/
def PWR_CTRL_IDLE_UCLK : Fld := ⟨0x10004, 0, 8, 0⟩
/-- PWR_WAKE_EN.EN [16:0], RW, reset 0x0_0008 (Table KET-6, R84). -/
def PWR_WAKE_EN_EN : Fld := ⟨0x10008, 0, 17, 8⟩
/-- PWR_WAKE_SRC.SRC [16:0], W1C, reset 0 (Table KET-6, R84). -/
def PWR_WAKE_SRC_SRC : Fld := ⟨0x1000c, 0, 17, 0⟩
/-- PWR_WAKE_FIRST.FIRST [4:0], RO, reset 0x1F (Table KET-6, R84). -/
def PWR_WAKE_FIRST_FIRST : Fld := ⟨0x10010, 0, 5, 31⟩
/-- PWR_CLK_STATUS.FAB_LOCK [7], RO, reset 0 (Table KET-6, R84). -/
def PWR_CLK_STATUS_FAB_LOCK : Fld := ⟨0x10014, 7, 1, 0⟩
/-- PWR_CLK_STATUS.CCLK_LOCK [6], RO, reset 0 (Table KET-6, R84). -/
def PWR_CLK_STATUS_CCLK_LOCK : Fld := ⟨0x10014, 6, 1, 0⟩
/-- PWR_CLK_STATUS.NCLK_LOCK [5], RO, reset 0 (Table KET-6, R84). -/
def PWR_CLK_STATUS_NCLK_LOCK : Fld := ⟨0x10014, 5, 1, 0⟩
/-- PWR_CLK_STATUS.REF_OK [4], RO, reset 0 (Table KET-6, R84). -/
def PWR_CLK_STATUS_REF_OK : Fld := ⟨0x10014, 4, 1, 0⟩
/-- PWR_CLK_STATUS.REF_REQ [3], RO, reset 0 (Table KET-6, R84). -/
def PWR_CLK_STATUS_REF_REQ : Fld := ⟨0x10014, 3, 1, 0⟩
/-- PWR_CLK_STATUS.RC_ON [2], RO, reset 1 (Table KET-6, R84). -/
def PWR_CLK_STATUS_RC_ON : Fld := ⟨0x10014, 2, 1, 1⟩
/-- PWR_CLK_STATUS.XTAL_OK [1], RO, reset 0 (Table KET-6, R84). -/
def PWR_CLK_STATUS_XTAL_OK : Fld := ⟨0x10014, 1, 1, 0⟩
/-- PWR_DOZE_CFG.DOZE_LIMIT [31:16], RW, reset 0x0000 (Table KET-6, R84). -/
def PWR_DOZE_CFG_DOZE_LIMIT : Fld := ⟨0x10018, 16, 16, 0⟩
/-- PWR_DOZE_CFG.CAM_XCH [7:6], RW, reset 0 (Table KET-6, R84). -/
def PWR_DOZE_CFG_CAM_XCH : Fld := ⟨0x10018, 6, 2, 0⟩
/-- PWR_DOZE_CFG.CAM [5:4], RW, reset 0 (Table KET-6, R84). -/
def PWR_DOZE_CFG_CAM : Fld := ⟨0x10018, 4, 2, 0⟩
/-- PWR_DOZE_CFG.CAM_EN [3], RW, reset 0 (Table KET-6, R84). -/
def PWR_DOZE_CFG_CAM_EN : Fld := ⟨0x10018, 3, 1, 0⟩
/-- PWR_DOZE_CFG.KEEP_TILE [2], RW, reset 1 (Table KET-6, R84). -/
def PWR_DOZE_CFG_KEEP_TILE : Fld := ⟨0x10018, 2, 1, 1⟩
/-- PWR_DOZE_CFG.KEEP_QB [1], RW, reset 1 (Table KET-6, R84). -/
def PWR_DOZE_CFG_KEEP_QB : Fld := ⟨0x10018, 1, 1, 1⟩
/-- PWR_DOZE_CFG.ENABLE [0], RW, reset 0 (Table KET-6, R84). -/
def PWR_DOZE_CFG_ENABLE : Fld := ⟨0x10018, 0, 1, 0⟩
/-- PWR_SLEEP_CFG.REFCLK_TO [7:0], RW, reset 0x0A (Table KET-6, R84). -/
def PWR_SLEEP_CFG_REFCLK_TO : Fld := ⟨0x1001c, 0, 8, 10⟩
/-- PWR_WAKE_POL.EDGE [7:4], RW, reset 0 (Table KET-6, R84). -/
def PWR_WAKE_POL_EDGE : Fld := ⟨0x10020, 4, 4, 0⟩
/-- PWR_WAKE_POL.HIGH [3:0], RW, reset 0 (Table KET-6, R84). -/
def PWR_WAKE_POL_HIGH : Fld := ⟨0x10020, 0, 4, 0⟩
/-- PWR_EXIT_TIME.US [31:0], RO, reset 0 (Table KET-6, R84). -/
def PWR_EXIT_TIME_US : Fld := ⟨0x10024, 0, 32, 0⟩
/-- HMI_EVT.TAMPER [15], W1C, reset 0 (Table DOOR-4, R119). -/
def HMI_EVT_TAMPER : Fld := ⟨0xb0000, 15, 1, 0⟩
/-- HMI_EVT.PLUG [14], W1C, reset 0 (Table DOOR-4, R119). -/
def HMI_EVT_PLUG : Fld := ⟨0xb0000, 14, 1, 0⟩
/-- HMI_EVT.KEY [13], W1C, reset 0 (Table DOOR-4, R119). -/
def HMI_EVT_KEY : Fld := ⟨0xb0000, 13, 1, 0⟩
/-- HMI_EVT.TOUCH [12], W1C, reset 0 (Table DOOR-4, R119). -/
def HMI_EVT_TOUCH : Fld := ⟨0xb0000, 12, 1, 0⟩
/-- HMI_EVT.RAIL_UV [11:8], W1C, reset 0 (Table DOOR-4, R119). -/
def HMI_EVT_RAIL_UV : Fld := ⟨0xb0000, 8, 4, 0⟩
/-- HMI_EVT.LAMP [7:0], W1C, reset 0 (Table DOOR-4, R119). -/
def HMI_EVT_LAMP : Fld := ⟨0xb0000, 0, 8, 0⟩
/-- HMI_IRQ_EN.EN [15:0], RW, reset 0 (Table DOOR-4, R119). -/
def HMI_IRQ_EN_EN : Fld := ⟨0xb0004, 0, 16, 0⟩
/-- RAIL_STAT.V3 [31:24], RO, reset 0 (Table DOOR-4, R119). -/
def RAIL_STAT_V3 : Fld := ⟨0xb0008, 24, 8, 0⟩
/-- RAIL_STAT.V2 [23:16], RO, reset 0 (Table DOOR-4, R119). -/
def RAIL_STAT_V2 : Fld := ⟨0xb0008, 16, 8, 0⟩
/-- RAIL_STAT.V1 [15:8], RO, reset 0 (Table DOOR-4, R119). -/
def RAIL_STAT_V1 : Fld := ⟨0xb0008, 8, 8, 0⟩
/-- RAIL_STAT.V0 [7:0], RO, reset 0 (Table DOOR-4, R119). -/
def RAIL_STAT_V0 : Fld := ⟨0xb0008, 0, 8, 0⟩
/-- LMP_CTRL.SOFT [23:18], RW, reset 0x0A (Table DOOR-4, R119). -/
def LMP_CTRL_SOFT (n : Nat) : Fld := ⟨0xb0100 + n * 0x10, 18, 6, 10⟩
/-- LMP_CTRL.INRUSH [17:15], RW, reset 0b100 (Table DOOR-4, R119). -/
def LMP_CTRL_INRUSH (n : Nat) : Fld := ⟨0xb0100 + n * 0x10, 15, 3, 4⟩
/-- LMP_CTRL.SHORT_V [14:12], RW, reset 0b010 (Table DOOR-4, R119). -/
def LMP_CTRL_SHORT_V (n : Nat) : Fld := ⟨0xb0100 + n * 0x10, 12, 3, 2⟩
/-- LMP_CTRL.GATE_DFLT [3], RW, reset 0 (Table DOOR-4, R119). -/
def LMP_CTRL_GATE_DFLT (n : Nat) : Fld := ⟨0xb0100 + n * 0x10, 3, 1, 0⟩
/-- LMP_CTRL.SRC [2], RW, reset 0 (Table DOOR-4, R119). -/
def LMP_CTRL_SRC (n : Nat) : Fld := ⟨0xb0100 + n * 0x10, 2, 1, 0⟩
/-- LMP_CTRL.RANGE [1], RW, reset 0 (Table DOOR-4, R119). -/
def LMP_CTRL_RANGE (n : Nat) : Fld := ⟨0xb0100 + n * 0x10, 1, 1, 0⟩
/-- LMP_CTRL.EN [0], RW, reset 0 (Table DOOR-4, R119). -/
def LMP_CTRL_EN (n : Nat) : Fld := ⟨0xb0100 + n * 0x10, 0, 1, 0⟩
/-- LMP_SET.SET [8:0], RW, reset 0x000 (Table DOOR-4, R119). -/
def LMP_SET_SET (n : Nat) : Fld := ⟨0xb0104 + n * 0x10, 0, 9, 0⟩
/-- LMP_STAT.RETRIES [11:10], RO, reset 0 (Table DOOR-4, R119). -/
def LMP_STAT_RETRIES (n : Nat) : Fld := ⟨0xb0108 + n * 0x10, 10, 2, 0⟩
/-- LMP_STAT.HOLD [9], RO, reset 0 (Table DOOR-4, R119). -/
def LMP_STAT_HOLD (n : Nat) : Fld := ⟨0xb0108 + n * 0x10, 9, 1, 0⟩
/-- LMP_STAT.PHASE [7:5], RO, reset 0 (Table DOOR-4, R119). -/
def LMP_STAT_PHASE (n : Nat) : Fld := ⟨0xb0108 + n * 0x10, 5, 3, 0⟩
/-- LMP_STAT.OPEN [2], W1C, reset 0 (Table DOOR-4, R119). -/
def LMP_STAT_OPEN (n : Nat) : Fld := ⟨0xb0108 + n * 0x10, 2, 1, 0⟩
/-- LMP_STAT.SHORT [1], W1C, reset 0 (Table DOOR-4, R119). -/
def LMP_STAT_SHORT (n : Nat) : Fld := ⟨0xb0108 + n * 0x10, 1, 1, 0⟩
/-- LMP_STAT.ON [0], RO, reset 0 (Table DOOR-4, R119). -/
def LMP_STAT_ON (n : Nat) : Fld := ⟨0xb0108 + n * 0x10, 0, 1, 0⟩
/-- LMP_MEAS.I [24:16], RO, reset 0 (Table DOOR-4, R119). -/
def LMP_MEAS_I (n : Nat) : Fld := ⟨0xb010c + n * 0x10, 16, 9, 0⟩
/-- LMP_MEAS.V_OUT [8:0], RO, reset 0 (Table DOOR-4, R119). -/
def LMP_MEAS_V_OUT (n : Nat) : Fld := ⟨0xb010c + n * 0x10, 0, 9, 0⟩
/-- TCH_CFG.RECAL [17:12], RW, reset 0x14 (Table DOOR-4, R119). -/
def TCH_CFG_RECAL : Fld := ⟨0xb0200, 12, 6, 20⟩
/-- TCH_CFG.RATE [2:0], RW, reset 0b010 (Table DOOR-4, R119). -/
def TCH_CFG_RATE : Fld := ⟨0xb0200, 0, 3, 2⟩
/-- TCH_TOUCHED.T [11:0], RO, reset 0 (Table DOOR-4, R119). -/
def TCH_TOUCHED_T : Fld := ⟨0xb0204, 0, 12, 0⟩
/-- TCH_CFG.THRESH [31:20], RW, reset 0x040 (Table DOOR-4, R119). -/
def TCH_CFG_THRESH (n : Nat) : Fld := ⟨0xb0210 + n * 0x10, 20, 12, 64⟩
/-- TCH_CFG.HYST [19:12], RW, reset 0x10 (Table DOOR-4, R119). -/
def TCH_CFG_HYST (n : Nat) : Fld := ⟨0xb0210 + n * 0x10, 12, 8, 16⟩
/-- TCH_CFG.DEB [7:6], RW, reset 0 (Table DOOR-4, R119). -/
def TCH_CFG_DEB (n : Nat) : Fld := ⟨0xb0210 + n * 0x10, 6, 2, 0⟩
/-- TCH_CFG.PROX [5], RW, reset 0 (Table DOOR-4, R119). -/
def TCH_CFG_PROX (n : Nat) : Fld := ⟨0xb0210 + n * 0x10, 5, 1, 0⟩
/-- TCH_CFG.MODE [4:3], RW, reset 0 (Table DOOR-4, R119). -/
def TCH_CFG_MODE (n : Nat) : Fld := ⟨0xb0210 + n * 0x10, 3, 2, 0⟩
/-- TCH_CFG.EN [0], RW, reset 0 (Table DOOR-4, R119). -/
def TCH_CFG_EN (n : Nat) : Fld := ⟨0xb0210 + n * 0x10, 0, 1, 0⟩
/-- TCH_DATA.BASE [31:16], RO, reset 0 (Table DOOR-4, R119). -/
def TCH_DATA_BASE (n : Nat) : Fld := ⟨0xb0214 + n * 0x10, 16, 16, 0⟩
/-- TCH_DATA.COUNT [15:0], RO, reset 0 (Table DOOR-4, R119). -/
def TCH_DATA_COUNT (n : Nat) : Fld := ⟨0xb0214 + n * 0x10, 0, 16, 0⟩
/-- KEY_CFG.DEB [8:4], RW, reset 0x0A (Table DOOR-4, R119). -/
def KEY_CFG_DEB : Fld := ⟨0xb0300, 4, 5, 10⟩
/-- KEY_CFG.EN [0], RW, reset 0 (Table DOOR-4, R119). -/
def KEY_CFG_EN : Fld := ⟨0xb0300, 0, 1, 0⟩
/-- KEY_STATE.GHOST [16], RO, reset 0 (Table DOOR-4, R119). -/
def KEY_STATE_GHOST : Fld := ⟨0xb0304, 16, 1, 0⟩
/-- KEY_STATE.DOWN [15:0], RO, reset 0 (Table DOOR-4, R119). -/
def KEY_STATE_DOWN : Fld := ⟨0xb0304, 0, 16, 0⟩
/-- KEY_FIFO.ENTRY [31:0], RC, reset 0 (Table DOOR-4, R119). -/
def KEY_FIFO_ENTRY : Fld := ⟨0xb0308, 0, 32, 0⟩
/-- KEY_FIFO_STAT.OVF [8], W1C, reset 0 (Table DOOR-4, R119). -/
def KEY_FIFO_STAT_OVF : Fld := ⟨0xb030c, 8, 1, 0⟩
/-- KEY_FIFO_STAT.LEVEL [4:0], RO, reset 0 (Table DOOR-4, R119). -/
def KEY_FIFO_STAT_LEVEL : Fld := ⟨0xb030c, 0, 5, 0⟩
/-- PLG_CFG.DEB [7:0], RW, reset 0x32 (Table DOOR-4, R119). -/
def PLG_CFG_DEB : Fld := ⟨0xb0310, 0, 8, 50⟩
/-- PLG_STAT.CHANGED [9:8], W1C, reset 0 (Table DOOR-4, R119). -/
def PLG_STAT_CHANGED : Fld := ⟨0xb0314, 8, 2, 0⟩
/-- PLG_STAT.PRESENT [1:0], RO, reset 0 (Table DOOR-4, R119). -/
def PLG_STAT_PRESENT : Fld := ⟨0xb0314, 0, 2, 0⟩
/-- TMP_STAT.COUNT [31:16], RO, reset From NVM (Table DOOR-4, R119). -/
def TMP_STAT_COUNT : Fld := ⟨0xb0320, 16, 16, 0⟩
/-- TMP_STAT.BOOT [2], RO, reset 0 (Table DOOR-4, R119). -/
def TMP_STAT_BOOT : Fld := ⟨0xb0320, 2, 1, 0⟩
/-- TMP_STAT.LATCH [1], RO, reset 0 (Table DOOR-4, R119). -/
def TMP_STAT_LATCH : Fld := ⟨0xb0320, 1, 1, 0⟩
/-- TMP_STAT.INPUT [0], RO, reset 0 (Table DOOR-4, R119). -/
def TMP_STAT_INPUT : Fld := ⟨0xb0320, 0, 1, 0⟩
/-- AUD_CTRL.LEVEL [1], RO, reset 0 (Table DOOR-4, R119). -/
def AUD_CTRL_LEVEL : Fld := ⟨0xb0330, 1, 1, 0⟩
/-- AUD_CTRL.UNMUTE [0], RW, reset 0 (Table DOOR-4, R119). -/
def AUD_CTRL_UNMUTE : Fld := ⟨0xb0330, 0, 1, 0⟩
/-- VLT_STATUS.LIVE [19:8], RO, reset 0 (Table VLT-8, R152). -/
def VLT_STATUS_LIVE : Fld := ⟨0xa0000, 8, 12, 0⟩
/-- VLT_STATUS.WIPED [4], RO, reset 0 (Table VLT-8, R152). -/
def VLT_STATUS_WIPED : Fld := ⟨0xa0000, 4, 1, 0⟩
/-- VLT_STATUS.STATE [3:0], RO, reset 0 (Table VLT-8, R152). -/
def VLT_STATUS_STATE : Fld := ⟨0xa0000, 0, 4, 0⟩
/-- VLT_FREE.DESC [31:16], RO, reset 0 (Table VLT-8, R152). -/
def VLT_FREE_DESC : Fld := ⟨0xa0004, 16, 16, 0⟩
/-- VLT_FREE.BLOCKS [15:0], RO, reset 0 (Table VLT-8, R152). -/
def VLT_FREE_BLOCKS : Fld := ⟨0xa0004, 0, 16, 0⟩
/-- VLT_WEAR.MAX_ERASE [31:0], RO, reset From NVM (Table VLT-8, R152). -/
def VLT_WEAR_MAX_ERASE : Fld := ⟨0xa0008, 0, 32, 0⟩
/-- VLT_PORT.Q1 [10:8], RO, reset 0 (Table VLT-8, R152). -/
def VLT_PORT_Q1 : Fld := ⟨0xa000c, 8, 3, 0⟩
/-- VLT_PORT.Q0 [2:0], RO, reset 0 (Table VLT-8, R152). -/
def VLT_PORT_Q0 : Fld := ⟨0xa000c, 0, 3, 0⟩
/-- VLT_POLICY.ENROL_ROLES [9:8], RO, reset 0b11 (Table VLT-8, R152). -/
def VLT_POLICY_ENROL_ROLES : Fld := ⟨0xa0010, 8, 2, 3⟩
/-- VLT_POLICY.TAMPER_WIPE [0], RO, reset 0 (Table VLT-8, R152). -/
def VLT_POLICY_TAMPER_WIPE : Fld := ⟨0xa0010, 0, 1, 0⟩
/-- CAST_STATUS.STATE [31:28], RO, reset 0 (Table CAST-12, R187). -/
def CAST_STATUS_STATE : Fld := ⟨0x20000, 28, 4, 0⟩
/-- CAST_STATUS.SRC [27:24], RO, reset 0 (Table CAST-12, R187). -/
def CAST_STATUS_SRC : Fld := ⟨0x20000, 24, 4, 0⟩
/-- CAST_STATUS.ENCRYPTED [1], RO, reset 0 (Table CAST-12, R187). -/
def CAST_STATUS_ENCRYPTED : Fld := ⟨0x20000, 1, 1, 0⟩
/-- CAST_STATUS.SIGNED [0], RO, reset 0 (Table CAST-12, R187). -/
def CAST_STATUS_SIGNED : Fld := ⟨0x20000, 0, 1, 0⟩
/-- CAST_ERR.SEG [31:16], RO, reset 0 (Table CAST-12, R187). -/
def CAST_ERR_SEG : Fld := ⟨0x20004, 16, 16, 0⟩
/-- CAST_ERR.CODE [15:0], RO, reset 0 (Table CAST-12, R187). -/
def CAST_ERR_CODE : Fld := ⟨0x20004, 0, 16, 0⟩
/-- CFA.FAR [31:0], RO, reset 0 (Table CAST-12, R187). -/
def CFA_FAR : Fld := ⟨0x20008, 0, 32, 0⟩
/-- CSEG.SEG [31:0], RO, reset 0 (Table CAST-12, R187). -/
def CSEG_SEG : Fld := ⟨0x2000c, 0, 32, 0⟩
/-- CWALL.MASK [31:0], RO, reset 0 (Table CAST-12, R187). -/
def CWALL_MASK : Fld := ⟨0x20010, 0, 32, 0⟩
/-- CKEY_STAT.PRESENT [8], RO, reset From NVM (Table CAST-12, R187). -/
def CKEY_STAT_PRESENT : Fld := ⟨0x20014, 8, 1, 0⟩
/-- CKEY_STAT.KEYSEL [0], RO, reset 0 (Table CAST-12, R187). -/
def CKEY_STAT_KEYSEL : Fld := ⟨0x20014, 0, 1, 0⟩
/-- CAST_FRAMES.COUNT [31:0], RO, reset 0 (Table CAST-12, R187). -/
def CAST_FRAMES_COUNT : Fld := ⟨0x20018, 0, 32, 0⟩
/-- CAST_TIME.US [31:0], RO, reset 0 (Table CAST-12, R187). -/
def CAST_TIME_US : Fld := ⟨0x2001c, 0, 32, 0⟩
/-- CDIG.DIG [31:0], RO, reset 0 (Table CAST-12, R187). -/
def CDIG_DIG (k : Nat) : Fld := ⟨0x20020 + k * 0x4, 0, 32, 0⟩
/-- CAST_ID.ID [31:0], RO, reset 0 (Table CAST-12, R187). -/
def CAST_ID_ID (k : Nat) : Fld := ⟨0x20040 + k * 0x4, 0, 32, 0⟩
/-- CAST_REGIONS.LOADED [31:0], RO, reset 0 (Table CAST-12, R187). -/
def CAST_REGIONS_LOADED : Fld := ⟨0x20060, 0, 32, 0⟩
/-- CAST_POLICY.SIGNERS [5:2], RO, reset From NVM (Table CAST-12, R187). -/
def CAST_POLICY_SIGNERS : Fld := ⟨0x20064, 2, 4, 0⟩
/-- CAST_POLICY.REQUIRE_ENCRYPTED [1], RO, reset From NVM (Table CAST-12, R187). -/
def CAST_POLICY_REQUIRE_ENCRYPTED : Fld := ⟨0x20064, 1, 1, 0⟩
/-- CAST_POLICY.REQUIRE_SIGNED [0], RO, reset From NVM (Table CAST-12, R187). -/
def CAST_POLICY_REQUIRE_SIGNED : Fld := ⟨0x20064, 0, 1, 0⟩
/-- RCST_STATUS.PHASE [3:0], RO, reset 0 (Table RCST-5, R215). -/
def RCST_STATUS_PHASE : Fld := ⟨0x20080, 0, 4, 0⟩
/-- RCST_READY.MASK [31:0], RO, reset 0 (Table RCST-5, R215). -/
def RCST_READY_MASK : Fld := ⟨0x20084, 0, 32, 0⟩
/-- RCST_CARRY.CARRIED [31:16], RO, reset 0 (Table RCST-5, R215). -/
def RCST_CARRY_CARRIED : Fld := ⟨0x20088, 16, 16, 0⟩
/-- RCST_CARRY.PRIMED [15:0], RO, reset 0 (Table RCST-5, R215). -/
def RCST_CARRY_PRIMED : Fld := ⟨0x20088, 0, 16, 0⟩
/-- RCST_FREEZE.US [31:0], RO, reset 0 (Table RCST-5, R215). -/
def RCST_FREEZE_US : Fld := ⟨0x2008c, 0, 32, 0⟩
/-- ENG_CTRL.PC [26:16], RW, reset 0x000 (Table SIG-6, R271). -/
def ENG_CTRL_PC (e : Nat) : Fld := ⟨0x1c06000 + e * 0x8000, 16, 11, 0⟩
/-- ENG_CTRL.CLR_FAULT [2], WO, reset 0 (Table SIG-6, R271). -/
def ENG_CTRL_CLR_FAULT (e : Nat) : Fld := ⟨0x1c06000 + e * 0x8000, 2, 1, 0⟩
/-- ENG_CTRL.START [1], WO, reset 0 (Table SIG-6, R271). -/
def ENG_CTRL_START (e : Nat) : Fld := ⟨0x1c06000 + e * 0x8000, 1, 1, 0⟩
/-- ENG_CTRL.HALT [0], WO, reset 0 (Table SIG-6, R271). -/
def ENG_CTRL_HALT (e : Nat) : Fld := ⟨0x1c06000 + e * 0x8000, 0, 1, 0⟩
/-- ENG_STAT.FAULT [31:28], RO, reset 0 (Table SIG-6, R271). -/
def ENG_STAT_FAULT (e : Nat) : Fld := ⟨0x1c06004 + e * 0x8000, 28, 4, 0⟩
/-- ENG_STAT.OVF [27:24], W1C, reset 0 (Table SIG-6, R271). -/
def ENG_STAT_OVF (e : Nat) : Fld := ⟨0x1c06004 + e * 0x8000, 24, 4, 0⟩
/-- ENG_STAT.BDEPTH [23:22], RO, reset 0 (Table SIG-6, R271). -/
def ENG_STAT_BDEPTH (e : Nat) : Fld := ⟨0x1c06004 + e * 0x8000, 22, 2, 0⟩
/-- ENG_STAT.WERR [21], W1C, reset 0 (Table SIG-6, R271). -/
def ENG_STAT_WERR (e : Nat) : Fld := ⟨0x1c06004 + e * 0x8000, 21, 1, 0⟩
/-- ENG_STAT.INTR [20], RO, reset 0 (Table SIG-6, R271). -/
def ENG_STAT_INTR (e : Nat) : Fld := ⟨0x1c06004 + e * 0x8000, 20, 1, 0⟩
/-- ENG_STAT.RPT [19], RO, reset 0 (Table SIG-6, R271). -/
def ENG_STAT_RPT (e : Nat) : Fld := ⟨0x1c06004 + e * 0x8000, 19, 1, 0⟩
/-- ENG_STAT.RUN [18], RO, reset 0 (Table SIG-6, R271). -/
def ENG_STAT_RUN (e : Nat) : Fld := ⟨0x1c06004 + e * 0x8000, 18, 1, 0⟩
/-- ENG_STAT.PC [10:0], RO, reset 0x000 (Table SIG-6, R271). -/
def ENG_STAT_PC (e : Nat) : Fld := ⟨0x1c06004 + e * 0x8000, 0, 11, 0⟩
/-- ENG_EVT.IEN [15:8], RW, reset 0x00 (Table SIG-6, R271). -/
def ENG_EVT_IEN (e : Nat) : Fld := ⟨0x1c06008 + e * 0x8000, 8, 8, 0⟩
/-- ENG_EVT.PEND [7:0], W1C, reset 0x00 (Table SIG-6, R271). -/
def ENG_EVT_PEND (e : Nat) : Fld := ⟨0x1c06008 + e * 0x8000, 0, 8, 0⟩
/-- ENG_IPC.IPC [10:0], RO, reset 0x000 (Table SIG-6, R271). -/
def ENG_IPC_IPC (e : Nat) : Fld := ⟨0x1c0600c + e * 0x8000, 0, 11, 0⟩
/-- ENG_CYC.CYCLES [63:0], RO, reset 0 (Table SIG-6, R271). -/
def ENG_CYC_CYCLES (e : Nat) : Fld := ⟨0x1c06010 + e * 0x8000, 0, 64, 0⟩
/-- TCTRL.ASID [31:24], RW, reset 0x00 (Table TILE-5, R286). -/
def TCTRL_ASID (t : Nat) : Fld := ⟨0x1008000 + t * 0x10000, 24, 8, 0⟩
/-- TCTRL.PC [19:8], RW, reset 0x000 (Table TILE-5, R286). -/
def TCTRL_PC (t : Nat) : Fld := ⟨0x1008000 + t * 0x10000, 8, 12, 0⟩
/-- TCTRL.CTX [5], RW, reset 0 (Table TILE-5, R286). -/
def TCTRL_CTX (t : Nat) : Fld := ⟨0x1008000 + t * 0x10000, 5, 1, 0⟩
/-- TCTRL.FROM_PC [4], RW, reset 0 (Table TILE-5, R286). -/
def TCTRL_FROM_PC (t : Nat) : Fld := ⟨0x1008000 + t * 0x10000, 4, 1, 0⟩
/-- TCTRL.CLR_FAULT [3], WO, reset 0 (Table TILE-5, R286). -/
def TCTRL_CLR_FAULT (t : Nat) : Fld := ⟨0x1008000 + t * 0x10000, 3, 1, 0⟩
/-- TCTRL.STEP [2], WO, reset 0 (Table TILE-5, R286). -/
def TCTRL_STEP (t : Nat) : Fld := ⟨0x1008000 + t * 0x10000, 2, 1, 0⟩
/-- TCTRL.HALT [1], WO, reset 0 (Table TILE-5, R286). -/
def TCTRL_HALT (t : Nat) : Fld := ⟨0x1008000 + t * 0x10000, 1, 1, 0⟩
/-- TCTRL.START [0], WO, reset 0 (Table TILE-5, R286). -/
def TCTRL_START (t : Nat) : Fld := ⟨0x1008000 + t * 0x10000, 0, 1, 0⟩
/-- TSTAT.PC [31:20], RO, reset 0x000 (Table TILE-5, R286). -/
def TSTAT_PC (t : Nat) : Fld := ⟨0x1008004 + t * 0x10000, 20, 12, 0⟩
/-- TSTAT.CE [19:16], RC, reset 0 (Table TILE-5, R286). -/
def TSTAT_CE (t : Nat) : Fld := ⟨0x1008004 + t * 0x10000, 16, 4, 0⟩
/-- TSTAT.FAULTED [15], RO, reset 0 (Table TILE-5, R286). -/
def TSTAT_FAULTED (t : Nat) : Fld := ⟨0x1008004 + t * 0x10000, 15, 1, 0⟩
/-- TSTAT.WERR [14], W1C, reset 0 (Table TILE-5, R286). -/
def TSTAT_WERR (t : Nat) : Fld := ⟨0x1008004 + t * 0x10000, 14, 1, 0⟩
/-- TSTAT.RUN [13], RO, reset 0 (Table TILE-5, R286). -/
def TSTAT_RUN (t : Nat) : Fld := ⟨0x1008004 + t * 0x10000, 13, 1, 0⟩
/-- TSTAT.STALL [12], RO, reset 0 (Table TILE-5, R286). -/
def TSTAT_STALL (t : Nat) : Fld := ⟨0x1008004 + t * 0x10000, 12, 1, 0⟩
/-- TSTAT.CAUSE [11:10], RO, reset 0 (Table TILE-5, R286). -/
def TSTAT_CAUSE (t : Nat) : Fld := ⟨0x1008004 + t * 0x10000, 10, 2, 0⟩
/-- TSTART.ROW [3:0], RW, reset 0 (Table TILE-5, R286). -/
def TSTART_ROW (t : Nat) : Fld := ⟨0x1008008 + t * 0x10000, 0, 4, 0⟩
/-- TFAULT0.CODE [31:28], RO, reset 0 (Table TILE-5, R286). -/
def TFAULT0_CODE (t : Nat) : Fld := ⟨0x1008010 + t * 0x10000, 28, 4, 0⟩
/-- TFAULT0.PC [27:16], RO, reset 0 (Table TILE-5, R286). -/
def TFAULT0_PC (t : Nat) : Fld := ⟨0x1008010 + t * 0x10000, 16, 12, 0⟩
/-- TFAULT0.DETAIL [7:0], RO, reset 0 (Table TILE-5, R286). -/
def TFAULT0_DETAIL (t : Nat) : Fld := ⟨0x1008010 + t * 0x10000, 0, 8, 0⟩
/-- TFAULTK.REG [31:28], RO, reset 0xF (Table TILE-5, R286). -/
def TFAULTK_REG (t : Nat) (k : Nat) : Fld := ⟨0x1008014 + t * 0x10000 + k * 0x4, 28, 4, 15⟩
/-- TFAULTK.TYPE [27:24], RO, reset 0 (Table TILE-5, R286). -/
def TFAULTK_TYPE (t : Nat) (k : Nat) : Fld := ⟨0x1008014 + t * 0x10000 + k * 0x4, 24, 4, 0⟩
/-- TFAULTK.ROWS [20:16], RO, reset 0 (Table TILE-5, R286). -/
def TFAULTK_ROWS (t : Nat) (k : Nat) : Fld := ⟨0x1008014 + t * 0x10000 + k * 0x4, 16, 5, 0⟩
/-- TFAULTK.COLB [6:0], RO, reset 0 (Table TILE-5, R286). -/
def TFAULTK_COLB (t : Nat) (k : Nat) : Fld := ⟨0x1008014 + t * 0x10000 + k * 0x4, 0, 7, 0⟩
/-- TCYC.CYCLES [63:0], RO, reset 0 (Table TILE-5, R286). -/
def TCYC_CYCLES (t : Nat) : Fld := ⟨0x1008020 + t * 0x10000, 0, 64, 0⟩
/-- TEVT.CTX [2], W1C, reset 0 (Table TILE-5, R286). -/
def TEVT_CTX (t : Nat) : Fld := ⟨0x1008028 + t * 0x10000, 2, 1, 0⟩
/-- TEVT.HALTED [1], W1C, reset 0 (Table TILE-5, R286). -/
def TEVT_HALTED (t : Nat) : Fld := ⟨0x1008028 + t * 0x10000, 1, 1, 0⟩
/-- TEVT.FAULT [0], W1C, reset 0 (Table TILE-5, R286). -/
def TEVT_FAULT (t : Nat) : Fld := ⟨0x1008028 + t * 0x10000, 0, 1, 0⟩
/-- TIRQ_EN.EN [2:0], RW, reset 0 (Table TILE-5, R286). -/
def TIRQ_EN_EN (t : Nat) : Fld := ⟨0x100802c + t * 0x10000, 0, 3, 0⟩
/-- TSHAPE.EMPTY [31], RO, reset 1 (Table TILE-5, R286). -/
def TSHAPE_EMPTY (t : Nat) (k : Nat) : Fld := ⟨0x1008040 + t * 0x10000 + k * 0x4, 31, 1, 1⟩
/-- TSHAPE.TYPE [27:24], RO, reset 0 (Table TILE-5, R286). -/
def TSHAPE_TYPE (t : Nat) (k : Nat) : Fld := ⟨0x1008040 + t * 0x10000 + k * 0x4, 24, 4, 0⟩
/-- TSHAPE.ROWS [20:16], RO, reset 0x10 (Table TILE-5, R286). -/
def TSHAPE_ROWS (t : Nat) (k : Nat) : Fld := ⟨0x1008040 + t * 0x10000 + k * 0x4, 16, 5, 16⟩
/-- TSHAPE.COLB [6:0], RO, reset 0x40 (Table TILE-5, R286). -/
def TSHAPE_COLB (t : Nat) (k : Nat) : Fld := ⟨0x1008040 + t * 0x10000 + k * 0x4, 0, 7, 64⟩
/-- TACC.EMPTY [11:8], RO, reset 0xF (Table TILE-5, R286). -/
def TACC_EMPTY (t : Nat) : Fld := ⟨0x1008060 + t * 0x10000, 8, 4, 15⟩
/-- TACC.ATYPE [7:0], RO, reset 0 (Table TILE-5, R286). -/
def TACC_ATYPE (t : Nat) : Fld := ⟨0x1008060 + t * 0x10000, 0, 8, 0⟩
/-- HQ_CFG.EN [31], RW, reset 0 (Table STRM-5, R363). -/
def HQ_CFG_EN (q : Nat) : Fld := ⟨0x3000000 + q * 0x40, 31, 1, 0⟩
/-- HQ_CFG.FABRIC [30], RO, reset 0 (Table STRM-5, R363). -/
def HQ_CFG_FABRIC (q : Nat) : Fld := ⟨0x3000000 + q * 0x40, 30, 1, 0⟩
/-- HQ_CFG.DEPTH [7:0], RW, reset 0xFF (Table STRM-5, R363). -/
def HQ_CFG_DEPTH (q : Nat) : Fld := ⟨0x3000000 + q * 0x40, 0, 8, 255⟩
/-- HQ_STAT.OVF [25], W1C, reset 0 (Table STRM-5, R363). -/
def HQ_STAT_OVF (q : Nat) : Fld := ⟨0x3000004 + q * 0x40, 25, 1, 0⟩
/-- HQ_STAT.UDF [24], W1C, reset 0 (Table STRM-5, R363). -/
def HQ_STAT_UDF (q : Nat) : Fld := ⟨0x3000004 + q * 0x40, 24, 1, 0⟩
/-- HQ_STAT.WPOP [23:19], RO, reset 0 (Table STRM-5, R363). -/
def HQ_STAT_WPOP (q : Nat) : Fld := ⟨0x3000004 + q * 0x40, 19, 5, 0⟩
/-- HQ_STAT.WPUSH [18:14], RO, reset 0 (Table STRM-5, R363). -/
def HQ_STAT_WPUSH (q : Nat) : Fld := ⟨0x3000004 + q * 0x40, 14, 5, 0⟩
/-- HQ_STAT.LEVEL [8:0], RO, reset 0 (Table STRM-5, R363). -/
def HQ_STAT_LEVEL (q : Nat) : Fld := ⟨0x3000004 + q * 0x40, 0, 9, 0⟩
/-- HQ_PUSH.HANDLE [31:0], WO, reset 0 (Table STRM-5, R363). -/
def HQ_PUSH_HANDLE (q : Nat) : Fld := ⟨0x3000008 + q * 0x40, 0, 32, 0⟩
/-- HQ_POP.HANDLE [31:0], RC, reset 0xFFFF_FFFF (Table STRM-5, R363). -/
def HQ_POP_HANDLE (q : Nat) : Fld := ⟨0x300000c + q * 0x40, 0, 32, 4294967295⟩
/-- HQ_PUSHES.COUNT [31:0], RO, reset 0 (Table STRM-5, R363). -/
def HQ_PUSHES_COUNT (q : Nat) : Fld := ⟨0x3000010 + q * 0x40, 0, 32, 0⟩
/-- HQ_POPS.COUNT [31:0], RO, reset 0 (Table STRM-5, R363). -/
def HQ_POPS_COUNT (q : Nat) : Fld := ⟨0x3000014 + q * 0x40, 0, 32, 0⟩
/-- STEEP_CTRL.PBASE [17:6], RW, reset 0 (Table STRM-7, R371). -/
def STEEP_CTRL_PBASE (t : Nat) (st : Nat) : Fld := ⟨0x100a000 + t * 0x10000 + st * 0x1000, 6, 12, 0⟩
/-- STEEP_CTRL.IRQ_EN [3], RW, reset 0 (Table STRM-7, R371). -/
def STEEP_CTRL_IRQ_EN (t : Nat) (st : Nat) : Fld := ⟨0x100a000 + t * 0x10000 + st * 0x1000, 3, 1, 0⟩
/-- STEEP_CTRL.RESUME [2], WO, reset 0 (Table STRM-7, R371). -/
def STEEP_CTRL_RESUME (t : Nat) (st : Nat) : Fld := ⟨0x100a000 + t * 0x10000 + st * 0x1000, 2, 1, 0⟩
/-- STEEP_CTRL.HALT [1], WO, reset 0 (Table STRM-7, R371). -/
def STEEP_CTRL_HALT (t : Nat) (st : Nat) : Fld := ⟨0x100a000 + t * 0x10000 + st * 0x1000, 1, 1, 0⟩
/-- STEEP_CTRL.CLR_FAULT [0], WO, reset 0 (Table STRM-7, R371). -/
def STEEP_CTRL_CLR_FAULT (t : Nat) (st : Nat) : Fld := ⟨0x100a000 + t * 0x10000 + st * 0x1000, 0, 1, 0⟩
/-- STEEP_STAT.STATE [31:30], RO, reset 0 (Table STRM-7, R371). -/
def STEEP_STAT_STATE (t : Nat) (st : Nat) : Fld := ⟨0x100a004 + t * 0x10000 + st * 0x1000, 30, 2, 0⟩
/-- STEEP_STAT.PC [29:24], RO, reset 0 (Table STRM-7, R371). -/
def STEEP_STAT_PC (t : Nat) (st : Nat) : Fld := ⟨0x100a004 + t * 0x10000 + st * 0x1000, 24, 6, 0⟩
/-- STEEP_STAT.LEVEL [23:21], RO, reset 0 (Table STRM-7, R371). -/
def STEEP_STAT_LEVEL (t : Nat) (st : Nat) : Fld := ⟨0x100a004 + t * 0x10000 + st * 0x1000, 21, 3, 0⟩
/-- STEEP_STAT.FEVT [20], W1C, reset 0 (Table STRM-7, R371). -/
def STEEP_STAT_FEVT (t : Nat) (st : Nat) : Fld := ⟨0x100a004 + t * 0x10000 + st * 0x1000, 20, 1, 0⟩
/-- STEEP_STAT.DONE [19], W1C, reset 0 (Table STRM-7, R371). -/
def STEEP_STAT_DONE (t : Nat) (st : Nat) : Fld := ⟨0x100a004 + t * 0x10000 + st * 0x1000, 19, 1, 0⟩
/-- STEEP_STAT.UE [15:0], RC, reset 0 (Table STRM-7, R371). -/
def STEEP_STAT_UE (t : Nat) (st : Nat) : Fld := ⟨0x100a004 + t * 0x10000 + st * 0x1000, 0, 16, 0⟩
/-- STEEP_FAULT.CODE [31:28], RO, reset 0 (Table STRM-7, R371). -/
def STEEP_FAULT_CODE (t : Nat) (st : Nat) : Fld := ⟨0x100a008 + t * 0x10000 + st * 0x1000, 28, 4, 0⟩
/-- STEEP_FAULT.REMOTE [27], RO, reset 0 (Table STRM-7, R371). -/
def STEEP_FAULT_REMOTE (t : Nat) (st : Nat) : Fld := ⟨0x100a008 + t * 0x10000 + st * 0x1000, 27, 1, 0⟩
/-- STEEP_FAULT.WRITE [26], RO, reset 0 (Table STRM-7, R371). -/
def STEEP_FAULT_WRITE (t : Nat) (st : Nat) : Fld := ⟨0x100a008 + t * 0x10000 + st * 0x1000, 26, 1, 0⟩
/-- STEEP_FAULT.DETAIL [7:0], RO, reset 0 (Table STRM-7, R371). -/
def STEEP_FAULT_DETAIL (t : Nat) (st : Nat) : Fld := ⟨0x100a008 + t * 0x10000 + st * 0x1000, 0, 8, 0⟩
/-- STEEP_START.ENTRY [5:0], WO, reset 0 (Table STRM-7, R371). -/
def STEEP_START_ENTRY (t : Nat) (st : Nat) : Fld := ⟨0x100a00c + t * 0x10000 + st * 0x1000, 0, 6, 0⟩
/-- STEEP_PARAM.PARAM [31:0], RW, reset 0 (Table STRM-7, R371). -/
def STEEP_PARAM_PARAM (t : Nat) (st : Nat) : Fld := ⟨0x100a010 + t * 0x10000 + st * 0x1000, 0, 32, 0⟩
/-- STEEP_DONE.EN [31], RW, reset 0 (Table STRM-7, R371). -/
def STEEP_DONE_EN (t : Nat) (st : Nat) : Fld := ⟨0x100a014 + t * 0x10000 + st * 0x1000, 31, 1, 0⟩
/-- STEEP_DONE.OBJ [22:0], RW, reset 0 (Table STRM-7, R371). -/
def STEEP_DONE_OBJ (t : Nat) (st : Nat) : Fld := ⟨0x100a014 + t * 0x10000 + st * 0x1000, 0, 23, 0⟩
/-- HPOOL.SHIFT [60:56], RW, reset 0x06 (Table STRM-7, R371). -/
def HPOOL_SHIFT (t : Nat) (st : Nat) : Fld := ⟨0x100a018 + t * 0x10000 + st * 0x1000, 56, 5, 6⟩
/-- HPOOL.BASE [47:0], RW, reset 0 (Table STRM-7, R371). -/
def HPOOL_BASE (t : Nat) (st : Nat) : Fld := ⟨0x100a018 + t * 0x10000 + st * 0x1000, 0, 48, 0⟩
/-- STREAM_POS.IDX [23:0], RO, reset 0 (Table STRM-7, R371). -/
def STREAM_POS_IDX (t : Nat) (st : Nat) (k : Nat) : Fld := ⟨0x100a020 + t * 0x10000 + st * 0x1000 + k * 0x4, 0, 24, 0⟩
/-- STREAM_POS_REM.REM [23:0], RO, reset 0 (Table STRM-7, R371). -/
def STREAM_POS_REM_REM (t : Nat) (st : Nat) (k : Nat) : Fld := ⟨0x100a038 + t * 0x10000 + st * 0x1000 + k * 0x4, 0, 24, 0⟩
/-- STEEP_H.HANDLE [31:0], RO, reset 0 (Table STRM-7, R371). -/
def STEEP_H_HANDLE (t : Nat) (st : Nat) (k : Nat) : Fld := ⟨0x100a050 + t * 0x10000 + st * 0x1000 + k * 0x4, 0, 32, 0⟩
/-- STEEP_B.B [47:0], RW, reset 0 (Table STRM-7, R371). -/
def STEEP_B_B (t : Nat) (st : Nat) (k : Nat) : Fld := ⟨0x100a080 + t * 0x10000 + st * 0x1000 + k * 0x8, 0, 48, 0⟩
/-- STEEP_FADDR.ADDR [47:0], RO, reset 0 (Table STRM-7, R371). -/
def STEEP_FADDR_ADDR (t : Nat) (st : Nat) : Fld := ⟨0x100a0c0 + t * 0x10000 + st * 0x1000, 0, 48, 0⟩
/-- STEEP_XFERS.COUNT [63:0], RO, reset 0 (Table STRM-7, R371). -/
def STEEP_XFERS_COUNT (t : Nat) (st : Nat) : Fld := ⟨0x100a0c8 + t * 0x10000 + st * 0x1000, 0, 64, 0⟩
/-- SO_CFG.EN [31], RW, reset 0 (Table SYNC-4, R383). -/
def SO_CFG_EN (j : Nat) : Fld := ⟨0x2000000 + j * 0x10, 31, 1, 0⟩
/-- SO_CFG.KIND [30:28], RW, reset 0 (Table SYNC-4, R383). -/
def SO_CFG_KIND (j : Nat) : Fld := ⟨0x2000000 + j * 0x10, 28, 3, 0⟩
/-- SO_CFG.WAITING [27], RO, reset 0 (Table SYNC-4, R383). -/
def SO_CFG_WAITING (j : Nat) : Fld := ⟨0x2000000 + j * 0x10, 27, 1, 0⟩
/-- SO_CFG.ERR [26], W1C, reset 0 (Table SYNC-4, R383). -/
def SO_CFG_ERR (j : Nat) : Fld := ⟨0x2000000 + j * 0x10, 26, 1, 0⟩
/-- SO_CFG.PARTIES [15:0], RW, reset 0x0001 (Table SYNC-4, R383). -/
def SO_CFG_PARTIES (j : Nat) : Fld := ⟨0x2000000 + j * 0x10, 0, 16, 1⟩
/-- SO_VAL.VALUE [63:0], RW, reset 0 (Table SYNC-4, R383). -/
def SO_VAL_VALUE (j : Nat) : Fld := ⟨0x2000004 + j * 0x10, 0, 64, 0⟩
/-- SO_OP.VALUE [31:4], WO, reset 0 (Table SYNC-4, R383). -/
def SO_OP_VALUE (j : Nat) : Fld := ⟨0x200000c + j * 0x10, 4, 28, 0⟩
/-- SO_OP.FN [3:0], WO, reset 0 (Table SYNC-4, R383). -/
def SO_OP_FN (j : Nat) : Fld := ⟨0x200000c + j * 0x10, 0, 4, 0⟩
/-- SYS_STALE.STALE [0], RC, reset 0 (Table ADDR-4, R398). -/
def SYS_STALE_STALE : Fld := ⟨0x8, 0, 1, 0⟩
/-- SYS_BAR4.BASE [47:34], RW, reset 0 (Table ADDR-4, R398). -/
def SYS_BAR4_BASE : Fld := ⟨0x10, 34, 14, 0⟩
/-- XDRAM_CFG.GEN [31:30], RO, reset From NVM (Table DRAM-8, R444). -/
def XDRAM_CFG_GEN : Fld := ⟨0x40000, 30, 2, 0⟩
/-- XDRAM_CFG.RATE [29:16], RO, reset From NVM (Table DRAM-8, R444). -/
def XDRAM_CFG_RATE : Fld := ⟨0x40000, 16, 14, 0⟩
/-- XDRAM_CFG.POP [15:12], RO, reset From NVM (Table DRAM-8, R444). -/
def XDRAM_CFG_POP : Fld := ⟨0x40000, 12, 4, 0⟩
/-- XDRAM_CFG.CAP [11:9], RO, reset From NVM (Table DRAM-8, R444). -/
def XDRAM_CFG_CAP : Fld := ⟨0x40000, 9, 3, 0⟩
/-- XDRAM_CFG.IECC [8], RO, reset From NVM (Table DRAM-8, R444). -/
def XDRAM_CFG_IECC : Fld := ⟨0x40000, 8, 1, 0⟩
/-- XDRAM_CFG.LINEAR [7:2], RO, reset From NVM (Table DRAM-8, R444). -/
def XDRAM_CFG_LINEAR : Fld := ⟨0x40000, 2, 6, 0⟩
/-- XDRAM_CFG.RANKS2 [1], RO, reset From NVM (Table DRAM-8, R444). -/
def XDRAM_CFG_RANKS2 : Fld := ⟨0x40000, 1, 1, 0⟩
/-- XDRAM_STAT.STORED [16], RO, reset From NVM (Table DRAM-8, R444). -/
def XDRAM_STAT_STORED : Fld := ⟨0x40004, 16, 1, 0⟩
/-- XDRAM_STAT.CH [15:0], RO, reset 0 (Table DRAM-8, R444). -/
def XDRAM_STAT_CH : Fld := ⟨0x40004, 0, 16, 0⟩
/-- CADDY_STAT.STATE [31:30], RO, reset 0 (Table DRAM-8, R444). -/
def CADDY_STAT_STATE : Fld := ⟨0x50000, 30, 2, 0⟩
/-- CADDY_STAT.RATE_X [25:24], RO, reset 0 (Table DRAM-8, R444). -/
def CADDY_STAT_RATE_X : Fld := ⟨0x50000, 24, 2, 0⟩
/-- CADDY_STAT.FAILED [7:0], RO, reset 0 (Table DRAM-8, R444). -/
def CADDY_STAT_FAILED : Fld := ⟨0x50000, 0, 8, 0⟩
/-- CADDY_CE.COUNT [31:0], RC, reset 0 (Table DRAM-8, R444). -/
def CADDY_CE_COUNT : Fld := ⟨0x50004, 0, 32, 0⟩
/-- CADDY_UE.COUNT [31:0], RC, reset 0 (Table DRAM-8, R444). -/
def CADDY_UE_COUNT : Fld := ⟨0x50008, 0, 32, 0⟩
/-- XCH_GUARD.PNR_EN [31], RO, reset Caddy 1, external 0 (Table DRAM-8, R444). -/
def XCH_GUARD_PNR_EN (c : Nat) : Fld := ⟨0x40100 + c * 0x20, 31, 1, 0⟩
/-- XCH_GUARD.WIDE [30], RO, reset 0 (Table DRAM-8, R444). -/
def XCH_GUARD_WIDE (c : Nat) : Fld := ⟨0x40100 + c * 0x20, 30, 1, 0⟩
/-- XCH_GUARD.K [29:26], RO, reset 0x9 (Table DRAM-8, R444). -/
def XCH_GUARD_K (c : Nat) : Fld := ⟨0x40100 + c * 0x20, 26, 4, 9⟩
/-- XCH_GUARD.THR_EN [25], RO, reset Caddy 0, external 1 (Table DRAM-8, R444). -/
def XCH_GUARD_THR_EN (c : Nat) : Fld := ⟨0x40100 + c * 0x20, 25, 1, 1⟩
/-- XCH_GUARD.ACT_LIMIT [10:0], RO, reset 0x100 (Table DRAM-8, R444). -/
def XCH_GUARD_ACT_LIMIT (c : Nat) : Fld := ⟨0x40100 + c * 0x20, 0, 11, 256⟩
/-- CCH_GUARD.PNR_EN [31], RO, reset Caddy 1, external 0 (Table DRAM-8, R444). -/
def CCH_GUARD_PNR_EN (c : Nat) : Fld := ⟨0x51000 + c * 0x20, 31, 1, 1⟩
/-- CCH_GUARD.WIDE [30], RO, reset 0 (Table DRAM-8, R444). -/
def CCH_GUARD_WIDE (c : Nat) : Fld := ⟨0x51000 + c * 0x20, 30, 1, 0⟩
/-- CCH_GUARD.K [29:26], RO, reset 0x9 (Table DRAM-8, R444). -/
def CCH_GUARD_K (c : Nat) : Fld := ⟨0x51000 + c * 0x20, 26, 4, 9⟩
/-- CCH_GUARD.THR_EN [25], RO, reset Caddy 0, external 1 (Table DRAM-8, R444). -/
def CCH_GUARD_THR_EN (c : Nat) : Fld := ⟨0x51000 + c * 0x20, 25, 1, 0⟩
/-- CCH_GUARD.ACT_LIMIT [10:0], RO, reset 0x100 (Table DRAM-8, R444). -/
def CCH_GUARD_ACT_LIMIT (c : Nat) : Fld := ⟨0x51000 + c * 0x20, 0, 11, 256⟩
/-- XCH_ERR.CE [31:16], RC, reset 0 (Table DRAM-8, R444). -/
def XCH_ERR_CE (c : Nat) : Fld := ⟨0x40104 + c * 0x20, 16, 16, 0⟩
/-- XCH_ERR.UE [15:0], RC, reset 0 (Table DRAM-8, R444). -/
def XCH_ERR_UE (c : Nat) : Fld := ⟨0x40104 + c * 0x20, 0, 16, 0⟩
/-- CCH_ERR.CE [31:16], RC, reset 0 (Table DRAM-8, R444). -/
def CCH_ERR_CE (c : Nat) : Fld := ⟨0x51004 + c * 0x20, 16, 16, 0⟩
/-- CCH_ERR.UE [15:0], RC, reset 0 (Table DRAM-8, R444). -/
def CCH_ERR_UE (c : Nat) : Fld := ⟨0x51004 + c * 0x20, 0, 16, 0⟩
/-- XCH_REF.MAXDEBT [15:8], RC, reset 0 (Table DRAM-8, R444). -/
def XCH_REF_MAXDEBT (c : Nat) : Fld := ⟨0x40108 + c * 0x20, 8, 8, 0⟩
/-- XCH_REF.DEBT [3:0], RO, reset 0 (Table DRAM-8, R444). -/
def XCH_REF_DEBT (c : Nat) : Fld := ⟨0x40108 + c * 0x20, 0, 4, 0⟩
/-- CCH_REF.MAXDEBT [15:8], RC, reset 0 (Table DRAM-8, R444). -/
def CCH_REF_MAXDEBT (c : Nat) : Fld := ⟨0x51008 + c * 0x20, 8, 8, 0⟩
/-- CCH_REF.DEBT [3:0], RO, reset 0 (Table DRAM-8, R444). -/
def CCH_REF_DEBT (c : Nat) : Fld := ⟨0x51008 + c * 0x20, 0, 4, 0⟩
/-- XCH_THR.COUNT [31:0], RC, reset 0 (Table DRAM-8, R444). -/
def XCH_THR_COUNT (c : Nat) : Fld := ⟨0x4010c + c * 0x20, 0, 32, 0⟩
/-- CCH_THR.COUNT [31:0], RC, reset 0 (Table DRAM-8, R444). -/
def CCH_THR_COUNT (c : Nat) : Fld := ⟨0x5100c + c * 0x20, 0, 32, 0⟩
/-- XCH_UE_ADDR.VALID [63], RO, reset 0 (Table DRAM-8, R444). -/
def XCH_UE_ADDR_VALID (c : Nat) : Fld := ⟨0x40110 + c * 0x20, 63, 1, 0⟩
/-- XCH_UE_ADDR.ADDR [47:0], RO, reset 0 (Table DRAM-8, R444). -/
def XCH_UE_ADDR_ADDR (c : Nat) : Fld := ⟨0x40110 + c * 0x20, 0, 48, 0⟩
/-- CCH_UE_ADDR.VALID [63], RO, reset 0 (Table DRAM-8, R444). -/
def CCH_UE_ADDR_VALID (c : Nat) : Fld := ⟨0x51010 + c * 0x20, 63, 1, 0⟩
/-- CCH_UE_ADDR.ADDR [47:0], RO, reset 0 (Table DRAM-8, R444). -/
def CCH_UE_ADDR_ADDR (c : Nat) : Fld := ⟨0x51010 + c * 0x20, 0, 48, 0⟩
/-- XCH_SCRUB.PERIOD [31:16], RO, reset 0x0018 (Table DRAM-8, R444). -/
def XCH_SCRUB_PERIOD (c : Nat) : Fld := ⟨0x40118 + c * 0x20, 16, 16, 24⟩
/-- XCH_SCRUB.PASSES [15:0], RO, reset 0 (Table DRAM-8, R444). -/
def XCH_SCRUB_PASSES (c : Nat) : Fld := ⟨0x40118 + c * 0x20, 0, 16, 0⟩
/-- CCH_SCRUB.PERIOD [31:16], RO, reset 0x0018 (Table DRAM-8, R444). -/
def CCH_SCRUB_PERIOD (c : Nat) : Fld := ⟨0x51018 + c * 0x20, 16, 16, 24⟩
/-- CCH_SCRUB.PASSES [15:0], RO, reset 0 (Table DRAM-8, R444). -/
def CCH_SCRUB_PASSES (c : Nat) : Fld := ⟨0x51018 + c * 0x20, 0, 16, 0⟩
/-- LANE_REF.Q6_SEL [8], RO, reset Strap (Table LANE-8, R469). -/
def LANE_REF_Q6_SEL : Fld := ⟨0x60000, 8, 1, 0⟩
/-- LANE_REF.LREF1_OK [1], RO, reset 0 (Table LANE-8, R469). -/
def LANE_REF_LREF1_OK : Fld := ⟨0x60000, 1, 1, 0⟩
/-- LANE_REF.LREF0_OK [0], RO, reset 0 (Table LANE-8, R469). -/
def LANE_REF_LREF0_OK : Fld := ⟨0x60000, 0, 1, 0⟩
/-- QUAD_CFG.OWNER [31:28], RO, reset Native (Table LANE-8, R469). -/
def QUAD_CFG_OWNER (q : Nat) : Fld := ⟨0x60010 + q * 0x4, 28, 4, 0⟩
/-- QUAD_CFG.PLL_LOCK [8], RO, reset 0 (Table LANE-8, R469). -/
def QUAD_CFG_PLL_LOCK (q : Nat) : Fld := ⟨0x60010 + q * 0x4, 8, 1, 0⟩
/-- QUAD_CFG.REF [4], RO, reset Native (Table LANE-8, R469). -/
def QUAD_CFG_REF (q : Nat) : Fld := ⟨0x60010 + q * 0x4, 4, 1, 0⟩
/-- QUAD_CFG.RATE [3:0], RO, reset Native (Table LANE-8, R469). -/
def QUAD_CFG_RATE (q : Nat) : Fld := ⟨0x60010 + q * 0x4, 0, 4, 0⟩
/-- LN_CTRL.MANUAL [31], RW, reset 0 (Table LANE-8, R469). -/
def LN_CTRL_MANUAL (l : Nat) : Fld := ⟨0x60100 + l * 0x40, 31, 1, 0⟩
/-- LN_CTRL.SLIP [30], WO, reset 0 (Table LANE-8, R469). -/
def LN_CTRL_SLIP (l : Nat) : Fld := ⟨0x60100 + l * 0x40, 30, 1, 0⟩
/-- LN_CTRL.RESTART [29], WO, reset 0 (Table LANE-8, R469). -/
def LN_CTRL_RESTART (l : Nat) : Fld := ⟨0x60100 + l * 0x40, 29, 1, 0⟩
/-- LN_CTRL.LB [26:24], RW, reset 0 (Table LANE-8, R469). -/
def LN_CTRL_LB (l : Nat) : Fld := ⟨0x60100 + l * 0x40, 24, 3, 0⟩
/-- LN_CTRL.FREEZE [23], RW, reset 0 (Table LANE-8, R469). -/
def LN_CTRL_FREEZE (l : Nat) : Fld := ⟨0x60100 + l * 0x40, 23, 1, 0⟩
/-- LN_CTRL.TX_INV [22], RW, reset 0 (Table LANE-8, R469). -/
def LN_CTRL_TX_INV (l : Nat) : Fld := ⟨0x60100 + l * 0x40, 22, 1, 0⟩
/-- LN_CTRL.RX_INV [21], RW, reset 0 (Table LANE-8, R469). -/
def LN_CTRL_RX_INV (l : Nat) : Fld := ⟨0x60100 + l * 0x40, 21, 1, 0⟩
/-- LN_CTRL.TX_IDLE [20], RW, reset 0 (Table LANE-8, R469). -/
def LN_CTRL_TX_IDLE (l : Nat) : Fld := ⟨0x60100 + l * 0x40, 20, 1, 0⟩
/-- LN_STAT.STATE [31:29], RO, reset 0 (Table LANE-8, R469). -/
def LN_STAT_STATE (l : Nat) : Fld := ⟨0x60104 + l * 0x40, 29, 3, 0⟩
/-- LN_STAT.SIG [28], RO, reset 0 (Table LANE-8, R469). -/
def LN_STAT_SIG (l : Nat) : Fld := ⟨0x60104 + l * 0x40, 28, 1, 0⟩
/-- LN_STAT.CDR [27], RO, reset 0 (Table LANE-8, R469). -/
def LN_STAT_CDR (l : Nat) : Fld := ⟨0x60104 + l * 0x40, 27, 1, 0⟩
/-- LN_STAT.MARK [26], RO, reset 0 (Table LANE-8, R469). -/
def LN_STAT_MARK (l : Nat) : Fld := ⟨0x60104 + l * 0x40, 26, 1, 0⟩
/-- LN_STAT.MARK_INV [25], RO, reset 0 (Table LANE-8, R469). -/
def LN_STAT_MARK_INV (l : Nat) : Fld := ⟨0x60104 + l * 0x40, 25, 1, 0⟩
/-- LN_STAT.COMMA [24], RO, reset 0 (Table LANE-8, R469). -/
def LN_STAT_COMMA (l : Nat) : Fld := ⟨0x60104 + l * 0x40, 24, 1, 0⟩
/-- LN_STAT.EYEQ [23:16], RO, reset 0 (Table LANE-8, R469). -/
def LN_STAT_EYEQ (l : Nat) : Fld := ⟨0x60104 + l * 0x40, 16, 8, 0⟩
/-- LN_STAT.REM_ID [15:10], RO, reset 0 (Table LANE-8, R469). -/
def LN_STAT_REM_ID (l : Nat) : Fld := ⟨0x60104 + l * 0x40, 10, 6, 0⟩
/-- LN_STAT.REM_PORT [9:7], RO, reset 0 (Table LANE-8, R469). -/
def LN_STAT_REM_PORT (l : Nat) : Fld := ⟨0x60104 + l * 0x40, 7, 3, 0⟩
/-- LN_STAT.REM_LANE [6:5], RO, reset 0 (Table LANE-8, R469). -/
def LN_STAT_REM_LANE (l : Nat) : Fld := ⟨0x60104 + l * 0x40, 5, 2, 0⟩
/-- LN_STAT.LOST [0], W1C, reset 0 (Table LANE-8, R469). -/
def LN_STAT_LOST (l : Nat) : Fld := ⟨0x60104 + l * 0x40, 0, 1, 0⟩
/-- LN_ERR.CODE [31:16], RC, reset 0 (Table LANE-8, R469). -/
def LN_ERR_CODE (l : Nat) : Fld := ⟨0x60108 + l * 0x40, 16, 16, 0⟩
/-- LN_ERR.MARKER [15:0], RC, reset 0 (Table LANE-8, R469). -/
def LN_ERR_MARKER (l : Nat) : Fld := ⟨0x60108 + l * 0x40, 0, 16, 0⟩
/-- LN_EQ.CTLE [31:28], RW, reset 0 (Table LANE-8, R469). -/
def LN_EQ_CTLE (l : Nat) : Fld := ⟨0x6010c + l * 0x40, 28, 4, 0⟩
/-- LN_EQ.DFE [23:0], RW, reset 0 (Table LANE-8, R469). -/
def LN_EQ_DFE (l : Nat) : Fld := ⟨0x6010c + l * 0x40, 0, 24, 0⟩
/-- LN_TXEQ.PRE [12:9], RW, reset 0x2 (Table LANE-8, R469). -/
def LN_TXEQ_PRE (l : Nat) : Fld := ⟨0x60110 + l * 0x40, 9, 4, 2⟩
/-- LN_TXEQ.POST [8:4], RW, reset 0x06 (Table LANE-8, R469). -/
def LN_TXEQ_POST (l : Nat) : Fld := ⟨0x60110 + l * 0x40, 4, 5, 6⟩
/-- LN_TXEQ.SWING [3:0], RW, reset 0xC (Table LANE-8, R469). -/
def LN_TXEQ_SWING (l : Nat) : Fld := ⟨0x60110 + l * 0x40, 0, 4, 12⟩
/-- LN_PRBS.CHK_LOCK [31], RO, reset 0 (Table LANE-8, R469). -/
def LN_PRBS_CHK_LOCK (l : Nat) : Fld := ⟨0x60114 + l * 0x40, 31, 1, 0⟩
/-- LN_PRBS.PAT [3:2], RW, reset 0 (Table LANE-8, R469). -/
def LN_PRBS_PAT (l : Nat) : Fld := ⟨0x60114 + l * 0x40, 2, 2, 0⟩
/-- LN_PRBS.GEN [1], RW, reset 0 (Table LANE-8, R469). -/
def LN_PRBS_GEN (l : Nat) : Fld := ⟨0x60114 + l * 0x40, 1, 1, 0⟩
/-- LN_PRBS.CHK [0], RW, reset 0 (Table LANE-8, R469). -/
def LN_PRBS_CHK (l : Nat) : Fld := ⟨0x60114 + l * 0x40, 0, 1, 0⟩
/-- LN_PRBS_ERR.COUNT [31:0], RC, reset 0 (Table LANE-8, R469). -/
def LN_PRBS_ERR_COUNT (l : Nat) : Fld := ⟨0x60118 + l * 0x40, 0, 32, 0⟩
/-- LN_ALIGN.US [31:8], RO, reset 0 (Table LANE-8, R469). -/
def LN_ALIGN_US (l : Nat) : Fld := ⟨0x6011c + l * 0x40, 8, 24, 0⟩
/-- LN_ALIGN.SLIPS [5:0], RO, reset 0 (Table LANE-8, R469). -/
def LN_ALIGN_SLIPS (l : Nat) : Fld := ⟨0x6011c + l * 0x40, 0, 6, 0⟩
/-- HL_CTRL.ADMIN [31], RW, reset 0 (Table HOL-10, R500). -/
def HL_CTRL_ADMIN (p : Nat) : Fld := ⟨0x70100 + p * 0x40, 31, 1, 0⟩
/-- HL_CTRL.RETRAIN [30], WO, reset 0 (Table HOL-10, R500). -/
def HL_CTRL_RETRAIN (p : Nat) : Fld := ⟨0x70100 + p * 0x40, 30, 1, 0⟩
/-- HL_CTRL.WAKE [29], WO, reset 0 (Table HOL-10, R500). -/
def HL_CTRL_WAKE (p : Nat) : Fld := ⟨0x70100 + p * 0x40, 29, 1, 0⟩
/-- HL_CTRL.TAG_TO [23:16], RW, reset 0x0A (Table HOL-10, R500). -/
def HL_CTRL_TAG_TO (p : Nat) : Fld := ⟨0x70100 + p * 0x40, 16, 8, 10⟩
/-- HL_STAT.STATE [31:29], RO, reset 0 (Table HOL-10, R500). -/
def HL_STAT_STATE (p : Nat) : Fld := ⟨0x70104 + p * 0x40, 29, 3, 0⟩
/-- HL_STAT.WIDTH [28:26], RO, reset 0 (Table HOL-10, R500). -/
def HL_STAT_WIDTH (p : Nat) : Fld := ⟨0x70104 + p * 0x40, 26, 3, 0⟩
/-- HL_STAT.PEER_ID [25:20], RO, reset 0 (Table HOL-10, R500). -/
def HL_STAT_PEER_ID (p : Nat) : Fld := ⟨0x70104 + p * 0x40, 20, 6, 0⟩
/-- HL_STAT.PEER_PORT [19:17], RO, reset 0 (Table HOL-10, R500). -/
def HL_STAT_PEER_PORT (p : Nat) : Fld := ⟨0x70104 + p * 0x40, 17, 3, 0⟩
/-- HL_STAT.TAGS [16:8], RO, reset 0 (Table HOL-10, R500). -/
def HL_STAT_TAGS (p : Nat) : Fld := ⟨0x70104 + p * 0x40, 8, 9, 0⟩
/-- HL_STAT.FAST [1], RO, reset 0 (Table HOL-10, R500). -/
def HL_STAT_FAST (p : Nat) : Fld := ⟨0x70104 + p * 0x40, 1, 1, 0⟩
/-- HL_STAT.DOWNED [0], W1C, reset 0 (Table HOL-10, R500). -/
def HL_STAT_DOWNED (p : Nat) : Fld := ⟨0x70104 + p * 0x40, 0, 1, 0⟩
/-- HL_EPOCH.EPOCH [15:0], RO, reset 0 (Table HOL-10, R500). -/
def HL_EPOCH_EPOCH (p : Nat) : Fld := ⟨0x70108 + p * 0x40, 0, 16, 0⟩
/-- HL_CRC.COUNT [31:0], RC, reset 0 (Table HOL-10, R500). -/
def HL_CRC_COUNT (p : Nat) : Fld := ⟨0x7010c + p * 0x40, 0, 32, 0⟩
/-- HL_REPLAY.NAKS [31:16], RC, reset 0 (Table HOL-10, R500). -/
def HL_REPLAY_NAKS (p : Nat) : Fld := ⟨0x70110 + p * 0x40, 16, 16, 0⟩
/-- HL_REPLAY.ROUNDS [15:0], RC, reset 0 (Table HOL-10, R500). -/
def HL_REPLAY_ROUNDS (p : Nat) : Fld := ⟨0x70110 + p * 0x40, 0, 16, 0⟩
/-- HL_DOWNS.ATTEMPTS [31:16], RO, reset 0 (Table HOL-10, R500). -/
def HL_DOWNS_ATTEMPTS (p : Nat) : Fld := ⟨0x70114 + p * 0x40, 16, 16, 0⟩
/-- HL_DOWNS.DOWNS [15:0], RO, reset 0 (Table HOL-10, R500). -/
def HL_DOWNS_DOWNS (p : Nat) : Fld := ⟨0x70114 + p * 0x40, 0, 16, 0⟩
/-- HL_STALE.TAG_TO [31:16], RC, reset 0 (Table HOL-10, R500). -/
def HL_STALE_TAG_TO (p : Nat) : Fld := ⟨0x70118 + p * 0x40, 16, 16, 0⟩
/-- HL_STALE.STALE [15:0], RC, reset 0 (Table HOL-10, R500). -/
def HL_STALE_STALE (p : Nat) : Fld := ⟨0x70118 + p * 0x40, 0, 16, 0⟩
/-- HL_DOWN_WHY.REASON [2:0], RO, reset 0 (Table HOL-10, R500). -/
def HL_DOWN_WHY_REASON (p : Nat) : Fld := ⟨0x7011c + p * 0x40, 0, 3, 0⟩
/-- HL_TXFLITS.COUNT [63:0], RO, reset 0 (Table HOL-10, R500). -/
def HL_TXFLITS_COUNT (p : Nat) : Fld := ⟨0x70120 + p * 0x40, 0, 64, 0⟩
/-- HL_RXFLITS.COUNT [63:0], RO, reset 0 (Table HOL-10, R500). -/
def HL_RXFLITS_COUNT (p : Nat) : Fld := ⟨0x70128 + p * 0x40, 0, 64, 0⟩
/-- ENS_STAT.STATE [31:28], RO, reset 0 (Table ENS-6, R527). -/
def ENS_STAT_STATE : Fld := ⟨0x80000, 28, 4, 0⟩
/-- ENS_STAT.QUORUM [27], RO, reset 0 (Table ENS-6, R527). -/
def ENS_STAT_QUORUM : Fld := ⟨0x80000, 27, 1, 0⟩
/-- ENS_STAT.FORCED [26], RO, reset 0 (Table ENS-6, R527). -/
def ENS_STAT_FORCED : Fld := ⟨0x80000, 26, 1, 0⟩
/-- ENS_STAT.STEWARD [25], RO, reset 0 (Table ENS-6, R527). -/
def ENS_STAT_STEWARD : Fld := ⟨0x80000, 25, 1, 0⟩
/-- ENS_STAT.TIME_UNSURE [24], RO, reset 0 (Table ENS-6, R527). -/
def ENS_STAT_TIME_UNSURE : Fld := ⟨0x80000, 24, 1, 0⟩
/-- ENS_STAT.LEADER [21:16], RO, reset 0 (Table ENS-6, R527). -/
def ENS_STAT_LEADER : Fld := ⟨0x80000, 16, 6, 0⟩
/-- ENS_STAT.ACTIVE [15:8], RO, reset 0 (Table ENS-6, R527). -/
def ENS_STAT_ACTIVE : Fld := ⟨0x80000, 8, 8, 0⟩
/-- ENS_STAT.ID [5:0], RO, reset Strap (Table ENS-6, R527). -/
def ENS_STAT_ID : Fld := ⟨0x80000, 0, 6, 0⟩
/-- ENS_SHAPE.N [23:16], RO, reset 0 (Table ENS-6, R527). -/
def ENS_SHAPE_N : Fld := ⟨0x80004, 16, 8, 0⟩
/-- ENS_SHAPE.X [15:12], RO, reset 0 (Table ENS-6, R527). -/
def ENS_SHAPE_X : Fld := ⟨0x80004, 12, 4, 0⟩
/-- ENS_SHAPE.Y [11:8], RO, reset 0 (Table ENS-6, R527). -/
def ENS_SHAPE_Y : Fld := ⟨0x80004, 8, 4, 0⟩
/-- ENS_SHAPE.Z [7:4], RO, reset 0 (Table ENS-6, R527). -/
def ENS_SHAPE_Z : Fld := ⟨0x80004, 4, 4, 0⟩
/-- ENS_REASON.REASON [3:0], RO, reset 0 (Table ENS-6, R527). -/
def ENS_REASON_REASON : Fld := ⟨0x80008, 0, 4, 0⟩
/-- ENS_BADTAG.COUNT [31:0], RC, reset 0 (Table ENS-6, R527). -/
def ENS_BADTAG_COUNT : Fld := ⟨0x8000c, 0, 32, 0⟩
/-- ENS_EPOCH.EPOCH [63:0], RO, reset 0 (Table ENS-6, R527). -/
def ENS_EPOCH_EPOCH : Fld := ⟨0x80010, 0, 64, 0⟩
/-- ENS_ACTIVE.SET [63:0], RO, reset 0 (Table ENS-6, R527). -/
def ENS_ACTIVE_SET : Fld := ⟨0x80018, 0, 64, 0⟩
/-- ENS_HEARD.SET [63:0], RO, reset 0 (Table ENS-6, R527). -/
def ENS_HEARD_SET : Fld := ⟨0x80020, 0, 64, 0⟩
/-- ENS_COMMITS.COUNT [31:0], RO, reset 0 (Table ENS-6, R527). -/
def ENS_COMMITS_COUNT : Fld := ⟨0x80028, 0, 32, 0⟩
/-- TOD0.FRAC [15:0], RO, reset 0 (Table TIME-4, R550). -/
def TOD0_FRAC : Fld := ⟨0x90000, 0, 16, 0⟩
/-- TOD1.NS [31:0], RO, reset 0 (Table TIME-4, R550). -/
def TOD1_NS : Fld := ⟨0x90004, 0, 32, 0⟩
/-- TOD2.SEC [47:0], RO, reset 0 (Table TIME-4, R550). -/
def TOD2_SEC : Fld := ⟨0x90008, 0, 48, 0⟩
/-- TIME_STAT.SRC_ACT [31:30], RO, reset 0 (Table TIME-4, R550). -/
def TIME_STAT_SRC_ACT : Fld := ⟨0x90010, 30, 2, 0⟩
/-- TIME_STAT.LOCKED [29], RO, reset 0 (Table TIME-4, R550). -/
def TIME_STAT_LOCKED : Fld := ⟨0x90010, 29, 1, 0⟩
/-- TIME_STAT.HOLDOVER [28], RO, reset 1 (Table TIME-4, R550). -/
def TIME_STAT_HOLDOVER : Fld := ⟨0x90010, 28, 1, 1⟩
/-- TIME_STAT.TIME_UNSURE [27], RO, reset 0 (Table TIME-4, R550). -/
def TIME_STAT_TIME_UNSURE : Fld := ⟨0x90010, 27, 1, 0⟩
/-- TIME_STAT.SET [26], RO, reset 0 (Table TIME-4, R550). -/
def TIME_STAT_SET : Fld := ⟨0x90010, 26, 1, 0⟩
/-- TIME_STAT.XTAL [25], RO, reset 0 (Table TIME-4, R550). -/
def TIME_STAT_XTAL : Fld := ⟨0x90010, 25, 1, 0⟩
/-- TIME_STAT.RC [24], RO, reset 1 (Table TIME-4, R550). -/
def TIME_STAT_RC : Fld := ⟨0x90010, 24, 1, 1⟩
/-- TIME_RATE.RATE [31:0], RO, reset 0 (Table TIME-4, R550). -/
def TIME_RATE_RATE : Fld := ⟨0x90014, 0, 32, 0⟩
/-- TIME_OFFSET.OFFSET [31:0], RO, reset 0 (Table TIME-4, R550). -/
def TIME_OFFSET_OFFSET : Fld := ⟨0x90018, 0, 32, 0⟩
/-- TIME_UNCERT.US [31:0], RO, reset 0 (Table TIME-4, R550). -/
def TIME_UNCERT_US : Fld := ⟨0x9001c, 0, 32, 0⟩
/-- TIME_UTC.UTC [15:0], RO, reset 0 (Table TIME-4, R550). -/
def TIME_UTC_UTC : Fld := ⟨0x90020, 0, 16, 0⟩
/-- ALM0.EN [31], RO, reset 0 (Table TIME-4, R550). -/
def ALM0_EN : Fld := ⟨0x90030, 31, 1, 0⟩
/-- ALM1.NS [31:0], RO, reset 0 (Table TIME-4, R550). -/
def ALM1_NS : Fld := ⟨0x90034, 0, 32, 0⟩
/-- ALM2.SEC [31:0], RO, reset 0 (Table TIME-4, R550). -/
def ALM2_SEC : Fld := ⟨0x90038, 0, 32, 0⟩
/-- ALM_PERIOD.SEC_HI [31:16], RO, reset 0 (Table TIME-4, R550). -/
def ALM_PERIOD_SEC_HI : Fld := ⟨0x9003c, 16, 16, 0⟩
/-- ALM_PERIOD.PERIOD [15:0], RO, reset 0 (Table TIME-4, R550). -/
def ALM_PERIOD_PERIOD : Fld := ⟨0x9003c, 0, 16, 0⟩
/-- TIME_EVT.UNSURE [4], W1C, reset 0 (Table TIME-4, R550). -/
def TIME_EVT_UNSURE : Fld := ⟨0x90040, 4, 1, 0⟩
/-- TIME_EVT.STEP [3], W1C, reset 0 (Table TIME-4, R550). -/
def TIME_EVT_STEP : Fld := ⟨0x90040, 3, 1, 0⟩
/-- TIME_EVT.LOCK [2], W1C, reset 0 (Table TIME-4, R550). -/
def TIME_EVT_LOCK : Fld := ⟨0x90040, 2, 1, 0⟩
/-- TIME_EVT.HOLD [1], W1C, reset 0 (Table TIME-4, R550). -/
def TIME_EVT_HOLD : Fld := ⟨0x90040, 1, 1, 0⟩
/-- TIME_EVT.ALARM [0], W1C, reset 0 (Table TIME-4, R550). -/
def TIME_EVT_ALARM : Fld := ⟨0x90040, 0, 1, 0⟩
/-- TIME_IRQ_EN.EN [4:0], RW, reset 0 (Table TIME-4, R550). -/
def TIME_IRQ_EN_EN : Fld := ⟨0x90044, 0, 5, 0⟩
/-- TCAP.NEW [31], RC, reset 0 (Table TIME-4, R550). -/
def TCAP_NEW (c : Nat) : Fld := ⟨0x90100 + c * 0x10, 31, 1, 0⟩
/-- TCAP.OVR [30], RC, reset 0 (Table TIME-4, R550). -/
def TCAP_OVR (c : Nat) : Fld := ⟨0x90100 + c * 0x10, 30, 1, 0⟩
/-- TCAP.HOLD [29], RO, reset 0 (Table TIME-4, R550). -/
def TCAP_HOLD (c : Nat) : Fld := ⟨0x90100 + c * 0x10, 29, 1, 0⟩
/-- TCAP.FRAC [15:0], RO, reset 0 (Table TIME-4, R550). -/
def TCAP_FRAC (c : Nat) : Fld := ⟨0x90100 + c * 0x10, 0, 16, 0⟩
/-- TCAP.NS [31:0], RO, reset 0 (Table TIME-4, R550). -/
def TCAP_NS (c : Nat) : Fld := ⟨0x90104 + c * 0x10, 0, 32, 0⟩
/-- TCAP.SEC [47:0], RO, reset 0 (Table TIME-4, R550). -/
def TCAP_SEC (c : Nat) : Fld := ⟨0x90108 + c * 0x10, 0, 48, 0⟩
/-- CSI_FS.NEW [31], RC, reset 0 (Table TIME-4, R550). -/
def CSI_FS_NEW (c : Nat) : Fld := ⟨0x90200 + c * 0x10, 31, 1, 0⟩
/-- CSI_FS.OVR [30], RC, reset 0 (Table TIME-4, R550). -/
def CSI_FS_OVR (c : Nat) : Fld := ⟨0x90200 + c * 0x10, 30, 1, 0⟩
/-- CSI_FS.HOLD [29], RO, reset 0 (Table TIME-4, R550). -/
def CSI_FS_HOLD (c : Nat) : Fld := ⟨0x90200 + c * 0x10, 29, 1, 0⟩
/-- CSI_FS.FRAC [15:0], RO, reset 0 (Table TIME-4, R550). -/
def CSI_FS_FRAC (c : Nat) : Fld := ⟨0x90200 + c * 0x10, 0, 16, 0⟩
/-- CSI_FS.NS [31:0], RO, reset 0 (Table TIME-4, R550). -/
def CSI_FS_NS (c : Nat) : Fld := ⟨0x90204 + c * 0x10, 0, 32, 0⟩
/-- CSI_FS.SEC [47:0], RO, reset 0 (Table TIME-4, R550). -/
def CSI_FS_SEC (c : Nat) : Fld := ⟨0x90208 + c * 0x10, 0, 48, 0⟩
/-- BUD_STAT.BRAKE [31:30], RO, reset 0 (Table BUD-3, R574). -/
def BUD_STAT_BRAKE : Fld := ⟨0x10100, 30, 2, 0⟩
/-- BUD_STAT.HOLD [29], RO, reset 0 (Table BUD-3, R574). -/
def BUD_STAT_HOLD : Fld := ⟨0x10100, 29, 1, 0⟩
/-- BUD_STAT.THERMAL [28], RO, reset 0 (Table BUD-3, R574). -/
def BUD_STAT_THERMAL : Fld := ⟨0x10100, 28, 1, 0⟩
/-- BUD_STAT.STEP_F1 [27:24], RO, reset 0xF (Table BUD-3, R574). -/
def BUD_STAT_STEP_F1 : Fld := ⟨0x10100, 24, 4, 15⟩
/-- BUD_STAT.STEP_F0 [23:20], RO, reset 0xF (Table BUD-3, R574). -/
def BUD_STAT_STEP_F0 : Fld := ⟨0x10100, 20, 4, 15⟩
/-- BUD_STAT.LIM_F1 [19:16], RO, reset 0xF (Table BUD-3, R574). -/
def BUD_STAT_LIM_F1 : Fld := ⟨0x10100, 16, 4, 15⟩
/-- BUD_STAT.LIM_F0 [15:12], RO, reset 0xF (Table BUD-3, R574). -/
def BUD_STAT_LIM_F0 : Fld := ⟨0x10100, 12, 4, 15⟩
/-- BUD_STAT.CAP_SRC [11:9], RO, reset 0 (Table BUD-3, R574). -/
def BUD_STAT_CAP_SRC : Fld := ⟨0x10100, 9, 3, 0⟩
/-- BUD_CAP_EFF.NOTRAY [31:16], RO, reset 0x044C (Table BUD-3, R574). -/
def BUD_CAP_EFF_NOTRAY : Fld := ⟨0x10104, 16, 16, 1100⟩
/-- BUD_CAP_EFF.EFF [15:0], RO, reset 0x044C (Table BUD-3, R574). -/
def BUD_CAP_EFF_EFF : Fld := ⟨0x10104, 0, 16, 1100⟩
/-- BUD_CAP_IN.MGR [31:16], RO, reset From NVM (Table BUD-3, R574). -/
def BUD_CAP_IN_MGR : Fld := ⟨0x10108, 16, 16, 0⟩
/-- BUD_CAP_IN.HOST [15:0], RO, reset 0 (Table BUD-3, R574). -/
def BUD_CAP_IN_HOST : Fld := ⟨0x10108, 0, 16, 0⟩
/-- BUD_TRAY.TRAY_CAP [31:16], RO, reset 0 (Table BUD-3, R574). -/
def BUD_TRAY_TRAY_CAP : Fld := ⟨0x1010c, 16, 16, 0⟩
/-- BUD_TRAY.SHARE [15:0], RO, reset 0 (Table BUD-3, R574). -/
def BUD_TRAY_SHARE : Fld := ⟨0x1010c, 0, 16, 0⟩
/-- BUD_POWER.DEMAND [31:16], RO, reset 0 (Table BUD-3, R574). -/
def BUD_POWER_DEMAND : Fld := ⟨0x10110, 16, 16, 0⟩
/-- BUD_POWER.AVG [15:0], RO, reset 0 (Table BUD-3, R574). -/
def BUD_POWER_AVG : Fld := ⟨0x10110, 0, 16, 0⟩
/-- BUD_DIE.F0 [31:24], RO, reset 0 (Table BUD-3, R574). -/
def BUD_DIE_F0 : Fld := ⟨0x10114, 24, 8, 0⟩
/-- BUD_DIE.F1 [23:16], RO, reset 0 (Table BUD-3, R574). -/
def BUD_DIE_F1 : Fld := ⟨0x10114, 16, 8, 0⟩
/-- BUD_DIE.B [15:8], RO, reset 0 (Table BUD-3, R574). -/
def BUD_DIE_B : Fld := ⟨0x10114, 8, 8, 0⟩
/-- BUD_DIE.C [7:0], RO, reset 0 (Table BUD-3, R574). -/
def BUD_DIE_C : Fld := ⟨0x10114, 0, 8, 0⟩
/-- BUD_EVT.BRAKE [4], W1C, reset 0 (Table BUD-3, R574). -/
def BUD_EVT_BRAKE : Fld := ⟨0x10118, 4, 1, 0⟩
/-- BUD_EVT.HOLD [3], W1C, reset 0 (Table BUD-3, R574). -/
def BUD_EVT_HOLD : Fld := ⟨0x10118, 3, 1, 0⟩
/-- BUD_EVT.THERMAL [2], W1C, reset 0 (Table BUD-3, R574). -/
def BUD_EVT_THERMAL : Fld := ⟨0x10118, 2, 1, 0⟩
/-- BUD_EVT.CAP [1], W1C, reset 0 (Table BUD-3, R574). -/
def BUD_EVT_CAP : Fld := ⟨0x10118, 1, 1, 0⟩
/-- BUD_EVT.STEP [0], W1C, reset 0 (Table BUD-3, R574). -/
def BUD_EVT_STEP : Fld := ⟨0x10118, 0, 1, 0⟩
/-- BUD_IRQ_EN.EN [4:0], RW, reset 0 (Table BUD-3, R574). -/
def BUD_IRQ_EN_EN : Fld := ⟨0x1011c, 0, 5, 0⟩
/-- BUD_CFG.SPLIT [1], RO, reset From NVM (Table BUD-3, R574). -/
def BUD_CFG_SPLIT : Fld := ⟨0x10120, 1, 1, 0⟩
/-- BUD_CFG.AUTO_RESTART [0], RO, reset From NVM (Table BUD-3, R574). -/
def BUD_CFG_AUTO_RESTART : Fld := ⟨0x10120, 0, 1, 0⟩
/-- THERM_MAX.SENSOR [31:27], RO, reset 0 (Table BUD-3, R574). -/
def THERM_MAX_SENSOR : Fld := ⟨0x10130, 27, 5, 0⟩
/-- THERM_MAX.T [11:0], RO, reset 0 (Table BUD-3, R574). -/
def THERM_MAX_T : Fld := ⟨0x10130, 0, 12, 0⟩
/-- THERM_PEAK.T [11:0], RC, reset 0 (Table BUD-3, R574). -/
def THERM_PEAK_T : Fld := ⟨0x10134, 0, 12, 0⟩
/-- THERM_TRIPS.COUNT [31:0], RO, reset From NVM (Table BUD-3, R574). -/
def THERM_TRIPS_COUNT : Fld := ⟨0x10138, 0, 32, 0⟩
/-- THERM.VALID [31], RO, reset 0 (Table BUD-3, R574). -/
def THERM_VALID (s : Nat) : Fld := ⟨0x10140 + s * 0x4, 31, 1, 0⟩
/-- THERM.T [11:0], RO, reset 0 (Table BUD-3, R574). -/
def THERM_T (s : Nat) : Fld := ⟨0x10140 + s * 0x4, 0, 12, 0⟩
/-- BIST_STAT.STATE [31:30], RO, reset 0 (Table BIST-4, R592). -/
def BIST_STAT_STATE : Fld := ⟨0xc0000, 30, 2, 0⟩
/-- BIST_STAT.TEST [29:26], RO, reset 0xF (Table BIST-4, R592). -/
def BIST_STAT_TEST : Fld := ⟨0xc0000, 26, 4, 15⟩
/-- BIST_STAT.PCT [7:0], RO, reset 0 (Table BIST-4, R592). -/
def BIST_STAT_PCT : Fld := ⟨0xc0000, 0, 8, 0⟩
/-- BIST_RUNS.COUNT [31:0], RO, reset From NVM (Table BIST-4, R592). -/
def BIST_RUNS_COUNT : Fld := ⟨0xc0004, 0, 32, 0⟩
/-- BIST_REC.REC [31:0], RO, reset From NVM (Table BIST-4, R592). -/
def BIST_REC_REC (k : Nat) : Fld := ⟨0xc0100 + k * 0x4, 0, 32, 0⟩
/-- LOG_STAT.PFAULT [31], RO, reset 0 (Table FLT-5, R611). -/
def LOG_STAT_PFAULT : Fld := ⟨0xd0000, 31, 1, 0⟩
/-- LOG_STAT.PTHR [30], W1C, reset 0 (Table FLT-5, R611). -/
def LOG_STAT_PTHR : Fld := ⟨0xd0000, 30, 1, 0⟩
/-- LOG_STAT.DROP [29], W1C, reset 0 (Table FLT-5, R611). -/
def LOG_STAT_DROP : Fld := ⟨0xd0000, 29, 1, 0⟩
/-- LOG_STAT.COUNT [11:0], RO, reset 0 (Table FLT-5, R611). -/
def LOG_STAT_COUNT : Fld := ⟨0xd0000, 0, 12, 0⟩
/-- LOG_HEAD.SEQ [31:0], RO, reset From NVM (Table FLT-5, R611). -/
def LOG_HEAD_SEQ : Fld := ⟨0xd0004, 0, 32, 0⟩
/-- LOG_TAIL.SEQ [31:0], RO, reset From NVM (Table FLT-5, R611). -/
def LOG_TAIL_SEQ : Fld := ⟨0xd0008, 0, 32, 0⟩
/-- LOG_PHEAD.SEQ [31:0], RO, reset From NVM (Table FLT-5, R611). -/
def LOG_PHEAD_SEQ : Fld := ⟨0xd000c, 0, 32, 0⟩
/-- LOG_PTAIL.SEQ [31:0], RO, reset From NVM (Table FLT-5, R611). -/
def LOG_PTAIL_SEQ : Fld := ⟨0xd0010, 0, 32, 0⟩
/-- LOG_DROPS.COUNT [31:0], RC, reset 0 (Table FLT-5, R611). -/
def LOG_DROPS_COUNT : Fld := ⟨0xd0014, 0, 32, 0⟩
/-- LOG_TORN.COUNT [31:0], RO, reset 0 (Table FLT-5, R611). -/
def LOG_TORN_COUNT : Fld := ⟨0xd0018, 0, 32, 0⟩
/-- LOG_CFG.MATCH_P [4], RO, reset 0 (Table FLT-5, R611). -/
def LOG_CFG_MATCH_P : Fld := ⟨0xd001c, 4, 1, 0⟩
/-- LOG_CFG.MATCH_EN [3], RO, reset 0 (Table FLT-5, R611). -/
def LOG_CFG_MATCH_EN : Fld := ⟨0xd001c, 3, 1, 0⟩
/-- LOG_CFG.PSEV [2:0], RO, reset 0b011 (Table FLT-5, R611). -/
def LOG_CFG_PSEV : Fld := ⟨0xd001c, 0, 3, 3⟩
/-- LOG_EVT.ALERT [1], W1C, reset 0 (Table FLT-5, R611). -/
def LOG_EVT_ALERT : Fld := ⟨0xd0020, 1, 1, 0⟩
/-- LOG_EVT.NEW [0], W1C, reset 0 (Table FLT-5, R611). -/
def LOG_EVT_NEW : Fld := ⟨0xd0020, 0, 1, 0⟩
/-- LOG_IRQ_EN.SEV [6:4], RW, reset 0b011 (Table FLT-5, R611). -/
def LOG_IRQ_EN_SEV : Fld := ⟨0xd0024, 4, 3, 3⟩
/-- LOG_IRQ_EN.EN [1:0], RW, reset 0 (Table FLT-5, R611). -/
def LOG_IRQ_EN_EN : Fld := ⟨0xd0024, 0, 2, 0⟩
/-- LOG_SEL.SEQ [31:0], RW, reset 0 (Table FLT-5, R611). -/
def LOG_SEL_SEQ : Fld := ⟨0xd0028, 0, 32, 0⟩
/-- LOG_DATA.ENTRY [31:0], RO, reset 0 (Table FLT-5, R611). -/
def LOG_DATA_ENTRY (k : Nat) : Fld := ⟨0xd0040 + k * 0x4, 0, 32, 0⟩
/-- SYS_STRAP.UNSTABLE [31], RO, reset Strap (Table PKG-5, R648). -/
def SYS_STRAP_UNSTABLE : Fld := ⟨0x20, 31, 1, 0⟩
/-- SYS_STRAP.Q6_SEL [8], RO, reset Strap (Table PKG-5, R648). -/
def SYS_STRAP_Q6_SEL : Fld := ⟨0x20, 8, 1, 0⟩
/-- SYS_STRAP.ENS_ID [7:2], RO, reset Strap (Table PKG-5, R648). -/
def SYS_STRAP_ENS_ID : Fld := ⟨0x20, 2, 6, 0⟩
/-- SYS_STRAP.CFG_MODE [1:0], RO, reset Strap (Table PKG-5, R648). -/
def SYS_STRAP_CFG_MODE : Fld := ⟨0x20, 0, 2, 0⟩

end Reg

open Reg

/-- The words of the sys block by offset. -/
def wordsSys (off : Nat) : List Bitf :=
  if off = 0x0 then [⟨16, 16, .ro, SYS_ID_PART, 0⟩, ⟨0, 8, .ro, SYS_ID_STEP, 0⟩]
  else if off = 0x100 then [⟨2, 1, .rw, MBX_CTRL_IRQ_EN, 0⟩, ⟨1, 1, .wo, MBX_CTRL_RESET, 0⟩, ⟨0, 1, .rw, MBX_CTRL_ENABLE, 0⟩]
  else if off = 0x104 then [⟨1, 1, .ro, MBX_STATUS_HELD, 0⟩, ⟨0, 1, .ro, MBX_STATUS_READY, 0⟩]
  else if off = 0x108 then [⟨0, 16, .rw, MBX_REQ_TAIL_TAIL, 0⟩]
  else if off = 0x10c then [⟨0, 16, .ro, MBX_REQ_HEAD_HEAD, 0⟩]
  else if off = 0x110 then [⟨0, 16, .ro, MBX_RPL_TAIL_TAIL, 0⟩]
  else if off = 0x114 then [⟨0, 16, .rw, MBX_RPL_HEAD_HEAD, 0⟩]
  else if off = 0x118 then [⟨0, 1, .w1c, MBX_IRQ_RPL, 0⟩]
  else if off = 0x11c then [⟨0, 32, .rc, CMD_DROPS_COUNT, 0⟩]
  else if off = 0x8 then [⟨0, 1, .rc, SYS_STALE_STALE, 0⟩]
  else if off = 0x10 then []
  else if off = 0x14 then [⟨2, 14, .rw, SYS_BAR4_BASE, 0⟩]
  else if off = 0x20 then [⟨31, 1, .ro, SYS_STRAP_UNSTABLE, 0⟩, ⟨8, 1, .ro, SYS_STRAP_Q6_SEL, 0⟩, ⟨2, 6, .ro, SYS_STRAP_ENS_ID, 0⟩, ⟨0, 2, .ro, SYS_STRAP_CFG_MODE, 0⟩]
  else []

/-- The words of the pwr block by offset. -/
def wordsPwr (off : Nat) : List Bitf :=
  if off = 0x0 then [⟨12, 4, .ro, PWR_STATE_RESTORE, 0⟩, ⟨8, 1, .ro, PWR_STATE_MOVING, 0⟩, ⟨4, 3, .ro, PWR_STATE_TGT, 0⟩, ⟨0, 3, .ro, PWR_STATE_CUR, 0⟩]
  else if off = 0x4 then [⟨16, 16, .rw, PWR_CTRL_IDLE_DELAY, 0⟩, ⟨9, 1, .rw, PWR_CTRL_AUTO_IDLE, 0⟩, ⟨8, 1, .wo, PWR_CTRL_WAKE, 0⟩, ⟨0, 8, .rw, PWR_CTRL_IDLE_UCLK, 0⟩]
  else if off = 0x8 then [⟨0, 17, .rw, PWR_WAKE_EN_EN, 0⟩]
  else if off = 0xc then [⟨0, 17, .w1c, PWR_WAKE_SRC_SRC, 0⟩]
  else if off = 0x10 then [⟨0, 5, .ro, PWR_WAKE_FIRST_FIRST, 0⟩]
  else if off = 0x14 then [⟨7, 1, .ro, PWR_CLK_STATUS_FAB_LOCK, 0⟩, ⟨6, 1, .ro, PWR_CLK_STATUS_CCLK_LOCK, 0⟩, ⟨5, 1, .ro, PWR_CLK_STATUS_NCLK_LOCK, 0⟩, ⟨4, 1, .ro, PWR_CLK_STATUS_REF_OK, 0⟩, ⟨3, 1, .ro, PWR_CLK_STATUS_REF_REQ, 0⟩, ⟨2, 1, .ro, PWR_CLK_STATUS_RC_ON, 0⟩, ⟨1, 1, .ro, PWR_CLK_STATUS_XTAL_OK, 0⟩]
  else if off = 0x18 then [⟨16, 16, .rw, PWR_DOZE_CFG_DOZE_LIMIT, 0⟩, ⟨6, 2, .rw, PWR_DOZE_CFG_CAM_XCH, 0⟩, ⟨4, 2, .rw, PWR_DOZE_CFG_CAM, 0⟩, ⟨3, 1, .rw, PWR_DOZE_CFG_CAM_EN, 0⟩, ⟨2, 1, .rw, PWR_DOZE_CFG_KEEP_TILE, 0⟩, ⟨1, 1, .rw, PWR_DOZE_CFG_KEEP_QB, 0⟩, ⟨0, 1, .rw, PWR_DOZE_CFG_ENABLE, 0⟩]
  else if off = 0x1c then [⟨0, 8, .rw, PWR_SLEEP_CFG_REFCLK_TO, 0⟩]
  else if off = 0x20 then [⟨4, 4, .rw, PWR_WAKE_POL_EDGE, 0⟩, ⟨0, 4, .rw, PWR_WAKE_POL_HIGH, 0⟩]
  else if off = 0x24 then [⟨0, 32, .ro, PWR_EXIT_TIME_US, 0⟩]
  else if off = 0x100 then [⟨30, 2, .ro, BUD_STAT_BRAKE, 0⟩, ⟨29, 1, .ro, BUD_STAT_HOLD, 0⟩, ⟨28, 1, .ro, BUD_STAT_THERMAL, 0⟩, ⟨24, 4, .ro, BUD_STAT_STEP_F1, 0⟩, ⟨20, 4, .ro, BUD_STAT_STEP_F0, 0⟩, ⟨16, 4, .ro, BUD_STAT_LIM_F1, 0⟩, ⟨12, 4, .ro, BUD_STAT_LIM_F0, 0⟩, ⟨9, 3, .ro, BUD_STAT_CAP_SRC, 0⟩]
  else if off = 0x104 then [⟨16, 16, .ro, BUD_CAP_EFF_NOTRAY, 0⟩, ⟨0, 16, .ro, BUD_CAP_EFF_EFF, 0⟩]
  else if off = 0x108 then [⟨16, 16, .ro, BUD_CAP_IN_MGR, 0⟩, ⟨0, 16, .ro, BUD_CAP_IN_HOST, 0⟩]
  else if off = 0x10c then [⟨16, 16, .ro, BUD_TRAY_TRAY_CAP, 0⟩, ⟨0, 16, .ro, BUD_TRAY_SHARE, 0⟩]
  else if off = 0x110 then [⟨16, 16, .ro, BUD_POWER_DEMAND, 0⟩, ⟨0, 16, .ro, BUD_POWER_AVG, 0⟩]
  else if off = 0x114 then [⟨24, 8, .ro, BUD_DIE_F0, 0⟩, ⟨16, 8, .ro, BUD_DIE_F1, 0⟩, ⟨8, 8, .ro, BUD_DIE_B, 0⟩, ⟨0, 8, .ro, BUD_DIE_C, 0⟩]
  else if off = 0x118 then [⟨4, 1, .w1c, BUD_EVT_BRAKE, 0⟩, ⟨3, 1, .w1c, BUD_EVT_HOLD, 0⟩, ⟨2, 1, .w1c, BUD_EVT_THERMAL, 0⟩, ⟨1, 1, .w1c, BUD_EVT_CAP, 0⟩, ⟨0, 1, .w1c, BUD_EVT_STEP, 0⟩]
  else if off = 0x11c then [⟨0, 5, .rw, BUD_IRQ_EN_EN, 0⟩]
  else if off = 0x120 then [⟨1, 1, .ro, BUD_CFG_SPLIT, 0⟩, ⟨0, 1, .ro, BUD_CFG_AUTO_RESTART, 0⟩]
  else if off = 0x130 then [⟨27, 5, .ro, THERM_MAX_SENSOR, 0⟩, ⟨0, 12, .ro, THERM_MAX_T, 0⟩]
  else if off = 0x134 then [⟨0, 12, .rc, THERM_PEAK_T, 0⟩]
  else if off = 0x138 then [⟨0, 32, .ro, THERM_TRIPS_COUNT, 0⟩]
  else if 0x140 ≤ off ∧ off < 0x1a0 ∧ (off - 0x140) % 0x4 = 0 then
    let s := (off - 0x140) / 0x4
    [⟨31, 1, .ro, (THERM_VALID s), 0⟩, ⟨0, 12, .ro, (THERM_T s), 0⟩]
  else []

/-- The words of the hmi block by offset. -/
def wordsHmi (off : Nat) : List Bitf :=
  if off = 0x0 then [⟨15, 1, .w1c, HMI_EVT_TAMPER, 0⟩, ⟨14, 1, .w1c, HMI_EVT_PLUG, 0⟩, ⟨13, 1, .w1c, HMI_EVT_KEY, 0⟩, ⟨12, 1, .w1c, HMI_EVT_TOUCH, 0⟩, ⟨8, 4, .w1c, HMI_EVT_RAIL_UV, 0⟩, ⟨0, 8, .w1c, HMI_EVT_LAMP, 0⟩]
  else if off = 0x4 then [⟨0, 16, .rw, HMI_IRQ_EN_EN, 0⟩]
  else if off = 0x8 then [⟨24, 8, .ro, RAIL_STAT_V3, 0⟩, ⟨16, 8, .ro, RAIL_STAT_V2, 0⟩, ⟨8, 8, .ro, RAIL_STAT_V1, 0⟩, ⟨0, 8, .ro, RAIL_STAT_V0, 0⟩]
  else if 0x100 ≤ off ∧ off < 0x180 ∧ (off - 0x100) % 0x10 = 0 then
    let n := (off - 0x100) / 0x10
    [⟨18, 6, .rw, (LMP_CTRL_SOFT n), 0⟩, ⟨15, 3, .rw, (LMP_CTRL_INRUSH n), 0⟩, ⟨12, 3, .rw, (LMP_CTRL_SHORT_V n), 0⟩, ⟨3, 1, .rw, (LMP_CTRL_GATE_DFLT n), 0⟩, ⟨2, 1, .rw, (LMP_CTRL_SRC n), 0⟩, ⟨1, 1, .rw, (LMP_CTRL_RANGE n), 0⟩, ⟨0, 1, .rw, (LMP_CTRL_EN n), 0⟩]
  else if 0x104 ≤ off ∧ off < 0x184 ∧ (off - 0x104) % 0x10 = 0 then
    let n := (off - 0x104) / 0x10
    [⟨0, 9, .rw, (LMP_SET_SET n), 0⟩]
  else if 0x108 ≤ off ∧ off < 0x188 ∧ (off - 0x108) % 0x10 = 0 then
    let n := (off - 0x108) / 0x10
    [⟨10, 2, .ro, (LMP_STAT_RETRIES n), 0⟩, ⟨9, 1, .ro, (LMP_STAT_HOLD n), 0⟩, ⟨5, 3, .ro, (LMP_STAT_PHASE n), 0⟩, ⟨2, 1, .w1c, (LMP_STAT_OPEN n), 0⟩, ⟨1, 1, .w1c, (LMP_STAT_SHORT n), 0⟩, ⟨0, 1, .ro, (LMP_STAT_ON n), 0⟩]
  else if 0x10c ≤ off ∧ off < 0x18c ∧ (off - 0x10c) % 0x10 = 0 then
    let n := (off - 0x10c) / 0x10
    [⟨16, 9, .ro, (LMP_MEAS_I n), 0⟩, ⟨0, 9, .ro, (LMP_MEAS_V_OUT n), 0⟩]
  else if off = 0x200 then [⟨12, 6, .rw, TCH_CFG_RECAL, 0⟩, ⟨0, 3, .rw, TCH_CFG_RATE, 0⟩]
  else if off = 0x204 then [⟨0, 12, .ro, TCH_TOUCHED_T, 0⟩]
  else if 0x210 ≤ off ∧ off < 0x2d0 ∧ (off - 0x210) % 0x10 = 0 then
    let n := (off - 0x210) / 0x10
    [⟨20, 12, .rw, (TCH_CFG_THRESH n), 0⟩, ⟨12, 8, .rw, (TCH_CFG_HYST n), 0⟩, ⟨6, 2, .rw, (TCH_CFG_DEB n), 0⟩, ⟨5, 1, .rw, (TCH_CFG_PROX n), 0⟩, ⟨3, 2, .rw, (TCH_CFG_MODE n), 0⟩, ⟨0, 1, .rw, (TCH_CFG_EN n), 0⟩]
  else if 0x214 ≤ off ∧ off < 0x2d4 ∧ (off - 0x214) % 0x10 = 0 then
    let n := (off - 0x214) / 0x10
    [⟨16, 16, .ro, (TCH_DATA_BASE n), 0⟩, ⟨0, 16, .ro, (TCH_DATA_COUNT n), 0⟩]
  else if off = 0x300 then [⟨4, 5, .rw, KEY_CFG_DEB, 0⟩, ⟨0, 1, .rw, KEY_CFG_EN, 0⟩]
  else if off = 0x304 then [⟨16, 1, .ro, KEY_STATE_GHOST, 0⟩, ⟨0, 16, .ro, KEY_STATE_DOWN, 0⟩]
  else if off = 0x308 then [⟨0, 32, .rc, KEY_FIFO_ENTRY, 0⟩]
  else if off = 0x30c then [⟨8, 1, .w1c, KEY_FIFO_STAT_OVF, 0⟩, ⟨0, 5, .ro, KEY_FIFO_STAT_LEVEL, 0⟩]
  else if off = 0x310 then [⟨0, 8, .rw, PLG_CFG_DEB, 0⟩]
  else if off = 0x314 then [⟨8, 2, .w1c, PLG_STAT_CHANGED, 0⟩, ⟨0, 2, .ro, PLG_STAT_PRESENT, 0⟩]
  else if off = 0x320 then [⟨16, 16, .ro, TMP_STAT_COUNT, 0⟩, ⟨2, 1, .ro, TMP_STAT_BOOT, 0⟩, ⟨1, 1, .ro, TMP_STAT_LATCH, 0⟩, ⟨0, 1, .ro, TMP_STAT_INPUT, 0⟩]
  else if off = 0x330 then [⟨1, 1, .ro, AUD_CTRL_LEVEL, 0⟩, ⟨0, 1, .rw, AUD_CTRL_UNMUTE, 0⟩]
  else []

/-- The words of the vault block by offset. -/
def wordsVault (off : Nat) : List Bitf :=
  if off = 0x0 then [⟨8, 12, .ro, VLT_STATUS_LIVE, 0⟩, ⟨4, 1, .ro, VLT_STATUS_WIPED, 0⟩, ⟨0, 4, .ro, VLT_STATUS_STATE, 0⟩]
  else if off = 0x4 then [⟨16, 16, .ro, VLT_FREE_DESC, 0⟩, ⟨0, 16, .ro, VLT_FREE_BLOCKS, 0⟩]
  else if off = 0x8 then [⟨0, 32, .ro, VLT_WEAR_MAX_ERASE, 0⟩]
  else if off = 0xc then [⟨8, 3, .ro, VLT_PORT_Q1, 0⟩, ⟨0, 3, .ro, VLT_PORT_Q0, 0⟩]
  else if off = 0x10 then [⟨8, 2, .ro, VLT_POLICY_ENROL_ROLES, 0⟩, ⟨0, 1, .ro, VLT_POLICY_TAMPER_WIPE, 0⟩]
  else []

/-- The words of the cast block by offset. -/
def wordsCast (off : Nat) : List Bitf :=
  if off = 0x0 then [⟨28, 4, .ro, CAST_STATUS_STATE, 0⟩, ⟨24, 4, .ro, CAST_STATUS_SRC, 0⟩, ⟨1, 1, .ro, CAST_STATUS_ENCRYPTED, 0⟩, ⟨0, 1, .ro, CAST_STATUS_SIGNED, 0⟩]
  else if off = 0x4 then [⟨16, 16, .ro, CAST_ERR_SEG, 0⟩, ⟨0, 16, .ro, CAST_ERR_CODE, 0⟩]
  else if off = 0x8 then [⟨0, 32, .ro, CFA_FAR, 0⟩]
  else if off = 0xc then [⟨0, 32, .ro, CSEG_SEG, 0⟩]
  else if off = 0x10 then [⟨0, 32, .ro, CWALL_MASK, 0⟩]
  else if off = 0x14 then [⟨8, 1, .ro, CKEY_STAT_PRESENT, 0⟩, ⟨0, 1, .ro, CKEY_STAT_KEYSEL, 0⟩]
  else if off = 0x18 then [⟨0, 32, .ro, CAST_FRAMES_COUNT, 0⟩]
  else if off = 0x1c then [⟨0, 32, .ro, CAST_TIME_US, 0⟩]
  else if 0x20 ≤ off ∧ off < 0x40 ∧ (off - 0x20) % 0x4 = 0 then
    let k := (off - 0x20) / 0x4
    [⟨0, 32, .ro, (CDIG_DIG k), 0⟩]
  else if 0x40 ≤ off ∧ off < 0x60 ∧ (off - 0x40) % 0x4 = 0 then
    let k := (off - 0x40) / 0x4
    [⟨0, 32, .ro, (CAST_ID_ID k), 0⟩]
  else if off = 0x60 then [⟨0, 32, .ro, CAST_REGIONS_LOADED, 0⟩]
  else if off = 0x64 then [⟨2, 4, .ro, CAST_POLICY_SIGNERS, 0⟩, ⟨1, 1, .ro, CAST_POLICY_REQUIRE_ENCRYPTED, 0⟩, ⟨0, 1, .ro, CAST_POLICY_REQUIRE_SIGNED, 0⟩]
  else if off = 0x80 then [⟨0, 4, .ro, RCST_STATUS_PHASE, 0⟩]
  else if off = 0x84 then [⟨0, 32, .ro, RCST_READY_MASK, 0⟩]
  else if off = 0x88 then [⟨16, 16, .ro, RCST_CARRY_CARRIED, 0⟩, ⟨0, 16, .ro, RCST_CARRY_PRIMED, 0⟩]
  else if off = 0x8c then [⟨0, 32, .ro, RCST_FREEZE_US, 0⟩]
  else []

/-- The words of the eng block by offset. -/
def wordsEng (e : Nat) (off : Nat) : List Bitf :=
  if off = 0x6000 then [⟨16, 11, .rw, (ENG_CTRL_PC e), 0⟩, ⟨2, 1, .wo, (ENG_CTRL_CLR_FAULT e), 0⟩, ⟨1, 1, .wo, (ENG_CTRL_START e), 0⟩, ⟨0, 1, .wo, (ENG_CTRL_HALT e), 0⟩]
  else if off = 0x6004 then [⟨28, 4, .ro, (ENG_STAT_FAULT e), 0⟩, ⟨24, 4, .w1c, (ENG_STAT_OVF e), 0⟩, ⟨22, 2, .ro, (ENG_STAT_BDEPTH e), 0⟩, ⟨21, 1, .w1c, (ENG_STAT_WERR e), 0⟩, ⟨20, 1, .ro, (ENG_STAT_INTR e), 0⟩, ⟨19, 1, .ro, (ENG_STAT_RPT e), 0⟩, ⟨18, 1, .ro, (ENG_STAT_RUN e), 0⟩, ⟨0, 11, .ro, (ENG_STAT_PC e), 0⟩]
  else if off = 0x6008 then [⟨8, 8, .rw, (ENG_EVT_IEN e), 0⟩, ⟨0, 8, .w1c, (ENG_EVT_PEND e), 0⟩]
  else if off = 0x600c then [⟨0, 11, .ro, (ENG_IPC_IPC e), 0⟩]
  else if off = 0x6010 then [⟨0, 32, .ro, (ENG_CYC_CYCLES e), 0⟩]
  else if off = 0x6014 then [⟨0, 32, .ro, (ENG_CYC_CYCLES e), 32⟩]
  else []

/-- The words of the tile block by offset. -/
def wordsTile (t : Nat) (off : Nat) : List Bitf :=
  if off = 0x8000 then [⟨24, 8, .rw, (TCTRL_ASID t), 0⟩, ⟨8, 12, .rw, (TCTRL_PC t), 0⟩, ⟨5, 1, .rw, (TCTRL_CTX t), 0⟩, ⟨4, 1, .rw, (TCTRL_FROM_PC t), 0⟩, ⟨3, 1, .wo, (TCTRL_CLR_FAULT t), 0⟩, ⟨2, 1, .wo, (TCTRL_STEP t), 0⟩, ⟨1, 1, .wo, (TCTRL_HALT t), 0⟩, ⟨0, 1, .wo, (TCTRL_START t), 0⟩]
  else if off = 0x8004 then [⟨20, 12, .ro, (TSTAT_PC t), 0⟩, ⟨16, 4, .rc, (TSTAT_CE t), 0⟩, ⟨15, 1, .ro, (TSTAT_FAULTED t), 0⟩, ⟨14, 1, .w1c, (TSTAT_WERR t), 0⟩, ⟨13, 1, .ro, (TSTAT_RUN t), 0⟩, ⟨12, 1, .ro, (TSTAT_STALL t), 0⟩, ⟨10, 2, .ro, (TSTAT_CAUSE t), 0⟩]
  else if off = 0x8008 then [⟨0, 4, .rw, (TSTART_ROW t), 0⟩]
  else if off = 0x8010 then [⟨28, 4, .ro, (TFAULT0_CODE t), 0⟩, ⟨16, 12, .ro, (TFAULT0_PC t), 0⟩, ⟨0, 8, .ro, (TFAULT0_DETAIL t), 0⟩]
  else if 0x8014 ≤ off ∧ off < 0x8020 ∧ (off - 0x8014) % 0x4 = 0 then
    let k := (off - 0x8014) / 0x4
    [⟨28, 4, .ro, (TFAULTK_REG t k), 0⟩, ⟨24, 4, .ro, (TFAULTK_TYPE t k), 0⟩, ⟨16, 5, .ro, (TFAULTK_ROWS t k), 0⟩, ⟨0, 7, .ro, (TFAULTK_COLB t k), 0⟩]
  else if off = 0x8020 then [⟨0, 32, .ro, (TCYC_CYCLES t), 0⟩]
  else if off = 0x8024 then [⟨0, 32, .ro, (TCYC_CYCLES t), 32⟩]
  else if off = 0x8028 then [⟨2, 1, .w1c, (TEVT_CTX t), 0⟩, ⟨1, 1, .w1c, (TEVT_HALTED t), 0⟩, ⟨0, 1, .w1c, (TEVT_FAULT t), 0⟩]
  else if off = 0x802c then [⟨0, 3, .rw, (TIRQ_EN_EN t), 0⟩]
  else if 0x8040 ≤ off ∧ off < 0x8060 ∧ (off - 0x8040) % 0x4 = 0 then
    let k := (off - 0x8040) / 0x4
    [⟨31, 1, .ro, (TSHAPE_EMPTY t k), 0⟩, ⟨24, 4, .ro, (TSHAPE_TYPE t k), 0⟩, ⟨16, 5, .ro, (TSHAPE_ROWS t k), 0⟩, ⟨0, 7, .ro, (TSHAPE_COLB t k), 0⟩]
  else if off = 0x8060 then [⟨8, 4, .ro, (TACC_EMPTY t), 0⟩, ⟨0, 8, .ro, (TACC_ATYPE t), 0⟩]
  else []

/-- The words of the hq block by offset. -/
def wordsHq (q : Nat) (off : Nat) : List Bitf :=
  if off = 0x0 then [⟨31, 1, .rw, (HQ_CFG_EN q), 0⟩, ⟨30, 1, .ro, (HQ_CFG_FABRIC q), 0⟩, ⟨0, 8, .rw, (HQ_CFG_DEPTH q), 0⟩]
  else if off = 0x4 then [⟨25, 1, .w1c, (HQ_STAT_OVF q), 0⟩, ⟨24, 1, .w1c, (HQ_STAT_UDF q), 0⟩, ⟨19, 5, .ro, (HQ_STAT_WPOP q), 0⟩, ⟨14, 5, .ro, (HQ_STAT_WPUSH q), 0⟩, ⟨0, 9, .ro, (HQ_STAT_LEVEL q), 0⟩]
  else if off = 0x8 then [⟨0, 32, .wo, (HQ_PUSH_HANDLE q), 0⟩]
  else if off = 0xc then [⟨0, 32, .rc, (HQ_POP_HANDLE q), 0⟩]
  else if off = 0x10 then [⟨0, 32, .ro, (HQ_PUSHES_COUNT q), 0⟩]
  else if off = 0x14 then [⟨0, 32, .ro, (HQ_POPS_COUNT q), 0⟩]
  else []

/-- The words of the steep block by offset. -/
def wordsSteep (t : Nat) (st : Nat) (off : Nat) : List Bitf :=
  if off = 0x0 then [⟨6, 12, .rw, (STEEP_CTRL_PBASE t st), 0⟩, ⟨3, 1, .rw, (STEEP_CTRL_IRQ_EN t st), 0⟩, ⟨2, 1, .wo, (STEEP_CTRL_RESUME t st), 0⟩, ⟨1, 1, .wo, (STEEP_CTRL_HALT t st), 0⟩, ⟨0, 1, .wo, (STEEP_CTRL_CLR_FAULT t st), 0⟩]
  else if off = 0x4 then [⟨30, 2, .ro, (STEEP_STAT_STATE t st), 0⟩, ⟨24, 6, .ro, (STEEP_STAT_PC t st), 0⟩, ⟨21, 3, .ro, (STEEP_STAT_LEVEL t st), 0⟩, ⟨20, 1, .w1c, (STEEP_STAT_FEVT t st), 0⟩, ⟨19, 1, .w1c, (STEEP_STAT_DONE t st), 0⟩, ⟨0, 16, .rc, (STEEP_STAT_UE t st), 0⟩]
  else if off = 0x8 then [⟨28, 4, .ro, (STEEP_FAULT_CODE t st), 0⟩, ⟨27, 1, .ro, (STEEP_FAULT_REMOTE t st), 0⟩, ⟨26, 1, .ro, (STEEP_FAULT_WRITE t st), 0⟩, ⟨0, 8, .ro, (STEEP_FAULT_DETAIL t st), 0⟩]
  else if off = 0xc then [⟨0, 6, .wo, (STEEP_START_ENTRY t st), 0⟩]
  else if off = 0x10 then [⟨0, 32, .rw, (STEEP_PARAM_PARAM t st), 0⟩]
  else if off = 0x14 then [⟨31, 1, .rw, (STEEP_DONE_EN t st), 0⟩, ⟨0, 23, .rw, (STEEP_DONE_OBJ t st), 0⟩]
  else if off = 0x18 then [⟨0, 32, .rw, (HPOOL_BASE t st), 0⟩]
  else if off = 0x1c then [⟨24, 5, .rw, (HPOOL_SHIFT t st), 0⟩, ⟨0, 16, .rw, (HPOOL_BASE t st), 32⟩]
  else if 0x20 ≤ off ∧ off < 0x38 ∧ (off - 0x20) % 0x4 = 0 then
    let k := (off - 0x20) / 0x4
    [⟨0, 24, .ro, (STREAM_POS_IDX t st k), 0⟩]
  else if 0x38 ≤ off ∧ off < 0x50 ∧ (off - 0x38) % 0x4 = 0 then
    let k := (off - 0x38) / 0x4
    [⟨0, 24, .ro, (STREAM_POS_REM_REM t st k), 0⟩]
  else if 0x50 ≤ off ∧ off < 0x60 ∧ (off - 0x50) % 0x4 = 0 then
    let k := (off - 0x50) / 0x4
    [⟨0, 32, .ro, (STEEP_H_HANDLE t st k), 0⟩]
  else if 0x80 ≤ off ∧ off < 0xb8 ∧ (off - 0x80) % 0x8 = 0 then
    let k := (off - 0x80) / 0x8
    [⟨0, 32, .rw, (STEEP_B_B t st k), 0⟩]
  else if 0x84 ≤ off ∧ off < 0xbc ∧ (off - 0x84) % 0x8 = 0 then
    let k := (off - 0x84) / 0x8
    [⟨0, 16, .rw, (STEEP_B_B t st k), 32⟩]
  else if off = 0xc0 then [⟨0, 32, .ro, (STEEP_FADDR_ADDR t st), 0⟩]
  else if off = 0xc4 then [⟨0, 16, .ro, (STEEP_FADDR_ADDR t st), 32⟩]
  else if off = 0xc8 then [⟨0, 32, .ro, (STEEP_XFERS_COUNT t st), 0⟩]
  else if off = 0xcc then [⟨0, 32, .ro, (STEEP_XFERS_COUNT t st), 32⟩]
  else []

/-- The words of the so block by offset. -/
def wordsSo (j : Nat) (off : Nat) : List Bitf :=
  if off = 0x0 then [⟨31, 1, .rw, (SO_CFG_EN j), 0⟩, ⟨28, 3, .rw, (SO_CFG_KIND j), 0⟩, ⟨27, 1, .ro, (SO_CFG_WAITING j), 0⟩, ⟨26, 1, .w1c, (SO_CFG_ERR j), 0⟩, ⟨0, 16, .rw, (SO_CFG_PARTIES j), 0⟩]
  else if off = 0x4 then [⟨0, 32, .rw, (SO_VAL_VALUE j), 0⟩]
  else if off = 0x8 then [⟨0, 32, .rw, (SO_VAL_VALUE j), 32⟩]
  else if off = 0xc then [⟨4, 28, .wo, (SO_OP_VALUE j), 0⟩, ⟨0, 4, .wo, (SO_OP_FN j), 0⟩]
  else []

/-- The words of the xdram block by offset. -/
def wordsXdram (off : Nat) : List Bitf :=
  if off = 0x0 then [⟨30, 2, .ro, XDRAM_CFG_GEN, 0⟩, ⟨16, 14, .ro, XDRAM_CFG_RATE, 0⟩, ⟨12, 4, .ro, XDRAM_CFG_POP, 0⟩, ⟨9, 3, .ro, XDRAM_CFG_CAP, 0⟩, ⟨8, 1, .ro, XDRAM_CFG_IECC, 0⟩, ⟨2, 6, .ro, XDRAM_CFG_LINEAR, 0⟩, ⟨1, 1, .ro, XDRAM_CFG_RANKS2, 0⟩]
  else if off = 0x4 then [⟨16, 1, .ro, XDRAM_STAT_STORED, 0⟩, ⟨0, 16, .ro, XDRAM_STAT_CH, 0⟩]
  else if 0x100 ≤ off ∧ off < 0x180 ∧ (off - 0x100) % 0x20 = 0 then
    let c := (off - 0x100) / 0x20
    [⟨31, 1, .ro, (XCH_GUARD_PNR_EN c), 0⟩, ⟨30, 1, .ro, (XCH_GUARD_WIDE c), 0⟩, ⟨26, 4, .ro, (XCH_GUARD_K c), 0⟩, ⟨25, 1, .ro, (XCH_GUARD_THR_EN c), 0⟩, ⟨0, 11, .ro, (XCH_GUARD_ACT_LIMIT c), 0⟩]
  else if 0x104 ≤ off ∧ off < 0x184 ∧ (off - 0x104) % 0x20 = 0 then
    let c := (off - 0x104) / 0x20
    [⟨16, 16, .rc, (XCH_ERR_CE c), 0⟩, ⟨0, 16, .rc, (XCH_ERR_UE c), 0⟩]
  else if 0x108 ≤ off ∧ off < 0x188 ∧ (off - 0x108) % 0x20 = 0 then
    let c := (off - 0x108) / 0x20
    [⟨8, 8, .rc, (XCH_REF_MAXDEBT c), 0⟩, ⟨0, 4, .ro, (XCH_REF_DEBT c), 0⟩]
  else if 0x10c ≤ off ∧ off < 0x18c ∧ (off - 0x10c) % 0x20 = 0 then
    let c := (off - 0x10c) / 0x20
    [⟨0, 32, .rc, (XCH_THR_COUNT c), 0⟩]
  else if 0x110 ≤ off ∧ off < 0x190 ∧ (off - 0x110) % 0x20 = 0 then
    let c := (off - 0x110) / 0x20
    [⟨0, 32, .ro, (XCH_UE_ADDR_ADDR c), 0⟩]
  else if 0x114 ≤ off ∧ off < 0x194 ∧ (off - 0x114) % 0x20 = 0 then
    let c := (off - 0x114) / 0x20
    [⟨31, 1, .ro, (XCH_UE_ADDR_VALID c), 0⟩, ⟨0, 16, .ro, (XCH_UE_ADDR_ADDR c), 32⟩]
  else if 0x118 ≤ off ∧ off < 0x198 ∧ (off - 0x118) % 0x20 = 0 then
    let c := (off - 0x118) / 0x20
    [⟨16, 16, .ro, (XCH_SCRUB_PERIOD c), 0⟩, ⟨0, 16, .ro, (XCH_SCRUB_PASSES c), 0⟩]
  else []

/-- The words of the caddy block by offset. -/
def wordsCaddy (off : Nat) : List Bitf :=
  if off = 0x0 then [⟨30, 2, .ro, CADDY_STAT_STATE, 0⟩, ⟨24, 2, .ro, CADDY_STAT_RATE_X, 0⟩, ⟨0, 8, .ro, CADDY_STAT_FAILED, 0⟩]
  else if off = 0x4 then [⟨0, 32, .rc, CADDY_CE_COUNT, 0⟩]
  else if off = 0x8 then [⟨0, 32, .rc, CADDY_UE_COUNT, 0⟩]
  else if 0x1000 ≤ off ∧ off < 0x2800 ∧ (off - 0x1000) % 0x20 = 0 then
    let c := (off - 0x1000) / 0x20
    [⟨31, 1, .ro, (CCH_GUARD_PNR_EN c), 0⟩, ⟨30, 1, .ro, (CCH_GUARD_WIDE c), 0⟩, ⟨26, 4, .ro, (CCH_GUARD_K c), 0⟩, ⟨25, 1, .ro, (CCH_GUARD_THR_EN c), 0⟩, ⟨0, 11, .ro, (CCH_GUARD_ACT_LIMIT c), 0⟩]
  else if 0x1004 ≤ off ∧ off < 0x2804 ∧ (off - 0x1004) % 0x20 = 0 then
    let c := (off - 0x1004) / 0x20
    [⟨16, 16, .rc, (CCH_ERR_CE c), 0⟩, ⟨0, 16, .rc, (CCH_ERR_UE c), 0⟩]
  else if 0x1008 ≤ off ∧ off < 0x2808 ∧ (off - 0x1008) % 0x20 = 0 then
    let c := (off - 0x1008) / 0x20
    [⟨8, 8, .rc, (CCH_REF_MAXDEBT c), 0⟩, ⟨0, 4, .ro, (CCH_REF_DEBT c), 0⟩]
  else if 0x100c ≤ off ∧ off < 0x280c ∧ (off - 0x100c) % 0x20 = 0 then
    let c := (off - 0x100c) / 0x20
    [⟨0, 32, .rc, (CCH_THR_COUNT c), 0⟩]
  else if 0x1010 ≤ off ∧ off < 0x2810 ∧ (off - 0x1010) % 0x20 = 0 then
    let c := (off - 0x1010) / 0x20
    [⟨0, 32, .ro, (CCH_UE_ADDR_ADDR c), 0⟩]
  else if 0x1014 ≤ off ∧ off < 0x2814 ∧ (off - 0x1014) % 0x20 = 0 then
    let c := (off - 0x1014) / 0x20
    [⟨31, 1, .ro, (CCH_UE_ADDR_VALID c), 0⟩, ⟨0, 16, .ro, (CCH_UE_ADDR_ADDR c), 32⟩]
  else if 0x1018 ≤ off ∧ off < 0x2818 ∧ (off - 0x1018) % 0x20 = 0 then
    let c := (off - 0x1018) / 0x20
    [⟨16, 16, .ro, (CCH_SCRUB_PERIOD c), 0⟩, ⟨0, 16, .ro, (CCH_SCRUB_PASSES c), 0⟩]
  else []

/-- The words of the lane block by offset. -/
def wordsLane (off : Nat) : List Bitf :=
  if off = 0x0 then [⟨8, 1, .ro, LANE_REF_Q6_SEL, 0⟩, ⟨1, 1, .ro, LANE_REF_LREF1_OK, 0⟩, ⟨0, 1, .ro, LANE_REF_LREF0_OK, 0⟩]
  else if 0x10 ≤ off ∧ off < 0x30 ∧ (off - 0x10) % 0x4 = 0 then
    let q := (off - 0x10) / 0x4
    [⟨28, 4, .ro, (QUAD_CFG_OWNER q), 0⟩, ⟨8, 1, .ro, (QUAD_CFG_PLL_LOCK q), 0⟩, ⟨4, 1, .ro, (QUAD_CFG_REF q), 0⟩, ⟨0, 4, .ro, (QUAD_CFG_RATE q), 0⟩]
  else if 0x100 ≤ off ∧ off < 0x900 ∧ (off - 0x100) % 0x40 = 0 then
    let l := (off - 0x100) / 0x40
    [⟨31, 1, .rw, (LN_CTRL_MANUAL l), 0⟩, ⟨30, 1, .wo, (LN_CTRL_SLIP l), 0⟩, ⟨29, 1, .wo, (LN_CTRL_RESTART l), 0⟩, ⟨24, 3, .rw, (LN_CTRL_LB l), 0⟩, ⟨23, 1, .rw, (LN_CTRL_FREEZE l), 0⟩, ⟨22, 1, .rw, (LN_CTRL_TX_INV l), 0⟩, ⟨21, 1, .rw, (LN_CTRL_RX_INV l), 0⟩, ⟨20, 1, .rw, (LN_CTRL_TX_IDLE l), 0⟩]
  else if 0x104 ≤ off ∧ off < 0x904 ∧ (off - 0x104) % 0x40 = 0 then
    let l := (off - 0x104) / 0x40
    [⟨29, 3, .ro, (LN_STAT_STATE l), 0⟩, ⟨28, 1, .ro, (LN_STAT_SIG l), 0⟩, ⟨27, 1, .ro, (LN_STAT_CDR l), 0⟩, ⟨26, 1, .ro, (LN_STAT_MARK l), 0⟩, ⟨25, 1, .ro, (LN_STAT_MARK_INV l), 0⟩, ⟨24, 1, .ro, (LN_STAT_COMMA l), 0⟩, ⟨16, 8, .ro, (LN_STAT_EYEQ l), 0⟩, ⟨10, 6, .ro, (LN_STAT_REM_ID l), 0⟩, ⟨7, 3, .ro, (LN_STAT_REM_PORT l), 0⟩, ⟨5, 2, .ro, (LN_STAT_REM_LANE l), 0⟩, ⟨0, 1, .w1c, (LN_STAT_LOST l), 0⟩]
  else if 0x108 ≤ off ∧ off < 0x908 ∧ (off - 0x108) % 0x40 = 0 then
    let l := (off - 0x108) / 0x40
    [⟨16, 16, .rc, (LN_ERR_CODE l), 0⟩, ⟨0, 16, .rc, (LN_ERR_MARKER l), 0⟩]
  else if 0x10c ≤ off ∧ off < 0x90c ∧ (off - 0x10c) % 0x40 = 0 then
    let l := (off - 0x10c) / 0x40
    [⟨28, 4, .rw, (LN_EQ_CTLE l), 0⟩, ⟨0, 24, .rw, (LN_EQ_DFE l), 0⟩]
  else if 0x110 ≤ off ∧ off < 0x910 ∧ (off - 0x110) % 0x40 = 0 then
    let l := (off - 0x110) / 0x40
    [⟨9, 4, .rw, (LN_TXEQ_PRE l), 0⟩, ⟨4, 5, .rw, (LN_TXEQ_POST l), 0⟩, ⟨0, 4, .rw, (LN_TXEQ_SWING l), 0⟩]
  else if 0x114 ≤ off ∧ off < 0x914 ∧ (off - 0x114) % 0x40 = 0 then
    let l := (off - 0x114) / 0x40
    [⟨31, 1, .ro, (LN_PRBS_CHK_LOCK l), 0⟩, ⟨2, 2, .rw, (LN_PRBS_PAT l), 0⟩, ⟨1, 1, .rw, (LN_PRBS_GEN l), 0⟩, ⟨0, 1, .rw, (LN_PRBS_CHK l), 0⟩]
  else if 0x118 ≤ off ∧ off < 0x918 ∧ (off - 0x118) % 0x40 = 0 then
    let l := (off - 0x118) / 0x40
    [⟨0, 32, .rc, (LN_PRBS_ERR_COUNT l), 0⟩]
  else if 0x11c ≤ off ∧ off < 0x91c ∧ (off - 0x11c) % 0x40 = 0 then
    let l := (off - 0x11c) / 0x40
    [⟨8, 24, .ro, (LN_ALIGN_US l), 0⟩, ⟨0, 6, .ro, (LN_ALIGN_SLIPS l), 0⟩]
  else []

/-- The words of the hlink block by offset. -/
def wordsHlink (off : Nat) : List Bitf :=
  if 0x100 ≤ off ∧ off < 0x2c0 ∧ (off - 0x100) % 0x40 = 0 then
    let p := (off - 0x100) / 0x40
    [⟨31, 1, .rw, (HL_CTRL_ADMIN p), 0⟩, ⟨30, 1, .wo, (HL_CTRL_RETRAIN p), 0⟩, ⟨29, 1, .wo, (HL_CTRL_WAKE p), 0⟩, ⟨16, 8, .rw, (HL_CTRL_TAG_TO p), 0⟩]
  else if 0x104 ≤ off ∧ off < 0x2c4 ∧ (off - 0x104) % 0x40 = 0 then
    let p := (off - 0x104) / 0x40
    [⟨29, 3, .ro, (HL_STAT_STATE p), 0⟩, ⟨26, 3, .ro, (HL_STAT_WIDTH p), 0⟩, ⟨20, 6, .ro, (HL_STAT_PEER_ID p), 0⟩, ⟨17, 3, .ro, (HL_STAT_PEER_PORT p), 0⟩, ⟨8, 9, .ro, (HL_STAT_TAGS p), 0⟩, ⟨1, 1, .ro, (HL_STAT_FAST p), 0⟩, ⟨0, 1, .w1c, (HL_STAT_DOWNED p), 0⟩]
  else if 0x108 ≤ off ∧ off < 0x2c8 ∧ (off - 0x108) % 0x40 = 0 then
    let p := (off - 0x108) / 0x40
    [⟨0, 16, .ro, (HL_EPOCH_EPOCH p), 0⟩]
  else if 0x10c ≤ off ∧ off < 0x2cc ∧ (off - 0x10c) % 0x40 = 0 then
    let p := (off - 0x10c) / 0x40
    [⟨0, 32, .rc, (HL_CRC_COUNT p), 0⟩]
  else if 0x110 ≤ off ∧ off < 0x2d0 ∧ (off - 0x110) % 0x40 = 0 then
    let p := (off - 0x110) / 0x40
    [⟨16, 16, .rc, (HL_REPLAY_NAKS p), 0⟩, ⟨0, 16, .rc, (HL_REPLAY_ROUNDS p), 0⟩]
  else if 0x114 ≤ off ∧ off < 0x2d4 ∧ (off - 0x114) % 0x40 = 0 then
    let p := (off - 0x114) / 0x40
    [⟨16, 16, .ro, (HL_DOWNS_ATTEMPTS p), 0⟩, ⟨0, 16, .ro, (HL_DOWNS_DOWNS p), 0⟩]
  else if 0x118 ≤ off ∧ off < 0x2d8 ∧ (off - 0x118) % 0x40 = 0 then
    let p := (off - 0x118) / 0x40
    [⟨16, 16, .rc, (HL_STALE_TAG_TO p), 0⟩, ⟨0, 16, .rc, (HL_STALE_STALE p), 0⟩]
  else if 0x11c ≤ off ∧ off < 0x2dc ∧ (off - 0x11c) % 0x40 = 0 then
    let p := (off - 0x11c) / 0x40
    [⟨0, 3, .ro, (HL_DOWN_WHY_REASON p), 0⟩]
  else if 0x120 ≤ off ∧ off < 0x2e0 ∧ (off - 0x120) % 0x40 = 0 then
    let p := (off - 0x120) / 0x40
    [⟨0, 32, .ro, (HL_TXFLITS_COUNT p), 0⟩]
  else if 0x124 ≤ off ∧ off < 0x2e4 ∧ (off - 0x124) % 0x40 = 0 then
    let p := (off - 0x124) / 0x40
    [⟨0, 32, .ro, (HL_TXFLITS_COUNT p), 32⟩]
  else if 0x128 ≤ off ∧ off < 0x2e8 ∧ (off - 0x128) % 0x40 = 0 then
    let p := (off - 0x128) / 0x40
    [⟨0, 32, .ro, (HL_RXFLITS_COUNT p), 0⟩]
  else if 0x12c ≤ off ∧ off < 0x2ec ∧ (off - 0x12c) % 0x40 = 0 then
    let p := (off - 0x12c) / 0x40
    [⟨0, 32, .ro, (HL_RXFLITS_COUNT p), 32⟩]
  else []

/-- The words of the ens block by offset. -/
def wordsEns (off : Nat) : List Bitf :=
  if off = 0x0 then [⟨28, 4, .ro, ENS_STAT_STATE, 0⟩, ⟨27, 1, .ro, ENS_STAT_QUORUM, 0⟩, ⟨26, 1, .ro, ENS_STAT_FORCED, 0⟩, ⟨25, 1, .ro, ENS_STAT_STEWARD, 0⟩, ⟨24, 1, .ro, ENS_STAT_TIME_UNSURE, 0⟩, ⟨16, 6, .ro, ENS_STAT_LEADER, 0⟩, ⟨8, 8, .ro, ENS_STAT_ACTIVE, 0⟩, ⟨0, 6, .ro, ENS_STAT_ID, 0⟩]
  else if off = 0x4 then [⟨16, 8, .ro, ENS_SHAPE_N, 0⟩, ⟨12, 4, .ro, ENS_SHAPE_X, 0⟩, ⟨8, 4, .ro, ENS_SHAPE_Y, 0⟩, ⟨4, 4, .ro, ENS_SHAPE_Z, 0⟩]
  else if off = 0x8 then [⟨0, 4, .ro, ENS_REASON_REASON, 0⟩]
  else if off = 0xc then [⟨0, 32, .rc, ENS_BADTAG_COUNT, 0⟩]
  else if off = 0x10 then [⟨0, 32, .ro, ENS_EPOCH_EPOCH, 0⟩]
  else if off = 0x14 then [⟨0, 32, .ro, ENS_EPOCH_EPOCH, 32⟩]
  else if off = 0x18 then [⟨0, 32, .ro, ENS_ACTIVE_SET, 0⟩]
  else if off = 0x1c then [⟨0, 32, .ro, ENS_ACTIVE_SET, 32⟩]
  else if off = 0x20 then [⟨0, 32, .ro, ENS_HEARD_SET, 0⟩]
  else if off = 0x24 then [⟨0, 32, .ro, ENS_HEARD_SET, 32⟩]
  else if off = 0x28 then [⟨0, 32, .ro, ENS_COMMITS_COUNT, 0⟩]
  else []

/-- The words of the time block by offset. -/
def wordsTime (off : Nat) : List Bitf :=
  if off = 0x0 then [⟨0, 16, .ro, TOD0_FRAC, 0⟩]
  else if off = 0x4 then [⟨0, 32, .ro, TOD1_NS, 0⟩]
  else if off = 0x8 then [⟨0, 32, .ro, TOD2_SEC, 0⟩]
  else if off = 0xc then [⟨0, 16, .ro, TOD2_SEC, 32⟩]
  else if off = 0x10 then [⟨30, 2, .ro, TIME_STAT_SRC_ACT, 0⟩, ⟨29, 1, .ro, TIME_STAT_LOCKED, 0⟩, ⟨28, 1, .ro, TIME_STAT_HOLDOVER, 0⟩, ⟨27, 1, .ro, TIME_STAT_TIME_UNSURE, 0⟩, ⟨26, 1, .ro, TIME_STAT_SET, 0⟩, ⟨25, 1, .ro, TIME_STAT_XTAL, 0⟩, ⟨24, 1, .ro, TIME_STAT_RC, 0⟩]
  else if off = 0x14 then [⟨0, 32, .ro, TIME_RATE_RATE, 0⟩]
  else if off = 0x18 then [⟨0, 32, .ro, TIME_OFFSET_OFFSET, 0⟩]
  else if off = 0x1c then [⟨0, 32, .ro, TIME_UNCERT_US, 0⟩]
  else if off = 0x20 then [⟨0, 16, .ro, TIME_UTC_UTC, 0⟩]
  else if off = 0x30 then [⟨31, 1, .ro, ALM0_EN, 0⟩]
  else if off = 0x34 then [⟨0, 32, .ro, ALM1_NS, 0⟩]
  else if off = 0x38 then [⟨0, 32, .ro, ALM2_SEC, 0⟩]
  else if off = 0x3c then [⟨16, 16, .ro, ALM_PERIOD_SEC_HI, 0⟩, ⟨0, 16, .ro, ALM_PERIOD_PERIOD, 0⟩]
  else if off = 0x40 then [⟨4, 1, .w1c, TIME_EVT_UNSURE, 0⟩, ⟨3, 1, .w1c, TIME_EVT_STEP, 0⟩, ⟨2, 1, .w1c, TIME_EVT_LOCK, 0⟩, ⟨1, 1, .w1c, TIME_EVT_HOLD, 0⟩, ⟨0, 1, .w1c, TIME_EVT_ALARM, 0⟩]
  else if off = 0x44 then [⟨0, 5, .rw, TIME_IRQ_EN_EN, 0⟩]
  else if 0x100 ≤ off ∧ off < 0x200 ∧ (off - 0x100) % 0x10 = 0 then
    let c := (off - 0x100) / 0x10
    [⟨31, 1, .rc, (TCAP_NEW c), 0⟩, ⟨30, 1, .rc, (TCAP_OVR c), 0⟩, ⟨29, 1, .ro, (TCAP_HOLD c), 0⟩, ⟨0, 16, .ro, (TCAP_FRAC c), 0⟩]
  else if 0x104 ≤ off ∧ off < 0x204 ∧ (off - 0x104) % 0x10 = 0 then
    let c := (off - 0x104) / 0x10
    [⟨0, 32, .ro, (TCAP_NS c), 0⟩]
  else if 0x108 ≤ off ∧ off < 0x208 ∧ (off - 0x108) % 0x10 = 0 then
    let c := (off - 0x108) / 0x10
    [⟨0, 32, .ro, (TCAP_SEC c), 0⟩]
  else if 0x10c ≤ off ∧ off < 0x20c ∧ (off - 0x10c) % 0x10 = 0 then
    let c := (off - 0x10c) / 0x10
    [⟨0, 16, .ro, (TCAP_SEC c), 32⟩]
  else if 0x200 ≤ off ∧ off < 0x240 ∧ (off - 0x200) % 0x10 = 0 then
    let c := (off - 0x200) / 0x10
    [⟨31, 1, .rc, (CSI_FS_NEW c), 0⟩, ⟨30, 1, .rc, (CSI_FS_OVR c), 0⟩, ⟨29, 1, .ro, (CSI_FS_HOLD c), 0⟩, ⟨0, 16, .ro, (CSI_FS_FRAC c), 0⟩]
  else if 0x204 ≤ off ∧ off < 0x244 ∧ (off - 0x204) % 0x10 = 0 then
    let c := (off - 0x204) / 0x10
    [⟨0, 32, .ro, (CSI_FS_NS c), 0⟩]
  else if 0x208 ≤ off ∧ off < 0x248 ∧ (off - 0x208) % 0x10 = 0 then
    let c := (off - 0x208) / 0x10
    [⟨0, 32, .ro, (CSI_FS_SEC c), 0⟩]
  else if 0x20c ≤ off ∧ off < 0x24c ∧ (off - 0x20c) % 0x10 = 0 then
    let c := (off - 0x20c) / 0x10
    [⟨0, 16, .ro, (CSI_FS_SEC c), 32⟩]
  else []

/-- The words of the bist block by offset. -/
def wordsBist (off : Nat) : List Bitf :=
  if off = 0x0 then [⟨30, 2, .ro, BIST_STAT_STATE, 0⟩, ⟨26, 4, .ro, BIST_STAT_TEST, 0⟩, ⟨0, 8, .ro, BIST_STAT_PCT, 0⟩]
  else if off = 0x4 then [⟨0, 32, .ro, BIST_RUNS_COUNT, 0⟩]
  else if 0x100 ≤ off ∧ off < 0x140 ∧ (off - 0x100) % 0x4 = 0 then
    let k := (off - 0x100) / 0x4
    [⟨0, 32, .ro, (BIST_REC_REC k), 0⟩]
  else []

/-- The words of the log block by offset. -/
def wordsLog (off : Nat) : List Bitf :=
  if off = 0x0 then [⟨31, 1, .ro, LOG_STAT_PFAULT, 0⟩, ⟨30, 1, .w1c, LOG_STAT_PTHR, 0⟩, ⟨29, 1, .w1c, LOG_STAT_DROP, 0⟩, ⟨0, 12, .ro, LOG_STAT_COUNT, 0⟩]
  else if off = 0x4 then [⟨0, 32, .ro, LOG_HEAD_SEQ, 0⟩]
  else if off = 0x8 then [⟨0, 32, .ro, LOG_TAIL_SEQ, 0⟩]
  else if off = 0xc then [⟨0, 32, .ro, LOG_PHEAD_SEQ, 0⟩]
  else if off = 0x10 then [⟨0, 32, .ro, LOG_PTAIL_SEQ, 0⟩]
  else if off = 0x14 then [⟨0, 32, .rc, LOG_DROPS_COUNT, 0⟩]
  else if off = 0x18 then [⟨0, 32, .ro, LOG_TORN_COUNT, 0⟩]
  else if off = 0x1c then [⟨4, 1, .ro, LOG_CFG_MATCH_P, 0⟩, ⟨3, 1, .ro, LOG_CFG_MATCH_EN, 0⟩, ⟨0, 3, .ro, LOG_CFG_PSEV, 0⟩]
  else if off = 0x20 then [⟨1, 1, .w1c, LOG_EVT_ALERT, 0⟩, ⟨0, 1, .w1c, LOG_EVT_NEW, 0⟩]
  else if off = 0x24 then [⟨4, 3, .rw, LOG_IRQ_EN_SEV, 0⟩, ⟨0, 2, .rw, LOG_IRQ_EN_EN, 0⟩]
  else if off = 0x28 then [⟨0, 32, .rw, LOG_SEL_SEQ, 0⟩]
  else if 0x40 ≤ off ∧ off < 0x60 ∧ (off - 0x40) % 0x4 = 0 then
    let k := (off - 0x40) / 0x4
    [⟨0, 32, .ro, (LOG_DATA_ENTRY k), 0⟩]
  else []

/-- The layout of the CSR word at `a`, empty where no register is defined (R396; Table IDX-3). -/
def csrWord (a : Nat) : List Bitf :=
  if a < 0x10000 then wordsSys a
  else if a < 0x20000 then wordsPwr (a - 0x10000)
  else if a < 0x30000 then wordsCast (a - 0x20000)
  else if a < 0x40000 then []
  else if a < 0x50000 then wordsXdram (a - 0x40000)
  else if a < 0x60000 then wordsCaddy (a - 0x50000)
  else if a < 0x70000 then wordsLane (a - 0x60000)
  else if a < 0x80000 then wordsHlink (a - 0x70000)
  else if a < 0x90000 then wordsEns (a - 0x80000)
  else if a < 0xA0000 then wordsTime (a - 0x90000)
  else if a < 0xB0000 then wordsVault (a - 0xA0000)
  else if a < 0xC0000 then wordsHmi (a - 0xB0000)
  else if a < 0xD0000 then wordsBist (a - 0xC0000)
  else if a < 0xE0000 then wordsLog (a - 0xD0000)
  else if a < 0x01000000 then []
  else if a < 0x01C00000 then
    let t := (a - 0x01000000) / 0x10000
    let off := a % 0x10000
    if off < 0xA000 then wordsTile t off
    else if off < 0xC000 then wordsSteep t ((off - 0xA000) / 0x1000) (off % 0x1000)
    else []
  else if a < 0x01F00000 ∧ (a - 0x01C00000) / 0x8000 < 96 then
    wordsEng ((a - 0x01C00000) / 0x8000) ((a - 0x01C00000) % 0x8000)
  else if 0x02000000 ≤ a ∧ a < 0x02200000 then wordsSo ((a - 0x02000000) / 0x10) (a % 0x10)
  else if 0x03000000 ≤ a ∧ a < 0x03010000 then wordsHq ((a - 0x03000000) / 0x40) (a % 0x40)
  else []

/-- The fields that live in the kettle NVM, kept through OFF ("From NVM" in the register tables). -/
def nvmFields : List Fld :=
  [TMP_STAT_COUNT, VLT_WEAR_MAX_ERASE, CKEY_STAT_PRESENT, CAST_POLICY_SIGNERS, CAST_POLICY_REQUIRE_ENCRYPTED, CAST_POLICY_REQUIRE_SIGNED, XDRAM_CFG_GEN, XDRAM_CFG_RATE, XDRAM_CFG_POP, XDRAM_CFG_CAP, XDRAM_CFG_IECC, XDRAM_CFG_LINEAR, XDRAM_CFG_RANKS2, XDRAM_STAT_STORED, BUD_CAP_IN_MGR, BUD_CFG_SPLIT, BUD_CFG_AUTO_RESTART, THERM_TRIPS_COUNT, BIST_RUNS_COUNT, LOG_HEAD_SEQ, LOG_TAIL_SEQ, LOG_PHEAD_SEQ, LOG_PTAIL_SEQ]

end Sys2Proof.Machine
end

