-- ==== Sys2Proof/Machine/Parts.lean ====
section
/-! DEFINITION. The state of the M7's units beside the register fields: queues, records, counters, modes, NVM contents,
chapter by chapter. Register fields themselves live in the register table of `State`. -/

namespace Sys2Proof.Machine

/-! ### Command packets (chapter 2) -/

/-- The record of one accepted SEQ (R34): the request's CRC and the reply sent, and whether its operation still runs. -/
structure Record where
  seq : Nat
  crc : Nat
  opcode : Nat
  reply : Packet
  running : Bool
deriving DecidableEq, Repr
/-- A chain being received (R38): its opcode, the SEQ that continues it, the next index and the payloads so far.
`dead` marks an abandoned chain (R39). -/
structure Chain where
  opcode : Nat
  next : Nat
  index : Nat
  data : List Byte
  dead : Bool
deriving DecidableEq, Repr
/-- A stream (R33, R34): the SEQ accepted last, at most 16 records with the newest first, and the chain. -/
structure Stream where
  id : StreamId
  last : Option Nat
  recs : List Record
  chain : Option Chain
deriving DecidableEq, Repr
/-- An open session (R46, R49, R50): its number, role and key, whether SEQ 0 has been accepted, the SEQ accepted last on any of its
transports, the count of consecutive failed tags, and the instant of the last verified packet. -/
structure Session where
  num : Nat
  role : Nat
  key : List Byte
  started : Bool
  last : Nat
  fails : Nat
  verified : Nat
deriving DecidableEq, Repr
/-- An operation still running: the request it will answer. A long one has answered PENDING (R40, R41); a `late` one is a command
whose single reply waits for a response from elsewhere; of a `silent` one a mailbox reset has discarded the reply (Table CMD-5). -/
structure LongOp where
  req : Packet
  auth : Bool
  late : Bool
  silent : Bool
deriving DecidableEq, Repr
/-- An answer on the management port beside command replies: MCTP control responses and the in-band interrupt (R55). -/
inductive MctpOut where
  | setEid (status : Nat) (eid : Byte)
  | getEid (eid : Byte)
  | versions (msgType : Byte) (status : Nat) (list : List Nat)
  | types (list : List Byte)
  | ibi
deriving DecidableEq, Repr
/-- The command path: streams, sessions, root keys (NVM), mailbox rings, SPI buffers, management port. -/
structure CmdUnit where
  streams : List Stream
  sessions : List Session
  longOps : List LongOp
  /-- Root keys of host and manager in kettle NVM (R45), empty while blank. -/
  hostKey : List Byte
  mgrKey : List Byte
  /-- The ensemble key in kettle NVM (R45), the key of the peer role, empty while blank. -/
  ensKey : List Byte
  /-- Requests placed in the ring and not yet copied out, oldest first. -/
  mbxReq : List Packet
  /-- The reply slots that hold a reply the host has not consumed, and the replies that wait for a slot (R52). -/
  mbxRing : List Packet
  mbxWait : List Packet
  /-- Two SPI request buffers, eight reply buffers, replies that wait for one, the ERR bit (R53, R54). -/
  spiReq : List Packet
  spiRpl : List Packet
  spiWait : List Packet
  spiErr : Bool
  /-- Transports that have had a packet taken in this turn (R62). -/
  served : List Nat
  /-- Replies handed to the management port, to the link by source device, and to the fabric command ports. -/
  mgmtOut : List Packet
  peerOut : List Packet
  /-- Peer requests assembled from CMD packets and not yet taken (R56). -/
  peerIn : List Packet
  fabOut : List Packet
  /-- Replies that wait at a frozen fabric command port (R203). -/
  fabHeld : List Packet
  /-- Transmission units sent on the management port, each reply as one MCTP message (R55). -/
  mgmtWire : List (List Byte)
  eid : Byte
  i3cAddr : Option (BitVec 7)
  mctpOut : List MctpOut
  /-- What the last SPI READ_REPLY and READ_STATUS sent. -/
  spiOut : List Byte
deriving DecidableEq, Repr

/-! ### The event log (chapter 24) -/

/-- A log entry before the kettle numbers it: code, severity, FLAGS, time, SRC and DATA. -/
structure LogSub where
  code : Nat
  sev : Nat
  flags : Nat
  ns : Nat
  sec : Nat
  src : Nat
  data : List Byte
deriving DecidableEq, Repr
/-- A log entry of the ring or of the persistent log (Table FLT-2). -/
structure LogEntry where
  seq : Nat
  sub : LogSub
deriving DecidableEq, Repr
/-- A sector of the persistent log (R605): its erase count, its programmed slots, `none` for a slot that is skipped, and whether it is retired
(R607). -/
structure LogSector where
  erases : Nat
  slots : List (Option LogEntry)
  retired : Bool
deriving DecidableEq, Repr
/-- The log: input queue, ring, persistent sectors oldest first, the erase counts of the erased ones in the order of their use, rate limit and
reservations. -/
structure LogUnit where
  inQ : List LogSub
  ring : List LogEntry
  sectors : List LogSector
  spare : List Nat
  /-- Entries accepted for the persistent log and not yet programmed (R601). -/
  toPersist : List LogEntry
  /-- The reservation record (R602, KIND 0x1101). -/
  reserved : Nat
  /-- Tokens of the rate limit of R606, in nanosecond-weighted units, and the instant they were last filled. -/
  tokens : Nat
  filledAt : Nat
  /-- Entries dropped since LOG_LOST last told of them (R603). -/
  lost : Nat
  /-- The erase intent in NVM (R664, KIND 0x1102), with the role that asked. -/
  eraseIntent : Option Nat
  /-- Instants of the LOG_WRITEs from the fabric in the last second (R613). -/
  fabWrites : List Nat
  /-- Slots of the newest sector that have failed their verify (R607). -/
  slotFails : Nat
deriving DecidableEq, Repr

/-! ### Time of day (chapter 21) -/

/-- The NVM record of time settings (R663) in the units of TIME_SOURCE and TIME_PTP_CONFIG. -/
structure TimeCfg where
  src : Nat
  t0 : Nat
  beta : Nat
  driftRef : Nat
  driftXtal : Nat
  domain : Nat
  flags : Nat
  logPdelay : Nat
  ipv4 : Nat
deriving DecidableEq, Repr
/-- A timestamp of a PTP event message (R541): the MAC, whether it left rather than came, the counter at the message timestamp point in counter
units, and whether it was taken in holdover (R545). -/
structure MacStamp where
  mac : Nat
  egress : Bool
  tod : Nat
  hold : Bool
deriving DecidableEq, Repr
/-- The time unit: the counter in units of 2^-40 ns (R534), the elapsed time since boot in the same unit, the servo's
RATE, the slew not yet removed, the crystal's learned offset (NVM) and temperature term, the consecutive good
measurements, whether the first PTP offset has been taken, the seconds the alarm was set to, the settings (NVM), the PTP
settings in force, the part of a microsecond of uncertainty not yet counted, the TOD_PPS ball, the last TIME_SYNC response. -/
structure TimeUnit where
  tod : Nat
  up : Nat
  servo : Int
  slew : Int
  learned : Int
  /-- The counter has been LOCKED since the learned offset was stored last (R544). -/
  fresh : Bool
  comp : Int
  good : Nat
  firstDone : Bool
  alarmBase : Nat
  cfg : TimeCfg
  ptpLive : TimeCfg
  uncertFrac : Nat
  pps : Bool
  syncResp : List Byte
  /-- The timestamp queues of the MACs, which only the firmware reads (R541). -/
  macStamps : List MacStamp
deriving DecidableEq, Repr

/-! ### The kettle domain (chapter 3) -/

/-- Whether the kettle runs: OFF (R69), refused boot (R655), thermal-off (R571), running. -/
inductive Kettle where
  | off | noBoot | thermalOff | on
deriving DecidableEq, Repr
/-- The stage of a running entry or exit sequence (R71, R77, R78, R82, R83). -/
inductive Stage where
  | none
  /-- Entry to DOZE or SLEEP: quiescing, then the save or SLEEP preparation. -/
  | quiesce | prepare
  /-- Exit: waiting for the reference, for the plinth rails, the plinth PLL, the fabric rails, the caddy PLL, the fabric
  PLLs, the restore, the cast. -/
  | ref | railsBL | pllN | railsFC | pllC | pllF | restore | cast
deriving DecidableEq, Repr
/-- The power unit: sequence state, enables, rails up, the entry's request, the save area. -/
structure PwrUnit where
  kettle : Kettle
  stage : Stage
  /-- The exit comes from DOZE. -/
  fromDoze : Bool
  /-- FORCE and the request of a running entry (R77). -/
  force : Bool
  req : Option Packet
  entryAuto : Bool
  enB : Bool
  enF : Bool
  enC : Bool
  enL : Bool
  upB : Bool
  upF : Bool
  upC : Bool
  upL : Bool
  /-- The reference start or a PLL has failed once in this sequence (R71, R87). -/
  retried : Bool
  /-- Sources latched while a move from DOZE to SLEEP runs (R90): the exit that follows it takes the first. -/
  wakeAfter : Option Nat
  /-- Tiles that the running or last entry halted (R77), which its abort or the restore releases (R83, R86). -/
  halted : List Nat
  /-- Engines that the running entry halted (R273), which its abort releases. -/
  haltedEng : List Nat
  /-- VIO_AO supplied at 3.3 V (R616). -/
  vio33 : Bool
  /-- The save area key in plinth retention (R76), and the generation of the save the pillars hold. -/
  saveKey : Bool
  saveGen : Option Nat
  /-- FORCE abandoned a load at entry: the exit casts from the CFG_MODE source (R189). -/
  castAfter : Bool
  /-- RESET_N is low, or a supply monitor has tripped (R69, R636); a tamper event in thermal-off waits for the restart (R572). -/
  resetLow : Bool
  supplyTrip : Bool
  tampered : Bool
  /-- Instant of the wake that started the exit, and whether a failed restore preceded it. -/
  wakeAt : Nat
  failedRestore : Bool
  /-- PWR_DOZE_CFG as the last entry to DOZE took it (R85). -/
  doze : Nat
  /-- REFCLK_REQ is low since this instant, to rise again after 10 ms (R87). -/
  refLow : Option Nat
deriving DecidableEq, Repr

/-! ### The door side (chapter 4) -/

/-- What a lamp channel does beside its register fields (R96–R105). -/
structure Lamp where
  /-- Range switch pending at the end of the ramp (R103): the soft start to follow is a fresh one. -/
  toRange : Option Bool
  fresh : Bool
  /-- The range the output runs in now. -/
  range : Bool
  /-- The setpoint the output runs at or ramps to. -/
  target : Nat
  /-- The current in µA and the instant at which the soft start or the ramp began. -/
  start : Nat
  since : Nat
  /-- The pair's other channel has been shorted inside the inrush window, and the window has been extended once by a rail dip (R101). -/
  near : Bool
  extended : Bool
  /-- Where the extended window ends. -/
  until_ : Nat
  /-- A retry has come due while the gate was off (R98). -/
  due : Bool
deriving DecidableEq, Repr
/-- What a touch channel does beside its register fields (R107, R108). -/
structure Touch where
  scans : Nat
  sum : Nat
  above : Nat
deriving DecidableEq, Repr
/-- The door unit: lamps, gates, touch, keypad, plugs, tamper. -/
structure DoorUnit where
  lamps : List Lamp
  /-- LGATE7–0 as the cast drives them, and the region (REGION_MASK bit) whose logic drives each. -/
  lgate : Nat
  lgateRegion : List Nat
  /-- Rails tripped (PHASE 5) and in the restart wait (PHASE 6), one bit per rail. -/
  railTrip : Nat
  railWait : Nat
  touch : List Touch
  /-- Per key: the consecutive milliseconds its new level has read stable. -/
  keyStable : List Nat
  keyScan : Bool
  keyFifo : List Nat
  keyMs : Nat
deriving DecidableEq, Repr

/-! ### Addressing (chapter 16) -/

/-- The shadow of one wide value for one requester (R399, R400): its low address, its words, which of them are fresh. -/
structure Shadow where
  req : Requester
  addr : Nat
  words : List Nat
  fresh : List Bool
deriving DecidableEq, Repr
/-- A word of a wide value held by a requester until the highest word is written (R401). -/
structure Held where
  req : Requester
  addr : Nat
  word : Nat
deriving DecidableEq, Repr
/-- An entry of a tile's translation cache (R408): a leaf by ASID and page. -/
structure XlatEnt where
  asid : Nat
  va : Nat
  big : Bool
  pa : Nat
  r : Bool
  w : Bool
deriving DecidableEq, Repr
/-- A walk queued at the translation units (R408): whose, the virtual address, ASID and base, and the side that needs it. -/
structure XlatWalk where
  t : Nat
  st : Nat
  va : Nat
  asid : Nat
  base : Nat
  dst : Bool
deriving DecidableEq, Repr
/-- An XLAT_INVALIDATE or XLAT_SET_BASE whose reply waits for the transfers issued under what it dropped (R409). -/
structure XlatInval where
  req : Packet
  waits : List Nat
  results : List Byte
deriving DecidableEq, Repr

/-- The addressing unit. -/
structure AddrUnit where
  shadows : List Shadow
  held : List Held
  /-- Requesters whose SYS_STALE.STALE is set. -/
  stale : List Requester
  /-- What the last CSR read returned to its requester. -/
  readData : Nat
  xlatBase : Nat
  walks : Nat
  misses : Nat
  xfaults : Nat
  malformed : Nat
  /-- Per tile, oldest first. -/
  caches : Tab (List XlatEnt)
  /-- What the last BAR4 access completed with: status 0 done, 1 Unsupported Request, the EP bit, and the data. -/
  bar4 : Nat × Bool × List Byte
  /-- Walks queued, oldest first, and invalidations whose reply waits. -/
  walkQ : List XlatWalk
  invals : List XlatInval
deriving DecidableEq, Repr

/-! ### Budget and thermal (chapter 22) -/

/-- The budget unit: the tray limit in force (its source code, 0 none, and its value in 100 mW units), whether BRAKE has a
TIMEOUT, estimates of the last 10 ms in mW (newest first) at the present steps and at step 15, the failed sensors, the periods for
which a die at limit 0 has read 115 °C or more, the dies in cap hold for heat, the on fraction, whether THERM_PEAK has caught a
reading since it was read, and a thermal trip with its sensor, reading and instant. -/
structure BudUnit where
  traySrc : Nat
  trayLim : Nat
  timed : Bool
  powers : List Nat
  demands : List Nat
  failed : List Nat
  hot : List Nat
  hotHold : List Bool
  onFraction : Nat
  peaked : Bool
  trip : Option (Nat × Int × Nat)
  deferral : Nat
deriving DecidableEq, Repr

/-! ### The kettle NVM (chapter 5) -/

/-- The configuration and key records of the NVM (R122): root keys, ensemble key and cast key; signer hashes with the cast policy; the
join descriptor; training results; the XDRAM configuration; time settings; what the crystal has been learned as; the manager cap; the
budget configuration; the tamper, trip and self-test counts; the log's reservation and erase intent; the vault's header, policy and wipe
intent; and the boot pointer, which stands in flash (R179). -/
inductive Rec where
  | hostKey | mgrKey | ensKey | castKey | castPolicy | joinDesc | training | xdramCfg | timeCfg | crystal | cap | budCfg | tamperCount
  | trips | bistRuns | logReserve | logErase | vaultHeader | vaultPolicy | wipeIntent | bootPtr
deriving DecidableEq, Repr
/-- A record copy: SEQ, body, and whether its CRC passes. -/
structure RecCopy where
  seq : Nat
  body : List Byte
  good : Bool
deriving DecidableEq, Repr
/-- A record's sectors A and B, none while erased. -/
structure RecPair where
  a : Option RecCopy
  b : Option RecCopy
deriving DecidableEq, Repr
/-- The records by their number, and the one written last with its instant. -/
structure NvmUnit where
  recs : Tab RecPair
  last : Option (Rec × Nat)
deriving DecidableEq, Repr

/-! ### Memory (chapter 17) -/

/-- What fills the mode of a training that runs (R430, R432): a full one asked for, or a restart from stored results. -/
inductive Training where
  | none | full | restart
deriving DecidableEq, Repr
/-- A requester of a memory controller (R439): the units that throttling tells apart. -/
inductive MemReq where
  | tile (t : Nat) | bulk (g : Nat) | walk (u : Nat) | pcie | csi (r : Nat)
  /-- The requesters beyond the fifteenth of a channel, which share a counter (R439). -/
  | rest
deriving DecidableEq, Repr
/-- The memory unit. A generation names contents that were lost (0: zeroed): what nothing has written since reads as a free value of
it (the caddy's by die). The micro-channels held off, the XDRAM_CFG word in force, the training that runs with its STORE flag and whether a command asked,
the training results in force and in NVM, MR4 per channel, open rows per bank (key channel × 32 + bank, row + 1) with the instant of the last
access to each, the activates issued, the neighbour refreshes owed (channel, bank and rows, none for an RFM command; R438), the segments
whose check blocks each external channel caches, newest first (R429), activate counts
in the running window (channel, requester, bank, count), requests waiting for its end, the instant of the last MEM_THROTTLE per
channel, and whether the dropped ring write of this DOZE has been logged. -/
structure MemUnit where
  caddyGen : Nat × Nat
  xdramGen : Nat
  storeGen : Nat
  held : List Nat
  live : Nat
  training : Training
  store : Bool
  results : List (List Byte)
  stored : List (List Byte)
  mr4 : List Nat
  rows : Tab Nat
  rowAt : Tab Nat
  acted : Nat
  owed : List (Nat × Nat × List Nat)
  segs : Tab (List Nat)
  acts : List (Nat × MemReq × Nat × Nat)
  waits : List (Nat × MemReq × Nat)
  throttleAt : Tab Nat
  dozeDrop : Bool
  /-- Micro-channels that a self-test holds off (R590). -/
  bad : List Nat
deriving DecidableEq, Repr

/-! ### The vault (chapter 5) -/

/-- An occupied slot: its metadata and vector in clear (what R131's ciphertext holds), its descriptor position and vector block. -/
structure Template where
  mdata : List Byte
  vec : List Byte
  desc : Nat
  block : Nat
deriving DecidableEq, Repr
/-- A programmed descriptor (Table VLT-3): its header, the metadata that its ciphertext holds, the VGEN of the key it is encrypted under,
whether its CRC passes, and whether it is live (R126, R128). -/
structure VDesc where
  slot : Nat
  seq : Nat
  kind : Nat
  block : Nat
  mdata : List Byte
  gen : Nat
  good : Bool
  live : Bool
deriving DecidableEq, Repr
/-- A programmed vector block: the slot and SEQ under which its ciphertext was written, the vector that it holds, and whether it is live. -/
structure VBlock where
  slot : Nat
  seq : Nat
  vec : List Byte
  live : Bool
deriving DecidableEq, Repr
/-- Whose commit it is: an enrolment's, an erasure's, an import's (with the OP_ID and source it marked). -/
inductive VWho where
  | enrol (req : Packet)
  | erase (req : Packet)
  | imp (req : Packet) (src opid : Nat)
deriving DecidableEq, Repr
/-- A commit that waits for the NVM or is being programmed: the slot, KIND, REPLACE (none where occupancy does not matter), the first
twelve bytes of the metadata, USER, the vector. -/
structure VCommit where
  slot : Nat
  kind : Nat
  replace : Option Bool
  head : List Byte
  user : List Byte
  vec : List Byte
  who : VWho
deriving DecidableEq, Repr
/-- An armed capture (R134). -/
structure VCapture where
  req : Packet
  tag : Nat
  slot : Nat
  replace : Bool
  head : List Byte
  user : List Byte
deriving DecidableEq, Repr
/-- An erasure that runs: its slots, how many tombstones it has committed, how many it still awaits, SCRUB. -/
structure VErase where
  req : Packet
  slots : List Nat
  done : Nat
  left : Nat
  scrub : Bool
deriving DecidableEq, Repr
/-- A submitted query: the tile, the descriptor row, the vector (none where a row lacks), its place in submission order. -/
structure Query where
  tile : Nat
  desc : List Byte
  vec : Option (List Byte)
  order : Nat
deriving DecidableEq, Repr
/-- A sealed port: assembly buffers by tile with the rows written so far, and the queries queued. -/
structure VPort where
  bufs : Tab (Tab (List Byte))
  queue : List Query
deriving DecidableEq, Repr
/-- The vault: seed (empty once a wipe has erased it) and VGEN as its header record gives them, the last SEQ, a programmed wipe intent,
the instant of a tamper event whose wipe is not complete, descriptors and vector blocks programmed, positions retired, occupied slots,
erase counts; whether the vault key stands in its register, no further SEQ or space, the SEQ of the
log entry that told of it, old sectors to erase after a wipe, the match buffer filled, commits (the first is being programmed), the armed
capture, erasures, exports with their destination and the slot and OP_ID of each import sent, the OP_IDs of imports that ended in
LINK_LOST by destination and slot, the export sequence, the ports, the submission count. -/
structure VaultUnit where
  seed : List Byte
  vgen : Nat
  seq : Nat
  intent : Bool
  wipeAt : Option Nat
  descs : Tab VDesc
  blocks : Tab VBlock
  retD : List Nat
  retB : List Nat
  slots : Tab Template
  erases : Tab Nat
  keyed : Bool
  faulty : Bool
  faultSeq : Nat
  eraseAll : Bool
  filled : Bool
  commits : List VCommit
  capture : Option VCapture
  erasing : List VErase
  exps : List (Packet × Nat × List (Nat × Nat))
  expLost : List (Nat × Nat × Nat)
  expSeq : Nat
  ports : List VPort
  order : Nat
deriving DecidableEq, Repr

/-! ### Sync objects (chapter 15) -/

/-- Who asked for a sync operation: a tile's SWAIT or SSIG at a PC, a steeper's, a stream's completion signal, the match
engine, a command, or a remote device's SYNC packet (its header and the port it came by). -/
inductive SyncWho where
  | tile (t pc : Nat)
  | steeper (t st : Nat)
  | done (t st : Nat)
  | matcher (port : Nat)
  | cmd (req : Packet)
  | remote (port : Nat) (hdr : List Byte) (opid : Nat)
deriving DecidableEq, Repr
/-- Where a sync operation stands: on its way to the object, waiting for a remote slot or tag, out on a port's tag, refused because
the waiter table was full, recorded as a waiter, or answered with a code and a value on its way back. -/
inductive SyncPhase where
  | flight | slot
  | sent (port tag : Nat)
  | retry | waiter
  | resp (code value : Nat)
deriving DecidableEq, Repr
/-- An operation on a sync object between its issue and its answer: a number of its own, who asked, the object in ensemble form,
whether it waits, FN, the operand, the OP_ID and state epoch of a remote one, and whether its requester has withdrawn it. -/
structure SyncOp where
  key : Nat
  who : SyncWho
  obj : Nat
  wait : Bool
  fn : Nat
  v : Nat
  opid : Nat
  epoch : Nat
  phase : SyncPhase
  withdrawn : Bool
deriving DecidableEq, Repr
/-- The duplicate window of one source device (R387): HIGH, and the OP_IDs of the window that have been applied. -/
structure DupWindow where
  high : Nat
  marks : List Nat
deriving DecidableEq, Repr
/-- A remote operation kept for reissue after LINK_LOST with its OP_ID and its first epoch (R386, R519). -/
structure HeldOp where
  pc : Nat
  obj : Nat
  opid : Nat
  epoch : Nat
deriving DecidableEq, Repr
/-- The sync unit: operations in the order they were issued, numbers, the next OP_ID per target, windows per source. -/
structure SyncUnit where
  ops : List SyncOp
  /-- The waiter table (R381): numbers of the recorded waits in arrival order. -/
  waiters : List Nat
  next : Nat
  opids : Tab Nat
  windows : Tab DupWindow
deriving DecidableEq, Repr

/-! ### Handle queues (chapter 14) -/

/-- Who asked for a network push or pop: a tile's HPUSH or HPOP (of s[sd]) at a PC, a steeper's (b[bk], h[hk]), an engine's. -/
inductive HqWho where
  | tile (t pc sd : Nat)
  | steeper (t st bk hk : Nat)
  | engine (e : Nat)
deriving DecidableEq, Repr
/-- Where a network push or pop stands (R361): on its way, refused with the list full, on the waiter list, holding a reserved slot
or entry, or answered. -/
inductive HqPhase where
  | flight | retry | waiter | reserved
  | resp (code value : Nat)
deriving DecidableEq, Repr
/-- A network push (of a handle) or pop. -/
structure HqOp where
  key : Nat
  who : HqWho
  q : Nat
  push : Option Nat
  phase : HqPhase
  withdrawn : Bool
deriving DecidableEq, Repr
/-- The handle queue unit: the plinth-held queues' handles, oldest first, the network requests in the order they were issued, and the
waiter lists of each queue to push and to pop (R361), in arrival order. -/
structure HqUnit where
  held : Tab (List Nat)
  ops : List HqOp
  pushW : Tab (List Nat)
  popW : Tab (List Nat)
  next : Nat
deriving DecidableEq, Repr

/-! ### Tiles and steepers (chapters 10 and 14) -/

/-- A context save or restore that runs (R293): its record's address and length, its MODE and the request it answers. -/
structure CtxRun where
  save : Bool
  addr : Nat
  mode : Nat
  req : Packet
deriving DecidableEq, Repr
/-- A tile beside its registers: the operation it stalls on (its number, and whether it is a sync one), a halt asked for during
the stall or between rows with its CAUSE, the remote operation kept for reissue, a running context operation, a START (or STEP)
that waits for it, single-stepping. -/
structure TileX where
  stall : Option (Nat × Bool)
  haltReq : Option Nat
  kept : Option HeldOp
  ctx : Option CtxRun
  startWait : List Bool
  step : Bool
deriving DecidableEq, Repr
/-- An open loop level of a steep program (R353): its first and last instruction and the passes that remain. -/
structure SteepLoop where
  first : Nat
  last : Nat
  left : Nat
deriving DecidableEq, Repr
/-- Where the current access of a walk stands: not issued, waiting for a translation walk, for a tag, for a response by a port's tag, or
ready to complete; `lost` holds the refusal a remote target answered (status, DETAIL), `data` what a remote read brought. -/
inductive AccPhase where
  | idle
  | walk (dst : Bool)
  | tag
  | sent (port tag : Nat)
  | ready
  | back (code detail : Nat) (poison : Bool) (data : List Byte)
deriving DecidableEq, Repr
/-- The XFER in progress: its word, the copies of both descriptors (R339), the number of the next access, the count, the physical
addresses of the access issued, and the transfer into which accesses merge (R342, R354): its path (0 direct, 1 sip, 2 bulk), the block in
which it began on each side, none once it has left that block, its bytes, whether the access at hand has joined it, and the block of
its last poisoned read. -/
structure Walk where
  word : Nat
  src : List Byte
  dst : List Byte
  n : Nat
  total : Nat
  srcPa : Nat
  dstPa : Nat
  xferPath : Nat
  xferSrc : Option Nat
  xferDst : Option Nat
  xferLen : Nat
  joined : Bool
  ueBlock : Option Nat
  phase : AccPhase
deriving DecidableEq, Repr
/-- A steeper beside its registers. -/
structure SteepX where
  prog : List Nat
  param : Nat
  loops : List SteepLoop
  walk : Option Walk
  /-- The operation it waits for: its number, and whether it is a sync one. -/
  wait : Option (Nat × Bool)
  /-- A halt asked for: CODE STOPPED's DETAIL, or 0 for a hold by quiescing or a freeze. -/
  haltReq : Option Nat
  kept : Option HeldOp
deriving DecidableEq, Repr
/-- Tiles and steepers by number (steeper s of tile n at 2n + s), and the rows of tile registers and accumulators: row r of Tk at
(tile × 16 + k) × 16 + r, of Ak at (tile × 16 + 8 + k) × 16 + r. -/
structure TileUnit where
  tiles : Tab TileX
  steepers : Tab SteepX
  rows : Tab Nat
  /-- TILE_HALT requests whose reply waits for a stalled tile, with their refused counts. -/
  halts : List (Packet × Nat)
deriving DecidableEq, Repr

/-! ### Serial lanes (chapter 18) -/

/-- A lane's transmitter: its past scrambled bits, bit 0 newest, the run of equal bits on the line and their value, and the data words sent
since the last marker (R454–R456). -/
structure LaneTx where
  sc : Nat
  run : Nat
  last : Option Bool
  words : Nat
deriving DecidableEq, Repr
/-- A lane's receiver: its past received data bits, bit 0 newest, the run of equal bits and their value, the newest 64 descrambled bits, and the
data bits since signal detect, 111 where there have been more. -/
structure LaneRx where
  rs : Nat
  run : Nat
  last : Option Bool
  word : Nat
  seen : Nat
deriving DecidableEq, Repr
/-- An 8b/10b receiver: the newest seven line bits, the bits of the symbol at hand, the running disparity (positive or not) and the errored
symbols in a row (R451, R452). -/
structure Rx8 where
  win : List Bool
  part : List Bool
  pos : Bool
  errs : Nat
deriving DecidableEq, Repr
/-- A lane's PRBS generator and checker: their shift registers, bit 0 newest, the correct bits in a row, the bits since lock and the numbers
of the errored ones among the newest 1,024 (R464). -/
structure LanePrbs where
  gen : Nat
  chk : Nat
  good : Nat
  n : Nat
  errs : List Nat
deriving DecidableEq, Repr
/-- A lane beside its registers: a fast retrain (R496) and the TRAIN flits it has seen, slips and a first sighting of the search,
whether the held boundary awaits its confirming marker, low EYEQ measurements in a row, the instant training started, on lanes 28
and 29 whether the MAC is 1000BASE-X rather than SGMII, the Holwell coding of its transmitter and receiver, its 8b/10b receiver, and its PRBS
generator and checker. -/
structure LaneX where
  fast : Bool
  trains : Nat
  slips : Nat
  sighted : Bool
  confirm : Bool
  lows : Nat
  startAt : Nat
  baseX : Bool
  tx : LaneTx
  rx : LaneRx
  rx8 : Rx8
  prbs : LanePrbs
deriving DecidableEq, Repr

/-! ### The Holwell link (chapter 19) -/

/-- What a tag's request belongs to. -/
inductive TagUse where
  | stream (t st : Nat)
  | sync (key : Nat)
deriving DecidableEq, Repr
/-- An outstanding tag (R490). -/
structure TagRec where
  tag : Nat
  gen : Nat
  epoch : Nat
  op : Nat
  wait : Bool
  use : TagUse
deriving DecidableEq, Repr
/-- A packet queued for transmission: class code, VC, its destination if it is a request of this device or passes through (its whole
packet, for the answer UNREACHABLE), and the payloads of the flits not yet sent with their FT codes. -/
structure TxPacket where
  cls : Nat
  vc : Nat
  pk : LinkPacket
  flits : List (Nat × List Byte)
deriving DecidableEq, Repr
/-- A packet received, or being received, in the buffer of a class and VC, with its flits. -/
structure RxPacket where
  cls : Nat
  vc : Nat
  bytes : List Byte
  flits : Nat
deriving DecidableEq, Repr
/-- A Holwell port beside its registers: tags and their generations, the transmit side (queue, replay buffer, next FSEQ, credits by
2c + v, waits per class, replay rounds without advance), the receive side (expected FSEQ, flits accepted since the last CTRL flit,
credits to return, a NAK outstanding, packets partial and whole), what it has sent, and training (what both ends have offered,
failed attempts in a row, FULL asked for, TCOUNT, READY sent with W). -/
structure Port where
  tags : List TagRec
  gens : Tab Nat
  txq : List TxPacket
  replay : List (Nat × List Byte)
  txSeq : Nat
  credits : Tab Nat
  waits : Tab Nat
  rounds : Nat
  rxSeq : Nat
  accepted : Nat
  owed : Tab Nat
  nakked : Bool
  rxPart : List RxPacket
  rxq : List RxPacket
  wire : List (List Byte)
  partner : List Byte
  attempts : Nat
  full : Bool
  tcount : Nat
  readyW : Nat
  lastUp : Option Nat
  lastBurst : Option Nat
  checked : Bool
  bursts : Nat
deriving DecidableEq, Repr
/-- Segments of a peer command received so far (R480). -/
structure CmdPart where
  src : Nat
  num : Nat
  len : Nat
  got : List (Nat × List Byte)
deriving DecidableEq, Repr
/-- A peer command sent on behalf of a request (SYNC_READ of a remote object, a tray cap forwarded), whose reply answers it. -/
structure FwdCmd where
  req : Packet
  dst : Nat
  seq : Nat
  port : Nat
deriving DecidableEq, Repr
/-- The links: seven ports, peer commands in reassembly, the next command number, and the next SEQ of
the commands to each device. -/
structure LinkUnit where
  ports : List Port
  parts : List CmdPart
  nextCmd : Nat
  seqs : Tab Nat
  fwd : List FwdCmd
deriving DecidableEq, Repr

/-! ### Ensembles (chapter 20) -/

/-- The accord's state beside its registers: the join descriptor (NVM, empty for none), the last RECORD of each device and when it
came, when FORMING was entered, ENS_FORCE enabled, whether the epoch held was committed with quorum, the sets and the leader of the last
commit, a commit being adopted, EXCLUDE by ENS_RESOLVE, a duplicate ID, tray caps of host and manager in W, and by how much the leader's
time was ahead at that commit, in units of the counter. -/
structure EnsUnit where
  desc : List Byte
  recs : Tab (List Byte)
  heardAt : Tab Nat
  formedAt : Nat
  force : Bool
  running : Bool
  active : Nat
  heldSet : Nat
  leader : Option Nat
  adopting : Option (List Byte)
  out : Bool
  hold : Bool
  dup : Bool
  hostTray : Nat
  mgrTray : Nat
  timeAt : Int
deriving DecidableEq, Repr

/-! ### The fabric (chapters 6 and 8) -/

/-- A queue block at work: the entries of a FIFO or handle queue mode, oldest first, the bytes of a RAM, the data outputs (of a
FIFO's read side, or of ports A and B), the sticky OVF and UDF, reads that the write side has not seen and writes that the read side
has not seen (R242), ECC_FIX and ECC_BAD of the last read, and what is left of a reset: cycles of the slower clock while RST is held, then of
each side's clock (R244). -/
structure QbX where
  entries : List Nat
  ram : Tab Nat
  outA : Nat
  outB : Nat
  ovf : Bool
  udf : Bool
  wlag : Nat
  rlag : Nat
  eccFix : Bool
  eccBad : Bool
  pulse : Nat
  tailW : Nat
  tailR : Nat
deriving DecidableEq, Repr
/-- An entry of a CARRY map (Table RCST-3). -/
structure CarryEnt where
  cell : Nat
  kind : Nat
  digest : Nat
deriving DecidableEq, Repr
/-- The fabric: configuration frames (word w of frame f, in FAR order, at f × 256 + w), the personality they instantiate, the queue
blocks, the running cast's CARRY map, its CLOCKS in kHz, its relay-capable mask, the measured supply code of each bank (4 unpowered),
the user I/O that drive, their output and input flip-flops, and the last level of those with a keeper; macrocell flip-flops by CELL (1
where set), the PLBs whose ASR was 1 when their flip-flops were last set, the crossing registers of the region that sends and of the one
that receives, by sending region; how far each UCLK has come towards its next edge, in units of the counter times kHz; the signals of
frozen regions that stand held at 1; the words the command ports have taken and those they have for the fabric, by die; and results that
wait at a frozen match interface. -/
structure FabUnit where
  frames : Tab Nat
  pers : Personality
  qbs : Tab QbX
  carry : List CarryEnt
  clocks : List Nat
  relay : Nat
  supply : List Nat
  ioOe : Nat
  ioOut : Nat
  ioIn : Nat
  ioKeep : Nat
  q : Tab Nat
  asr : List Nat
  crossA : Tab Nat
  crossB : Tab Nat
  phase : List Nat
  held : List Net
  portIn : Tab (List Nat)
  portOut : Tab (List Nat)
  results : List (Nat × List Byte)
deriving DecidableEq, Repr

/-! ### Signal engines (chapter 9) -/

/-- An address generator: P, M, B, L. -/
structure Ag where
  p : Nat
  m : Int
  b : Nat
  l : Nat
deriving DecidableEq, Repr
/-- An open block repeat level: its body and the passes that remain, this one included. -/
structure EngBlk where
  first : Nat
  last : Nat
  left : Nat
deriving DecidableEq, Repr
/-- What an engine instruction stalls on: a port, a PEND bit, or a handle queue operation's number. -/
inductive EngStall where
  | port | event
  | hq (key : Nat)
deriving DecidableEq, Repr
/-- A signal engine beside its registers: accumulators ACC0–ACC3, latches XR0–XR3 and YR0–YR3, the MODE of the last MPY, MAC or MSU, AG0
and AG1, HR, open block levels (outermost first), how many were open at handler entry, the issues an RPT has left, the stall, the bank
elements that the last two instructions wrote with their old values (newest first; bank 0 X, 1 Y), EO3–EO0, a halt asked for. -/
structure EngX where
  acc : List Int
  xr : List Int
  yr : List Int
  mode : Nat
  ag0 : Ag
  ag1 : Ag
  hr : Nat
  blocks : List EngBlk
  entryDepth : Nat
  rpt : Nat
  stall : Option EngStall
  recent : List (List (Nat × Nat × Int))
  eo : Nat
  haltReq : Bool
deriving DecidableEq, Repr

/-! ### Casting and recasting (chapters 6 and 7) -/

/-- What a region's state was when the wall rose (R213): everything that a rollback brings back. -/
structure Snap where
  regs : Tab Nat
  win : Tab Nat
  tu : TileUnit
  fab : FabUnit
  eng : Tab EngX
deriving DecidableEq, Repr
/-- A load or a recast that runs: the request (none at wake), what RECAST_LOAD asked for, its pass (0 a load, 1 verify, 2 write, 3 a
relay stream only forwarded), the source (CAST_STATUS.SRC), the address and length in device memory or the image of the chain, the
bytes received and not yet processed and how many came before them, header, table, signature block, the next segment, whether the
frame stream of this pass has written CWALL and has ended (1 END, 2 HOLD), the words of the frame being filled, the regions touched,
the tiles and engines whose frames were written, the last FRAMES segment, CARRY, CLOCKS and IOSET found, the personality, the rollback
buffer, TIMEOUT, the state captured, the tiles that the freeze halted, the instants of the first byte, of the rise and of a hold, and
whether the second slot of a wake has been tried. -/
structure CastRun where
  req : Option Packet
  recast : Bool
  hold : Bool
  relayOut : Bool
  tilesOnly : Bool
  pass : Nat
  src : Nat
  addr : Nat
  len : Nat
  image : List Byte
  buf : List Byte
  pos : Nat
  header : List Byte
  table : List (List Byte)
  sig : List Byte
  seg : Nat
  cwall : Bool
  ended : Nat
  part : List Nat
  touched : Nat
  tiles : List Nat
  engines : List Nat
  lastFrames : Nat
  carry : List CarryEnt
  clocks : List Nat
  ioset : List Byte
  pers : Personality
  rollback : Nat
  timeout : Nat
  snap : Option Snap
  halted : List Nat
  startAt : Nat
  roseAt : Nat
  holdAt : Option Nat
  second : Bool
deriving DecidableEq, Repr
/-- The cast controller beside its registers: the run, a chain whose first packet has opened a load (false) or a recast (true), the
cast key and the signer hashes (NVM, empty for none), the working key, the port that relay blocks come by and the next block number,
whether the load met a second relay stream, the bytes to forward that fill no block yet, the number of the next block sent, and the blocks
sent on H0, each with its number and its CRC-32C. -/
structure CastUnit where
  run : Option CastRun
  chain : Option (StreamId × Bool)
  key : List Byte
  signers : List (List Byte)
  ckey : List Byte
  relayPort : Option Nat
  relayNo : Nat
  relayDup : Bool
  relayPend : List Byte
  relayTx : Nat
  relayOut : List (Nat × List Byte × Nat)
  /-- Rollback buffers written: address, length and the generation of their ciphertext. -/
  cipher : List (Nat × Nat × Nat)
deriving DecidableEq, Repr

/-! ### Self-test (chapter 23) -/

/-- A self-test run (R578–R594): its request, SEL, QUADS and FLAGS, the tests not started in their order, those running, those that ran
to their end and those that failed, FIRST (255 for none) and WHERE, the highest Tj, the time of day at the start, and CAUSE. -/
structure BistRun where
  req : Packet
  sel : Nat
  quads : Nat
  flags : Nat
  left : List Nat
  cur : List Nat
  ran : Nat
  failed : Nat
  first : Nat
  place : List Byte
  tj : Int
  start : Nat
  cause : Nat
  /-- Tests started, and the owners of quads under test. -/
  begun : Nat
  owners : List (Nat × Nat)
deriving DecidableEq, Repr

/-! ### The tile network (R410–R414) -/

/-- A flit: its packet's number, the place the packet is for, whether it is the packet's last, and the cycle from which it can leave its
buffer. -/
structure Flit where
  pkt : Nat
  dst : Nat
  last : Bool
  ready : Nat
deriving DecidableEq, Repr
/-- The routers of both dies: the cycle, the number of the next packet, input buffers by router, port and class, the packets half way over a
link and the cycles that classes have waited, by router, output port and class; and what TNET_STATUS counts: flits granted by die and class,
starvation grants, flits over the bridge links out of and into each die (R420). -/
structure NetUnit where
  now : Nat
  next : Nat
  bufs : Tab (List Flit)
  owner : Tab Nat
  waits : Tab Nat
  granted : List Nat
  starved : List Nat
  bridgeOut : List Nat
  bridgeIn : List Nat
deriving DecidableEq, Repr

end Sys2Proof.Machine
end

