-- ==== Sys2Proof/Machine/State.lean ====
section
/-! DEFINITION. The state of the M7 as plain data, the reasons a step stops, and the state at reset. -/

namespace Sys2Proof.Machine

/-- Reasons a step faults. None of the manual's behaviours stops the block, so the only fault is the one a
sequence of commands that no sender can produce would need. -/
inductive Fault where
  /-- Raised by nothing in this model: the M7 answers, logs or ignores every command (R596). Safe. -/
  | none
deriving DecidableEq, Repr

/-- Reasons a step refuses. -/
inductive Refusal where
  /-- Raised by an arm of `exec` whose meaning is not written yet. Safe: nothing can be proved of it. -/
  | notModelled (mnemonic : String)
  /-- Raised by the packet pipeline on a command term that is no command: a packet whose OPCODE is that of another row
  (WellFormed refuses the term). Safe. -/
  | illFormed
deriving DecidableEq, Repr

/-- Signals the M7 has sent out: MSI-X messages (R658) and fabric events. -/
inductive Out where
  | msi (vector : Nat)
  | hmiIrq | timeIrq | budIrq | logIrq | timeAlarm
  | tileIrq (tile : Nat)
  | streamIrq (tile st : Nat)
  /-- A result record at the match result interface of a fabric die (R140). -/
  | matchResult (die : Nat) (record : List Byte)
deriving DecidableEq, Repr

/-- The M7. -/
structure State where
  /-- Commands waiting, first in, first out. -/
  pending : List Instr
  /-- Register fields by `Fld.key`; an unlisted field holds its reset value. -/
  regs : Tab Nat
  /-- Words of the window memories by CSR address (tile instruction memory, s, V and p registers, engine memories). -/
  win : Tab Nat
  /-- Bytes of caddy memory, external DRAM and tile stores that have been written, by device physical address. -/
  mem : Tab Byte
  /-- Error state of memory blocks by block address: 1 correctable, 2 fresh uncorrectable, 3 poison. -/
  ecc : Tab Nat
  cmd : CmdUnit
  log : LogUnit
  time : TimeUnit
  pwr : PwrUnit
  door : DoorUnit
  addr : AddrUnit
  mesh : NetUnit
  bud : BudUnit
  mu : MemUnit
  sync : SyncUnit
  hq : HqUnit
  tu : TileUnit
  lanes : List LaneX
  link : LinkUnit
  ens : EnsUnit
  fab : FabUnit
  eng : Tab EngX
  cast : CastUnit
  vault : VaultUnit
  nvm : NvmUnit
  /-- The self-test run in progress. -/
  bist : Option BistRun
  /-- Signals sent. -/
  out : List Out
  /-- MODEL'S OWN: the number of free values drawn so far. -/
  draws : Nat
deriving DecidableEq, Repr

/-- The command path with nothing in it and blank root keys. -/
def CmdUnit.empty : CmdUnit :=
  { streams := [], sessions := [], longOps := [], hostKey := [], mgrKey := [], ensKey := [], mbxReq := [], mbxRing := [],
    mbxWait := [], spiReq := [], spiRpl := [], spiWait := [], spiErr := false, served := [], mgmtOut := [], peerOut := [], peerIn := [], fabOut := [], fabHeld := [],
    mgmtWire := [], eid := 0, i3cAddr := none, mctpOut := [], spiOut := [] }
/-- The log as blank NVM gives it: 256 sectors, nothing reserved (log entry 9), and the whole burst of R606 to spend. -/
def LogUnit.blank : LogUnit :=
  { inQ := [], ring := [], sectors := [], spare := List.replicate 256 0, toPersist := [], reserved := 0, tokens := 127 * (100000000 * 2 ^ 40), filledAt := 0,
    lost := 0, eraseIntent := none, fabWrites := [], slotFails := 0 }
/-- The settings of R663 for a record never written. -/
def TimeCfg.blank : TimeCfg :=
  { src := 0, t0 := 25, beta := 34, driftRef := 50000, driftXtal := 20000, domain := 0, flags := 0, logPdelay := 0,
    ipv4 := 0 }
/-- The time unit before any boot. -/
def TimeUnit.blank : TimeUnit :=
  { tod := 0, up := 0, servo := 0, slew := 0, learned := 0, fresh := false, comp := 0, good := 0, firstDone := false, alarmBase := 0,
    cfg := TimeCfg.blank, ptpLive := TimeCfg.blank, uncertFrac := 0, pps := false, syncResp := [],
    macStamps := [] }
/-- The power unit in OFF: every enable low (R622). -/
def PwrUnit.off : PwrUnit :=
  { kettle := .off, stage := .none, fromDoze := false, force := false, req := none, entryAuto := false, enB := false,
    enF := false, enC := false, enL := false, upB := false, upF := false, upC := false, upL := false,
    retried := false, wakeAfter := none, halted := [], haltedEng := [], vio33 := false, saveKey := false, saveGen := none,
    castAfter := false, resetLow := true, supplyTrip := false, tampered := false, wakeAt := 0, failedRestore := false, doze := 0, refLow := none }
/-- A lamp channel that is off. -/
def Lamp.off : Lamp :=
  { toRange := none, fresh := false, range := false, target := 0, start := 0, since := 0, near := false, extended := false, until_ := 0, due := false }
/-- A touch channel before its first scan. -/
def Touch.fresh : Touch := { scans := 0, sum := 0, above := 0 }
/-- The door side before any setting. -/
def DoorUnit.off : DoorUnit :=
  { lamps := List.replicate 8 Lamp.off, lgate := 0, lgateRegion := List.replicate 8 0, railTrip := 0, railWait := 0,
    touch := List.replicate 12 Touch.fresh, keyStable := List.replicate 16 0, keyScan := false, keyFifo := [],
    keyMs := 0 }
/-- The addressing unit with nothing latched or held. -/
def AddrUnit.empty : AddrUnit :=
  { shadows := [], held := [], stale := [], readData := 0, xlatBase := 0, walks := 0, misses := 0, xfaults := 0,
    malformed := 0, caches := [], bar4 := (0, false, []), walkQ := [], invals := [] }

/-- An empty network that has carried nothing. -/
def NetUnit.empty : NetUnit :=
  { now := 0, next := 0, bufs := [], owner := [], waits := [], granted := List.replicate 10 0, starved := [0, 0], bridgeOut := [0, 0],
    bridgeIn := [0, 0] }
/-- The budget unit before any measurement. -/
def BudUnit.start : BudUnit :=
  { traySrc := 0, trayLim := 0, timed := false, powers := [], demands := [], failed := [], hot := [0, 0],
    hotHold := [false, false], onFraction := 255, peaked := false, trip := none, deferral := 0 }

/-- The memory unit of a device that has never run: contents free values, no training results. -/
def MemUnit.start : MemUnit :=
  { caddyGen := (1, 1), xdramGen := 1, storeGen := 1, held := [], live := 0, training := .none, store := false, results := [],
    stored := [], mr4 := [0, 0, 0, 0], rows := [], rowAt := [], acted := 0, owed := [], segs := [], acts := [], waits := [], throttleAt := [], dozeDrop := false,
    bad := [] }

/-- Nothing in flight. -/
def SyncUnit.empty : SyncUnit := { ops := [], waiters := [], next := 0, opids := [], windows := [] }
def HqUnit.empty : HqUnit := { held := [], ops := [], pushW := [], popW := [], next := 0 }
/-- A tile and a steeper that do nothing. -/
def TileX.idle : TileX := { stall := none, haltReq := none, kept := none, ctx := none, startWait := [], step := false }
def SteepX.idle : SteepX := { prog := [], param := 0, loops := [], walk := none, wait := none, haltReq := none, kept := none }
def TileUnit.empty : TileUnit := { tiles := [], steepers := [], rows := [], halts := [] }
/-- A lane before training. -/
def LaneX.fresh : LaneX :=
  { fast := false, trains := 0, slips := 0, sighted := false, confirm := false, lows := 0, startAt := 0, baseX := false,
    tx := { sc := 2 ^ 47 - 1, run := 0, last := none, words := 0 }, rx := { rs := 0, run := 0, last := none, word := 0, seen := 0 },
    rx8 := { win := [], part := [], pos := false, errs := 0 }, prbs := { gen := 2 ^ 31 - 1, chk := 0, good := 0, n := 0, errs := [] } }
/-- A port before its first attempt. -/
def Port.off : Port :=
  { tags := [], gens := [], txq := [], replay := [], txSeq := 0, credits := [], waits := [], rounds := 0, rxSeq := 0,
    accepted := 0, owed := [], nakked := false, rxPart := [], rxq := [], wire := [], partner := [], attempts := 0,
    full := false, tcount := 0, readyW := 0, lastUp := none, lastBurst := none, checked := false, bursts := 0 }
def LinkUnit.off : LinkUnit := { ports := List.replicate 7 Port.off, parts := [], nextCmd := 0, seqs := [], fwd := [] }
/-- A device with no join descriptor. -/
def EnsUnit.alone : EnsUnit :=
  { desc := [], recs := [], heardAt := [], formedAt := 0, force := false, running := false, active := 0, heldSet := 0,
    leader := none, adopting := none, out := false, hold := false, dup := false, hostTray := 0, mgrTray := 0, timeAt := 0 }

/-- A fabric that no cast has written. -/
def Personality.blank : Personality :=
  { plbs := [], ios := [], crossings := [], qbs := [], inQb := [], outQb := [], recastable := 0, matchRegion := [], cmdPort := [], lgate := 0,
    lgateRegion := List.replicate 8 0 }
/-- A queue block in its initial state (R176). -/
def QbX.fresh : QbX :=
  { entries := [], ram := [], outA := 0, outB := 0, ovf := false, udf := false, wlag := 0, rlag := 0, eccFix := false,
    eccBad := false, pulse := 0, tailW := 0, tailR := 0 }
def FabUnit.blank : FabUnit :=
  { frames := [], pers := Personality.blank, qbs := [], carry := [], clocks := List.replicate 9 0, relay := 0,
    supply := List.replicate 16 4, ioOe := 0, ioOut := 0, ioIn := 0, ioKeep := 0, q := [], asr := [], crossA := [], crossB := [],
    phase := List.replicate 8 0, held := [], portIn := [], portOut := [], results := [] }
/-- An address generator over the whole bank, and an engine before its first instruction. -/
def Ag.whole : Ag := { p := 0, m := 0, b := 0, l := 4096 }
def EngX.fresh : EngX :=
  { acc := [0, 0, 0, 0], xr := [0, 0, 0, 0], yr := [0, 0, 0, 0], mode := 0, ag0 := Ag.whole, ag1 := Ag.whole, hr := 0, blocks := [],
    entryDepth := 0, rpt := 0, stall := none, recent := [], eo := 0, haltReq := false }
/-- The cast controller with blank NVM. -/
def CastUnit.blank : CastUnit :=
  { run := none, chain := none, key := [], signers := [[], [], [], []], ckey := [], relayPort := none, relayNo := 0,
    relayDup := false, relayPend := [], relayTx := 0, relayOut := [], cipher := [] }

/-- The vault of a part that has enrolled nothing, its key not derived (log entry 42). -/
def VaultUnit.blank : VaultUnit :=
  { seed := (List.range 32).map (fun k => BitVec.ofNat 8 (Config.vaultSeed / 256 ^ k)), vgen := 0, seq := 0, intent := false,
    wipeAt := none, descs := [], blocks := [], retD := [], retB := [], slots := [], erases := [], keyed := false, faulty := false, faultSeq := 0,
    eraseAll := false, filled := false, commits := [], capture := none, erasing := [], exps := [], expLost := [], expSeq := 0,
    ports := [{ bufs := [], queue := [] }, { bufs := [], queue := [] }], order := 0 }

/-- The body of a boot pointer record: SLOT_A, SLOT_B, PREFER (R179). -/
def bootBody (a b prefer : Nat) : List Byte := leBytes 8 a ++ leBytes 8 b ++ leBytes 1 prefer
/-- The NVM of a part that no command has written: its vault header, of SEQ 1, holds the first seed (log entries 42, 90); and the boot pointer
record that the board's flash was programmed with, which prefers slot A (log entry 46). -/
def NvmUnit.blank : NvmUnit :=
  { recs := [(17, { a := some { seq := 1, body := zeros 4 ++ VaultUnit.blank.seed ++ zeros 4, good := true }, b := none }),
             (20, { a := some { seq := 1, body := bootBody (Config.bootSlot 0) (Config.bootSlot 1) 0, good := true }, b := none })], last := none }

/-- The M7 with RESET_N low (R69): OFF, every register field at its reset value, blank NVM, no command waiting. -/
def State.reset : State :=
  { pending := [], regs := [], win := [], mem := [], ecc := [], cmd := CmdUnit.empty, log := LogUnit.blank,
    time := TimeUnit.blank, pwr := PwrUnit.off, door := DoorUnit.off, addr := AddrUnit.empty, mesh := NetUnit.empty,
    bud := BudUnit.start, mu := MemUnit.start, sync := SyncUnit.empty, hq := HqUnit.empty, tu := TileUnit.empty,
    lanes := List.replicate 32 LaneX.fresh, link := LinkUnit.off, ens := EnsUnit.alone, fab := FabUnit.blank,
    eng := [], cast := CastUnit.blank, vault := VaultUnit.blank, nvm := NvmUnit.blank, bist := none, out := [], draws := 0 }

end Sys2Proof.Machine
end

