-- ==== Sys2Proof/Machine/Ops.lean ====
section
/-! DEFINITION. The named operations on registers, free values, time, interrupts and memory that every meaning uses. -/

namespace Sys2Proof.Machine

/-- The key of a field in the register table. -/
def Fld.key (f : Fld) : Nat := f.addr * 32 + f.lsb
/-- The value of a register field. -/
def State.get (s : State) (f : Fld) : Nat := tget f.reset s.regs f.key
/-- A register field written, cut to its width. -/
def State.put (s : State) (f : Fld) (v : Nat) : State :=
  { s with regs := tput f.reset s.regs f.key (cut f.width v) }
/-- A one-bit field as a Bool. -/
def State.flag (s : State) (f : Fld) : Bool := s.get f != 0
/-- A one-bit field written from a Bool. -/
def State.setFlag (s : State) (f : Fld) (b : Bool) : State := s.put f (b2n b)
/-- A field increased, saturating at its width. -/
def State.bumpSat (s : State) (f : Fld) (n : Nat) : State := s.put f (satAdd f.width (s.get f) n)
/-- A field increased, wrapping at its width. -/
def State.bumpWrap (s : State) (f : Fld) (n : Nat) : State := s.put f (s.get f + n)
/-- Bits set in a field. -/
def State.orBits (s : State) (f : Fld) (m : Nat) : State := s.put f (s.get f ||| m)
/-- Bits cleared in a field. -/
def State.clrBits (s : State) (f : Fld) (m : Nat) : State :=
  s.put f ((s.get f) - ((s.get f) &&& m))
/-- Every field whose word lies in [lo, hi) back at its reset value. -/
def State.clearRegs (s : State) (lo hi : Nat) : State := { s with regs := tclear s.regs (lo * 32) (hi * 32) }

/-- The bits of a CSR word that a run of it shows. -/
def State.fieldBits (s : State) (b : Bitf) : Nat := bits (s.get b.home) b.off b.width <<< b.lsb
/-- A CSR word assembled from its fields. -/
def State.word (s : State) (l : List Bitf) : Nat := l.foldl (fun x b => x ||| s.fieldBits b) 0

/-- A window memory word. -/
def State.wget (s : State) (a : Nat) : Nat := tget 0 s.win a
/-- A window memory word written. -/
def State.wput (s : State) (a v : Nat) : State := { s with win := tput 0 s.win a (cut 32 v) }

/-- FREE VALUE: the next one, cut to `w` bits; the counter advances. -/
def State.drawn (s : State) (w : Nat) : Nat := cut w (Config.freeNat s.draws)
/-- The counter of free values advanced. -/
def State.draw (s : State) : State := { s with draws := s.draws + 1 }
/-- `n` fresh bytes. -/
def State.drawnBytes (s : State) (n : Nat) : List Byte := leBytes n (s.drawn (8 * n))

/-- The power state code of PWR_STATE.CUR (Table KET-2). -/
def State.cur (s : State) : Nat := s.get Reg.PWR_STATE_CUR
/-- The kettle runs. -/
def State.kettleOn (s : State) : Bool := s.pwr.kettle == .on
/-- The plinth runs and its steward firmware answers (R15, R58). -/
def State.stewardUp (s : State) : Bool := s.kettleOn && s.flag Reg.MBX_STATUS_READY
/-- The plinth holds its registers: powered, in retention in DOZE (Table KET-2). -/
def State.plinthPowered (s : State) : Bool := s.kettleOn && s.pwr.enB && s.pwr.upB
/-- The fabric dies are powered. -/
def State.fabricPowered (s : State) : Bool := s.kettleOn && s.pwr.enF && s.pwr.upF
/-- The exit or entry sequence runs (PWR_STATE.MOVING). -/
def State.moving (s : State) : Bool := s.flag Reg.PWR_STATE_MOVING

/-- An entry to DOZE or SLEEP runs, before its point of no return (R77): nothing new starts. -/
def State.quiescing (s : State) : Bool := s.pwr.stage == .quiesce || s.pwr.stage == .prepare

/-- The PWR_DOZE_CFG that the last entry to DOZE took: KEEP_QB, KEEP_TILE, CAM_EN with CAM and CAM_XCH, DOZE_LIMIT (Table KET-6, R85). -/
def State.dozeKeepQb (s : State) : Bool := bit s.pwr.doze 1
def State.dozeKeepTile (s : State) : Bool := bit s.pwr.doze 2
def State.dozeCam (s : State) : Option Nat := if bit s.pwr.doze 3 then some (bits s.pwr.doze 4 2) else none
def State.dozeChannel (s : State) : Nat := bits s.pwr.doze 6 2
def State.dozeLimit (s : State) : Nat := bits s.pwr.doze 16 16

/-- One second, one nanosecond in units of the counter (R534). -/
def unitNs : Nat := 2 ^ 40
def unitSec : Nat := 1000000000 * 2 ^ 40
/-- The counter's SEC, NS and FRAC fields (R532). -/
def todSec (t : Nat) : Nat := (t / unitSec) % 2 ^ 48
def todNs (t : Nat) : Nat := (t / unitNs) % 1000000000
def todFrac (t : Nat) : Nat := (t / 2 ^ 24) % 65536
/-- The sixteen bytes of TOD0–TOD3 (Table TIME-4). -/
def todBytes (t : Nat) : List Byte :=
  leBytes 4 (todFrac t) ++ leBytes 4 (todNs t) ++ leBytes 8 (todSec t)

/-- Signals sent. -/
def State.emit (s : State) (o : List Out) : State := { s with out := s.out ++ o }
/-- An event field set and, where its enable bit is set, its vector raised with its fabric event (R658): MSI-X only while
the plinth runs, a fabric event only while the fabric dies are powered. `pos` is the field's place in the event register. -/
def State.event (s : State) (f : Fld) (m pos : Nat) (en : Fld) (vec : Nat) (fe : Out) : State :=
  let s1 := s.orBits f m
  if (s1.get en >>> pos) &&& m ≠ 0 then
    s1.emit ((if s1.stewardUp then [Out.msi vec] else []) ++ (if s1.fabricPowered then [fe] else []))
  else s1

/-! ### Memory -/

/-- What a byte of device physical address `a` that nothing has written since its memory last lost its contents reads as: a free
value of the address and that loss (in a save area or a rollback buffer, of the ciphertext it holds, R76, R213), 0 where the memory has been zeroed since (log entry 3). -/
def State.unwritten (s : State) (a : Nat) : Byte :=
  let g := match s.cast.cipher.find? (fun r => decide (r.1 ≤ a ∧ a < r.1 + r.2.1)) with
    | some r => 3 * r.2.2 + 1
    | none => if a < 0x300000000 then
      let g := if a < 0x180000000 then s.mu.caddyGen.1 else s.mu.caddyGen.2
      (match s.pwr.saveGen with
       | some k => if 0x3F00000 ≤ a % 0x4000000 then 3 * k + 2 else 3 * g
       | none => 3 * g)
    else if a < 0x4000000000 then 3 * s.mu.xdramGen else 3 * s.mu.storeGen
  if g = 0 then 0 else BitVec.ofNat 8 (Config.freeByte g a)
/-- The byte at device physical address `a`. -/
def State.byteAt (s : State) (a : Nat) : Byte := (tfind s.mem a).getD (s.unwritten a)
/-- One byte written. -/
def State.setByte (s : State) (a : Nat) (b : Byte) : State := { s with mem := tinsert s.mem a b }
/-- `n` bytes from address `a`. -/
def State.bytesAt (s : State) (a : Nat) : Nat → List Byte
  | 0 => []
  | n + 1 => s.byteAt a :: s.bytesAt (a + 1) n
/-- Bytes written from address `a`. -/
def State.setBytes (s : State) (a : Nat) (bs : List Byte) : State := { s with mem := tinsertN s.mem a bs }
/-- The canonical form of the memory: the written bytes, strictly rising addresses. -/
def Memory.wf (m : Tab Byte) : Bool := tRising 0 m
/-- The bytes and error states of [lo, hi) are gone. -/
def State.forget (s : State) (lo hi : Nat) : State :=
  let c := s.cast.cipher.filter (fun r => decide (r.1 + r.2.1 ≤ lo ∨ hi ≤ r.1))
  { s with mem := tclear s.mem lo hi, ecc := tclear s.ecc lo hi, cast := { s.cast with cipher := c } }

end Sys2Proof.Machine
end

