-- ==== Sys2Proof/Machine/Nvm.lean ====
section
/-! DEFINITION. The kettle NVM (R121, R122): its partitions, and the configuration and key records with their two copies. -/

namespace Sys2Proof.Machine

/-! ### Partitions (Table VLT-1) -/

/-- The partitions of the NVM. -/
inductive NvmPart where
  | firmware | log | keys | config | vault
deriving DecidableEq, Repr
/-- The first NVM offset and the size of a partition. -/
def NvmPart.base : NvmPart → Nat
  | .firmware => 0 | .log => 0x200000 | .keys => 0x300000 | .config => 0x340000 | .vault => 0x400000
def NvmPart.size : NvmPart → Nat
  | .firmware => 0x200000 | .log => 0x100000 | .keys => 0x40000 | .config => 0xC0000 | .vault => 0x400000
/-- A byte of a firmware image slot: the firmware is fixed at manufacture, and no command of the specification changes it. -/
def firmwareByte (slot off : Nat) : Byte := BitVec.ofNat 8 (Config.firmwareByte (slot * 0x100000 + off))
/-- The NVM offset of sector `k` of the persistent log (R605). -/
def logSectorOffset (k : Nat) : Nat := NvmPart.log.base + 0x1000 * k
/-- Where a record lies. -/
def Rec.part : Rec → NvmPart
  | .hostKey | .mgrKey | .ensKey | .castKey => .keys
  | .vaultHeader | .vaultPolicy => .vault
  | _ => .config
/-- A record's place in the table of records, and its KIND where the manual gives one; the others are free. -/
def Rec.num : Rec → Nat
  | .hostKey => 0 | .mgrKey => 1 | .ensKey => 2 | .castKey => 3 | .castPolicy => 4 | .joinDesc => 5 | .training => 6 | .xdramCfg => 7
  | .timeCfg => 8 | .crystal => 9 | .cap => 10 | .budCfg => 11 | .tamperCount => 12 | .trips => 13 | .bistRuns => 14
  | .logReserve => 15 | .logErase => 16 | .vaultHeader => 17 | .vaultPolicy => 18 | .wipeIntent => 19 | .bootPtr => 20
def Rec.kind : Rec → Nat
  | .training => 0x0D01 | .timeCfg => 0x1201 | .cap => 0x1001 | .logReserve => 0x1101 | .logErase => 0x1102 | .bootPtr => 0x0C01 | .joinDesc => 0x0F01
  | r => Config.recordKind r.num
/-- Every record of the kettle NVM. -/
def allRecs : List Rec :=
  [.hostKey, .mgrKey, .ensKey, .castKey, .castPolicy, .joinDesc, .training, .xdramCfg, .timeCfg, .crystal, .cap, .budCfg, .tamperCount,
   .trips, .bistRuns, .logReserve, .logErase, .vaultHeader, .vaultPolicy, .wipeIntent]
/-- The NVM offset of a record's sector A (0) or B (1), or the boot pointer's in flash: the manual gives the vault's (Table VLT-2) and the boot
pointer's (R179), the others are free within their partition. -/
def Rec.offset (r : Rec) (copy : Nat) : Nat :=
  match r with
  | .vaultHeader => 0x400000 + 0x1000 * copy
  | .vaultPolicy => 0x402000 + 0x1000 * copy
  | .bootPtr => 0x1000 * copy
  | _ => r.part.base + 0x1000 * ((2 * Config.recordSector r.num) % (r.part.size / 0x1000) + copy)

/-! ### Record copies (R122) -/

/-- A copy as its sector holds it: MAGIC, KIND, SEQ, LEN, the CRC-32C over those twelve bytes and the body, the body. The manual gives no
value for MAGIC. -/
def RecCopy.bytes (c : RecCopy) (kind : Nat) : List Byte :=
  let h := leBytes 2 Config.recordMagic ++ leBytes 2 kind ++ leBytes 4 c.seq ++ leBytes 4 c.body.length
  h ++ leBytes 4 (crc32c (h ++ c.body)) ++ c.body
/-- The configuration record of the PCIe vendor and subsystem IDs, written at manufacture (Table LANE-6); no command changes it. -/
def pcieIdRecord : List Byte :=
  RecCopy.bytes { seq := 1, body := leBytes 2 Config.vendorId ++ leBytes 2 Config.subsystemIds.1 ++ leBytes 2 Config.subsystemIds.2, good := true }
    0x0E01
/-- The SEQ of a copy whose CRC passes, 0 where there is none. -/
def copySeq : Option RecCopy → Nat
  | some c => if c.good then c.seq else 0
  | none => 0
/-- Which sector holds the newest valid copy: the one with the higher SEQ whose CRC passes. -/
def RecPair.inB (p : RecPair) : Bool := decide (copySeq p.a < copySeq p.b)
def RecPair.newest (p : RecPair) : Option RecCopy :=
  match if p.inB then p.b else p.a with
  | some c => if c.good then some c else none
  | none => none
/-- Which sector a write takes: 0 for A, 1 for B. -/
def RecPair.target (p : RecPair) : Nat := if p.newest.isSome ∧ !p.inB then 1 else 0
/-- A write: the sector without the newest valid copy is erased and takes the new one, with the next SEQ. -/
def RecPair.write (p : RecPair) (body : List Byte) : RecPair :=
  let c : RecCopy := { seq := max (copySeq p.a) (copySeq p.b) + 1, body := body, good := true }
  if p.target = 0 then { p with a := some c } else { p with b := some c }
/-- A torn write: the newest copy fails its CRC, and the previous one is in force. -/
def RecPair.tear (p : RecPair) : RecPair :=
  let bad (c : Option RecCopy) : Option RecCopy := c.map (fun c => { c with good := false })
  if p.inB then { p with b := bad p.b } else { p with a := bad p.a }
def RecPair.blank : RecPair := { a := none, b := none }

/-- A record's sectors. -/
def State.recPair (s : State) (r : Rec) : RecPair := tget RecPair.blank s.nvm.recs r.num
def State.putRec (s : State) (r : Rec) (p : RecPair) : State :=
  { s with nvm := { s.nvm with recs := tput RecPair.blank s.nvm.recs r.num p } }
/-- A record written. -/
def State.recWrite (s : State) (r : Rec) (body : List Byte) : State :=
  let s1 := s.putRec r ((s.recPair r).write body)
  { s1 with nvm := { s1.nvm with last := some (r, s.time.up) } }
/-- The body in force. -/
def State.recBody (s : State) (r : Rec) : Option (List Byte) := (s.recPair r).newest.map (fun c => c.body)
/-- Power is lost: the record written last, with no time since, may have been cut off (a free value; log entry 90). A reservation of
log numbers is complete before an entry takes one of them (R607). -/
def State.recTear (s : State) : State :=
  match s.nvm.last with
  | some (r, t) =>
    let s1 := { s with nvm := { s.nvm with last := none } }
    if t = s.time.up ∧ s.drawn 1 = 1 ∧ r ≠ .logReserve then s1.draw.putRec r (s1.recPair r).tear else s1.draw
  | none => s

/-! ### Bodies (DESIGN CHOICE, log entry 90: the manual gives what a record holds, not its layout) -/

/-- Register fields as words. -/
def State.fieldWords (s : State) (l : List Fld) : List Byte := l.flatMap (fun f => leBytes 4 (s.get f))
def State.putWords (s : State) (l : List Fld) (b : List Byte) : State :=
  (List.range l.length).foldl (fun s k => match l[k]? with | some f => s.put f (leAt b (4 * k) 4) | none => s) s
/-- The fields kept by each record of register fields. -/
def Rec.fields : Rec → List Fld
  | .castPolicy => [Reg.CAST_POLICY_SIGNERS, Reg.CAST_POLICY_REQUIRE_ENCRYPTED, Reg.CAST_POLICY_REQUIRE_SIGNED]
  | .xdramCfg => [Reg.XDRAM_CFG_GEN, Reg.XDRAM_CFG_RATE, Reg.XDRAM_CFG_POP, Reg.XDRAM_CFG_CAP, Reg.XDRAM_CFG_IECC, Reg.XDRAM_CFG_LINEAR,
      Reg.XDRAM_CFG_RANKS2]
  | .training => [Reg.XDRAM_STAT_STORED]
  | .cap => [Reg.BUD_CAP_IN_MGR]
  | .budCfg => [Reg.BUD_CFG_SPLIT, Reg.BUD_CFG_AUTO_RESTART]
  | .tamperCount => [Reg.TMP_STAT_COUNT]
  | .trips => [Reg.THERM_TRIPS_COUNT]
  | .bistRuns => [Reg.BIST_RUNS_COUNT]
  | .vaultHeader => [Reg.VLT_STATUS_WIPED]
  | .vaultPolicy => [Reg.VLT_POLICY_TAMPER_WIPE, Reg.VLT_POLICY_ENROL_ROLES]
  | _ => []
/-- The settings of R663, eight bytes each. -/
def TimeCfg.bytes (t : TimeCfg) : List Byte :=
  [t.src, t.t0, t.beta, t.driftRef, t.driftXtal, t.domain, t.flags, t.logPdelay, t.ipv4].flatMap (leBytes 8)
def TimeCfg.ofBytes (b : List Byte) : TimeCfg :=
  let f (k : Nat) : Nat := leAt b (8 * k) 8
  { src := f 0, t0 := f 1, beta := f 2, driftRef := f 3, driftXtal := f 4, domain := f 5, flags := f 6, logPdelay := f 7, ipv4 := f 8 }
/-- What a record's body is now. -/
def State.bodyNow (s : State) (r : Rec) : List Byte :=
  s.fieldWords r.fields ++ (match r with
    | .hostKey => s.cmd.hostKey
    | .mgrKey => s.cmd.mgrKey
    | .ensKey => s.cmd.ensKey
    | .castKey => s.cast.key
    | .castPolicy => s.cast.signers.flatMap (fun h => leBytes 1 (b2n (h != [])) ++ padTo 32 h)
    | .joinDesc => s.ens.desc
    | .training => s.mu.stored.flatMap (padTo 128)
    | .timeCfg => s.time.cfg.bytes
    | .crystal => leBytes 8 (unsgn 64 s.time.learned)
    | .logReserve => leBytes 4 s.log.reserved
    | .logErase => (match s.log.eraseIntent with | some r => [1] ++ leBytes 1 r | none => [0])
    | .vaultHeader => s.vault.seed ++ leBytes 4 s.vault.vgen
    | .wipeIntent => leBytes 1 (b2n s.vault.intent) ++ leBytes 4 s.vault.vgen
    | _ => [])
/-- What the kettle takes from a record's body at boot. -/
def State.recLoad (s : State) (r : Rec) (body : List Byte) : State :=
  let s1 := s.putWords r.fields body
  let b := body.drop (4 * r.fields.length)
  match r with
  | .hostKey => { s1 with cmd := { s1.cmd with hostKey := b } }
  | .mgrKey => { s1 with cmd := { s1.cmd with mgrKey := b } }
  | .ensKey => { s1 with cmd := { s1.cmd with ensKey := b } }
  | .castKey => { s1 with cast := { s1.cast with key := b } }.setFlag Reg.CKEY_STAT_PRESENT (b != [])
  | .castPolicy =>
    let h (k : Nat) : List Byte := if leAt b (33 * k) 1 = 1 then slice b (33 * k + 1) 32 else []
    { s1 with cast := { s1.cast with signers := (List.range 4).map h } }
  | .joinDesc => { s1 with ens := { s1.ens with desc := b } }
  | .training => { s1 with mu := { s1.mu with stored := (List.range (b.length / 128)).map (fun k => slice b (128 * k) 128) } }
  | .timeCfg => { s1 with time := { s1.time with cfg := TimeCfg.ofBytes b } }
  | .crystal => { s1 with time := { s1.time with learned := sgn 64 (leAt b 0 8) } }
  | .logReserve => { s1 with log := { s1.log with reserved := leAt b 0 4 } }
  | .logErase => { s1 with log := { s1.log with eraseIntent := if leAt b 0 1 = 1 then some (leAt b 1 1) else none } }
  | .vaultHeader => { s1 with vault := { s1.vault with seed := b.take 32, vgen := leAt b 32 4 } }
  | .wipeIntent =>
    if leAt b 0 1 = 1 then { s1 with vault := { s1.vault with intent := true, vgen := leAt b 1 4 } } else s1
  | _ => s1
/-- A record written with what stands now. -/
def State.persist (s : State) (r : Rec) : State := s.recWrite r (s.bodyNow r)
/-- Every record taken from its newest valid copy. -/
def State.loadRecs (s : State) : State :=
  allRecs.foldl (fun s r => match s.recBody r with | some b => s.recLoad r b | none => s) s

end Sys2Proof.Machine
end

