-- ==== Sys2Proof/Machine/Logging.lean ====
section
/-! DEFINITION. Writing log entries: who may raise which code, numbering, the ring, the rate limit (R599–R609). -/

namespace Sys2Proof.Machine

/-- Table FLT-4: the severity of each code. -/
def logSev (code : Nat) : Nat :=
  if code ∈ [0x0201, 0x0202, 0x0203, 0x0209, 0x0804] then 4
  else if code ∈ [0x0102, 0x0103, 0x0204, 0x0208, 0x0209, 0x0301, 0x0302, 0x0305, 0x0306, 0x0307, 0x0402, 0x0404, 0x0405,
    0x0407, 0x0409, 0x040B, 0x0501, 0x0502, 0x0505, 0x0601, 0x0603, 0x0701, 0x0B05, 0x0B06, 0x0B09, 0x0C01, 0x0C03] then 3
  else if code ∈ [0x0401, 0x0403, 0x0406, 0x040A, 0x0506, 0x0702, 0x0705, 0x0803, 0x0A01, 0x0B08] then 1
  else if code ∈ [0x0604, 0x0704] then 0
  else 2
/-- Table FLT-4: the codes marked P. -/
def logP (code : Nat) : Bool :=
  code ∈ [0x0103, 0x0201, 0x0202, 0x0203, 0x0209, 0x0306, 0x0407, 0x0601, 0x0603, 0x0804, 0x0A01, 0x0A02, 0x0A03, 0x0C03]
/-- The codes that units of the kettle raise themselves, which never pass the input queue (R601): power, clock, thermal,
door, vault storage, time, self-test and the log's own. DEDUCED from the die that holds each unit (Table WHOLE-1). -/
def kettleRaises (code : Nat) : Bool :=
  (code ≥ 0x0201 ∧ code ≤ 0x0209 ∧ code ≠ 0x0205) ∨ code ∈ [0x0102, 0x0103, 0x0703, 0x0705] ∨
  (code ≥ 0x0801 ∧ code ≤ 0x0804) ∨ code = 0x0901 ∨ (code ≥ 0x0A01 ∧ code ≤ 0x0A03) ∨ (code ≥ 0x0C01 ∧ code ≤ 0x0C03)

/-- An entry with the time and the time flags of this instant (R600). -/
def State.logSub (s : State) (code sev flags src : Nat) (data : List Byte) : LogSub :=
  { code := code, sev := sev,
    flags := flags + s.get Reg.TIME_STAT_HOLDOVER + 2 * s.get Reg.TIME_STAT_TIME_UNSURE,
    ns := todNs s.time.tod, sec := todSec s.time.tod, src := src % 65536, data := padTo 10 data }

/-- The bytes of an entry (Table FLT-2), CRC last. -/
def logBytes (e : LogEntry) : List Byte :=
  let b := leBytes 4 e.seq ++ leBytes 2 e.sub.code ++ leBytes 1 e.sub.sev ++ leBytes 1 e.sub.flags ++ leBytes 4 e.sub.ns ++
    leBytes 6 e.sub.sec ++ leBytes 2 e.sub.src ++ padTo 10 e.sub.data
  b ++ leBytes 2 (crc16 b)

/-- One tenth of a second: what one token of R606 costs. -/
def logToken : Nat := unitSec / 10
/-- The rate limit at this instant: what has been filled up to 127 tokens. -/
def State.logTokens (s : State) : Nat :=
  min (127 * logToken) (s.log.tokens + (s.time.up - s.log.filledAt))

/-- Whether an entry is offered to the persistent log (R606, R609). -/
def State.logOffered (s : State) (e : LogSub) : Bool :=
  if e.code = 0x0704 then s.flag Reg.LOG_CFG_MATCH_P
  else logP e.code || decide (s.get Reg.LOG_CFG_PSEV ≤ e.sev)

/-- The persistent log's part of one new entry: an offered entry marked P is accepted, another needs a token, and a
refused one sets PTHR (R606). -/
def State.logOffer (s : State) (e : LogEntry) : State :=
  if s.logOffered e.sub then
    if logP e.sub.code then { s with log := { s.log with toPersist := s.log.toPersist ++ [e] } }
    else
      let t := s.logTokens
      if logToken ≤ t then
        { s with log := { s.log with toPersist := s.log.toPersist ++ [e], tokens := t - logToken, filledAt := s.time.up } }
      else s.setFlag Reg.LOG_STAT_PTHR true
  else s

/-- The SEQ the next entry takes. -/
def State.nextSeq (s : State) : Nat := wrapAdd 32 (s.get Reg.LOG_HEAD_SEQ) 1

/-- The kettle numbers an entry and writes it into the ring (R601, R602, R604); LOG_EVT follows (Table FLT-5). -/
def State.logPut (s : State) (e : LogSub) : State :=
  let q := s.nextSeq
  let r := { seq := q, sub := e }
  let s1 := s.put Reg.LOG_HEAD_SEQ q
  let s2 := { s1 with log := { s1.log with
    ring := (s1.log.ring ++ [r]).drop (s1.log.ring.length + 1 - 2048),
    reserved := if q = s1.log.reserved ∨ q % 65536 = 0 then wrapAdd 32 q 65536 else s1.log.reserved } }
  let s3 := (if s2.log.reserved = s.log.reserved then s2 else s2.persist .logReserve).logOffer r
  let s4 := s3.event Reg.LOG_EVT_NEW 1 0 Reg.LOG_IRQ_EN_EN 6 .logIrq
  if s4.get Reg.LOG_IRQ_EN_SEV ≤ e.sev then s4.event Reg.LOG_EVT_ALERT 1 1 Reg.LOG_IRQ_EN_EN 6 .logIrq else s4

/-- The count that LOG_LOST tells, written first once the input queue has room (R603). -/
def State.logLost (s : State) : State :=
  if s.log.lost ≠ 0 ∧ s.log.inQ.length < 64 then
    let n := s.log.lost
    let s1 := { s with log := { s.log with lost := 0 } }
    s1.logPut (s1.logSub 0x0C01 3 0 0 (leBytes 4 n))
  else s
/-- An entry written by the kettle. -/
def State.logWrite (s : State) (e : LogSub) : State := s.logLost.logPut e
/-- An entry handed to the input queue, dropped and counted where the queue is full (R601, R603). -/
def State.logSubmit (s : State) (e : LogSub) : State :=
  if s.log.inQ.length < 64 then { s with log := { s.log with inQ := s.log.inQ ++ [e] } }
  else
    let s1 := (s.bumpSat Reg.LOG_DROPS_COUNT 1).setFlag Reg.LOG_STAT_DROP true
    { s1 with log := { s1.log with lost := s1.log.lost + 1 } }
/-- The kettle takes the oldest entry of the input queue. -/
def State.logTake (s : State) : State :=
  match s.log.inQ with
  | [] => s
  | e :: r => { s with log := { s.log with inQ := r } }.logWrite e
/-- The kettle takes `n` entries. -/
def State.logTakeN : Nat → State → State
  | 0, s => s
  | n + 1, s => State.logTakeN n s.logTake
/-- The input queue emptied. -/
def State.logDrain (s : State) : State := State.logTakeN s.log.inQ.length s

/-- An event logged under its code (Table FLT-4). -/
def State.logEvent (s : State) (code src : Nat) (data : List Byte) : State :=
  let e := s.logSub code (logSev code) 0 src data
  if kettleRaises code then s.logWrite e else s.logSubmit e
/-- A memory error logged with the WRITE flag (Table FLT-2, FLT-7). -/
def State.logEventW (s : State) (code src : Nat) (data : List Byte) : State :=
  s.logSubmit (s.logSub code (logSev code) 4 src data)
/-- An event logged whose SEQ a FAULT or MEM_UE reply names: entries queued before it are taken first, so that the entry is
in the ring before the reply that reports it (R597, R601). -/
def State.logNow (s : State) (code src : Nat) (data : List Byte) : State :=
  s.logDrain.logWrite (s.logSub code (logSev code) 0 src data)
/-- The DETAIL that names the newest entry (Table CMD-3). -/
def State.logDetail (s : State) : Nat := s.get Reg.LOG_HEAD_SEQ % 65536

/-- The oldest SEQ of the ring (Table FLT-5). -/
def State.logTail (s : State) : Nat := (s.nextSeq + 2 ^ 32 - s.log.ring.length) % 2 ^ 32
/-- The entries of the persistent log, by rising SEQ (R612): those that waited while an erase ran stand behind LOG_ERASED in the sectors (R664). -/
def State.logPersisted (s : State) : List LogEntry :=
  ((s.log.sectors.flatMap (fun c => c.slots.filterMap id)).foldl (fun (t : Tab LogEntry) e => tinsert t e.seq e) []).map Prod.snd
/-- LOG_PHEAD and LOG_PTAIL. -/
def State.logPHead (s : State) : Nat :=
  match s.logPersisted.getLast? with
  | some e => e.seq
  | none => s.get Reg.LOG_HEAD_SEQ
def State.logPTail (s : State) : Nat :=
  match s.logPersisted with
  | e :: _ => e.seq
  | [] => s.nextSeq

end Sys2Proof.Machine
end

