-- ==== Sys2Proof/Machine/Plb.lean ====
section
/-! DEFINITION. One product-term logic block and one user I/O (R221–R228, R234, R235): what their settings make of their inputs and
flip-flops, and which settings are legal. -/

namespace Sys2Proof

/-- A term's value: constant 1 without literals, constant 0 with both polarities of one signal (R221). -/
def PlbTerm.eval (t : PlbTerm) (x : Nat) : Bool := t.pos &&& x == t.pos && (t.neg &&& x) == 0
/-- Term `k` of a macrocell's own cluster. -/
def PlbCell.term (c : PlbCell) (k x : Nat) : Bool := match c.terms[k]? with | some t => t.eval x | none => false
/-- The terms of a cluster that enter an OR: all but those that serve its owner as XOR input (0), clock enable (1) or, in macrocell 15, ASR
source (4) (R223, R226, R227). -/
def PlbCell.orTerms (c : PlbCell) (asrHere : Bool) : List PlbTerm :=
  ((c.terms.zipIdx).filter (fun p =>
    !(p.2 == 0 && c.xin == .term0) && !(p.2 == 1 && c.enable == .term1) && !(p.2 == 4 && asrHere))).map (·.1)
/-- A macrocell of a PLB. -/
def PlbSet.cell (b : PlbSet) (m : Nat) : Option PlbCell := b.cells[m]?
/-- The OR sum of macrocell `m`: every cluster steered to it. A macrocell whose own cluster is steered away has none (R222). -/
def PlbSet.orSum (b : PlbSet) (m x : Nat) : Bool :=
  (b.cell m).any (fun c => c.owner == m) &&
    (b.cells.zipIdx).any (fun p => p.1.owner == m && (p.1.orTerms (p.2 == 15 && b.asrTerm)).any (·.eval x))
/-- The XOR output (R223). -/
def PlbSet.xorOut (b : PlbSet) (m x : Nat) : Bool :=
  match b.cell m with
  | none => false
  | some c => b.orSum m x != (match c.xin with | .zero => false | .one => true | .term0 => c.term 0 x)
/-- The macrocell's output is its flip-flop (R224). -/
def PlbCell.registered (c : PlbCell) : Bool := c.mode != .bypass && c.outQ
/-- ASR of the block, from its input or from term 4 of macrocell 15 (R227). -/
def PlbSet.asr (b : PlbSet) (x : Nat) (asrIn : Bool) : Bool := if b.asrTerm then (b.cell 15).any (fun c => c.term 4 x) else asrIn
/-- Q after a rising edge: the clock enable, then D or T (R224, R226). -/
def PlbSet.clocked (b : PlbSet) (m x : Nat) (ce q : Bool) : Bool :=
  match b.cell m with
  | none => q
  | some c =>
    let en := match c.enable with | .always => true | .term1 => c.term 1 x | .ce => ce
    match c.mode with
    | .bypass => q
    | .d => if en then b.xorOut m x else q
    | .t => if en then q != b.xorOut m x else q
/-- Q after an instant that may bring an edge of the macrocell's clock: ASR overrides clock and enable (R227). -/
def PlbSet.next (b : PlbSet) (m x : Nat) (edge ce asr q : Bool) : Bool :=
  match b.cell m with
  | none => q
  | some c =>
    match c.asr with
    | .set => if asr then true else if edge then b.clocked m x ce q else q
    | .reset => if asr then false else if edge then b.clocked m x ce q else q
    | .none => if edge then b.clocked m x ce q else q
/-- A macrocell's clock: one of the block's two (R225). -/
def PlbSet.clock (b : PlbSet) (c : PlbCell) : Nat := if c.ck then b.ck1 else b.ck0
/-- A legal PLB: at most 48 inputs and five terms to a cluster; steering takes clusters m to m + 3 only, without wrapping (R222), and a steered
cluster keeps no term for its owner (R249). -/
def PlbSet.legal (b : PlbSet) : Bool :=
  b.cells.length == 16 && decide (b.ins.length ≤ 48) && decide (b.ck0 < 8) && decide (b.ck1 < 8) && (b.cells.zipIdx).all (fun p =>
    decide (p.1.terms.length ≤ 5) && p.1.terms.all (fun t => decide (t.pos < 2 ^ 48 ∧ t.neg < 2 ^ 48)) &&
    decide (p.1.owner ≤ p.2) && decide (p.2 ≤ p.1.owner + 3) &&
    (p.1.owner == p.2 || (p.1.xin != .term0 && p.1.enable != .term1 && !(b.asrTerm && p.2 == 15))))
/-- The CELL of macrocell `m` (Table RCST-3). -/
def PlbSet.code (b : PlbSet) (m : Nat) : Nat := b.plb / 768 * 2 ^ 20 + b.plb % 768 * 16 + m

/-- The drives of a standard (Table PLB-2). -/
def ioDrives (std : Nat) : List Nat :=
  if std = 0 then [2, 4, 6] else if std = 1 then [2, 4, 8, 12] else if std ≤ 3 then [4, 8, 12, 16] else []
/-- A legal user I/O: a standard and drive of Table PLB-2, and, where it is relay-capable, both output flip-flops (R235). -/
def IoSet.legal (c : IoSet) (relay : Bool) : Bool :=
  (ioDrives c.std).contains c.drive && decide (c.uclk < 8) && decide (c.pull < 4) && (!relay || (c.useOut && c.useOe))
/-- Legal crossings: 32 signals at most (R229). -/
def CrossSet.legal (c : CrossSet) : Bool := decide (c.uclk < 8) && decide (c.outs.length ≤ 32)
/-- The region (die * 16 + region) that a signal comes from; constants and other signals have none. -/
def Net.region : Net → Option Nat
  | .cell c => some (c / 2 ^ 20)
  | .io k => some (k / 18)
  | .cross r _ => some r
  | .qbFlag b _ => some (b / 72)
  | .qbOut b _ => some (b / 72)
  | .eo e _ => some (e / 3)
  | _ => none
/-- A number for a signal that logic can make. -/
def Net.num : Net → Nat
  | .cell c => 2 * c
  | .io k => 2 * k + 1
  | _ => 0
/-- Every signal that a personality uses. -/
def Personality.nets (p : Personality) : List Net :=
  p.plbs.flatMap (fun b => b.ce :: b.asrIn :: b.ins) ++ p.ios.flatMap (fun c => [c.out, c.oe]) ++ p.crossings.flatMap (fun c => c.outs)
/-- The regions that hold a fabric command port. -/
def Personality.cmdRegion (p : Personality) : List Nat := p.cmdPort.map (fun c => c.1)

end Sys2Proof
end

