-- ==== Sys2Proof/Machine/TileNet.lean ====
section
/-! DEFINITION. The tile network (R410–R417): the mesh and its routes, flits in the routers' buffers, credits, grants, and the packets
that the M7's accesses and operations send through it. -/

namespace Sys2Proof.Machine

/-! ### The mesh and its routes (R410, R411) -/

/-- The place of every plinth endpoint in the network; a place below it is the router of a tile. -/
def plinthPlace : Nat := 192
/-- A router's column and row on its die. -/
def meshCol (r : Nat) : Nat := r % 96 % 8
def meshRow (r : Nat) : Nat := r % 96 / 8
/-- A router's ports: 0 its tile, 1 west, 2 east, 3 and 4 the neighbours at the lower and the higher row, 5 the bridge link of column 7. -/
def meshOut (r dst : Nat) : Nat :=
  if dst = plinthPlace ∨ dst / 96 ≠ r / 96 then (if meshCol r < 7 then 2 else 5)
  else if meshCol r < meshCol dst then 2
  else if meshCol dst < meshCol r then 1
  else if meshRow r < meshRow dst then 4
  else if meshRow dst < meshRow r then 3
  else 0
/-- The router and its input port that an output of a router leads to; none where the flit has arrived. -/
def meshInto (r out dst : Nat) : Option (Nat × Nat) :=
  if out = 1 then some (r - 1, 2)
  else if out = 2 then some (r + 1, 1)
  else if out = 3 then some (r - 8, 4)
  else if out = 4 then some (r + 8, 3)
  else if out = 5 ∧ dst < plinthPlace then some ((r + 96) % 192, 5)
  else none
/-- Where a packet enters: its source's router, or from the plinth the bridge link of the row of the tile it is for. -/
def meshEntry (src dst : Nat) : Nat × Nat := if src < plinthPlace then (src, 0) else (dst / 96 * 96 + meshRow dst * 8 + 7, 5)

/-! ### Classes, buffers and credits (R412, R413, Table ADDR-7) -/

/-- The classes in their order of priority. -/
def clsMgt : Nat := 0
def clsRsp : Nat := 1
def clsSyn : Nat := 2
def clsHq : Nat := 3
def clsReq : Nat := 4
/-- Flits that the buffer of a class holds. -/
def clsBuffer (c : Nat) : Nat := if c = clsMgt then 3 else if c = clsSyn ∨ c = clsHq then 4 else 12
/-- The key of a router's port and a class. -/
def netKey (r port c : Nat) : Nat := (r * 6 + port) * 5 + c
/-- The flits in an input buffer, oldest first. -/
def NetUnit.buf (n : NetUnit) (k : Nat) : List Flit := tget [] n.bufs k
/-- The credits that a sender has for a class at an input: a credit is one free place, returned as a flit leaves. -/
def NetUnit.credits (n : NetUnit) (r port c : Nat) : Nat := clsBuffer c - (n.buf (netKey r port c)).length
/-- The cycles of a hop, and those that a crossing of the bridge adds at 1.30 GHz (R410). -/
def hopCycles : Nat := 4
def bridgeCycles : Nat := 31

/-! ### Grants (R414) -/

/-- A flit that could leave: its buffer, its router's output port, its class. -/
structure NetReq where
  key : Nat
  out : Nat
  cls : Nat
  flit : Flit
deriving DecidableEq, Repr
/-- The flit at the head of a buffer, where it is ready, its class has a credit at the next input, and no other packet of its class is
half way over the link. -/
def NetUnit.ready (n : NetUnit) (e : Nat × List Flit) : Option NetReq :=
  match e.2 with
  | [] => none
  | f :: _ =>
    let c := e.1 % 5
    let r := e.1 / 30
    let o := meshOut r f.dst
    let credit : Bool := match meshInto r o f.dst with
      | some p => decide (0 < n.credits p.1 p.2 c)
      | none => true
    let free : Bool := tget 0 n.owner (netKey r o c) == 0 || tget 0 n.owner (netKey r o c) == f.pkt + 1
    if f.ready ≤ n.now && credit && free then some { key := e.1, out := r * 6 + o, cls := c, flit := f } else none
/-- A class has waited 256 cycles at an output with a credit available. -/
def NetUnit.starves (n : NetUnit) (q : NetReq) : Bool := decide (256 ≤ tget 0 n.waits (q.out * 5 + q.cls))
/-- The grant of an output among those that ask for it: a class that starves, else by strict priority. Of two inputs that ask with one
class the lower port is granted (DESIGN CHOICE, log entry 93). -/
def NetUnit.grant (n : NetUnit) (l : List NetReq) : Option NetReq :=
  let best (a : Option NetReq) (q : NetReq) : Option NetReq := match a with
    | none => some q
    | some b => if q.cls < b.cls then some q else a
  match (l.filter n.starves).foldl best none with
  | some q => some q
  | none => l.foldl best none
/-- A count of a list raised. -/
def bumpAt (l : List Nat) (k : Nat) : List Nat := l.set k ((l.getD k 0 + 1) % 2 ^ 64)
/-- A granted flit moves over its link, or leaves the network at its sink, which always accepts it (R416). -/
def NetUnit.move (n : NetUnit) (q : NetReq) : NetUnit :=
  let r := q.key / 30
  let d := r / 96
  let o := q.out % 6
  let f := q.flit
  let into := meshInto r o f.dst
  let cross := o = 5 ∧ into.isSome
  let n1 := { n with bufs := tput [] n.bufs q.key ((n.buf q.key).drop 1)
                     owner := tput 0 n.owner (q.out * 5 + q.cls) (if f.last then 0 else f.pkt + 1)
                     granted := bumpAt n.granted (d * 5 + q.cls)
                     starved := if n.starves q then bumpAt n.starved d else n.starved
                     bridgeOut := if o = 5 then bumpAt n.bridgeOut d else n.bridgeOut
                     bridgeIn := if cross then bumpAt n.bridgeIn (1 - d) else n.bridgeIn }
  match into with
  | none => n1
  | some p =>
    let k := netKey p.1 p.2 q.cls
    { n1 with bufs := tput [] n1.bufs k (n1.buf k ++ [{ f with ready := n.now + hopCycles + (if cross then bridgeCycles else 0) }]) }
/-- One cycle: every output grants at most one flit, and the classes that it passes over wait. -/
def NetUnit.cycle (n : NetUnit) : NetUnit :=
  let asks := n.bufs.filterMap n.ready
  let outs := (asks.map (fun q => q.out)).eraseDups
  let wins := outs.filterMap (fun o => n.grant (asks.filter (fun q => q.out == o)))
  let wait (w : Tab Nat) (q : NetReq) : Tab Nat :=
    let k := q.out * 5 + q.cls
    if wins.any (fun v => v.out == q.out && v.cls == q.cls) then tput 0 w k 0 else tput 0 w k (tget 0 n.waits k + 1)
  let n1 := { wins.foldl NetUnit.move n with waits := asks.foldl wait n.waits }
  if asks = [] then
    -- nothing can move before the next flit is ready
    let next := n.bufs.foldl (fun m e => match e.2 with | [] => m | f :: _ => if n.now < f.ready then min m f.ready else m) (n.now + 64)
    { n1 with now := next }
  else { n1 with now := n.now + 1 }
/-- The network runs until a condition holds, `k` cycles at most. -/
def NetUnit.runUntil (p : NetUnit → Bool) : Nat → NetUnit → NetUnit
  | 0, n => n
  | k + 1, n => if p n then n else NetUnit.runUntil p k n.cycle
/-- Cycles that are enough for what the network holds (R416). -/
def NetUnit.fuel (n : NetUnit) : Nat := 64 * ((n.bufs.map (fun e => e.2.length)).sum + 4)
/-- The network runs until it is empty. -/
def NetUnit.drain (n : NetUnit) : NetUnit := n.runUntil (fun n => n.bufs.isEmpty) n.fuel

/-! ### Packets sent (R410–R413, R417) -/

/-- The flits of a packet: a header and one for each 32 bytes of its data. -/
def meshFlits (pkt dst now data : Nat) : List Flit :=
  let k := ceilDiv data 32
  (List.range (k + 1)).map (fun i => { pkt := pkt, dst := dst, last := i == k, ready := now })
/-- A packet enters the network. One for which its first buffer has no room waits until it has, while the network runs (R417). -/
def NetUnit.inject (n : NetUnit) (src dst c data : Nat) : NetUnit :=
  let e := meshEntry src dst
  let k := netKey e.1 e.2 c
  let room (n : NetUnit) : Bool := decide (ceilDiv data 32 + 1 ≤ n.credits e.1 e.2 c)
  let n1 := n.runUntil room n.fuel
  let fs := meshFlits n1.next dst n1.now data
  { n1 with bufs := tput [] n1.bufs k (n1.buf k ++ fs), next := n1.next + 1
            bridgeIn := if plinthPlace ≤ src then (fs.foldl (fun l _ => bumpAt l (dst / 96)) n1.bridgeIn) else n1.bridgeIn }
/-- A packet of a class with `data` bytes, at most 64, from a place to another. Within one place, and between plinth endpoints, nothing
crosses the network. -/
def State.netSend (s : State) (src dst c data : Nat) : State :=
  if src = dst ∨ ¬ s.fabricPowered then s else { s with mesh := s.mesh.inject src dst c data }
/-- What is in the network has arrived. -/
def State.netSettle (s : State) : State := { s with mesh := s.mesh.drain }
/-- A request and the answer to it, with the data that each carries. -/
def State.netAsk (s : State) (src dst c data back : Nat) : State := (s.netSend src dst c data).netSend dst src clsRsp back
/-- Data of a class in packets of at most 64 bytes each. -/
def State.netBytes (s : State) (src dst c n : Nat) : State :=
  (List.range (ceilDiv n 64)).foldl (fun s i => s.netSend src dst c (min 64 (n - 64 * i))) s
/-- The router of a region's fabric: of its first tile (DESIGN CHOICE, log entry 93). -/
def regionPlace (g : Nat) : Nat := 6 * g
/-- The place that serves a device physical address: the tile of a pillar or a store, the owner of a CSR window, or the plinth. -/
def placeOf (a : Nat) : Nat :=
  if a < 0x300000000 then a / 0x4000000
  else if 0x4000000000 ≤ a ∧ a < 0x4003000000 then (a - 0x4000000000) / 0x40000
  else if 0xF001000000 ≤ a ∧ a < 0xF001C00000 then (a - 0xF001000000) / 0x10000
  else if 0xF001C00000 ≤ a ∧ a < 0xF001F00000 then regionPlace ((a - 0xF001C00000) / 0x8000 / 3)
  else plinthPlace
/-- The packets of a read or a write of `n` bytes of memory: one request and one answer for each 64-byte block that it touches (R412). -/
def State.netAccess (s : State) (src a n : Nat) (write : Bool) : State :=
  if src = placeOf a then s
  else (List.range (ceilDiv (a % 64 + n) 64)).foldl (fun s i =>
    let b := a / 64 * 64 + 64 * i
    let k := min (a + n) (b + 64) - max a b
    s.netAsk src (placeOf b) clsReq (if write then k else 0) (if write then 0 else k)) s
/-- The packets of a CSR access: steward and CSR traffic (Table ADDR-7). -/
def State.netCsr (s : State) (src a : Nat) (write : Bool) : State :=
  s.netAsk src (placeOf (0xF000000000 + a)) clsMgt (if write then 4 else 0) (if write then 0 else 4)

end Sys2Proof.Machine
end

