-- ==== Sys2Proof/Machine/Qb.lean ====
section
/-! DEFINITION. Queue blocks: their shapes, FIFO modes with both sides' views, the reset pulse, and the words of a fabric command port that
pass through two of them (R57, R237–R246). -/

namespace Sys2Proof

open Sys2Proof.Machine

/-- Two different clocks on the sides of a block (R237, R242). -/
def QbCfg.dual (c : QbCfg) : Bool := c.ckA != c.ckB
/-- The depth of a shape (Table PLB-4). -/
def QbCfg.size (c : QbCfg) : Nat := if c.mode = .handle then c.depth else if c.prot then 512 else 36864 / c.width
/-- A shape of Table PLB-4. -/
def QbCfg.shape (c : QbCfg) : Bool :=
  let narrow := (c.width == 8 || c.width == 16 || c.width == 32) && !c.prot
  match c.mode with
  | .ram => narrow
  | .ramWide => c.width == 64
  | .fifo | .credit => narrow || c.width == 64
  | .handle => c.width == 32 && !c.prot
/-- A legal block: a shape of Table PLB-4, its clocks, latencies and RDW, AF_T and AE_T in their ranges (R241), HQN and DEPTH in theirs
(R246). -/
def QbCfg.legal (c : QbCfg) : Bool :=
  c.shape && decide (c.ckA < 10 ∧ c.ckB < 10) &&
    (match c.mode with
     | .fifo | .credit => decide (1 ≤ c.afT ∧ c.afT ≤ c.size ∧ c.aeT + 1 ≤ c.size)
     | .handle => decide (1 ≤ c.depth ∧ c.depth ≤ 256 ∧ c.hqn < 1024)
     | _ => decide (1 ≤ c.latA ∧ c.latA ≤ 2 ∧ 1 ≤ c.latB ∧ c.latB ≤ 2 ∧ c.rdw ≤ 2))
/-- A block in a FIFO mode. -/
def QbCfg.isFifo (c : QbCfg) : Bool := c.mode == .fifo || c.mode == .credit
/-- Bytes per word. -/
def QbCfg.lanes (c : QbCfg) : Nat := c.width / 8
/-- The lanes a port writes, with their bytes. -/
def RamOp.lane (o : RamOp) (k : Nat) : Option Nat := if o.write && bit o.be k then some (bits o.data (8 * k) 8) else none

end Sys2Proof

namespace Sys2Proof.Machine

/-- A queue block beside its settings. -/
def State.qb (s : State) (b : Nat) : QbX := tget QbX.fresh s.fab.qbs b
def State.setQb (s : State) (b : Nat) (x : QbX) : State := { s with fab := { s.fab with qbs := tput QbX.fresh s.fab.qbs b x } }
/-- The region of a queue block, as its bit of a region mask. -/
def qbRegion (b : Nat) : Nat := b / 72
/-- A region is frozen (R202). -/
def State.frozen (s : State) (r : Nat) : Bool := bit (s.get Reg.CWALL_MASK) r
/-- A released cast: CAST_STATUS.STATE RUNNING or RECASTING. -/
def State.castRuns (s : State) : Bool :=
  s.fabricPowered && (s.get Reg.CAST_STATUS_STATE == 3 || s.get Reg.CAST_STATUS_STATE == 4)
/-- The frequency in kHz of a UCLK that runs: 0 where CLOCKS gives 0, and in IDLE where IDLE_UCLK does not select it (R231, R233). -/
def State.uclkRate (s : State) (k : Nat) : Nat :=
  if s.cur = 1 ∧ ¬ bit (s.get Reg.PWR_CTRL_IDLE_UCLK) k then 0 else s.fab.clocks.getD k 0
/-- A clock of a block runs: SECLK and the plinth's do while the fabric is powered. -/
def State.clockRuns (s : State) (k : Nat) : Bool := decide (8 ≤ k) || s.uclkRate k != 0
/-- The settings of a queue block in the running cast. -/
def State.qbCfg (s : State) (b : Nat) : Option QbCfg := if s.castRuns then s.fab.pers.qbs.find? (fun c => c.qb == b) else none

/-! ### SECDED (R240) -/

/-- What a check byte makes of a 64-bit word: the word, ECC_FIX, ECC_BAD. An error in one bit of the word or of the check byte is corrected. -/
def eccRead (w c : Nat) : Nat × Bool × Bool :=
  if c = cut 8 (Config.secded w) then (w, false, false)
  else match (List.range 64).find? (fun i => cut 8 (Config.secded (w ^^^ 2 ^ i)) == c) with
    | some i => (w ^^^ 2 ^ i, true, false)
    | none => if (List.range 8).any (fun j => cut 8 (Config.secded w) ^^^ 2 ^ j == c) then (w, true, false) else (w, false, true)
/-- An entry as a FIFO stores it: in the protected shape the check byte stands above the word. -/
def qbStore (c : QbCfg) (v : Nat) : Nat :=
  let w := cut c.width v
  if c.prot then w + 2 ^ 64 * cut 8 (Config.secded w) else w
/-- An entry as its read gives it. -/
def qbFetch (c : QbCfg) (e : Nat) : Nat × Bool × Bool := if c.prot then eccRead (cut 64 e) (e / 2 ^ 64) else (e, false, false)

/-! ### FIFO modes (R241–R245) -/

/-- Each side's view of the level, pessimistic for that side. -/
def QbX.wLevel (x : QbX) : Nat := x.entries.length + x.wlag
def QbX.rLevel (x : QbX) : Nat := x.entries.length - x.rlag
/-- The credits of a credit FIFO's write side. -/
def QbX.credits (x : QbX) (c : QbCfg) : Nat := c.size - x.wLevel
/-- RST or its tail holds a side (R244). -/
def QbX.wRst (x : QbX) : Bool := x.pulse != 0 || x.tailW != 0
def QbX.rRst (x : QbX) : Bool := x.pulse != 0 || x.tailR != 0
/-- The flags; a frozen block shows FULL, AFULL, EMPTY and AEMPTY to the outside (Table RCST-2), and RST holds FULL and EMPTY (R244). -/
def State.qbFull (s : State) (c : QbCfg) : Bool :=
  s.frozen (qbRegion c.qb) || (s.qb c.qb).wRst || decide (c.size ≤ (s.qb c.qb).wLevel)
def State.qbAfull (s : State) (c : QbCfg) : Bool := s.frozen (qbRegion c.qb) || decide (c.afT ≤ (s.qb c.qb).wLevel)
def State.qbEmpty (s : State) (c : QbCfg) : Bool :=
  s.frozen (qbRegion c.qb) || (s.qb c.qb).rRst || decide ((s.qb c.qb).rLevel = 0)
def State.qbAempty (s : State) (c : QbCfg) : Bool := s.frozen (qbRegion c.qb) || decide ((s.qb c.qb).rLevel ≤ c.aeT)
/-- The oldest entry on the data output. -/
def QbX.show (x : QbX) (c : QbCfg) (e : Nat) : QbX :=
  let r := qbFetch c e
  { x with outA := r.1, eccFix := r.2.1, eccBad := r.2.2 }
/-- With first-word fall-through the oldest entry the read side sees is on the data output. -/
def QbX.fall (x : QbX) (c : QbCfg) : QbX := if c.fwft && x.rLevel != 0 then x.show c (x.entries.headD 0) else x
/-- A write on the write side: discarded with OVF where FULL is asserted or no credit is held; a frozen block takes nothing in (R202), and
during RST a write is discarded without OVF (R244). -/
def State.fifoPush (s : State) (c : QbCfg) (v : Nat) : State :=
  let x := s.qb c.qb
  if s.frozen (qbRegion c.qb) || x.wRst then s
  else if s.qbFull c then s.setQb c.qb { x with ovf := true }
  else s.setQb c.qb ({ x with entries := x.entries ++ [qbStore c v], rlag := if c.dual then x.rlag + 1 else 0 }.fall c)
/-- A read on the read side: UDF where EMPTY is asserted, but for a frozen block or RST. Without fall-through the entry appears on the data
output; with it the next one does, or a free value where the view empties. -/
def State.fifoPop (s : State) (c : QbCfg) : State :=
  let x := s.qb c.qb
  if s.frozen (qbRegion c.qb) || x.rRst then s
  else if s.qbEmpty c then s.setQb c.qb { x with udf := true }
  else
    let y := { x with entries := x.entries.drop 1, wlag := if c.dual then x.wlag + 1 else 0 }
    if c.fwft then
      if y.rLevel = 0 then s.draw.setQb c.qb { y with outA := s.drawn c.width } else s.setQb c.qb (y.fall c)
    else s.setQb c.qb (y.show c (x.entries.headD 0))
/-- RST: pointers and sticky flags cleared, credits back at the depth, and the pulse of 4 cycles of the slower clock begun (R244). -/
def QbX.reset (x : QbX) : QbX := { x with entries := [], ovf := false, udf := false, wlag := 0, rlag := 0, pulse := 4, tailW := 3, tailR := 3 }
/-- An edge of the write side's clock, of the read side's, and of the slower of the two: the pulse goes on with the slower clock, then each
side's tail with its own. -/
def QbX.edge (x : QbX) (w r slow : Bool) : QbX :=
  if x.pulse ≠ 0 then (if slow then { x with pulse := x.pulse - 1 } else x)
  else { x with tailW := if w then x.tailW - 1 else x.tailW, tailR := if r then x.tailR - 1 else x.tailR }

/-! ### The fabric command port (R57) -/

/-- The port of a die: its region, request block and reply block. -/
def State.cmdPort (s : State) (d : Nat) : Option (Nat × Nat × Nat) := s.fab.pers.cmdPort.find? (fun c => c.1 / 16 == d)
/-- Bytes as 32-bit words, bytes 0–3 in the first, zeros behind the last. -/
def portWords (b : List Byte) : List Nat := (List.range ((b.length + 3) / 4)).map (fun k => leAt b (4 * k) 4)
/-- The first word has gone into the reply block. -/
def State.portGone (s : State) (d : Nat) : State :=
  { s with fab := { s.fab with portOut := tput [] s.fab.portOut d ((tget [] s.fab.portOut d).drop 1) } }
/-- The settings of the port's blocks in the running cast: request, reply. -/
def State.portQbs (s : State) (d : Nat) : Option (QbCfg × QbCfg) :=
  match s.cmdPort d with
  | none => none
  | some (_, a, b) => match s.qbCfg a, s.qbCfg b with
    | some x, some y => some (x, y)
    | _, _ => none
/-- Words that the port has for the fabric enter the reply block while it has credit. -/
def State.portFill (s : State) (d : Nat) : State :=
  match s.portQbs d with
  | none => s
  | some (_, c) => (tget [] s.fab.portOut d).foldl (fun s w => if s.qbFull c then s else (s.fifoPush c w).portGone d) s
/-- Words of a reply for the fabric. -/
def State.portSend (s : State) (d : Nat) (b : List Byte) : State :=
  let s := match s.cmdPort d with
    | some (r, _, _) => s.netBytes plinthPlace (regionPlace r) clsMgt b.length
    | none => s
  { s with fab := { s.fab with portOut := tput [] s.fab.portOut d (tget [] s.fab.portOut d ++ portWords b) } }.portFill d
/-- The port takes the words that stand in the request block, and their credits return. -/
def State.portDrain (s : State) (d : Nat) : State :=
  match s.portQbs d with
  | none => s
  | some (c, _) =>
    let x := s.qb c.qb
    if s.frozen (qbRegion c.qb) || x.rRst then s
    else
      let s1 := s.setQb c.qb { x with entries := [], rlag := 0, wlag := if c.dual then x.wlag + x.entries.length else 0 }
      { s1 with fab := { s1.fab with portIn := tput [] s1.fab.portIn d (tget [] s1.fab.portIn d ++ x.entries) } }
/-- The port whose request block, or whose reply block, is `b`. -/
def State.portOf (s : State) (b : Nat) (reply : Bool) : Option Nat :=
  (s.fab.pers.cmdPort.find? (fun c => if reply then c.2.2 == b else c.2.1 == b)).map (fun c => c.1 / 16)
/-- A packet comes through a die's port: its words are next among those that the port has taken; where the port has taken none, the fabric
passes them through the request block now (log entry 91). None where they are not, or where the port's region is frozen. -/
def State.portTake (s : State) (d : Nat) (b : List Byte) : Option State :=
  match s.cmdPort d with
  | none => none
  | some (r, _, _) =>
    if s.frozen r then none
    else
      let s := s.netBytes (regionPlace r) plinthPlace clsMgt b.length
      let ws := portWords b
      let l := tget [] s.fab.portIn d
      if l = [] then some s
      else if l.take ws.length = ws then some { s with fab := { s.fab with portIn := tput [] s.fab.portIn d (l.drop ws.length) } }
      else none

end Sys2Proof.Machine
end

