-- ==== Sys2Proof/Machine/Serve.lean ====
section
/-! DEFINITION. Serving a command packet: the check order of Table CMD-7 (R61), streams, duplicates, chains, sessions and
tags, the reply, and the completion of long operations (R27–R67). Every command row's meaning is one call of `serve`. -/

namespace Sys2Proof

open Sys2Proof.Machine

/-! ### Bytes of packets -/

/-- The sixteen header bytes with CRC `c` (Table CMD-1). -/
def Packet.header (p : Packet) (c : Nat) : List Byte :=
  leBytes 2 p.magic.toNat ++ [p.ver, p.flags] ++ leBytes 2 p.opcode.toNat ++ leBytes 2 p.seq.toNat ++ [p.role, p.session] ++
    leBytes 2 p.len.toNat ++ leBytes 4 c
/-- A packet as its bytes. -/
def Packet.bytes (p : Packet) : List Byte := p.header p.crc.toNat ++ p.body
/-- A packet from the bytes that a transport framed: none where fewer than a header arrived. -/
def packetOf (via : Transport) (b : List Byte) : Option Packet :=
  if b.length < 16 then none
  else some { via := via, magic := BitVec.ofNat 16 (leAt b 0 2), ver := b.getD 2 0, flags := b.getD 3 0,
              opcode := BitVec.ofNat 16 (leAt b 4 2), seq := BitVec.ofNat 16 (leAt b 6 2), role := b.getD 8 0,
              session := b.getD 9 0, len := BitVec.ofNat 16 (leAt b 10 2), crc := BitVec.ofNat 32 (leAt b 12 4),
              body := b.drop 16 }
/-- FLAGS bits (Table CMD-2). -/
def Packet.fReply (p : Packet) : Bool := p.flags.getLsbD 0
def Packet.fAsync (p : Packet) : Bool := p.flags.getLsbD 1
def Packet.fAuth (p : Packet) : Bool := p.flags.getLsbD 2
def Packet.fChain (p : Packet) : Bool := p.flags.getLsbD 3
/-- The LEN payload bytes, and the tag behind them. -/
def Packet.payload (p : Packet) : List Byte := p.body.take p.len.toNat
def Packet.tag (p : Packet) : List Byte := (p.body.drop p.len.toNat).take 16
/-- The bytes that the CRC and the tag cover (R30, R47). -/
def Packet.covered (p : Packet) : List Byte := p.header 0 ++ p.payload
/-- The stream of a packet (R33). -/
def Packet.stream (p : Packet) : StreamId := { via := p.via, role := p.role.toNat, session := p.session.toNat }
/-- The IV of R47 and R48: kind, SESSION, SEQ, zeros. -/
def Packet.iv (p : Packet) (kind : Nat) : List Byte :=
  leBytes 1 kind ++ [p.session] ++ leBytes 2 p.seq.toNat ++ zeros 8
/-- The packet arrived on the management port. -/
def Packet.mgmt (p : Packet) : Bool := p.via == .smbus || p.via == .i3c

/-! ### MCTP framing (R55) -/

/-- A packet as the body of an MCTP message: type 0x7E with the integrity-check bit 0, the vendor ID (PRESUMED most significant byte
first, log entry 20), the packet. -/
def Packet.mctp (p : Packet) : List Byte := [0x7E] ++ (leBytes 2 Config.vendorId).reverse ++ p.bytes
/-- A message in baseline transmission units of 64 bytes, each behind its transport header: version, both endpoint IDs, SOM, EOM and the
packet sequence (PRESUMED from the MCTP base specification, log entry 20). -/
def mctpUnits (src : Byte) (m : List Byte) : List (List Byte) :=
  let n := (m.length + 63) / 64
  (List.range n).map (fun k =>
    [0x01, BitVec.ofNat 8 Config.managerEid, src, BitVec.ofNat 8 ((if k = 0 then 128 else 0) + (if k + 1 = n then 64 else 0) + 16 * (k % 4))] ++
      slice m (64 * k) 64)
/-- One bit of the CRC-8 with polynomial x^8 + x^2 + x + 1. -/
def crc8Bit (c : Nat) : Nat := if c % 256 < 128 then 2 * c % 256 else (2 * c % 256) ^^^ 0x07
/-- The packet error code of SMBus bytes (PRESUMED from the SMBus specification, log entry 20). -/
def smbusPec (b : List Byte) : Nat := b.foldl (fun c x => (List.range 8).foldl (fun c _ => crc8Bit c) (c ^^^ x.toNat)) 0
/-- A unit as the M7 writes it on SMBus from its address 0x3A: addresses, command code, count, the unit, PEC. -/
def smbusWrite (u : List Byte) : List Byte :=
  let b := [BitVec.ofNat 8 (2 * Config.managerAddr), 0x0F, BitVec.ofNat 8 (u.length + 1), 0x75] ++ u
  b ++ leBytes 1 (smbusPec b)
/-- What a reply puts on the management port: units with PEC over SMBus, plain over I3C. -/
def Packet.mgmtUnits (src : Byte) (p : Packet) : List (List Byte) :=
  if p.via == .smbus then (mctpUnits src p.mctp).map smbusWrite else mctpUnits src p.mctp

end Sys2Proof

namespace Sys2Proof.Machine

/-! ### Requests -/

/-- What a meaning answers: the status word and the results (R29). STATUS 1 leaves the operation pending (R41). -/
structure Ans where
  status : Nat
  detail : Nat
  results : List Byte
deriving DecidableEq, Repr
/-- The answers of Table CMD-3. -/
def Ans.ok (r : List Byte) : Ans := ⟨0, 0, r⟩
def Ans.code (st d : Nat) : Ans := ⟨st, d, []⟩
/-- No answer yet: the command's one reply follows when a response has come from elsewhere. -/
def Ans.late : Ans := ⟨0x10000, 0, []⟩

/-- A request past the checks of the packet layer: whether its tag verified, the session key, and the payload of the whole
chain. -/
structure Ctx where
  p : Packet
  auth : Bool
  key : List Byte
  data : List Byte
deriving DecidableEq, Repr
/-- The role of a request. -/
def Ctx.role (c : Ctx) : Nat := c.p.role.toNat
/-- A payload field of `n` bytes at `off`. -/
def Ctx.at (c : Ctx) (off n : Nat) : Nat := leAt c.data off n

/-- A command as its chapter's table gives it: OPCODE, the roles admitted, whether AUTH is required, whether CHAIN is
allowed, the LEN expected (0xFFFF where it varies) and which LENs are right, the first bad parameter's offset, whether the
operation is long, and what it does. In a chain, what a packet after the first adds to the payload, and what the first packet is
refused for or opens (R38, R194). -/
structure OpSpec where
  code : Nat
  roles : List Nat
  auth : State → Ctx → Bool
  chain : Ctx → Bool
  expect : Nat
  lenOk : List Byte → Bool
  range : State → Ctx → Option Nat
  long : State → Ctx → Bool
  run : State → Ctx → State × Ans
  cont : List Byte → List Byte
  first : State → Ctx → State × Ans

/-- Table CMD-8: the roles of each opcode group. -/
def groupRoles (code : Nat) : List Nat :=
  let g := code / 256
  if g = 0x03 ∨ g = 0x07 ∨ g = 0x0B then [0, 1, 2]
  else if g = 0x04 ∨ g = 0x05 then [0, 2, 3]
  else if g = 0x08 then [0, 1, 3]
  else if g = 0x0A then [0, 1]
  else [0, 1, 2, 3]
/-- A command of fixed LEN, its group's roles, no AUTH, no chain, no range check, not long. -/
def plainOp (code len : Nat) (run : State → Ctx → State × Ans) : OpSpec :=
  { code := code, roles := groupRoles code, auth := fun _ _ => false, chain := fun _ => false, expect := len,
    lenOk := fun b => b.length == len, range := fun _ _ => none, long := fun _ _ => false, run := run, cont := id,
    first := fun s _ => (s, Ans.ok []) }

/-- Table IDX-1: the opcodes that stepping B1 defines (R656). -/
def opcodeKnown (c : Nat) : Bool :=
  let g := c / 256
  let k := c % 256
  if g = 0x01 then k ≤ 0x07
  else if g = 0x02 then k ≤ 0x04 || (0x10 ≤ k && k ≤ 0x15)
  else if g = 0x03 then k ≤ 0x0A
  else if g = 0x04 then k ≤ 0x06 || (0x20 ≤ k && k ≤ 0x23)
  else if g = 0x05 then k ≤ 0x05 || (0x10 ≤ k && k ≤ 0x18)
  else if g = 0x06 then k ≤ 0x03 || (0x10 ≤ k && k ≤ 0x17) || k == 0xF0
  else if g = 0x07 then k ≤ 0x06
  else if g = 0x08 then k ≤ 0x09
  else if g = 0x09 then k ≤ 0x06 || k == 0xF0
  else if g = 0x0A then k ≤ 0x03
  else if g = 0x0B then k ≤ 0x05 || (0x10 ≤ k && k ≤ 0x13)
  else if g = 0x0C then k ≤ 0x04
  else false

/-! ### Streams and sessions -/

/-- The stream of an identity, fresh where none is kept. -/
def State.stream (s : State) (i : StreamId) : Stream :=
  (s.cmd.streams.find? (fun t => t.id == i)).getD { id := i, last := none, recs := [], chain := none }
/-- A stream stored. -/
def State.putStream (s : State) (t : Stream) : State :=
  { s with cmd := { s.cmd with streams := t :: s.cmd.streams.filter (fun u => u.id != t.id) } }
/-- The open session of a number, if its role is the packet's. -/
def State.session (s : State) (n role : Nat) : Option Session :=
  s.cmd.sessions.find? (fun x => x.num == n && x.role == role)
/-- A session stored. -/
def State.putSession (s : State) (x : Session) : State :=
  { s with cmd := { s.cmd with sessions := x :: s.cmd.sessions.filter (fun y => y.num != x.num) } }
/-- A session closed: its streams end with it (R37, R50). -/
def State.closeSession (s : State) (n : Nat) : State :=
  { s with cmd := { s.cmd with sessions := s.cmd.sessions.filter (fun y => y.num != n),
                               streams := s.cmd.streams.filter (fun t => t.id.session != n) } }
/-- The payload key of a session (R48). -/
def payloadKey (key : List Byte) : List Byte := hmac key [0x4D, 0x37, 0x50, 0x4B]
/-- A sealed field opened (R48): none where the request has no verified AUTH or the tag fails. -/
def Ctx.unseal (c : Ctx) (field : List Byte) : Option (List Byte) :=
  if c.auth then gcmOpen (payloadKey c.key) (c.p.iv 3) (c.p.header 0) field else none

/-- Table CMD-4: the roles of each transport (R43). A fabric packet with SESSION or AUTH is refused alike (R45). -/
def roleOnTransport (p : Packet) : Bool :=
  match p.via with
  | .pcie | .spi => p.role == 0
  | .smbus | .i3c => p.role == 1
  | .holwell _ => p.role == 2
  | .fabric _ => p.role == 3 && p.session == 0 && !p.fAuth

/-- What the SEQ check finds (R33, R34, R46): within a session the SEQ accepted last on any transport counts. -/
inductive SeqRes where
  | fresh
  | dup (r : Record)
  | refuse (detail : Nat)
deriving DecidableEq, Repr
/-- SEQ `b` is newer than `a` (R33). -/
def seqNewer (a b : Nat) : Bool :=
  let d := (b + 65536 - a) % 65536
  1 ≤ d && d ≤ 32767
/-- The SEQ check of a packet against its stream. -/
def seqCheck (t : Stream) (sess : Option Session) (p : Packet) : SeqRes :=
  let q := p.seq.toNat
  match t.recs.find? (fun r => r.seq == q) with
  | some r => if r.crc = p.crc.toNat then .dup r else .refuse 0xFF02
  | none =>
    match sess with
    | some x =>
      if !x.started then (if q = 0 then .fresh else .refuse 0xFF04)
      else if x.last < q then .fresh
      else .refuse 0xFF01
    | none =>
      match t.last with
      | some a => if seqNewer a q then .fresh else .refuse 0xFF01
      | none => .fresh

/-! ### Replies -/

/-- The reply to a request (R29): header copied, REPLY set, AUTH where the request's tag verified; kind 1 immediate, 2
completion (R47), a completion carrying ASYNC (R28, R41). -/
def replyTo (p : Packet) (auth : Bool) (key : List Byte) (kind : Nat) (a : Ans) : Packet :=
  let pay := leBytes 2 a.status ++ leBytes 2 a.detail ++ a.results
  let fl := 1 + (if kind = 2 then 2 else 0) + (if auth then 4 else 0)
  let q : Packet := { p with flags := BitVec.ofNat 8 fl, len := BitVec.ofNat 16 pay.length, crc := 0, body := pay,
                             magic := 0x4D37 }
  let c := BitVec.ofNat 32 (crc32c (q.header 0 ++ pay))
  if auth then { q with crc := c, body := pay ++ gcmTag key (q.iv kind) (q.header 0 ++ pay) [] }
  else { q with crc := c }

/-- Replies waiting for a mailbox slot are placed while slots are free (R51, R52); HELD follows. -/
def State.mbxPlaceN : Nat → State → State
  | 0, s => s
  | n + 1, s =>
    match s.cmd.mbxWait with
    | [] => s
    | r :: w =>
      if s.cmd.mbxRing.length < 8 then
        let s1 := { s with cmd := { s.cmd with mbxWait := w, mbxRing := s.cmd.mbxRing ++ [r] } }
        let s2 := (s1.bumpWrap Reg.MBX_RPL_TAIL_TAIL 1).put Reg.MBX_IRQ_RPL 1
        State.mbxPlaceN n (if s2.flag Reg.MBX_CTRL_IRQ_EN then s2.emit [.msi 0] else s2)
      else s
def State.mbxPlace (s : State) : State :=
  let s1 := State.mbxPlaceN 8 s
  s1.setFlag Reg.MBX_STATUS_HELD (64 ≤ s1.cmd.mbxWait.length)
/-- The SPI target's eight reply buffers filled from the replies that wait (R54). -/
def State.spiPlace (s : State) : State :=
  let all := s.cmd.spiRpl ++ s.cmd.spiWait
  { s with cmd := { s.cmd with spiRpl := all.take 8, spiWait := all.drop 8 } }
/-- A reply on the management port. -/
def State.mgmtSend (s : State) (r : Packet) : State :=
  { s with cmd := { s.cmd with mgmtOut := s.cmd.mgmtOut ++ [r], mgmtWire := s.cmd.mgmtWire ++ r.mgmtUnits s.cmd.eid } }
/-- A reply handed to its transport; one that no open transport can carry is discarded (R59, R63). -/
def State.deliver (s : State) (r : Packet) : State :=
  match r.via with
  | .pcie =>
    if s.stewardUp && s.flag Reg.MBX_CTRL_ENABLE then
      { s with cmd := { s.cmd with mbxWait := s.cmd.mbxWait ++ [r] } }.mbxPlace
    else s
  | .spi => if s.stewardUp then { s with cmd := { s.cmd with spiWait := s.cmd.spiWait ++ [r] } }.spiPlace else s
  | .smbus => s.mgmtSend r
  | .i3c => { s.mgmtSend r with cmd := { (s.mgmtSend r).cmd with mctpOut := s.cmd.mctpOut ++ [.ibi] } }
  | .holwell _ => if s.stewardUp then { s with cmd := { s.cmd with peerOut := s.cmd.peerOut ++ [r] } } else s
  | .fabric d =>
    if !s.stewardUp then s
    else if s.fab.pers.cmdRegion.any (fun k => k / 16 == d.val && s.frozen k) then
      { s with cmd := { s.cmd with fabHeld := s.cmd.fabHeld ++ [r] } }
    else { s with cmd := { s.cmd with fabOut := s.cmd.fabOut ++ [r] } }.portSend d.val r.bytes

/-- The estimate of a time in ms that a PENDING or BUSY reply carries: a free value (R31, R661). -/
def State.estimate (s : State) : Nat := s.drawn 16

/-- A reply recorded under its SEQ (R34): at most sixteen records, the newest first. -/
def State.record (s : State) (p : Packet) (r : Packet) (running : Bool) : State :=
  let t := s.stream p.stream
  let e : Record := { seq := p.seq.toNat, crc := p.crc.toNat, opcode := p.opcode.toNat, reply := r, running := running }
  s.putStream { t with recs := (e :: t.recs.filter (fun x => x.seq != e.seq)).take 16 }

/-- The completion reply of an operation takes the place of PENDING in the record of its SEQ (R41). -/
def State.amend (s : State) (p : Packet) (r : Packet) : State :=
  let t := s.stream p.stream
  s.putStream { t with recs := t.recs.map (fun e => if e.seq = p.seq.toNat then { e with reply := r, running := false } else e) }

/-- A packet continues a chain by its opcode and SEQ: the next SEQ; of an abandoned chain, also the one after it, since the packet in
error or the command that abandoned it may have had the next (log entry 79). -/
def Chain.goes (ch : Chain) (opcode q : Nat) : Bool :=
  ch.opcode == opcode && (q == ch.next || (ch.dead && q == (ch.next + 1) % 65536))
/-- A chain abandoned, at the SEQ of the packet that abandons it. -/
def Chain.abandon (ch : Chain) (q : Nat) : Chain :=
  { ch with dead := true, next := if ch.dead && q == (ch.next + 1) % 65536 then q else ch.next }
/-- An error in a packet that continues a chain abandons the chain (R39). -/
def State.chainError (s : State) (p : Packet) : State :=
  let t := s.stream p.stream
  match t.chain with
  | some ch => if ch.goes p.opcode.toNat p.seq.toNat then s.putStream { t with chain := some (ch.abandon p.seq.toNat) } else s
  | none => s
/-- A chain that opened a load or a recast and has been abandoned, or whose stream is gone, ends it with ABORTED (R188, R212). -/
def State.settleCastChain (s : State) : State :=
  match s.cast.chain with
  | none => s
  | some (i, re) =>
    if (match (s.stream i).chain with | some ch => !ch.dead | none => false) then s
    else
      let s1 := ({ s with cast := { s.cast with chain := none } }.put Reg.CAST_ERR_SEG 0xFFFF).put Reg.CAST_ERR_CODE 0x11
      let s2 := if re then (s1.put Reg.RCST_STATUS_PHASE 0).put Reg.CAST_STATUS_STATE 3 else s1.put Reg.CAST_STATUS_STATE 5
      s2.logEvent 0x0301 0 (leBytes 4 (s2.word (wordsCast 4)))
/-- A reply with an error of the packet layer. -/
def State.answerErr (s : State) (p : Packet) (auth : Bool) (key : List Byte) (st d : Nat) : State :=
  (s.chainError p).deliver (replyTo p auth key 1 (Ans.code st d))

/-! ### Taking a packet from its transport -/

/-- IDLE ends at any command, unless BRAKE level 2 holds it (R74, R560). -/
def State.leaveIdle (s : State) : State :=
  if s.cur = 1 ∧ s.get Reg.BUD_STAT_BRAKE ≠ 2 then s.put Reg.PWR_STATE_CUR 0 else s
/-- A transport's place in a turn: the management port first (R62), then PCIe, SPI, the links and the fabric ports (log entry 32). -/
def turnOf : Transport → Nat
  | .smbus | .i3c => 0
  | .pcie => 1
  | .spi => 2
  | .holwell _ => 3
  | .fabric d => 4 + d.val
/-- The transports where a packet waits in the M7 that could be taken now. -/
def State.waiting (s : State) : List Nat :=
  if !s.stewardUp then []
  else (if s.cmd.mbxReq ≠ [] ∧ s.flag Reg.MBX_CTRL_ENABLE ∧ ¬ s.flag Reg.MBX_STATUS_HELD then [1] else []) ++
    (if s.cmd.spiReq ≠ [] ∧ s.cmd.spiRpl.length < 8 then [2] else []) ++ (if s.cmd.peerIn ≠ [] then [3] else [])
/-- It is a transport's turn (R62): it has had none in this turn and no other before it waits, or every other one that waits has had its
own. -/
def State.inTurn (s : State) (t : Nat) : Bool :=
  let rest := s.waiting.filter (fun u => u != t && u ∉ s.cmd.served)
  if t ∈ s.cmd.served then rest.isEmpty else t == 0 || rest.all (fun u => t < u)
/-- A transport has its turn; the next one begins where it had had it. -/
def State.takeTurn (s : State) (t : Nat) : State :=
  { s with cmd := { s.cmd with served := if t ∈ s.cmd.served then [t] else s.cmd.served ++ [t] } }
/-- The packet out of its buffer, none where it is not there to take. -/
def State.fromTransport (s : State) (p : Packet) : Option State :=
  match p.via with
  | .pcie =>
    match s.cmd.mbxReq with
    | q :: r =>
      if q = p ∧ s.stewardUp ∧ s.flag Reg.MBX_CTRL_ENABLE ∧ ¬ s.flag Reg.MBX_STATUS_HELD then
        some ({ s with cmd := { s.cmd with mbxReq := r } }.bumpWrap Reg.MBX_REQ_HEAD_HEAD 1)
      else none
    | [] => none
  | .spi =>
    match s.cmd.spiReq with
    | q :: r =>
      if q = p ∧ s.stewardUp ∧ s.cmd.spiRpl.length < 8 then some { s with cmd := { s.cmd with spiReq := r } } else none
    | [] => none
  | .smbus | .i3c => if s.kettleOn then some s else none
  | .holwell i =>
    match s.cmd.peerIn.find? (fun q => q.via == .holwell i) with
    | some q =>
      if q = p ∧ s.stewardUp then some { s with cmd := { s.cmd with peerIn := s.cmd.peerIn.erase q } } else none
    | none => none
  | .fabric d =>
    if s.stewardUp ∧ s.fabricPowered ∧ (s.cmd.longOps.filter (fun o => o.req.via == .fabric d)).length < 4 then s.portTake d.val p.bytes
    else none
/-- The packet taken from its transport by the firmware that answers there, none where none can take it now: not the transport's turn
(R62), the mailbox enabled, not HELD and the packet next in the ring (R51, R52), the SPI buffers (R54), the links (R56), the fabric command
ports that the cast instantiates with at most four requests outstanding (R57). The management port always reaches the steward or the
kettle. -/
def State.takePacket (s : State) (p : Packet) : Option State :=
  if !s.inTurn (turnOf p.via) then none
  else (s.fromTransport p).map (fun t => t.takeTurn (turnOf p.via))

/-! ### The pipeline -/

/-- What R58 lets the kettle firmware serve: the listed commands and groups, and PEEK of the kettle's blocks. -/
def kettleServes (c : Ctx) : Bool :=
  let o := c.p.opcode.toNat
  let blk (a : Nat) : Bool := a / 0x10000 ∈ [0x1, 0x9, 0xA, 0xB, 0xC, 0xD]
  o ∈ [0x0100, 0x0101, 0x0102, 0x0103, 0x0104, 0x0A01, 0x0A02] || o / 256 ∈ [0x02, 0x08, 0x09, 0x0C] ||
  (o == 0x0106 && blk (c.at 0 4) && blk (c.at 0 4 + 4 * (c.at 4 2 - 1)))

/-- R570: the commands that write NVM, which a thermal trip refuses. -/
def writesNvm (c : Ctx) : Bool :=
  c.p.opcode.toNat ∈ [0x0105, 0x0215, 0x0304, 0x0305, 0x0306, 0x0400, 0x0401, 0x0610, 0x0611, 0x0614, 0x0701, 0x0702, 0x0704, 0x0706,
    0x0903, 0x0905, 0x0A00, 0x0C04] || (c.p.opcode.toNat == 0x0210 && c.role == 1)
/-- R561: the commands that BRAKE level 2 refuses. -/
def brakeRefuses (c : Ctx) : Bool :=
  c.p.opcode.toNat ∈ [0x0300, 0x0308, 0x0401, 0x0500, 0x0510, 0x0A00, 0x0A01, 0x0A02, 0x0A03] || (c.p.opcode.toNat == 0x0200 && c.at 0 1 == 0)

/-- R587: the commands that a self-test run keeps waiting. -/
def bistBars (c : Ctx) : Bool := c.p.opcode.toNat / 256 ∈ [3, 4, 5, 6, 7, 0xB] || c.p.opcode.toNat == 0x0200

/-- Steps 11 to 14 of Table CMD-7 for a packet (R61): the first failure's answer, or what the command does. -/
def runOp (op : OpSpec) (s : State) (c : Ctx) : State × Ans :=
  if c.role ∉ op.roles then (s, Ans.code 5 1)
  else if op.auth s c && !c.auth then (s, Ans.code 5 3)
  else if !op.lenOk c.data then (s, Ans.code 3 op.expect)
  else match op.range s c with
    | some d => (s, Ans.code 7 d)
    | none =>
      if !s.stewardUp && !kettleServes c then (s, Ans.code 0xE (0x100 + s.cur))
      else if op.long s c && decide (16 ≤ (s.cmd.longOps.filter (fun o => !o.late && !o.silent && o.req.stream == c.p.stream)).length) then
        (s.draw, Ans.code 6 s.estimate)
      else if s.bud.trip.isSome && writesNvm c then (s, Ans.code 9 1)
      else if s.get Reg.BUD_STAT_BRAKE = 2 ∧ brakeRefuses c then (s, Ans.code 9 2)
      else if s.bist.isSome && bistBars c then (s.draw, Ans.code 6 s.estimate)
      else op.run s c

/-- The answer of a command sent and recorded (R34, R36, R41): BUSY is not recorded and leaves the stream as it was; PENDING
leaves the operation running; the session ends after SEQ 0xFFFF is answered (R46). -/
def finish (before : State) (r : State × Ans) (c : Ctx) : State :=
  let rep := replyTo c.p c.auth c.key 1 (if r.2.status = 0x10000 then Ans.code 1 0 else r.2)
  if r.2.status = 6 then
    { r.1 with cmd := { r.1.cmd with streams := before.cmd.streams, sessions := before.cmd.sessions } }.deliver rep
  else
    let s1 := r.1.record c.p rep (r.2.status == 1 || r.2.status == 0x10000)
    let go := r.2.status = 1 ∨ r.2.status = 0x10000
    let s2 := if go then
        let o : LongOp := { req := c.p, auth := c.auth, late := r.2.status = 0x10000, silent := false }
        { s1 with cmd := { s1.cmd with longOps := s1.cmd.longOps ++ [o] } }
      else s1
    let s3 := if r.2.status = 0x10000 then s2 else s2.deliver rep
    if c.p.session ≠ 0 ∧ ((c.p.seq = 0xFFFF ∧ r.2.status ≠ 0x10000) ∨ (c.p.opcode = 0x0103 ∧ r.2.status = 0)) then
      s3.closeSession c.p.session.toNat
    else s3

/-- A stream's chain set. -/
def State.setChain (s : State) (i : StreamId) (ch : Option Chain) : State := s.putStream { s.stream i with chain := ch }
/-- The checks of a packet that a chain goes on with, on its own payload: steps 11 to 14 of Table CMD-7 (R61). -/
def chainCheck (op : OpSpec) (s : State) (c : Ctx) : State × Ans := runOp { op with run := fun s _ => (s, Ans.ok []) } s c
/-- The first packet of a chain: the command's checks on it, then index 0. -/
def chainStart (op : OpSpec) (before s : State) (c : Ctx) : State :=
  let nx := (c.p.seq.toNat + 1) % 65536
  let ch : Chain := ⟨c.p.opcode.toNat, nx, 0, c.data, false⟩
  let dead := some { ch with dead := true }
  let r := runOp { op with run := op.first } s c
  if r.2.status = 0 then finish before (r.1.setChain c.p.stream (some ch), Ans.code 0 0) c
  else finish (before.setChain c.p.stream dead) (r.1.setChain c.p.stream dead, r.2) c
/-- A packet that goes on with a live chain: answered with its index and its payload kept; the last packet runs the command on the whole
payload. Any failure abandons the chain (R39). -/
def chainGoOn (op : OpSpec) (before s : State) (c : Ctx) (ch : Chain) : State :=
  let q := c.p.seq.toNat
  let i := c.p.stream
  let lost := some { ch with dead := true, next := q }
  let fails (r : State × Ans) : State := finish (before.setChain i lost) (r.1.setChain i (if c.p.fChain then lost else none), r.2) c
  let k := chainCheck op s c
  let d := ch.data ++ op.cont c.data
  if k.2.status ≠ 0 then fails k
  else if c.p.fChain then
    if ch.index + 1 < 255 then
      finish before (s.setChain i (some { ch with next := (q + 1) % 65536, index := ch.index + 1, data := d }), Ans.code 0 (ch.index + 1)) c
    else fails (s, Ans.code 3 op.expect)
  else finish (before.setChain i (some { ch with dead := true, next := (q + 65535) % 65536 })) (runOp op (s.setChain i none) { c with data := d })
    { c with data := d }
/-- The chain part of a fresh packet (R38, R39): it goes on with the stream's chain, gets STATE, DETAIL 0xFF03 where that chain is
abandoned, or abandons it and starts its own or runs. -/
def serveChain (op : OpSpec) (before s : State) (c : Ctx) (t : Stream) : State :=
  let q := c.p.seq.toNat
  let i := c.p.stream
  let other (before s : State) : State := if c.p.fChain then chainStart op before s c else finish before (runOp op s c) c
  match t.chain with
  | none => other before s
  | some ch =>
    if ch.goes c.p.opcode.toNat q then
      if ch.dead then
        finish before (s.setChain i (if c.p.fChain then some { ch with next := (q + 1) % 65536 } else none), Ans.code 0xE 0xFF03) c
      else chainGoOn op before s c ch
    else
      let lost := some (ch.abandon q)
      other (before.setChain i lost) (s.setChain i lost).settleCastChain

/-- Steps 10 to 14 for a fresh SEQ, which is accepted into its stream (R36). -/
def serveFresh (op : OpSpec) (s : State) (c : Ctx) : State :=
  let t := { s.stream c.p.stream with last := some c.p.seq.toNat }
  let s1 := s.putStream t
  let s2 := match s1.session c.p.session.toNat c.role with
    | some x => if c.p.session = 0 then s1 else s1.putSession { x with started := true, last := c.p.seq.toNat }
    | none => s1
  if !opcodeKnown c.p.opcode.toNat then finish s (s2, Ans.code 2 0) c
  else if c.p.fChain && !op.chain c then finish s (s2, Ans.code 2 2) c
  else serveChain op s s2 c t

/-- Step 9: duplicates and SEQ (R33, R34, R42). A duplicate of a command not yet answered sends nothing. -/
def serveSeq (op : OpSpec) (s : State) (c : Ctx) : State :=
  let sess := if c.p.session = 0 then none else s.session c.p.session.toNat c.role
  match seqCheck (s.stream c.p.stream) sess c.p with
  | .refuse d => s.answerErr c.p c.auth c.key 0xE d
  | .dup r =>
    if s.cmd.longOps.any (fun o => o.late && o.req == c.p) then s
    else if r.running then s.draw.deliver (replyTo c.p c.auth c.key 1 (Ans.code 1 s.estimate)) else s.deliver r.reply
  | .fresh => serveFresh op s c

/-- Step 8: the session and the tag (R47, R49). -/
def serveSession (op : OpSpec) (s : State) (p : Packet) : State :=
  if p.session = 0 then
    if p.fAuth then s.answerErr p false [] 5 5
    else serveSeq op s { p := p, auth := false, key := [], data := p.payload }
  else match s.session p.session.toNat p.role.toNat with
    | none => s.answerErr p false [] 5 5
    | some x =>
      if !p.fAuth then serveSeq op s { p := p, auth := false, key := x.key, data := p.payload }
      else if gcmTag x.key (p.iv 0) p.covered [] = p.tag then
        serveSeq op (s.putSession { x with fails := 0, verified := s.time.up })
          { p := p, auth := true, key := x.key, data := p.payload }
      else
        let s1 := (s.putSession { x with fails := x.fails + 1 }).answerErr p false [] 5 4
        if x.fails + 1 < 8 then s1
        else (s1.closeSession x.num).logEvent 0x0102 x.num (leBytes 1 x.role)

/-- Steps 1 to 7 of Table CMD-7. -/
def servePacket (op : OpSpec) (s : State) (p : Packet) : State :=
  if p.magic ≠ 0x4D37 ∨ p.fReply then s.bumpSat Reg.CMD_DROPS_COUNT 1
  else if p.len.toNat > 4064 ∨ p.body.length ≠ p.len.toNat + (if p.fAuth then 16 else 0) then
    s.answerErr p false [] 3 op.expect
  else if crc32c p.covered ≠ p.crc.toNat then s.answerErr p false [] 4 0
  else if p.ver ≠ 1 then s.answerErr p false [] 2 1
  else if p.flags.toNat ≥ 16 then s.answerErr p false [] 2 2
  else if !roleOnTransport p then s.answerErr p false [] 5 2
  else serveSession op s p

/-- A command packet served. A packet that no firmware can take now stays where it is: nothing happens. A packet whose OPCODE is
another row's is no term of this row. -/
def serve (op : OpSpec) (p : Packet) (s : State) : Host.Outcome State Fault Refusal :=
  if opcodeKnown p.opcode.toNat && p.opcode.toNat != op.code then .refused .illFormed
  else match s.takePacket p with
    | none => .next s
    | some s1 => .next (servePacket op s1.leaveIdle p).settleCastChain

/-! ### Completion -/

/-- The long operation at place `i` ends (R41): its completion reply is recorded under the original SEQ and sent where the request
had ASYNC; a BUSY completion is recorded as any other (log entry 80). Where its session has closed meanwhile it goes out without AUTH as
DENIED, DETAIL 0x0005 (R64). After a mailbox reset its reply is discarded (Table CMD-5). -/
def State.completeAt (s : State) (i : Nat) (a : Ans) : State :=
  match s.cmd.longOps[i]? with
  | none => s
  | some o =>
    let s1 := { s with cmd := { s.cmd with longOps := s.cmd.longOps.eraseIdx i } }
    if o.silent then s1
    else
    let sess := s.session o.req.session.toNat o.req.role.toNat
    let kind := if o.late then 1 else 2
    let rep :=
      if o.req.session = 0 then replyTo o.req false [] kind a
      else match sess with
        | some x => replyTo o.req o.auth x.key kind a
        | none => replyTo o.req false [] kind (Ans.code 5 5)
    let t := s.stream o.req.stream
    let s2 := if t.recs.any (fun r => r.seq == o.req.seq.toNat && r.running) then s1.amend o.req rep else s1
    let s3 := if o.req.fAsync || o.late then s2.deliver rep else s2
    if o.late && o.req.session != 0 && o.req.seq == 0xFFFF then s3.closeSession o.req.session.toNat else s3
/-- The first pending operation of an opcode ends. -/
def State.complete (s : State) (code : Nat) (a : Ans) : State :=
  match s.cmd.longOps.findIdx? (fun o => o.req.opcode.toNat == code) with
  | none => s
  | some i => s.completeAt i a
/-- The operation that a request started ends. -/
def State.completeReq (s : State) (p : Packet) (a : Ans) : State :=
  match s.cmd.longOps.findIdx? (fun o => o.req == p) with
  | none => s
  | some i => s.completeAt i a
/-- A pending operation of an opcode exists. -/
def State.opPending (s : State) (code : Nat) : Bool := s.cmd.longOps.any (fun o => o.req.opcode.toNat == code)
/-- An operation of an opcode that acts on a subject still runs (R662). -/
def State.opOn (s : State) (code : Nat) (subject : Packet → Bool) : Bool :=
  s.cmd.longOps.any (fun o => o.req.opcode.toNat == code && subject o.req)
/-- BUSY with an estimate of the remaining time (R661, R662). -/
def busy (s : State) : State × Ans := (s.draw, Ans.code 6 s.estimate)
/-- PENDING with an estimate (R31). -/
def pend (s : State) : State × Ans := (s.draw, Ans.code 1 s.estimate)
/-- FAULT naming an event just logged (Table CMD-3). -/
def State.faultAns (s : State) : Ans := Ans.code 0xA s.logDetail

/-- The first of a list of checks on payload fields that fails: (offset, right). -/
def firstBad : List (Nat × Bool) → Option Nat
  | [] => none
  | (d, ok) :: r => if ok then firstBad r else some d

end Sys2Proof.Machine
end

