-- ==== Sys2Proof/Machine/Budget.lean ====
section
/-! DEFINITION. Power caps, BRAKE, the division of the cap between the dies, cap hold and throttling (chapter 22). The tray commands
stand in Ens.lean, thermal shutdown in Power.lean. -/

namespace Sys2Proof.Machine

/-- A budget event: MSI-X vector 5 and the fabric event BUD_IRQ where enabled (R574). -/
def State.budEvent (s : State) (f : Fld) (pos : Nat) : State := s.event f 1 pos Reg.BUD_IRQ_EN_EN 5 .budIrq

/-! ### Caps -/

/-- The inputs to the effective cap that are not zero, with their CAP_SRC codes (R557, Table BUD-3). -/
def State.capInputs (s : State) : List (Nat × Nat) :=
  ([(s.get Reg.BUD_CAP_IN_MGR, 1), (s.get Reg.BUD_CAP_IN_HOST, 2)] ++
    (if s.bud.traySrc = 0 then [] else [(s.bud.trayLim, s.bud.traySrc)])).filter (fun e => e.1 != 0)
/-- The lowest of a list of inputs; the earlier one where two are equal. -/
def lowestCap (l : List (Nat × Nat)) : Nat × Nat :=
  l.foldl (fun m e => if m.2 = 0 ∨ e.1 < m.1 then e else m) (1100, 0)
/-- The effective cap computed again (R557); a change sets BUD_EVT.CAP. -/
def State.capRecalc (s : State) : State :=
  let e := lowestCap s.capInputs
  let n := lowestCap (s.capInputs.filter (fun e => e.2 ≤ 2))
  let s1 := ((s.put Reg.BUD_CAP_EFF_EFF e.1).put Reg.BUD_CAP_EFF_NOTRAY n.1).put Reg.BUD_STAT_CAP_SRC e.2
  if s.get Reg.BUD_CAP_EFF_EFF = e.1 then s1 else s1.budEvent Reg.BUD_EVT_CAP 1

/-- BUD_SET_CAP's effect: the manager's or the host's cap by role (R557, R558). -/
def budSetCapRun (s : State) (c : Ctx) : State × Ans :=
  let s1 := (if c.role = 1 then (s.put Reg.BUD_CAP_IN_MGR (c.at 0 2)).persist .cap else s.put Reg.BUD_CAP_IN_HOST (c.at 0 2)).capRecalc
  (s1, Ans.ok (leBytes 2 (s1.get Reg.BUD_CAP_EFF_EFF) ++ leBytes 1 (s1.get Reg.BUD_STAT_CAP_SRC) ++ zeros 1))
def budSetCapOp : OpSpec := { plainOp 0x0210 4 budSetCapRun with
  roles := [0, 1]
  range := fun _ c => firstBad [(0, c.at 0 2 == 0 || (150 ≤ c.at 0 2 && c.at 0 2 ≤ 1100))] }
/-- BUD_SET_CAP (R557). -/
def execBudSetCap (p : Packet) (s : State) : Host.Outcome State Fault Refusal := serve budSetCapOp p s

/-! ### TCLK steps -/

/-- The steps of the dies set; a change sets BUD_EVT.STEP. -/
def State.setSteps (s : State) (k0 k1 : Nat) : State :=
  let s1 := (s.put Reg.BUD_STAT_STEP_F0 k0).put Reg.BUD_STAT_STEP_F1 k1
  if s.get Reg.BUD_STAT_STEP_F0 = k0 ∧ s.get Reg.BUD_STAT_STEP_F1 = k1 then s1 else s1.budEvent Reg.BUD_EVT_STEP 0

/-- A self-test run stops with a CAUSE: its running tests end and the others are skipped (R593, R594). -/
def State.bistStop (s : State) (cause : Nat) : State :=
  match s.bist with
  | none => s
  | some r =>
    if s.get Reg.BIST_STAT_STATE = 3 then s
    else ({ s with bist := some { r with cause := cause, left := [], cur := [] } }.put Reg.BIST_STAT_STATE 3).put Reg.BIST_STAT_TEST 0xF
/-- BRAKE set to a level (R560): both dies to step 0, level 2 to IDLE; a self-test run ends (R594). -/
def State.setBrake (s : State) (lv : Nat) (timed : Bool) : State :=
  let s1 := s.put Reg.BUD_STAT_BRAKE lv
  let s2 := { s1 with bud := { s1.bud with timed := timed } }
  let s3 := if s.get Reg.BUD_STAT_BRAKE = lv then s2 else s2.budEvent Reg.BUD_EVT_BRAKE 4
  let s4 := if lv = 0 then s3 else (s3.setSteps 0 0).bistStop 3
  if lv = 2 ∧ s4.cur = 0 ∧ ¬ s4.moving ∧ s4.bist = none then s4.put Reg.PWR_STATE_CUR 1 else s4
/-- BUD_BRAKE's effect; the reply gives the previous level. -/
def budBrakeRun (s : State) (c : Ctx) : State × Ans :=
  (s.setBrake (c.at 0 1) (c.at 2 2 != 0), Ans.ok (leBytes 1 (s.get Reg.BUD_STAT_BRAKE) ++ zeros 3))
def budBrakeOp : OpSpec := { plainOp 0x0211 4 budBrakeRun with
  roles := [1]
  range := fun _ c => firstBad [(0, c.at 0 1 ≤ 2)] }
/-- BUD_BRAKE (R560). -/
def execBudBrake (p : Packet) (s : State) : Host.Outcome State Fault Refusal := serve budBrakeOp p s
/-- BRAKE_TIMEOUT: the TIMEOUT expires and BRAKE ends (R560). -/
def execBrakeTimeout (s : State) : Host.Outcome State Fault Refusal :=
  if s.kettleOn ∧ s.bud.timed then .next (s.setBrake 0 false) else .next s

def budStatusOp : OpSpec := plainOp 0x0212 0 (fun s _ =>
  (s, Ans.ok (wordBytes ([0x100, 0x104, 0x108, 0x10C, 0x110, 0x114, 0x130, 0x138].map (fun a => s.word (wordsPwr a))))))
/-- BUD_STATUS (R576). -/
def execBudStatus (p : Packet) (s : State) : Host.Outcome State Fault Refusal := serve budStatusOp p s
def thermReadOp : OpSpec := { plainOp 0x0214 4 (fun s c =>
    (s, Ans.ok (wordBytes ((List.range (c.at 1 1)).map (fun k => s.word (wordsPwr (0x140 + 4 * (c.at 0 1 + k)))))))) with
  range := fun _ c => firstBad [(0, c.at 0 1 ≤ 23), (1, 1 ≤ c.at 1 1 && c.at 0 1 + c.at 1 1 ≤ 24)] }
/-- THERM_READ (R576). -/
def execThermRead (p : Packet) (s : State) : Host.Outcome State Fault Refusal := serve thermReadOp p s
/-- BUD_CONFIG's effect; the reply gives the previous BUD_CFG. -/
def budConfigRun (s : State) (c : Ctx) : State × Ans :=
  (((s.put Reg.BUD_CFG_AUTO_RESTART (c.at 0 1)).put Reg.BUD_CFG_SPLIT (c.at 1 1)).persist .budCfg, Ans.ok (leBytes 4 (s.word (wordsPwr 0x120))))
def budConfigOp : OpSpec := { plainOp 0x0215 4 budConfigRun with
  roles := [1]
  range := fun _ c => firstBad [(0, c.at 0 1 ≤ 1), (1, c.at 1 1 ≤ 1)] }
/-- BUD_CONFIG (R576). -/
def execBudConfig (p : Packet) (s : State) : Host.Outcome State Fault Refusal := serve budConfigOp p s

/-- The target T in mW: 0.97 × the effective cap (R563). -/
def State.capTarget (s : State) : Nat := 97 * s.get Reg.BUD_CAP_EFF_EFF
/-- The largest step whose power fits a budget in mW, 0 where none does (R563). -/
def fitStep (demand : Nat) (budget : Int) : Nat :=
  ((List.range 16).filter (fun k => decide (((demand * (k + 1) : Nat) : Int) ≤ 16 * budget))).foldl max 0
/-- The mean of a list. -/
def meanNat (l : List Nat) : Nat := if l.length = 0 then 0 else l.sum / l.length
/-- BUDGET_PERIOD: every 100 µs the estimates are taken and, in RUN and IDLE, the cap is divided between the dies (R554, R556,
R563): a step falls at once, rises by at most 2, and is held by the thermal limit and by BRAKE. -/
def execBudgetPeriod (m : PowerSample) (s : State) : Host.Outcome State Fault Refusal :=
  if !s.kettleOn then .next s
  else
    let k0 := s.get Reg.BUD_STAT_STEP_F0
    let k1 := s.get Reg.BUD_STAT_STEP_F1
    let d0 := m.tile0 * 16 / (k0 + 1)
    let d1 := m.tile1 * 16 / (k1 + 1)
    let powers := ((1000 + m.u + m.tile0 + m.tile1) :: s.bud.powers).take 100
    let demands := ((1000 + m.u + d0 + d1) :: s.bud.demands).take 100
    let s1 := { s with bud := { s.bud with powers := powers, demands := demands } }
    let s2 := (s1.put Reg.BUD_POWER_AVG (meanNat powers / 100)).put Reg.BUD_POWER_DEMAND (meanNat demands / 100)
    let s3 := (((s2.put Reg.BUD_DIE_F0 (m.f0 / 500)).put Reg.BUD_DIE_F1 (m.f1 / 500)).put Reg.BUD_DIE_B (m.b / 500)).put
      Reg.BUD_DIE_C (m.c / 500)
    if 1 < s.cur then .next s3
    else
      let b : Int := (s.capTarget : Int) - 1000 - m.u
      let even := s.get Reg.BUD_CFG_SPLIT = 1 ∨ d0 + d1 = 0
      let b0 := if even then b / 2 else b * d0 / (d0 + d1 : Nat)
      let b1 := if even then b / 2 else b * d1 / (d0 + d1 : Nat)
      let next_ (k lim d : Nat) (x : Int) : Nat :=
        if s.get Reg.BUD_STAT_BRAKE ≠ 0 then 0 else min lim (min (fitStep d x) (k + 2))
      .next (s3.setSteps (next_ k0 (s.get Reg.BUD_STAT_LIM_F0) d0 b0) (next_ k1 (s.get Reg.BUD_STAT_LIM_F1) d1 b1))

/-! ### Cap hold -/

/-- Cap hold entered or left (R564). -/
def State.setHold (s : State) (on_ : Bool) (frac : Nat) : State :=
  let s0 := { s with bud := { s.bud with onFraction := frac } }
  let s1 := s0.setFlag Reg.BUD_STAT_HOLD on_
  if on_ && !s.flag Reg.BUD_STAT_HOLD then
    (s1.budEvent Reg.BUD_EVT_HOLD 3).logEvent 0x0206 0 (leBytes 2 (s.get Reg.BUD_CAP_EFF_EFF) ++ leBytes 1 frac)
  else s1
/-- BUD_CAP_HOLD: entered where both dies are at step 0 and the estimate over 10 ms exceeds T; it ends when 10 ms stay within T
(R564), unless a die is held for heat (R569). -/
def execBudCapHold (enter : Bool) (onFraction : Byte) (s : State) : Host.Outcome State Fault Refusal :=
  let above := decide (s.bud.powers.length = 100 ∧ s.capTarget < meanNat s.bud.powers)
  if !s.kettleOn || decide (1 < s.cur) then .next s
  else if enter then
    if above && s.get Reg.BUD_STAT_STEP_F0 == 0 && s.get Reg.BUD_STAT_STEP_F1 == 0 then .next (s.setHold true onFraction.toNat)
    else .next s
  else if above || s.bud.hotHold.any id then .next s
  else .next (s.setHold false 255)

/-! ### Throttling -/

/-- Table BUD-1: whether a sensor throttles die `d`. -/
def sensorThrottles (n d : Nat) : Bool :=
  n ≤ 5 || (if d = 0 then (6 ≤ n && n ≤ 11) || (18 ≤ n && n ≤ 20) else (12 ≤ n && n ≤ 17) || 21 ≤ n)
/-- The averaged readings stored in THERMs (R567): only sensor 0 is powered in SLEEP, and a failed sensor reads VALID 0 (R568). -/
def State.putTemps (s : State) (temps : List Int) : State :=
  (List.range 24).foldl (fun s n =>
    match temps[n]? with
    | some t =>
      if n ∈ s.bud.failed ∨ (s.cur = 3 ∧ n ≠ 0) then s.put (Reg.THERM_VALID n) 0
      else (s.put (Reg.THERM_T n) (unsgn 12 t)).put (Reg.THERM_VALID n) 1
    | none => s.put (Reg.THERM_VALID n) 0) s
/-- The valid readings: sensor and temperature in 0.25 °C. -/
def State.validTemps (s : State) : List (Nat × Int) :=
  ((List.range 24).filter (fun n => s.flag (Reg.THERM_VALID n))).map (fun n => (n, sgn 12 (s.get (Reg.THERM_T n))))
/-- THERM_MAX and THERM_PEAK from the valid readings. -/
def State.putMax (s : State) : State :=
  match s.validTemps with
  | [] => s
  | e :: r =>
    let m := r.foldl (fun m e => if m.2 < e.2 then e else m) e
    let s1 := (s.put Reg.THERM_MAX_SENSOR m.1).put Reg.THERM_MAX_T (unsgn 12 m.2)
    if s.bud.peaked && decide (m.2 ≤ sgn 12 (s.get Reg.THERM_PEAK_T)) then s1
    else { s1.put Reg.THERM_PEAK_T (unsgn 12 m.2) with bud := { s.bud with peaked := true } }
/-- The thermal limit field of a die. -/
def limFld (d : Nat) : Fld := if d = 0 then Reg.BUD_STAT_LIM_F0 else Reg.BUD_STAT_LIM_F1
/-- The highest limit a die can have: 15, and 7 while a failed sensor holds it there (R568). -/
def State.limTop (s : State) (d : Nat) : Nat := if s.bud.failed.any (fun n => sensorThrottles n d) then 7 else 15
/-- A die is throttled for heat: its limit is below the highest it can have. An episode lasts while one is (R569; DEDUCED, log entry 100). -/
def State.dieThrottled (s : State) : Bool := [0, 1].any (fun d => decide (s.get (limFld d) < s.limTop d))
/-- The new limit of a die (R568, R569). -/
def State.nextLim (s : State) (d : Nat) : Nat :=
  let l := s.validTemps.filter (fun e => sensorThrottles e.1 d)
  let x := s.get (limFld d)
  let y := if l.any (fun e => decide (440 ≤ e.2)) then x - 1
    else if l.all (fun e => decide (e.2 ≤ 428)) then x + 1 else x
  min (s.limTop d) y
/-- Cap hold of a die for heat (R569): 115 °C or more for 10 ms at limit 0, until all its sensors read 107 °C or less. -/
def State.hotDie (s : State) (d : Nat) : State :=
  let l := s.validTemps.filter (fun e => sensorThrottles e.1 d)
  let n := if s.get (limFld d) = 0 ∧ l.any (fun e => decide (460 ≤ e.2)) then min 100 (s.bud.hot.getD d 0 + 1) else 0
  let was := s.bud.hotHold.getD d false
  let now := if was then !(l.all (fun e => decide (e.2 ≤ 428))) else decide (n = 100)
  { s with bud := { s.bud with hot := s.bud.hot.set d n, hotHold := s.bud.hotHold.set d now } }
/-- CADDY_STAT.RATE_X from the caddy sensors, 18 to 23 (R434): 0 up to 85 °C, 1 up to 105 °C, else 2. -/
def State.caddyRates (s : State) : State :=
  let l := (s.validTemps.filter (fun e => decide (18 ≤ e.1))).map (fun e => e.2)
  if !s.plinthPowered then s
  else s.put Reg.CADDY_STAT_RATE_X (if l.any (fun t => decide (420 < t)) then 2 else if l.any (fun t => decide (340 < t)) then 1 else 0)
/-- THERMAL_PERIOD: the averaged readings stored, the limits moved, the steps held to them; the start of throttling is told once
per episode (R567, R569). -/
def execThermalPeriod (temps : List Int) (s : State) : Host.Outcome State Fault Refusal :=
  if !s.kettleOn then .next s
  else
    let s1 := (s.putTemps temps).putMax
    let l0 := s1.nextLim 0
    let l1 := s1.nextLim 1
    let s2 := (s1.put Reg.BUD_STAT_LIM_F0 l0).put Reg.BUD_STAT_LIM_F1 l1
    let on_ := decide (l0 < 15 ∨ l1 < 15)
    let s3 := s2.setFlag Reg.BUD_STAT_THERMAL on_
    let s4 := if s3.dieThrottled && !s.dieThrottled then
        (s3.budEvent Reg.BUD_EVT_THERMAL 2).logEvent 0x0207 (s3.get Reg.THERM_MAX_SENSOR)
          (leBytes 2 (unsgn 16 (sgn 12 (s3.get Reg.THERM_MAX_T))))
      else s3
    let s5 := s4.setSteps (min l0 (s4.get Reg.BUD_STAT_STEP_F0)) (min l1 (s4.get Reg.BUD_STAT_STEP_F1))
    let s6 := ((s5.hotDie 0).hotDie 1).caddyRates
    let held := s6.bud.hotHold.any id
    if held then .next (s6.setHold true s6.bud.onFraction)
    else if s.bud.hotHold.any id then .next (s6.setHold false 255)
    else .next s6
/-- THERM_SENSOR_FAIL: the sensor is excluded from Tj and its dies' limit held at step 7 or lower (R568). -/
def execThermSensorFail (sensor : Fin 24) (s : State) : Host.Outcome State Fault Refusal :=
  let n := sensor.val
  if !s.kettleOn || n ∈ s.bud.failed then .next s
  else
    let s1 := { s with bud := { s.bud with failed := s.bud.failed ++ [n] } }.put (Reg.THERM_VALID n) 0
    let s2 := (s1.put Reg.BUD_STAT_LIM_F0 (if sensorThrottles n 0 then min 7 (s1.get Reg.BUD_STAT_LIM_F0) else s1.get Reg.BUD_STAT_LIM_F0)).put
      Reg.BUD_STAT_LIM_F1 (if sensorThrottles n 1 then min 7 (s1.get Reg.BUD_STAT_LIM_F1) else s1.get Reg.BUD_STAT_LIM_F1)
    let s3 := s2.setFlag Reg.BUD_STAT_THERMAL (s2.get Reg.BUD_STAT_LIM_F0 < 15 ∨ s2.get Reg.BUD_STAT_LIM_F1 < 15)
    .next (s3.logEvent 0x0208 n [])

end Sys2Proof.Machine
end

