-- ==== Sys2Proof/Machine/Wake.lean ====
section
/-! DEFINITION. Latching a wake, the start of an exit to RUN, the abort of an entry, and the tick source of the time-of-day
counter (R71, R81–R86, R535). -/

namespace Sys2Proof.Machine

/-- A handover of the tick source: the counter jumps by a free value up to 10 ns, never backwards (R535, R536). -/
def State.handover (s : State) : State :=
  { s with time := { s.time with tod := (s.time.tod + s.drawn 44 % (10 * unitNs + 1)) % (2 ^ 48 * unitSec) } }.draw
/-- TIME_STAT.XTAL and RC follow the tick source (Table TIME-1): the fast tick while REFCLK_SYS is valid, else the crystal
while XTAL_OK is 1, else RCCLK. RCCLK runs from a kettle boot until XTAL_OK rises (R535), and in wake and entry sequences. -/
def State.retick (s : State) : State :=
  let ref := s.flag Reg.PWR_CLK_STATUS_REF_OK
  let x := s.flag Reg.PWR_CLK_STATUS_XTAL_OK
  let same := s.flag Reg.TIME_STAT_XTAL == (!ref && x) && s.flag Reg.TIME_STAT_RC == (!ref && !x)
  let s0 := if same || !s.kettleOn then s else s.handover
  let s1 := (s0.setFlag Reg.TIME_STAT_XTAL (!ref && x)).setFlag Reg.TIME_STAT_RC (!ref && !x)
  s1.setFlag Reg.PWR_CLK_STATUS_RC_ON (!x || s1.get Reg.PWR_STATE_MOVING == 1)

/-- The tiles that run. -/
def State.runningTiles (s : State) : List Nat := (List.range 192).filter (fun t => s.flag (Reg.TSTAT_RUN t))
/-- A list of tiles started again where they were halted. -/
def State.releaseTiles (s : State) (l : List Nat) : State :=
  l.foldl (fun s t => s.setFlag (Reg.TSTAT_RUN t) true) s

/-- A held steeper outside frozen regions runs again; its access at hand is issued anew (R83, R86). -/
def State.releaseHeld (s : State) (m : Nat) : State :=
  (List.range 192).foldl (fun s t => (List.range 2).foldl (fun s st =>
    if s.get (Reg.STEEP_STAT_STATE t st) = 3 ∧ !bit m (t / 96 * 16 + t % 96 / 6) then s.put (Reg.STEEP_STAT_STATE t st) 1 else s) s) s
/-- The tiles that an entry halted go on: those still halted with CAUSE 3, without a fault, outside frozen regions. -/
def State.releaseHalted (s : State) : State :=
  let m := s.get Reg.CWALL_MASK
  s.releaseTiles (s.pwr.halted.filter (fun t => s.get (Reg.TSTAT_CAUSE t) == 3 && !s.flag (Reg.TSTAT_RUN t) && !s.flag (Reg.TSTAT_FAULTED t) &&
    !bit m (t / 96 * 16 + t % 96 / 6)))
/-- The engines that an entry halted go on where they were halted, and a halt that has not taken effect is called off (R77, R86). -/
def State.releaseEngines (s : State) : State :=
  let mine (e : Nat) : Bool := s.pwr.haltedEng.contains e
  let s1 := { s with eng := s.eng.map (fun p => (p.1, if mine p.1 then { p.2 with haltReq := false } else p.2)) }
  s.pwr.haltedEng.foldl (fun s e => if s.get (Reg.ENG_STAT_FAULT e) = 0 then s.put (Reg.ENG_STAT_RUN e) 1 else s) s1
/-- Halts and holds that an entry has asked for and that have not taken effect are called off outside frozen regions: the tile or stream
issues what it had withdrawn again and goes on (R77, R86). -/
def State.unhalt (s : State) : State :=
  let m := s.get Reg.CWALL_MASK
  let free (t : Nat) : Bool := !bit m (t / 96 * 16 + t % 96 / 6)
  let ts := s.tu.tiles.map (fun e => (e.1, if e.2.haltReq = some 3 ∧ free e.1 then { e.2 with haltReq := none } else e.2))
  let ss := s.tu.steepers.map (fun e =>
    (e.1, if (e.2.haltReq = some 0 ∨ e.2.haltReq = some 2) ∧ free (e.1 / 2) then { e.2 with haltReq := none } else e.2))
  { s with tu := { s.tu with tiles := ts, steepers := ss } }
/-- RUN, or IDLE while BRAKE level 2 holds the M7 there (R560). -/
def State.runOrIdle (s : State) : State := s.put Reg.PWR_STATE_CUR (if s.get Reg.BUD_STAT_BRAKE = 2 then 1 else 0)
/-- An entry ends before its point of no return and the M7 is back in RUN (R77, R86): halted tiles and quiesced streams go on, and a
partial save stays as the ciphertext it is. -/
def State.abortEntry (s : State) : State :=
  let s1 := s.unhalt.releaseEngines.releaseHalted.releaseHeld (s.get Reg.CWALL_MASK)
  let s2 := ((s1.setFlag Reg.PWR_STATE_MOVING false).put Reg.PWR_STATE_TGT 0).runOrIdle.setFlag
    Reg.PWR_CLK_STATUS_RC_ON (!s.flag Reg.PWR_CLK_STATUS_XTAL_OK)
  { s2 with pwr := { s2.pwr with stage := .none, halted := [], haltedEng := [], req := none, castAfter := false } }

/-- The vault unit written. -/
def State.setVault (s : State) (v : VaultUnit) : State := { s with vault := v }
/-- The vault's state (VLT_STATUS.STATE): 0 loading, 1 ready, 2 sealed, 3 fault, 4 dormant. -/
def State.vaultState (s : State) : Nat := s.get Reg.VLT_STATUS_STATE
/-- A fill of the match buffer begins (R132). -/
def State.vaultFill (s : State) : State := (s.setVault { s.vault with filled := false, keyed := true }).put Reg.VLT_STATUS_STATE 0
/-- A latched wake from SLEEP starts the fill. -/
def State.vaultWake (s : State) : State := if s.vaultState = 4 then s.vaultFill else s

/-- The exit to RUN starts (R82, R83). From SLEEP the reference is requested, the match buffer is filled,
and failed thermal sensors count anew (R568). From DOZE the plinth leaves retention and the
steward answers, and EN_F rises. -/
def State.beginExit (s : State) (first : Nat) : State :=
  let s1 := ((s.put Reg.PWR_WAKE_FIRST_FIRST first).setFlag Reg.PWR_STATE_MOVING true).put Reg.PWR_STATE_TGT 0
  let s2 := { s1 with pwr := { s1.pwr with wakeAt := s1.time.up, retried := false, refLow := none, wakeAfter := none, failedRestore := false } }
  if s2.cur = 2 then
    let s3 := (s2.setFlag Reg.MBX_STATUS_READY true).put Reg.PWR_STATE_CUR 0
    ({ s3 with pwr := { s3.pwr with stage := .railsFC, fromDoze := true, enF := true } }).retick
  else
    let s3 := ({ s2 with bud := { s2.bud with failed := [] } }.vaultWake).setFlag Reg.PWR_CLK_STATUS_REF_REQ true
    ({ s3 with pwr := { s3.pwr with stage := .ref, fromDoze := false } }).retick

/-- A wake source latches if its PWR_WAKE_EN bit is 1, TAMPER always (R81): its bit is set in PWR_WAKE_SRC, and
in IDLE the M7 returns to RUN, in DOZE and SLEEP the exit starts, an entry before its point of no return is aborted with
STATE, DETAIL 0x0010 (R86), a move from DOZE to SLEEP takes it afterwards (R90), and a running exit or a thermal trip only records it
(R23, R570). A source that latches in RUN is no wake, so PWR_WAKE_FIRST stays (DESIGN CHOICE, log entry 84). -/
def State.latchWake (s : State) (bit_ : Nat) : State :=
  if !s.kettleOn || !(bit_ == 3 || bit (s.get Reg.PWR_WAKE_EN_EN) bit_) then s
  else
    let s1 := s.orBits Reg.PWR_WAKE_SRC_SRC (2 ^ bit_)
    if s1.bud.trip.isSome then s1
    else match s1.pwr.stage with
    | .none =>
      if s1.cur = 1 then (s1.put Reg.PWR_WAKE_FIRST_FIRST bit_).leaveIdle
      else if s1.cur = 2 ∨ s1.cur = 3 then s1.beginExit bit_
      else s1
    | .quiesce | .prepare =>
      if s1.pwr.fromDoze then
        { s1 with pwr := { s1.pwr with wakeAfter := some (s1.pwr.wakeAfter.getD bit_) } }
      else
        let s2 := (s1.put Reg.PWR_WAKE_FIRST_FIRST bit_).abortEntry
        s2.complete 0x0200 (Ans.code 0xE 0x10)
    | _ => s1

/-- The exit has restored the cast, or the cast's source leaves the fabric empty: RUN, or IDLE under BRAKE level 2 (R74, R560), with the
duration of the exit in PWR_EXIT_TIME. A load that ends outside an exit moves nothing. -/
def State.exitDone (s : State) : State :=
  if s.pwr.stage = .none ∨ s.pwr.stage = .quiesce ∨ s.pwr.stage = .prepare then s
  else
    let s1 := (s.setFlag Reg.PWR_STATE_MOVING false).put Reg.PWR_EXIT_TIME_US ((s.time.up - s.pwr.wakeAt) / (1000 * unitNs))
    let s2 := { s1 with pwr := { s1.pwr with stage := .none, fromDoze := false, halted := [], haltedEng := [] } }
    s2.runOrIdle.retick

end Sys2Proof.Machine
end

