-- ==== Sys2Proof/Machine/Door.lean ====
section
/-! DEFINITION. The door side (chapter 4): lamp channels, touch, keypad, plugs and the commands of Table DOOR-5. Analogue
readings enter as operands of events; LMPn_MEAS and RAIL_STAT are measured anew at every LAMP_GET, as free values. -/

namespace Sys2Proof.Machine

/-- The cast is released and the fabric runs, so that its signals reach the kettle (R105). -/
def State.fabricReleased (s : State) : Bool :=
  s.fabricPowered && (s.get Reg.CAST_STATUS_STATE == 3 || s.get Reg.CAST_STATUS_STATE == 4)
/-- An HMI event (Table DOOR-4) with its vector 1. -/
def State.hmi (s : State) (f : Fld) (m pos : Nat) : State := s.event f m pos Reg.HMI_IRQ_EN_EN 1 .hmiIrq

/-! ### Lamps -/

/-- What a lamp channel does beside its fields. -/
def State.lamp (s : State) (n : Nat) : Lamp := s.door.lamps.getD n Lamp.off
def State.putLamp (s : State) (n : Nat) (l : Lamp) : State :=
  { s with door := { s.door with lamps := s.door.lamps.set n l } }
/-- The rail of a channel (Table DOOR-1). -/
def lampRail (n : Nat) : Nat := n / 2
/-- The gate of a channel: EN alone, or LGATEn, or GATE_DFLT while the fabric is not released (R105). -/
def State.lampWanted (s : State) (n : Nat) : Bool :=
  s.flag (Reg.LMP_CTRL_EN n) &&
  (!s.flag (Reg.LMP_CTRL_SRC n) ||
    (if s.fabricReleased then bit s.door.lgate n else s.flag (Reg.LMP_CTRL_GATE_DFLT n)))
/-- PHASE and ON of a channel. -/
def State.lampPhase (s : State) (n ph : Nat) : State :=
  (s.put (Reg.LMP_STAT_PHASE n) ph).setFlag (Reg.LMP_STAT_ON n) (ph == 1 || ph == 2 || ph == 3)
/-- A range's current per step of SET in µA (R95): 0.625 mA LOW, 6.25 mA HIGH. -/
def lampStep (high : Bool) : Nat := if high then 6250 else 625
/-- The setpoint of a channel in µA, in the range its output runs in (R95). -/
def State.lampSetpoint (s : State) (n : Nat) : Nat := s.get (Reg.LMP_SET_SET n) * lampStep (s.lamp n).range
/-- The target of a channel in µA: in a soft start it rises linearly from 0 over SOFT ms (R96), in a ramp it moves linearly over 200 µs
(R102, R103). -/
def State.lampTarget (s : State) (n : Nat) : Nat :=
  let l := s.lamp n
  let goal := l.target * lampStep l.range
  let run (span : Nat) : Nat := min (s.time.up - l.since) span
  let ph := s.get (Reg.LMP_STAT_PHASE n)
  if ph = 1 then
    let span := s.get (Reg.LMP_CTRL_SOFT n) * 1000000 * unitNs
    goal * run span / span
  else if ph = 2 then goal
  else if ph = 3 then
    let span := 200000 * unitNs
    ((l.start : Int) + ((goal : Int) - l.start) * run span / span).toNat
  else 0
/-- The clip of a channel's load current in µA: the inrush limit inside the window, 1.25 × setpoint after it, never above 3 A (R96). -/
def State.lampClip (s : State) (n : Nat) : Nat :=
  min 3000000 (s.lampSetpoint n * (if s.get (Reg.LMP_STAT_PHASE n) = 1 then 4 + s.get (Reg.LMP_CTRL_INRUSH n) else 5) / 4)
/-- SHORT_V in mV (R97). -/
def State.lampShortV (s : State) (n : Nat) : Nat := 500 * (s.get (Reg.LMP_CTRL_SHORT_V n) + 1)
/-- A channel that drives is in short condition at an output voltage in mV (R97). -/
def State.lampShorted (s : State) (n mv : Nat) : Bool :=
  decide (mv < s.lampShortV n) && decide (s.lampSetpoint n ≤ 8 * s.lampTarget n)
/-- A full soft start (R96); on a tripped rail the channel is suspended instead (R100). -/
def State.lampSoft (s : State) (n : Nat) : State :=
  let l : Lamp := { Lamp.off with range := s.flag (Reg.LMP_CTRL_RANGE n), target := s.get (Reg.LMP_SET_SET n), since := s.time.up }
  (s.putLamp n l).lampPhase n (if bit s.door.railTrip (lampRail n) then 5 else if bit s.door.railWait (lampRail n) then 6 else 1)
/-- A 200 µs ramp to a target from where the output stands (R102, R104). -/
def State.lampRamp (s : State) (n target : Nat) : State :=
  (s.putLamp n { s.lamp n with start := s.lampTarget n, since := s.time.up, target := target }).lampPhase n 3
/-- An automatic retry (R98). -/
def State.lampRetry (s : State) (n : Nat) : State := (s.bumpSat (Reg.LMP_STAT_RETRIES n) 1).lampSoft n
/-- EN at 0 takes RETRIES and HOLD back (R98). -/
def State.lampReset (s : State) (n : Nat) : State :=
  if s.flag (Reg.LMP_CTRL_EN n) then s else (s.put (Reg.LMP_STAT_RETRIES n) 0).put (Reg.LMP_STAT_HOLD n) 0
/-- A channel follows its settings and its gate (R98, R102–R105). A SET change inside the soft start takes its place as the soft start's
end, and a range change written back before zero ramps up again in PHASE 3 (DESIGN CHOICE, log entry 86). -/
def State.lampApply (s0 : State) (n : Nat) : State :=
  let s := s0.lampReset n
  let ph := s.get (Reg.LMP_STAT_PHASE n)
  let l := s.lamp n
  let want := s.lampWanted n
  let rng := s.flag (Reg.LMP_CTRL_RANGE n)
  let set := s.get (Reg.LMP_SET_SET n)
  if ph = 4 then
    if !s.flag (Reg.LMP_CTRL_EN n) then s.lampPhase n 0
    else if want && l.due then s.lampRetry n else s
  else if ph = 0 then (if want then s.lampSoft n else s)
  else if ph = 5 ∨ ph = 6 then (if want then s else s.lampPhase n 0)
  else if !want then
    (if ph = 3 ∧ l.target = 0 ∧ l.toRange = none then s else (s.putLamp n { l with toRange := none, fresh := false }).lampRamp n 0)
  else if l.range != rng then
    (if l.toRange = some rng then s else (s.putLamp n { l with toRange := some rng, fresh := l.fresh || ph == 1 }).lampRamp n 0)
  else if ph = 1 then s.putLamp n { l with target := set, toRange := none }
  else if l.target = set ∧ l.toRange = none then s
  else (s.putLamp n { l with toRange := none, fresh := false }).lampRamp n set
/-- Every channel follows its gate again, as when the fabric is released or powers down (R105). -/
def State.lampsRegate (s : State) : State := (List.range 8).foldl State.lampApply s

/-- The pair's other channel learns of a short inside its inrush window (R101). -/
def State.lampNear (s : State) (n : Nat) : State :=
  let m := if n % 2 = 0 then n + 1 else n - 1
  if s.get (Reg.LMP_STAT_PHASE m) = 1 then s.putLamp m { s.lamp m with near := true } else s
/-- LAMP_SHORT: an output voltage of at most `mv` mV has lasted the blanking time on a channel that drives: where that is a short
condition, it is latched off, SHORT set, and HOLD after the third retry (R97, R98). -/
def execLampShort (x : LampTrip) (s : State) : Host.Outcome State Fault Refusal :=
  let n := x.ch.val
  let ph := s.get (Reg.LMP_STAT_PHASE n)
  if s.kettleOn ∧ (ph = 1 ∨ ph = 2 ∨ ph = 3) ∧ s.lampShorted n x.mv.toNat then
    let r := s.get (Reg.LMP_STAT_RETRIES n)
    let s1 := (((s.lampNear n).lampPhase n 4).setFlag (Reg.LMP_STAT_SHORT n) true).setFlag (Reg.LMP_STAT_HOLD n) (r == 3)
    .next ((s1.hmi Reg.HMI_EVT_LAMP (2 ^ n) 0).logEvent 0x0801 n (leBytes 1 r))
  else .next s
/-- LAMP_AUTO_RETRY: 500 ms after a latch-off, a full soft start, at most three times (R98). A channel whose gate is off stays latched
off, and its retry waits for the gate (DESIGN CHOICE, log entry 86). -/
def execLampAutoRetry (ch : Fin 8) (s : State) : Host.Outcome State Fault Refusal :=
  let n := ch.val
  if s.kettleOn ∧ s.get (Reg.LMP_STAT_PHASE n) = 4 ∧ ¬ s.flag (Reg.LMP_STAT_HOLD n) then
    if s.get (Reg.LMP_STAT_RETRIES n) = 3 then
      .next ((s.setFlag (Reg.LMP_STAT_HOLD n) true).hmi Reg.HMI_EVT_LAMP (2 ^ n) 0)
    else
      .next (if s.lampWanted n then s.lampRetry n else s.putLamp n { s.lamp n with due := true })
  else .next s
/-- LAMP_RETRIES_RESET: the channel has run for 1 s after a retry (R98). -/
def execLampRetriesReset (ch : Fin 8) (s : State) : Host.Outcome State Fault Refusal :=
  if s.kettleOn ∧ s.flag (Reg.LMP_STAT_ON ch) then .next (s.put (Reg.LMP_STAT_RETRIES ch) 0) else .next s
/-- LAMP_OPEN: 10 ms regulating below half the target near the rail; the channel keeps running (R99). -/
def execLampOpen (ch : Fin 8) (s : State) : Host.Outcome State Fault Refusal :=
  if s.kettleOn ∧ s.get (Reg.LMP_STAT_PHASE ch) = 2 then
    .next ((s.setFlag (Reg.LMP_STAT_OPEN ch) true).hmi Reg.HMI_EVT_LAMP (2 ^ ch.val) 0)
  else .next s
/-- INRUSH_WINDOW_END: the SOFT ms of the window have run, and `dip` is the length in µs of the first rail dip that began inside it (0
none). With a short on the pair's other channel the window holds on for the dip, at most 5 ms and once: the ramp is over, the clip stays
(R101). Else it closes and the channel is on (R96). -/
def execInrushWindowEnd (x : LampWindow) (s : State) : Host.Outcome State Fault Refusal :=
  let n := x.ch.val
  let l := s.lamp n
  if !s.kettleOn || s.get (Reg.LMP_STAT_PHASE n) != 1 then .next s
  else if x.dip != 0 && l.near && !l.extended then
    .next (s.putLamp n { l with extended := true, until_ := s.time.up + min x.dip 5000 * 1000 * unitNs })
  else .next (s.lampPhase n 2)
/-- RAMP_END: a ramp reaches its end: off, on, or zero before a range switch, after which the output ramps up again or begins a
fresh soft start (R102–R104). -/
def execRampEnd (ch : Fin 8) (s : State) : Host.Outcome State Fault Refusal :=
  let n := ch.val
  let l := s.lamp n
  if s.kettleOn ∧ s.get (Reg.LMP_STAT_PHASE n) = 3 then
    match l.toRange with
    | some r =>
      if l.fresh then .next (s.lampSoft n)
      else .next ((s.putLamp n { l with toRange := none, range := r }).lampRamp n (s.get (Reg.LMP_SET_SET n)))
    | none => .next (s.lampPhase n (if s.lampWanted n then 2 else 0))
  else .next s
/-- The channels of a rail that are switched on and in one of some phases moved to another phase. -/
def State.railPhase (s : State) (rail : Nat) (from_ : List Nat) (to_ : Nat) : State :=
  [2 * rail, 2 * rail + 1].foldl (fun s n =>
    if s.get (Reg.LMP_STAT_PHASE n) ∈ from_ ∧ s.lampWanted n then s.lampPhase n to_ else s) s
/-- LAMP_RAIL_UV: the rail's monitor trips: channels that are on or in soft start are suspended, RAIL_UV set and logged (R100). -/
def execLampRailUv (rail : Fin 4) (s : State) : Host.Outcome State Fault Refusal :=
  if s.kettleOn then
    let d := { s.door with railTrip := s.door.railTrip ||| 2 ^ rail.val, railWait := setBits s.door.railWait rail 1 0 }
    let s1 := ({ s with door := d }).railPhase rail [1, 2, 3, 6] 5
    .next ((s1.hmi Reg.HMI_EVT_RAIL_UV (2 ^ rail.val) 8).logEvent 0x0802 rail [])
  else .next s
/-- RAIL_UV_RELEASE: the rail is back above 5.8 V; suspended channels enter the 1 ms restart wait (R100). -/
def execRailUvRelease (rail : Fin 4) (s : State) : Host.Outcome State Fault Refusal :=
  if s.kettleOn ∧ bit s.door.railTrip rail then
    let d := { s.door with railTrip := setBits s.door.railTrip rail 1 0, railWait := s.door.railWait ||| 2 ^ rail.val }
    .next (({ s with door := d }).railPhase rail [5] 6)
  else .next s
/-- RAIL_RESTART_WAIT_END: each suspended channel restarts its soft start from zero (R100). -/
def execRailRestartWaitEnd (rail : Fin 4) (s : State) : Host.Outcome State Fault Refusal :=
  if s.kettleOn ∧ bit s.door.railWait rail then
    let s1 := { s with door := { s.door with railWait := setBits s.door.railWait rail 1 0 } }
    .next ([2 * rail.val, 2 * rail.val + 1].foldl
      (fun s n => if s.get (Reg.LMP_STAT_PHASE n) = 6 then (if s.lampWanted n then s.lampSoft n else s.lampPhase n 0) else s) s1)
  else .next s
/-- A rising edge on a gated channel that ramps off: a soft start begins (R105). -/
def State.lampRise (s : State) (n : Nat) : Bool :=
  s.lampWanted n && s.flag (Reg.LMP_CTRL_SRC n) && s.get (Reg.LMP_STAT_PHASE n) == 3 && (s.lamp n).target == 0 && (s.lamp n).toRange.isNone
/-- LGATE_EDGE: an edge of LGATEn at the fabric boundary, unless its region is behind a freeze wall, which holds the value (R105). -/
def execLgateEdge (ch : Fin 8) (level : Bool) (s : State) : Host.Outcome State Fault Refusal :=
  if s.fabricReleased ∧ ¬ bit (s.get Reg.CWALL_MASK) (s.door.lgateRegion.getD ch 0) then
    let s1 := { s with door := { s.door with lgate := setBits s.door.lgate ch 1 (b2n level) } }
    .next (if !bit s.door.lgate ch && level && s1.lampRise ch then s1.lampSoft ch else s1.lampApply ch)
  else .next s

/-- LAMP_SET's effect (R95, R120). -/
def lampSetRun (s : State) (c : Ctx) : State × Ans :=
  let n := c.at 0 1
  let f := c.at 1 1
  let s1 := (((s.setFlag (Reg.LMP_CTRL_EN n) (bit f 0)).setFlag (Reg.LMP_CTRL_RANGE n) (bit f 1)).setFlag
    (Reg.LMP_CTRL_SRC n) (bit f 2)).setFlag (Reg.LMP_CTRL_GATE_DFLT n) (bit f 3)
  let s2 := (((s1.put (Reg.LMP_SET_SET n) (c.at 2 2)).put (Reg.LMP_CTRL_SOFT n) (c.at 4 1)).put (Reg.LMP_CTRL_INRUSH n)
    (c.at 5 1)).put (Reg.LMP_CTRL_SHORT_V n) (c.at 6 1)
  (s2.lampApply n, Ans.ok [])
def lampSetOp : OpSpec := { plainOp 0x0800 8 lampSetRun with
  range := fun _ c => firstBad [(0, c.at 0 1 ≤ 7), (1, c.at 1 1 ≤ 15), (2, c.at 2 2 ≤ 256),
    (4, 1 ≤ c.at 4 1 && c.at 4 1 ≤ 40), (5, c.at 5 1 ≤ 6), (6, c.at 6 1 ≤ 7)] }
/-- LAMP_SET (R95). -/
def execLampSet (p : Packet) (s : State) : Host.Outcome State Fault Refusal := serve lampSetOp p s

/-- The words LMPn_CTRL, LMPn_SET, LMPn_STAT and LMPn_MEAS. -/
def State.lampWords (s : State) (n : Nat) : List Nat :=
  [s.get (Reg.LMP_CTRL_SOFT n) <<< 18 ||| s.get (Reg.LMP_CTRL_INRUSH n) <<< 15 ||| s.get (Reg.LMP_CTRL_SHORT_V n) <<< 12 |||
     s.get (Reg.LMP_CTRL_GATE_DFLT n) <<< 3 ||| s.get (Reg.LMP_CTRL_SRC n) <<< 2 ||| s.get (Reg.LMP_CTRL_RANGE n) <<< 1 |||
     s.get (Reg.LMP_CTRL_EN n),
   s.get (Reg.LMP_SET_SET n),
   s.get (Reg.LMP_STAT_RETRIES n) <<< 10 ||| s.get (Reg.LMP_STAT_HOLD n) <<< 9 ||| s.get (Reg.LMP_STAT_PHASE n) <<< 5 |||
     s.get (Reg.LMP_STAT_OPEN n) <<< 2 ||| s.get (Reg.LMP_STAT_SHORT n) <<< 1 ||| s.get (Reg.LMP_STAT_ON n),
   s.get (Reg.LMP_MEAS_I n) <<< 16 ||| s.get (Reg.LMP_MEAS_V_OUT n)]
/-- The measurements of a channel and of the rails taken anew: free values, the current of a channel that drives within its clip (R96). -/
def State.measureLamp (s : State) (n : Nat) : State :=
  let x := s.drawn 64
  let i := if s.flag (Reg.LMP_STAT_ON n) then min 511 (bits x 0 9 % (s.lampClip n / lampStep (s.lamp n).range + 1)) else bits x 0 9
  let s1 := (s.draw.put (Reg.LMP_MEAS_I n) i).put (Reg.LMP_MEAS_V_OUT n) (bits x 9 9)
  (((s1.put Reg.RAIL_STAT_V0 (bits x 18 8)).put Reg.RAIL_STAT_V1 (bits x 26 8)).put Reg.RAIL_STAT_V2 (bits x 34 8)).put
    Reg.RAIL_STAT_V3 (bits x 42 8)
def State.railWord (s : State) : Nat :=
  s.get Reg.RAIL_STAT_V3 <<< 24 ||| s.get Reg.RAIL_STAT_V2 <<< 16 ||| s.get Reg.RAIL_STAT_V1 <<< 8 ||| s.get Reg.RAIL_STAT_V0
def lampGetOp : OpSpec := { plainOp 0x0801 4 (fun s c =>
    let s1 := s.measureLamp (c.at 0 1)
    (s1, Ans.ok (wordBytes (s1.lampWords (c.at 0 1) ++ [s1.railWord])))) with
  range := fun _ c => firstBad [(0, c.at 0 1 ≤ 7)] }
/-- LAMP_GET (R120). -/
def execLampGet (p : Packet) (s : State) : Host.Outcome State Fault Refusal := serve lampGetOp p s

/-- LAMP_RETRY's effect: RETRIES reset and the channel restarted (R98). -/
def lampRetryRun (s : State) (c : Ctx) : State × Ans :=
  let n := c.at 0 1
  if s.get (Reg.LMP_STAT_PHASE n) ≠ 4 then (s, Ans.code 0xE 1)
  else
    let s1 := (s.put (Reg.LMP_STAT_RETRIES n) 0).put (Reg.LMP_STAT_HOLD n) 0
    (if s1.lampWanted n then s1.lampSoft n else s1.lampPhase n 0, Ans.ok [])
def lampRetryOp : OpSpec := { plainOp 0x0802 4 lampRetryRun with
  range := fun _ c => firstBad [(0, c.at 0 1 ≤ 7)] }
/-- LAMP_RETRY (R98). -/
def execLampRetry (p : Packet) (s : State) : Host.Outcome State Fault Refusal := serve lampRetryOp p s

/-! ### Touch -/

def State.touch (s : State) (n : Nat) : Touch := s.door.touch.getD n Touch.fresh
def State.putTouch (s : State) (n : Nat) (t : Touch) : State :=
  { s with door := { s.door with touch := s.door.touch.set n t } }
/-- TCHn is touched. -/
def State.touched (s : State) (n : Nat) : Bool := bit (s.get Reg.TCH_TOUCHED_T) n
/-- A change of a channel's touched state: HMI_EVT.TOUCH, and a wake where it became touched (R107). -/
def State.setTouched (s : State) (n : Nat) (b : Bool) : State :=
  let s1 := (s.put Reg.TCH_TOUCHED_T (setBits (s.get Reg.TCH_TOUCHED_T) n 1 (b2n b))).hmi Reg.HMI_EVT_TOUCH 1 12
  if b then s1.latchWake 0 else s1
/-- BASE follows COUNT by (COUNT − BASE) / 64, rounded toward zero (R108). -/
def State.touchTrack (s : State) (n cnt : Nat) : State :=
  let base := s.get (Reg.TCH_DATA_BASE n)
  s.put (Reg.TCH_DATA_BASE n) ((base : Int) + Int.tdiv ((cnt : Int) - base) 64).toNat
/-- COUNT from a scan's conversions (R106): one, or with PROX the sum of eight; a sum that COUNT's 16 bits do not hold is a free value. -/
def State.touchCount (s : State) (n : Nat) (conv : List (BitVec 16)) : State × Nat :=
  if s.flag (Reg.TCH_CFG_PROX n) then
    let sum := ((conv.take 8).map BitVec.toNat).foldl (· + ·) 0
    if sum < 65536 then (s, sum) else (s.draw, s.drawn 16)
  else (s, (conv.getD 0 0).toNat)
/-- One scan of one channel (R106–R108): COUNT; the first eight scans give BASE; then the touch decision, and while it is not
touched the baseline follows. -/
def State.touchScan1 (s0 : State) (n : Nat) (conv : List (BitVec 16)) : State :=
  if !s0.flag (Reg.TCH_CFG_EN n) then s0
  else
    let c := s0.touchCount n conv
    let s := c.1
    let cnt := c.2
    let t := s.touch n
    let s1 := s.put (Reg.TCH_DATA_COUNT n) cnt
    if t.scans < 8 then
      let sum := t.sum + cnt
      let s2 := s1.putTouch n { scans := t.scans + 1, sum := sum, above := 0 }
      if t.scans + 1 = 8 then s2.put (Reg.TCH_DATA_BASE n) (sum / 8) else s2
    else if s.get (Reg.TCH_CFG_MODE n) = 1 then s1.touchTrack n cnt
    else
      let base := s.get (Reg.TCH_DATA_BASE n)
      let d : Int := if s.get (Reg.TCH_CFG_MODE n) = 2 then (base : Int) - cnt else (cnt : Int) - base
      let th : Int := s.get (Reg.TCH_CFG_THRESH n)
      if s.touched n then
        if d < th - s.get (Reg.TCH_CFG_HYST n) then (s1.putTouch n { t with above := 0 }).setTouched n false else s1
      else
        let ab := if d ≥ th then t.above + 1 else 0
        let s2 := s1.putTouch n { t with above := ab }
        if s.get (Reg.TCH_CFG_DEB n) + 1 ≤ ab then s2.setTouched n true
        else s2.touchTrack n cnt
/-- The channels of a scan in order. -/
def State.touchScan : State → Nat → List (List (BitVec 16)) → State
  | s, _, [] => s
  | s, n, c :: cs => State.touchScan (s.touchScan1 n c) (n + 1) cs
/-- TOUCH_SCAN: one scan converts each enabled channel, with eight conversions each of which a channel without PROX takes the first
(R106). -/
def execTouchScan (counts : List (List (BitVec 16))) (s : State) : Host.Outcome State Fault Refusal :=
  if s.kettleOn then .next (s.touchScan 0 (counts.take 12)) else .next s
/-- TOUCH_RECAL: a channel touched for longer than RECAL has its baseline reset to its COUNT and is released (R108). -/
def execTouchRecal (ch : Fin 12) (s : State) : Host.Outcome State Fault Refusal :=
  let n := ch.val
  if s.kettleOn ∧ s.touched n ∧ s.get Reg.TCH_CFG_RECAL ≠ 0 then
    let s1 := s.put (Reg.TCH_DATA_BASE n) (s.get (Reg.TCH_DATA_COUNT n))
    .next (((s1.putTouch n { s1.touch n with above := 0 }).setTouched n false).logEvent 0x0803 n [])
  else .next s

/-- The fields of TCHn_CFG as one word (Table DOOR-4) are right: THRESH 1 to 4,095, MODE 0 to 2 with drive on even and sense on
odd channels. -/
def touchCfgOk (n w : Nat) : Bool :=
  1 ≤ bits w 20 12 && bits w 3 2 ≤ 2 && !(bits w 3 2 == 1 && n % 2 == 1) && !(bits w 3 2 == 2 && n % 2 == 0)
/-- A TCHn_CFG word stored; a channel that becomes enabled starts with its first eight scans (R108). A touched channel that is disabled is
released (DESIGN CHOICE, log entry 87). -/
def State.putTouchCfg (s : State) (n w : Nat) : State :=
  let on := !s.flag (Reg.TCH_CFG_EN n) && bit w 0
  let s1 := ((((s.put (Reg.TCH_CFG_THRESH n) (bits w 20 12)).put (Reg.TCH_CFG_HYST n) (bits w 12 8)).put (Reg.TCH_CFG_DEB n)
    (bits w 6 2)).put (Reg.TCH_CFG_PROX n) (bits w 5 1)).put (Reg.TCH_CFG_MODE n) (bits w 3 2)
  let s2 := s1.put (Reg.TCH_CFG_EN n) (bits w 0 1)
  let s3 := if on then s2.putTouch n Touch.fresh else s2
  if !bit w 0 && s3.touched n then s3.setTouched n false else s3
/-- A sense channel needs its partner in drive mode (R106). -/
def touchPair (ws : List Nat) (n : Nat) : Bool := bits (ws.getD n 0) 3 2 != 2 || bits (ws.getD (n - 1) 0) 3 2 == 1
/-- TOUCH_CONFIG's effect. -/
def touchConfigRun (s : State) (c : Ctx) : State × Ans :=
  let s1 := (s.put Reg.TCH_CFG_RECAL (bits (c.at 0 4) 12 6)).put Reg.TCH_CFG_RATE (bits (c.at 0 4) 0 3)
  ((List.range 12).foldl (fun s n => s.putTouchCfg n (c.at (4 + 4 * n) 4)) s1, Ans.ok [])
def touchConfigOp : OpSpec := { plainOp 0x0803 52 touchConfigRun with
  range := fun _ c =>
    let ws := bytesWords 12 (c.data.drop 4)
    firstBad ((0, bits (c.at 0 4) 0 3 ≤ 4 && bits (c.at 0 4) 12 6 ≤ 60) ::
      (List.range 12).map (fun n => (4 + 4 * n, touchCfgOk n (ws.getD n 0) && touchPair ws n))) }
/-- TOUCH_CONFIG (R106). -/
def execTouchConfig (p : Packet) (s : State) : Host.Outcome State Fault Refusal := serve touchConfigOp p s
def touchGetOp : OpSpec := plainOp 0x0804 0 (fun s _ =>
  (s, Ans.ok (wordBytes (s.get Reg.TCH_TOUCHED_T ::
    (List.range 12).map (fun n => s.get (Reg.TCH_DATA_BASE n) <<< 16 ||| s.get (Reg.TCH_DATA_COUNT n))))))
/-- TOUCH_GET (R120). -/
def execTouchGet (p : Packet) (s : State) : Host.Outcome State Fault Refusal := serve touchGetOp p s

/-! ### Keypad and plugs -/

/-- A press or release entered into the FIFO (R112). -/
def State.keyPush (s : State) (k : Nat) (press : Bool) (ms : Nat) : State :=
  let e := 2 ^ 31 + b2n press * 2 ^ 30 + k * 2 ^ 24 + ms % 2 ^ 24
  let s1 := s.hmi Reg.HMI_EVT_KEY 1 13
  if s.door.keyFifo.length < 16 then
    ({ s1 with door := { s1.door with keyFifo := s1.door.keyFifo ++ [e] } }).put Reg.KEY_FIFO_STAT_LEVEL (s.door.keyFifo.length + 1)
  else s1.setFlag Reg.KEY_FIFO_STAT_OVF true
/-- The oldest `n` entries removed. -/
def State.keyPop (s : State) (n : Nat) : State :=
  let r := s.door.keyFifo.drop n
  ({ s with door := { s.door with keyFifo := r } }).put Reg.KEY_FIFO_STAT_LEVEL r.length
/-- One key of one scan (R110, R111): a level that has read stable for DEB ms is accepted, a press only while at most two keys read
down; a press is a wake. -/
def State.keyScan1 (down ms : Nat) (s : State) (k : Nat) : State :=
  let raw := bit down k
  let acc := bit (s.get Reg.KEY_STATE_DOWN) k
  let deb := s.get Reg.KEY_CFG_DEB
  let n := if raw == acc then 0 else min deb (s.door.keyStable.getD k 0 + 1)
  let s1 := { s with door := { s.door with keyStable := s.door.keyStable.set k n } }
  if raw == acc || decide (n < deb) || (raw && s.flag Reg.KEY_STATE_GHOST) then s1
  else
    let s2 := s1.put Reg.KEY_STATE_DOWN (setBits (s1.get Reg.KEY_STATE_DOWN) k 1 (b2n raw))
    let s3 := { s2 with door := { s2.door with keyStable := s2.door.keyStable.set k 0 } }
    let s4 := s3.keyPush k raw ms
    if raw then s4.latchWake 1 else s4
/-- KEYCk is driven low: with the scanner on and no key down all four are, in the column scan each in its turn inside KEY_SCAN; else it is
in high impedance (R110, Table DOOR-3). -/
def State.keyColumnLow (s : State) (k : Nat) : Bool := s.kettleOn && s.flag Reg.KEY_CFG_EN && !s.door.keyScan && decide (k < 4)
/-- KEY_ROW_LOW: a row seen low starts the column scan (R110). -/
def execKeyRowLow (s : State) : Host.Outcome State Fault Refusal :=
  if s.kettleOn ∧ s.flag Reg.KEY_CFG_EN then .next { s with door := { s.door with keyScan := true } } else .next s
/-- KEY_SCAN: one column scan, with the keys that read down and the millisecond count (R110–R112). The scan ends with no key down. -/
def execKeyScan (down : BitVec 16) (ms : BitVec 24) (s : State) : Host.Outcome State Fault Refusal :=
  if s.kettleOn ∧ s.flag Reg.KEY_CFG_EN ∧ s.door.keyScan then
    let s1 := s.setFlag Reg.KEY_STATE_GHOST (3 ≤ popcount 16 down.toNat)
    let s2 := (List.range 16).foldl (State.keyScan1 down.toNat ms.toNat) { s1 with door := { s1.door with keyMs := ms.toNat } }
    .next { s2 with door := { s2.door with keyScan := down != 0 || s2.get Reg.KEY_STATE_DOWN != 0 } }
  else .next s
/-- PLUG_CHANGE: a level stable for DEB ms (R113). -/
def execPlugChange (n : Fin 2) (present : Bool) (s : State) : Host.Outcome State Fault Refusal :=
  if s.kettleOn ∧ bit (s.get Reg.PLG_STAT_PRESENT) n ≠ present then
    let s1 := s.put Reg.PLG_STAT_PRESENT (setBits (s.get Reg.PLG_STAT_PRESENT) n 1 (b2n present))
    .next (((s1.orBits Reg.PLG_STAT_CHANGED (2 ^ n.val)).hmi Reg.HMI_EVT_PLUG 1 14).latchWake 2)
  else .next s

/-- KEY_CONFIG's effect. The scanner switched off keeps KEY_STATE and the debounce counts (DESIGN CHOICE, log entry 87). -/
def keyConfigRun (s : State) (c : Ctx) : State × Ans :=
  let w := c.at 0 4
  (((s.put Reg.KEY_CFG_DEB (bits w 4 5)).put Reg.KEY_CFG_EN (bits w 0 1)).put Reg.PLG_CFG_DEB (bits (c.at 4 4) 0 8), Ans.ok [])
def keyConfigOp : OpSpec := { plainOp 0x0805 8 keyConfigRun with
  range := fun _ c => firstBad [(0, 1 ≤ bits (c.at 0 4) 4 5), (4, 1 ≤ bits (c.at 4 4) 0 8)] }
/-- KEY_CONFIG (R110). -/
def execKeyConfig (p : Packet) (s : State) : Host.Outcome State Fault Refusal := serve keyConfigOp p s
def State.keyStateWord (s : State) : Nat := s.get Reg.KEY_STATE_GHOST <<< 16 ||| s.get Reg.KEY_STATE_DOWN
def State.keyFifoWord (s : State) : Nat := s.get Reg.KEY_FIFO_STAT_OVF <<< 8 ||| s.get Reg.KEY_FIFO_STAT_LEVEL
/-- KEY_READ's effect: up to MAX entries, which are removed (R112). -/
def keyReadRun (s : State) (c : Ctx) : State × Ans :=
  let n := c.at 0 1
  (s.keyPop n, Ans.ok (wordBytes ([s.keyStateWord, s.keyFifoWord] ++ s.door.keyFifo.take n)))
def keyReadOp : OpSpec := { plainOp 0x0806 4 keyReadRun with
  range := fun _ c => firstBad [(0, 1 ≤ c.at 0 1 && c.at 0 1 ≤ 16)] }
/-- KEY_READ (R112). -/
def execKeyRead (p : Packet) (s : State) : Host.Outcome State Fault Refusal := serve keyReadOp p s

/-! ### Status and mute -/

def State.hmiEvtWord (s : State) : Nat :=
  s.get Reg.HMI_EVT_TAMPER <<< 15 ||| s.get Reg.HMI_EVT_PLUG <<< 14 ||| s.get Reg.HMI_EVT_KEY <<< 13 |||
  s.get Reg.HMI_EVT_TOUCH <<< 12 ||| s.get Reg.HMI_EVT_RAIL_UV <<< 8 ||| s.get Reg.HMI_EVT_LAMP
def State.plgStatWord (s : State) : Nat := s.get Reg.PLG_STAT_CHANGED <<< 8 ||| s.get Reg.PLG_STAT_PRESENT
def State.tmpStatWord (s : State) : Nat :=
  s.get Reg.TMP_STAT_COUNT <<< 16 ||| s.get Reg.TMP_STAT_BOOT <<< 2 ||| s.get Reg.TMP_STAT_LATCH <<< 1 ||| s.get Reg.TMP_STAT_INPUT
def State.audWord (s : State) : Nat := s.get Reg.AUD_CTRL_LEVEL <<< 1 ||| s.get Reg.AUD_CTRL_UNMUTE
/-- The bits of a mask cleared in HMI_EVT. -/
def State.hmiClear (s : State) (m : Nat) : State :=
  (((((s.clrBits Reg.HMI_EVT_LAMP (bits m 0 8)).clrBits Reg.HMI_EVT_RAIL_UV (bits m 8 4)).clrBits Reg.HMI_EVT_TOUCH (bits m 12 1)).clrBits
    Reg.HMI_EVT_KEY (bits m 13 1)).clrBits Reg.HMI_EVT_PLUG (bits m 14 1)).clrBits Reg.HMI_EVT_TAMPER (bits m 15 1)
def doorStatusOp : OpSpec := plainOp 0x0807 4 (fun s c =>
  (s.hmiClear (c.at 0 4), Ans.ok (wordBytes [s.hmiEvtWord, s.plgStatWord, s.tmpStatWord, s.audWord])))
/-- DOOR_STATUS (R120). -/
def execDoorStatus (p : Packet) (s : State) : Host.Outcome State Fault Refusal := serve doorStatusOp p s
/-- AUD_CTRL.UNMUTE and the level of AMUTE_N that follows it (R118). -/
def State.setUnmute (s : State) (b : Bool) : State := (s.setFlag Reg.AUD_CTRL_UNMUTE b).setFlag Reg.AUD_CTRL_LEVEL b
/-- AMUTE_N may go high: the fabric is in RUN or IDLE, and neither casts nor stands behind the walls of a recast (R118, Table DOOR-3, log
entry 88). -/
def State.mayUnmute (s : State) : Bool :=
  decide (s.cur ≤ 1) && s.fabricPowered && s.get Reg.CAST_STATUS_STATE != 1 && !(s.get Reg.CAST_STATUS_STATE == 4 && s.get Reg.CWALL_MASK != 0)
/-- AUDIO_MUTE's effect: UNMUTE 1 needs the fabric in RUN or IDLE (Table DOOR-5). -/
def audioMuteRun (s : State) (c : Ctx) : State × Ans :=
  if c.at 0 1 = 1 ∧ !s.mayUnmute then (s, Ans.code 0xE (0x100 + s.cur))
  else (s.setUnmute (c.at 0 1 == 1), Ans.ok [])
def audioMuteOp : OpSpec := { plainOp 0x0809 4 audioMuteRun with
  range := fun _ c => firstBad [(0, c.at 0 1 ≤ 1)] }
/-- AUDIO_MUTE (R118). -/
def execAudioMute (p : Packet) (s : State) : Host.Outcome State Fault Refusal := serve audioMuteOp p s

end Sys2Proof.Machine
end

