-- ==== Sys2Proof/Machine/LogCmds.lean ====
section
/-! DEFINITION. The log commands and events (chapter 24): LOG_STATUS, LOG_READ, LOG_WRITE, LOG_CONFIG, LOG_ERASE, the input
queue, persistence and the erase. -/

namespace Sys2Proof.Machine

/-- The words of LOG_STATUS (Table FLT-6): LOG_STAT, HEAD, TAIL, PHEAD, PTAIL, DROPS, TORN, CFG. -/
def State.logStatWord (s : State) : Nat :=
  s.get Reg.LOG_STAT_PFAULT <<< 31 ||| s.get Reg.LOG_STAT_PTHR <<< 30 ||| s.get Reg.LOG_STAT_DROP <<< 29 ||| s.log.ring.length
def State.logCfgWord (s : State) : Nat :=
  s.get Reg.LOG_CFG_MATCH_P <<< 4 ||| s.get Reg.LOG_CFG_MATCH_EN <<< 3 ||| s.get Reg.LOG_CFG_PSEV
def logStatusOp : OpSpec := plainOp 0x0C00 0 (fun s _ =>
  (s, Ans.ok (wordBytes [s.logStatWord, s.get Reg.LOG_HEAD_SEQ, s.logTail, s.logPHead, s.logPTail,
    s.get Reg.LOG_DROPS_COUNT, s.get Reg.LOG_TORN_COUNT, s.logCfgWord])))
/-- LOG_STATUS (R613). -/
def execLogStatus (p : Packet) (s : State) : Host.Outcome State Fault Refusal := serve logStatusOp p s

/-- The entries of a source with SEQ at or above FROM, ascending, at most COUNT (R612). -/
def State.logSelect (s : State) (src n from_ : Nat) : List LogEntry :=
  ((if src = 0 then s.log.ring else s.logPersisted).filter (fun e => decide (from_ ≤ e.seq))).take n
/-- LOG_READ's answer: FIRST, RETURNED, NEXT and the entries; without entries FIRST and NEXT are the larger of FROM and the
source's oldest SEQ (R612). -/
def logReadRun (s : State) (c : Ctx) : State × Ans :=
  let from_ := c.at 4 4
  let l := s.logSelect (c.at 0 1) (c.at 2 2) from_
  let oldest := if c.at 0 1 = 0 then s.logTail else s.logPTail
  let first := match l.head? with | some e => e.seq | none => max from_ oldest
  let next_ := match l.getLast? with | some e => wrapAdd 32 e.seq 1 | none => max from_ oldest
  (s, Ans.ok (leBytes 4 first ++ leBytes 2 l.length ++ leBytes 2 0 ++ leBytes 4 next_ ++ l.flatMap logBytes))
def logReadOp : OpSpec := { plainOp 0x0C01 8 logReadRun with
  range := fun _ c => firstBad [(0, c.at 0 1 ≤ 1), (2, 1 ≤ c.at 2 2 && c.at 2 2 ≤ 126)] }
/-- LOG_READ (R612). -/
def execLogRead (p : Packet) (s : State) : Host.Outcome State Fault Refusal := serve logReadOp p s

/-- The fabric's LOG_WRITEs of the last second (R613). -/
def State.fabWindow (s : State) : List Nat := s.log.fabWrites.filter (fun t => decide (s.time.up < t + unitSec))
/-- LOG_WRITE's effect: a USER entry, its SEQ in the reply; from the fabric at most 1,000 in a sliding second, beyond
which BUSY carries the time until the oldest leaves the window, at least 1 ms (R661). -/
def logWriteRun (s : State) (c : Ctx) : State × Ans :=
  let w := s.fabWindow
  if c.role = 3 ∧ 1000 ≤ w.length then
    (s, Ans.code 6 (max 1 (ceilDiv (w.headD 0 + unitSec - s.time.up) (unitSec / 1000))))
  else
    let s1 := if c.role = 3 then { s with log := { s.log with fabWrites := w ++ [s.time.up] } } else s
    let s2 := s1.logDrain.logWrite (s1.logSub (c.at 0 2) (c.at 2 1) 16 (c.at 4 2) (slice c.data 6 10))
    (s2, Ans.ok (leBytes 4 (s2.get Reg.LOG_HEAD_SEQ)))
def logWriteOp : OpSpec := { plainOp 0x0C02 18 logWriteRun with
  roles := [0, 1, 3]
  range := fun _ c => firstBad [(0, 0xF000 ≤ c.at 0 2), (2, c.at 2 1 ≤ 4)] }
/-- LOG_WRITE (R613). -/
def execLogWrite (p : Packet) (s : State) : Host.Outcome State Fault Refusal := serve logWriteOp p s

/-- LOG_CONFIG's effect: PSEV, MATCH_EN and MATCH_P; the previous LOG_CFG in the reply. -/
def logConfigRun (s : State) (c : Ctx) : State × Ans :=
  (((s.put Reg.LOG_CFG_PSEV (c.at 0 1)).setFlag Reg.LOG_CFG_MATCH_EN (bit (c.at 1 1) 0)).setFlag Reg.LOG_CFG_MATCH_P
    (bit (c.at 1 1) 1), Ans.ok (leBytes 4 s.logCfgWord))
def logConfigOp : OpSpec := { plainOp 0x0C03 4 logConfigRun with
  roles := [0, 1]
  range := fun _ c => firstBad [(0, c.at 0 1 ≤ 4), (1, c.at 1 1 ≤ 3)] }
/-- LOG_CONFIG (R609, R613). -/
def execLogConfig (p : Packet) (s : State) : Host.Outcome State Fault Refusal := serve logConfigOp p s

/-- The sectors in service: those used but for the retired ones, and the spare ones (R607). -/
def LogUnit.inService (l : LogUnit) : Nat := l.sectors.countP (fun c => !c.retired) + l.spare.length
/-- The erase counts once every sector in service is erased. -/
def LogUnit.allErased (l : LogUnit) : List Nat := l.spare ++ (l.sectors.filter (fun c => !c.retired)).map (fun c => c.erases + 1)
/-- The erase of the persistent log: its entries gone, LOG_ERASED the first entry of the erased log (R664). -/
def State.logEraseNow (s : State) (role : Nat) : State × Nat :=
  let n := s.logPersisted.length
  let s1 := { s with log := { s.log with eraseIntent := none, sectors := [], spare := s.log.allErased, slotFails := 0 } }.persist .logErase
  let waiting := s1.log.toPersist
  let s2 := { s1 with log := { s1.log with toPersist := [] } }.logWrite (s1.logSub 0x0C03 3 0 role (leBytes 4 n))
  ({ s2 with log := { s2.log with toPersist := s2.log.toPersist ++ waiting } }, n)
/-- LOG_ERASE's start: a second one while it runs receives BUSY (R662), otherwise the intent is programmed (R664). -/
def logEraseRun (s : State) (c : Ctx) : State × Ans :=
  if s.log.eraseIntent.isSome then busy s
  else pend ({ s with log := { s.log with eraseIntent := some c.role } }.persist .logErase)
def logEraseOp : OpSpec := { plainOp 0x0C04 0 logEraseRun with
  roles := [1]
  auth := fun _ _ => true
  long := fun _ _ => true }
/-- LOG_ERASE (R664). -/
def execLogErase (p : Packet) (s : State) : Host.Outcome State Fault Refusal := serve logEraseOp p s

/-- LOG_ERASED event: the erase ends and LOG_ERASE completes with the entries erased; without an erase running, or after a thermal trip, nothing
happens (R570, R664). -/
def execLogErased (s : State) : Host.Outcome State Fault Refusal :=
  match s.log.eraseIntent with
  | none => .next s
  | some r =>
    if !s.kettleOn || s.bud.trip.isSome then .next s
    else
      let (s1, n) := s.logEraseNow r
      .next (s1.complete 0x0C04 (Ans.ok (leBytes 4 n)))

/-- LOG_SUBMIT: the kettle firmware takes the oldest entry of the input queue and writes it into the ring (R601). -/
def execLogSubmit (s : State) : Host.Outcome State Fault Refusal :=
  if s.kettleOn then .next s.logTake else .next s

/-- The PERSIST flag of a stored entry. -/
def LogEntry.persisted (e : LogEntry) : LogEntry :=
  { e with sub := { e.sub with flags := e.sub.flags ||| 8 } }
/-- A new sector opened with its first slot programmed: the erased one that comes next. Where it is the last, the oldest one in service is erased
first, so that one always is, and the retired ones older than it go (R605, R607). -/
def LogUnit.open (l : LogUnit) (x : Option LogEntry) : LogUnit :=
  let put (l : LogUnit) : LogUnit := match l.spare with
    | [] => l
    | n :: r => { l with spare := r, slotFails := 0, sectors := l.sectors ++ [{ erases := n, slots := [x], retired := false }] }
  if 1 < l.spare.length then put l
  else
    match l.sectors.dropWhile (fun c => c.retired) with
    | [] => put { l with sectors := [] }
    | c :: r => put { l with sectors := r, spare := l.spare ++ [c.erases + 1] }
/-- One slot programmed: in the newest sector, or in a new one when that is full or retired (R605). -/
def LogUnit.program (l : LogUnit) (x : Option LogEntry) : LogUnit :=
  match l.sectors.getLast? with
  | some c =>
    if c.slots.length < 127 ∧ !c.retired then { l with sectors := l.sectors.dropLast ++ [{ c with slots := c.slots ++ [x] }] }
    else l.open x
  | none => l.open x
/-- A slot whose verify fails: it is abandoned, and the second time its sector is retired, its entries staying readable (R607). -/
def LogUnit.slotFail (l : LogUnit) : LogUnit :=
  let l1 := l.program none
  if l1.slotFails = 0 then { l1 with slotFails := 1 }
  else { l1 with slotFails := 0, sectors := l1.sectors.dropLast ++ (l1.sectors.getLast?.toList.map (fun c => { c with retired := true })) }
/-- LOG_PERSIST: the oldest accepted entry is programmed, and its copies carry PERSIST (R600, R605). A slot that fails its verify
is abandoned; a sector that fails twice is retired, and PFAULT is set when fewer than sixteen remain (R607). Nothing is
persisted while an erase runs, nor after a thermal trip (R570). -/
def execLogPersist (ok : Bool) (s : State) : Host.Outcome State Fault Refusal :=
  match s.log.toPersist with
  | [] => .next s
  | e :: r =>
    if s.log.eraseIntent.isSome || !s.kettleOn || s.bud.trip.isSome then .next s
    else if ok then
      let e1 := e.persisted
      let ring := s.log.ring.map (fun x => if x.seq == e.seq then x.persisted else x)
      .next { s with log := { s.log.program (some e1) with toPersist := r, ring := ring } }
    else
      let l := s.log.slotFail
      .next ({ s with log := l }.setFlag Reg.LOG_STAT_PFAULT (l.inService < 16))

end Sys2Proof.Machine
end

