-- ==== Sys2Proof/Machine/Coding.lean ====
section
/-! DEFINITION. A lane's codings bit by bit: Holwell coding's scrambler, stuffing rule, words and markers (R453–R456), 8b/10b (R451, R452), and
the PRBS patterns (R464). -/

namespace Sys2Proof.Machine

/-! ### The transmitter (R454–R456) -/

/-- A run of equal bits continued by a bit. -/
def runOf (last : Option Bool) (run : Nat) (b : Bool) : Nat := if last = some b then run + 1 else 1
/-- One data bit sent: scrambled with x^47 + x^42 + 1, and after 47 equal bits one bit of the other value stuffed. The line bits. -/
def LaneTx.bit (x : LaneTx) (d : Bool) : LaneTx × List Bool :=
  let b := d ^^ (bits x.sc 41 1 == 1) ^^ (bits x.sc 46 1 == 1)
  let y := { x with sc := (2 * x.sc + b2n b) % 2 ^ 47, run := runOf x.last x.run b, last := some b }
  if y.run = 47 then ({ y with run := 1, last := some !b }, [b, !b]) else (y, [b])
/-- Data bits sent, first first. -/
def LaneTx.bits : LaneTx → List Bool → LaneTx × List Bool
  | x, [] => (x, [])
  | x, d :: ds =>
    let r := x.bit d
    let q := r.1.bits ds
    (q.1, r.2 ++ q.2)
/-- The bits of a word, bit 0 first (R453). -/
def wordBits (w : Nat) : List Bool := (List.range 64).map (fun k => bit w k)
/-- A marker word: its fixed bits, the sender's ENS_ID, its port and the lane within its quad (R456). -/
def markerWord (id port lane : Nat) : Nat := 0xB7A68F1CD2E4 * 2 ^ 16 + id % 64 * 2 ^ 10 + port % 8 * 2 ^ 7 + lane % 4 * 2 ^ 5
/-- A data word sent, behind it a marker where it is the 65,536th since the last one. -/
def LaneTx.word (x : LaneTx) (marker w : Nat) : LaneTx × List Bool :=
  let r := x.bits (wordBits w)
  if x.words + 1 < 65536 then ({ r.1 with words := x.words + 1 }, r.2)
  else
    let q := r.1.bits (wordBits marker)
    ({ q.1 with words := 0 }, r.2 ++ q.2)
/-- Data words sent. -/
def LaneTx.send : LaneTx → Nat → List Nat → LaneTx × List Bool
  | x, _, [] => (x, [])
  | x, m, w :: ws =>
    let r := x.word m w
    let q := r.1.send m ws
    (q.1, r.2 ++ q.2)
/-- The transmitter after lane reset: all ones. -/
def LaneTx.fresh : LaneTx := LaneX.fresh.tx

/-! ### The receiver (R454, R455) -/

/-- One line bit received: the bit behind 47 equal ones was stuffed and is removed, a violation where it is not the other value; any other is
descrambled and joins the newest 64 data bits, the oldest of them as bit 0. Whether the bit was a stuffing violation. -/
def LaneRx.bit (x : LaneRx) (b : Bool) : LaneRx × Bool :=
  if x.run = 47 then ({ x with run := 1, last := some b }, x.last == some b)
  else
    let d := b ^^ (bits x.rs 41 1 == 1) ^^ (bits x.rs 46 1 == 1)
    ({ rs := (2 * x.rs + b2n b) % 2 ^ 47, run := runOf x.last x.run b, last := some b, word := x.word / 2 + b2n d * 2 ^ 63,
       seen := min 111 (x.seen + 1) }, false)
/-- Line bits received, first first, and the stuffing violations among them. -/
def LaneRx.take : LaneRx → List Bool → LaneRx × Nat
  | x, [] => (x, 0)
  | x, b :: bs =>
    let r := x.bit b
    let q := r.1.take bs
    (q.1, q.2 + b2n r.2)
/-- The receiver at signal detect. -/
def LaneRx.fresh : LaneRx := LaneX.fresh.rx
/-- The last 64 data bits as a word: none of them may be among the first 47 outputs, which are undefined and discarded. -/
def LaneRx.full (x : LaneRx) : Option Nat := if 111 ≤ x.seen then some x.word else none

/-! ### 8b/10b (R451, R452; the tables of IEEE 802.3 clause 36, PRESUMED, log entry 96) -/

/-- The six bits abcdei of x under negative running disparity, a as bit 5. -/
def code6 (x : Nat) : Nat :=
  ([0x27, 0x1D, 0x2D, 0x31, 0x35, 0x29, 0x19, 0x38, 0x39, 0x25, 0x15, 0x34, 0x0D, 0x2C, 0x1C, 0x17,
    0x1B, 0x23, 0x13, 0x32, 0x0B, 0x2A, 0x1A, 0x3A, 0x33, 0x26, 0x16, 0x36, 0x0E, 0x2E, 0x1E, 0x2B] : List Nat).getD x 0
/-- The four bits fghj of y under negative running disparity, f as bit 3. -/
def code4 (y : Nat) : Nat := ([0xB, 0x9, 0x5, 0xC, 0xD, 0xA, 0x6, 0xE] : List Nat).getD y 0
/-- Bits, the highest of `n` first. -/
def msbBits (n v : Nat) : List Bool := (List.range n).map (fun i => bit v (n - 1 - i))
/-- A sub-block changes the running disparity, or keeps it where its ones and zeros are as many. -/
def disparity (pos : Bool) (b : List Bool) : Bool :=
  let ones := b.count true
  let zs := b.length - ones
  if ones = zs then (if b = [true, true, true, false, false, false] ∨ b = [true, true, false, false] then false
      else if b = [false, false, false, true, true, true] ∨ b = [false, false, true, true] then true else pos)
  else decide (zs < ones)
/-- A sub-block sent under a running disparity: complemented under positive disparity where it is unbalanced, and D7 and y = 3 with it. -/
def underRd (pos : Bool) (b : List Bool) : List Bool :=
  if pos ∧ (2 * b.count true ≠ b.length ∨ b = [true, true, true, false, false, false] ∨ b = [true, true, false, false]) then b.map (fun c => !c) else b
/-- The symbol Dx.y, or Kx.y, under a running disparity, its first line bit first. -/
def symbol10 (k : Bool) (x y : Nat) (pos : Bool) : List Bool :=
  let a := underRd pos (msbBits 6 (if k ∧ x = 28 then 0x0F else code6 x))
  let p := disparity pos a
  let alt := y = 7 ∧ (k ∨ (if p then x = 11 ∨ x = 13 ∨ x = 14 else x = 17 ∨ x = 18 ∨ x = 20))
  let b :=
    if alt then underRd p (msbBits 4 0x7)
    else if k ∧ (y = 1 ∨ y = 2 ∨ y = 5 ∨ y = 6) then (msbBits 4 (code4 y)).map (fun c => if p then c else !c)
    else underRd p (msbBits 4 (code4 y))
  a ++ b
/-- The ten bits are a data symbol or one of the twelve control symbols under the running disparity. -/
def validSymbol (pos : Bool) (b : List Bool) : Bool :=
  (List.range 256).any (fun v => symbol10 false (v % 32) (v / 32) pos == b) ||
  (List.range 8).any (fun y => symbol10 true 28 y pos == b) || ([23, 27, 29, 30] : List Nat).any (fun x => symbol10 true x 7 pos == b)
/-- The comma of either sign. -/
def isComma (w : List Bool) : Bool :=
  w == [false, false, true, true, true, true, true] || w == [true, true, false, false, false, false, false]
/-- One line bit of an 8b/10b receiver, aligned or not: what it becomes, whether it has aligned on a comma now, and whether a symbol ended in
a code violation or a disparity error. The running disparity goes on from the symbol received. -/
def Rx8.bit (x : Rx8) (aligned : Bool) (b : Bool) : Rx8 × Bool × Bool :=
  let w := (x.win ++ [b]).drop (x.win.length - 6)
  if isComma w ∧ (!aligned ∨ 4 ≤ x.errs) then
    ({ win := w, part := w, pos := w.headD false, errs := 0 }, true, false)
  else if !aligned then ({ x with win := w }, false, false)
  else
    let p := x.part ++ [b]
    if p.length < 10 then ({ x with win := w, part := p }, false, false)
    else
      let ok := validSymbol x.pos p
      ({ win := w, part := [], pos := disparity (disparity x.pos (p.take 6)) (p.drop 6), errs := if ok then 0 else x.errs + 1 }, false, !ok)
/-- Line bits of an 8b/10b receiver: what it becomes, whether it is aligned, and the errored symbols among them. -/
def Rx8.take : Rx8 → Bool → List Bool → Rx8 × Bool × Nat
  | x, al, [] => (x, al, 0)
  | x, al, b :: bs =>
    let r := x.bit al b
    let q := r.1.take (al || r.2.1) bs
    (q.1, q.2.1, q.2.2 + b2n r.2.2)

/-! ### PRBS (R464; the polynomials of ITU-T O.150, PRESUMED, log entry 97) -/

/-- The taps of a pattern: its degree and its middle term. -/
def prbsTaps (pat : Nat) : Nat × Nat := ([(7, 6), (15, 14), (23, 18), (31, 28)] : List (Nat × Nat)).getD pat (7, 6)
/-- The bit that follows a register's contents in a pattern. -/
def prbsNext (pat sr : Nat) : Bool := (bits sr ((prbsTaps pat).1 - 1) 1 == 1) ^^ (bits sr ((prbsTaps pat).2 - 1) 1 == 1)
/-- A bit shifted into a register. -/
def prbsShift (sr : Nat) (b : Bool) : Nat := (2 * sr + b2n b) % 2 ^ 31
/-- `n` bits of the generator. -/
def LanePrbs.generate (pat : Nat) : LanePrbs → Nat → LanePrbs × List Bool
  | x, 0 => (x, [])
  | x, n + 1 =>
    let b := prbsNext pat x.gen
    let q := LanePrbs.generate pat { x with gen := prbsShift x.gen b } n
    (q.1, b :: q.2)
/-- One bit at the checker, locked or not: what it becomes, whether it is locked, and whether the bit counts as errored. Before lock the pattern
runs on from the bits received, in which a register of zeros is no state of the pattern; after it from the checker's own register. -/
def LanePrbs.check (pat : Nat) (x : LanePrbs) (locked : Bool) (b : Bool) : LanePrbs × Bool × Bool :=
  let e := prbsNext pat x.chk
  if locked then
    let es := (if b = e then x.errs else x.errs ++ [x.n]).filter (fun k => decide (x.n < k + 1024))
    let y := { x with chk := prbsShift x.chk e, n := x.n + 1, errs := es }
    if 64 ≤ es.length then ({ y with good := 0, n := 0, errs := [] }, false, b != e) else (y, true, b != e)
  else
    let ok := b = e ∧ x.chk % 2 ^ (prbsTaps pat).1 ≠ 0
    let y := { x with chk := prbsShift x.chk b, good := if ok then x.good + 1 else 0 }
    (if 128 ≤ y.good then { y with n := 0, errs := [] } else y, decide (128 ≤ y.good), false)
/-- Bits at the checker: what it becomes, whether it is locked, and the errored bits counted. -/
def LanePrbs.take (pat : Nat) : LanePrbs → Bool → List Bool → LanePrbs × Bool × Nat
  | x, lk, [] => (x, lk, 0)
  | x, lk, b :: bs =>
    let r := x.check pat lk b
    let q := LanePrbs.take pat r.1 r.2.1 bs
    (q.1, q.2.1, q.2.2 + b2n r.2.2)

end Sys2Proof.Machine
end

