-- ==== Sys2Proof/Machine/Layout.lean ====
section
/-! DEFINITION. Layout descriptors and walks (chapter 13): fields, the checks of Table LAY-3, and what each access of a walk addresses
or delivers. A descriptor is its 64 bytes, 96 with a window record; a walk's copy holds the effective base in place of BASE. -/

namespace Sys2Proof.Machine

abbrev Desc := List Byte

/-- Fields of Table LAY-1. -/
def Desc.base (d : Desc) : Nat := leAt d 0 6
def Desc.rank (d : Desc) : Nat := leAt d 8 1
def Desc.width (d : Desc) : Nat := leAt d 9 1
def Desc.win (d : Desc) : Bool := bit (leAt d 10 1) 0
def Desc.ext (d : Desc) (k : Nat) : Nat := leAt d (16 + 4 * k) 3 + 1
def Desc.stride (d : Desc) (k : Nat) : Int := sgn 32 (leAt d (40 + 4 * k) 4)
/-- The access width W. -/
def Desc.w (d : Desc) : Nat := 2 ^ d.width
/-- The copy of a descriptor with its effective base (R350). -/
def Desc.withBase (d : Desc) (b : Nat) : Desc := leBytes 6 ((d.base + b) % 2 ^ 48) ++ d.drop 6
/-- Fields of the window record (Table LAY-2). -/
def Desc.xStride (d : Desc) : Int := sgn 32 (leAt d 64 4)
def Desc.yStride (d : Desc) : Int := sgn 32 (leAt d 68 4)
def Desc.inW (d : Desc) : Nat := leAt d 72 2
def Desc.inH (d : Desc) : Nat := leAt d 74 2
def Desc.sw (d : Desc) : Nat := leAt d 76 1
def Desc.sh (d : Desc) : Nat := leAt d 77 1
def Desc.dw (d : Desc) : Nat := leAt d 78 1
def Desc.dh (d : Desc) : Nat := leAt d 79 1
def Desc.padL (d : Desc) : Nat := leAt d 80 1
def Desc.padT (d : Desc) : Nat := leAt d 81 1
def Desc.pmode (d : Desc) : Nat := leAt d 82 1
def Desc.pval (d : Desc) : List Byte := slice d 84 4
def Desc.ox0 (d : Desc) : Nat := leAt d 88 2
def Desc.oy0 (d : Desc) : Nat := leAt d 90 2

/-- The count of accesses of a walk (R337). -/
def Desc.count (d : Desc) : Nat := ((List.range 6).map d.ext).foldl (· * ·) 1
/-- The indices i0 to i5 of access `n`. -/
def Desc.indices (d : Desc) (n : Nat) : List Nat :=
  ((List.range 6).foldl (fun (p : Nat × List Nat) k => (p.1 / d.ext k, p.2 ++ [p.1 % d.ext k])) (n, [])).2
/-- What an access reads or writes: W bytes at an address, or the bytes a padded access delivers. -/
inductive Access where
  | at (a : Nat)
  | pad (b : List Byte)
deriving DecidableEq, Repr
/-- Coordinates of a window access (R343). -/
def Desc.coords (d : Desc) (i : List Nat) : Int × Int :=
  (((d.ox0 + i.getD 1 0) * d.sw + i.getD 3 0 * d.dw : Nat) - (d.padL : Int),
   ((d.oy0 + i.getD 2 0) * d.sh + i.getD 4 0 * d.dh : Nat) - (d.padT : Int))
/-- A coordinate brought into 0 … n - 1. -/
def clampTo (n : Nat) (x : Int) : Int := if x < 0 then 0 else if (n : Int) ≤ x then (n : Int) - 1 else x
/-- Access `n` of a walk (R337, R344). -/
def Desc.access (d : Desc) (n : Nat) : Access :=
  let i := d.indices n
  let term (k : Nat) : Int := (i.getD k 0 : Int) * d.stride k
  if !d.win then
    .at (((List.range 6).foldl (fun (a : Int) k => a + term k) (d.base : Int)).toNat)
  else
    let c := d.coords i
    let inside := decide (0 ≤ c.1 ∧ c.1 < (d.inW : Int) ∧ 0 ≤ c.2 ∧ c.2 < (d.inH : Int))
    let addr (x y : Int) : Nat := ((d.base : Int) + term 0 + x * d.xStride + y * d.yStride + term 5).toNat
    if inside then .at (addr c.1 c.2)
    else if d.pmode = 0 then .pad (zeros d.w)
    else if d.pmode = 1 then .pad ((List.range d.w).map (fun b => d.pval.getD (b % 4) 0))
    else .at (addr (clampTo d.inW c.1) (clampTo d.inH c.2))

/-! ### The checks (R336–R343) -/

/-- The lowest and the highest offset that an index range below `n` and a stride reach. -/
def reachLo (n : Nat) (st : Int) : Int := min 0 (((n - 1 : Nat) : Int) * st)
def reachHi (n : Nat) (st : Int) : Int := max 0 (((n - 1 : Nat) : Int) * st)
/-- The addresses a walk can reach lie within 0 to 2^48 - 1 (R340). -/
def Desc.inRange (d : Desc) : Bool :=
  let ks := if d.win then [0, 5] else List.range 6
  let lo := ks.foldl (fun (a : Int) k => a + reachLo (d.ext k) (d.stride k)) (d.base : Int)
  let hi := ks.foldl (fun (a : Int) k => a + reachHi (d.ext k) (d.stride k)) (d.base : Int)
  let lo := if d.win then lo + reachLo d.inW d.xStride + reachLo d.inH d.yStride else lo
  let hi := if d.win then hi + reachHi d.inW d.xStride + reachHi d.inH d.yStride else hi
  decide (0 ≤ lo ∧ hi + (d.w : Int) ≤ 2 ^ 48)
/-- The window record keeps its ranges (R343). -/
def Desc.winOk (d : Desc) : Bool :=
  let one8 (n : Nat) : Bool := decide (1 ≤ n ∧ n ≤ 8)
  decide (1 ≤ d.inW ∧ 1 ≤ d.inH) && one8 d.sw && one8 d.sh && one8 d.dw && one8 d.dh &&
    decide (d.padL ≤ 15 ∧ d.padT ≤ 15 ∧ d.pmode ≤ 2) && leAt d 83 1 == 0 && leAt d 92 4 == 0 &&
    (List.range 4).all (fun k => d.stride (k + 1) == 0)
/-- RANK and WIDTH in their ranges. -/
def Desc.shaped (d : Desc) : Bool := decide (1 ≤ d.rank ∧ d.rank ≤ 6 ∧ d.width ≤ 6)
/-- The DETAIL codes of Table LAY-3 that a descriptor breaks by itself, in the table's order; WIDTH out of range is the only one then. -/
def Desc.faults (d : Desc) (dst : Bool) : List Nat :=
  if 6 < d.width then [0x10]
  else
    let off (x : Int) : Bool := x % (d.w : Int) != 0
    ((List.range (min d.rank 6)).filter (fun k => off (d.stride k))) ++
    (if off (d.base : Int) then [6] else []) ++
    (if d.win && off d.xStride then [7] else []) ++ (if d.win && off d.yStride then [8] else []) ++
    (if !d.shaped ∨ 2 ≤ leAt d 10 1 ∨ leAt d 11 5 ≠ 0 ∨ leAt d 6 2 ≠ 0 ∨ (List.range 6).any (fun k => leAt d (19 + 4 * k) 1 != 0) then [0x10] else []) ++
    (if (List.range 6).any (fun k => decide (d.rank ≤ k) && (d.ext k != 1 || d.stride k != 0)) || decide (2 ^ 40 < d.count) then [0x11] else []) ++
    (if d.inRange then [] else [0x13]) ++
    (if d.win && (dst || !d.winOk) then [0x14] else [])
/-- The fault of a pair of descriptors: STEEP_FAULT code (2 ALIGN_FAULT, 3 LAYOUT_FAULT), DETAIL, and whether the destination is at
fault. The first in the table's order counts, the source's before the destination's (R340). -/
def layoutFault (src dst : Desc) : Option (Nat × Nat × Bool) :=
  let pair := if src.shaped && dst.shaped && (src.w != dst.w || src.count != dst.count) then [(0x12, false)] else []
  let all := (src.faults false).map (fun x => (x, false)) ++ (dst.faults true).map (fun x => (x, true)) ++ pair
  let best := all.foldl (fun (b : Option (Nat × Bool)) x =>
    match b with
    | none => some x
    | some y => if x.1 < y.1 then some x else some y) none
  best.map (fun x => (if x.1 < 0x10 then 2 else 3, x.1, x.2))

/-- The run of a side in bytes (R354). -/
def Desc.run (d : Desc) : Nat := if d.w = 64 ∧ d.stride 0 = 64 then 64 * d.ext 0 else d.w
/-- AUTO takes the bulk path where the least of both runs and 4,096 is at least 512 bytes (R354). -/
def bulkPath (path : Nat) (src dst : Desc) : Bool :=
  if path = 1 then false else if path = 2 then true else decide (512 ≤ min (min src.run dst.run) 4096)

end Sys2Proof.Machine
end

