-- ==== Sys2Proof/Machine/Memory.lean ====
section
/-! DEFINITION. Caddy memory, external DRAM and tile stores: what an address names, error correction and poison, the row-disturbance
defences, refresh, training, and the memory commands (chapter 17; the address map of chapter 16). -/

namespace Sys2Proof.Machine

/-! ### What an address names (R393–R395, R421, R426) -/

/-- What a device physical address names (Table ADDR-1): a micro-channel and the offset in its pillar, an external channel and its
visible address, a tile store, a CSR, or a hole. -/
inductive Place where
  | caddy (n off : Nat)
  | xdram (ch v : Nat)
  | store (t off : Nat)
  | csr (a : Nat)
  | hole
deriving DecidableEq, Repr

/-- The external DRAM configuration in force, by the fields of XDRAM_CFG (Table DRAM-8): the populated channels, the visible capacity
of one, the linear window, whether inline ECC is on. -/
def State.xP (s : State) : Nat := if bits s.mu.live 30 2 = 0 then 0 else popcount 4 (bits s.mu.live 12 4)
def State.xIecc (s : State) : Bool := bit s.mu.live 8
def State.xV (s : State) : Nat :=
  let c := 2 ^ (30 + bits s.mu.live 9 3)
  if s.xIecc then 7 * (c / 8) else c
def State.xL (s : State) : Nat := bits s.mu.live 2 6 * 0x4000000
/-- The installed capacity (R426). -/
def State.xCap (s : State) : Nat := s.xP * s.xV
/-- The state of an external channel in XDRAM_STAT: 0 absent, 1 training, 2 ready, 3 self-refresh, 4 failed. -/
def State.xState (s : State) (c : Nat) : Nat := bits (s.get Reg.XDRAM_STAT_CH) (4 * c) 4
def State.setXState (s : State) (c v : Nat) : State :=
  s.put Reg.XDRAM_STAT_CH (setBits (s.get Reg.XDRAM_STAT_CH) (4 * c) 4 v)
/-- The populated channels in one state. -/
def State.setXAll (s : State) (v : Nat) : State := (List.range s.xP).foldl (fun s c => s.setXState c v) s
/-- A populated channel has failed its training: the whole range is a hole (R433). -/
def State.xFailed (s : State) : Bool := (List.range s.xP).any (fun c => s.xState c == 4)
/-- The channel and visible channel address of an external DRAM offset (R426). -/
def State.xMap (s : State) (o : Nat) : Nat × Nat :=
  let inter := s.xP * (s.xV - s.xL)
  if o < inter then ((o / 256) % s.xP, o / (256 * s.xP) * 256 + o % 256)
  else ((o - inter) / s.xL, s.xV - s.xL + (o - inter) % s.xL)
/-- The place of a device physical address. A micro-channel held off is a hole (R424). -/
def State.place (s : State) (a : Nat) : Place :=
  if a < 0x300000000 then
    if a / 0x4000000 ∈ s.mu.held then .hole else .caddy (a / 0x4000000) (a % 0x4000000)
  else if 0x1000000000 ≤ a ∧ a < 0x2000000000 then
    let o := a - 0x1000000000
    if o < s.xCap ∧ ¬ s.xFailed then .xdram (s.xMap o).1 (s.xMap o).2 else .hole
  else if 0x4000000000 ≤ a ∧ a < 0x4003000000 then .store ((a - 0x4000000000) / 0x40000) ((a - 0x4000000000) % 0x40000)
  else if 0xF000000000 ≤ a ∧ a < 0xF004000000 then .csr (a - 0xF000000000)
  else .hole
/-- The address of byte `off` of a tile's store (R279). -/
def storeAddr (t off : Nat) : Nat := 0x4000000000 + t * 0x40000 + off
/-- The aligned 64-byte blocks that a range touches. -/
def blocks64 (a n : Nat) : List Nat := (List.range (ceilDiv (a % 64 + n) 64)).map (fun i => a / 64 * 64 + 64 * i)
/-- A place that holds bytes. -/
def Place.isMem : Place → Bool
  | .caddy _ _ | .xdram _ _ | .store _ _ => true
  | .csr _ | .hole => false
/-- The range lies in memory or tile stores alone. -/
def State.allMem (s : State) (a n : Nat) : Bool :=
  decide (a + n ≤ 2 ^ 48) && (blocks64 a n).all (fun b => (s.place b).isMem)
/-- The range lies in caddy memory or external DRAM. -/
def State.allDram (s : State) (a n : Nat) : Bool :=
  (blocks64 a n).all (fun b => match s.place b with | .caddy _ _ | .xdram _ _ => true | _ => false)
/-- The address lies in a DOZE save area while PWR_DOZE_CFG.ENABLE reserves them (R75). -/
def State.inSave (s : State) (a : Nat) : Bool := decide (a < 0x300000000 ∧ 0x3F00000 ≤ a % 0x4000000) && s.flag Reg.PWR_DOZE_CFG_ENABLE
/-- The range meets an external channel that trains or is in self-refresh, or caddy memory in self-refresh or calibrating: an access waits
(R437, R447). -/
def State.mustWait (s : State) (a n : Nat) : Bool :=
  (blocks64 a n).any (fun b => match s.place b with
    | .xdram c _ => s.xState c == 1 || s.xState c == 3
    | .caddy _ _ => s.get Reg.CADDY_STAT_STATE == 2 || s.get Reg.CADDY_STAT_STATE == 3
    | _ => false)

/-! ### Registers of a channel -/

/-- A memory channel: external 0–3, micro-channel n at 4 + n. -/
def chKey : MemChannel → Nat
  | .xdram c => c.val
  | .caddy n => 4 + n.val
/-- The register of a channel, external or caddy. -/
def chFld (x c : Nat → Fld) (k : Nat) : Fld := if k < 4 then x k else c (k - 4)
/-- The channel key of a place. -/
def Place.key : Place → Option Nat
  | .xdram c _ => some c
  | .caddy n _ => some (4 + n)
  | _ => none

/-! ### Error correction and poison (R422, R428, R440–R442, R281) -/

/-- The error block that holds byte `a`: 64 bytes of caddy memory, 8 bytes of a tile store and of external DRAM with inline ECC; none
without it. -/
def State.unitOf (s : State) (a : Nat) : Option (Nat × Nat) :=
  if a < 0x300000000 then some (a / 64 * 64, 64)
  else if a < 0x4000000000 then (if s.xIecc then some (a / 8 * 8, 8) else none)
  else some (a / 8 * 8, 8)
/-- The error blocks of a range, each once. -/
def State.unitsOf (s : State) (a n : Nat) : List (Nat × Nat) :=
  ((List.range (ceilDiv (a % 8 + n) 8)).filterMap (fun i => s.unitOf (a / 8 * 8 + 8 * i))).eraseDups
/-- The range can hold poison (R366, R442). -/
def State.canPoison (s : State) (a : Nat) : Bool := (s.unitOf a).isSome

/-- A memory error entry: a command's reader logs at once, because its reply names the entry (R441, R597). -/
def State.logMem (s : State) (reader code src : Nat) (data : List Byte) : State :=
  if reader = 2 ∨ reader = 5 then s.logNow code src data else s.logEvent code src data
/-- The code and SRC of an error entry at an address, and its DATA (Tables FLT-4, FLT-7). -/
def State.ueEntry (s : State) (u reader origin : Nat) : Nat × Nat × List Byte :=
  match s.place u with
  | .caddy n _ => (0x0402, n, leBytes 6 u ++ leBytes 1 reader ++ leBytes 1 origin)
  | .xdram c _ => (0x0404, c, leBytes 6 u ++ leBytes 1 reader ++ leBytes 1 origin)
  | .store t off => (0x0502, t, leBytes 4 off)
  | _ => (0x0402, 0, leBytes 6 u ++ leBytes 1 reader ++ leBytes 1 origin)
/-- A correctable error corrected (R440, R281): counted, and logged where a channel's count crosses 16, 256 or 4,096. -/
def State.correct (s : State) (u : Nat) : State :=
  let s1 := { s with ecc := tput 0 s.ecc u 0 }
  match s.place u with
  | .caddy n _ =>
    let s2 := (s1.bumpSat (Reg.CCH_ERR_CE n) 1).bumpSat Reg.CADDY_CE_COUNT 1
    let c := s2.get (Reg.CCH_ERR_CE n)
    if c ∈ [16, 256, 4096] then s2.logEvent 0x0401 n (leBytes 2 c) else s2
  | .xdram k _ =>
    let s2 := s1.bumpSat (Reg.XCH_ERR_CE k) 1
    let c := s2.get (Reg.XCH_ERR_CE k)
    if c ∈ [16, 256, 4096] then s2.logEvent 0x0403 k (leBytes 2 c) else s2
  | .store t _ => s1.bumpSat (Reg.TSTAT_CE t) 1
  | _ => s1
/-- A fresh uncorrectable error counted and its address recorded (R441). -/
def State.countUe (s : State) (u : Nat) : State :=
  match s.place u with
  | .caddy n _ =>
    (((s.bumpSat (Reg.CCH_ERR_UE n) 1).bumpSat Reg.CADDY_UE_COUNT 1).put (Reg.CCH_UE_ADDR_VALID n) 1).put (Reg.CCH_UE_ADDR_ADDR n) u
  | .xdram c _ =>
    ((s.bumpSat (Reg.XCH_ERR_UE c) 1).put (Reg.XCH_UE_ADDR_VALID c) 1).put (Reg.XCH_UE_ADDR_ADDR c) u
  | _ => s
/-- One error block read by a requester (R440, R441): whether it is uncorrectable, and what that leaves. -/
def State.readUnit (s : State) (reader u : Nat) : State × Bool :=
  let e (o : Nat) := s.ueEntry u reader o
  match tget 0 s.ecc u with
  | 0 => (s, false)
  | 1 => (s.correct u, false)
  | 2 =>
    let s1 := { s with ecc := tput 0 s.ecc u 3 }.countUe u
    (s1.logMem reader (e 0).1 (e 0).2.1 (e 0).2.2, true)
  | _ => if 0x4000000000 ≤ u ∧ reader ≠ 2 then (s, true) else (s.logMem reader (e 1).1 (e 1).2.1 (e 1).2.2, true)
/-- Error blocks read in order. -/
def State.readUnits (s : State) (reader : Nat) : List (Nat × Nat) → State × Bool
  | [] => (s, false)
  | u :: us =>
    let r := s.readUnit reader u.1
    let q := r.1.readUnits reader us
    (q.1, r.2 || q.2)
/-- A read by a requester: the state after it, the bytes, and whether they are poisoned. A tile store row with any poisoned word
reads poisoned whole (R281). -/
def State.readMem (s : State) (reader a n : Nat) : State × List Byte × Bool :=
  let us := if 0x4000000000 ≤ a then s.unitsOf (a / 64 * 64) (64 * (blocks64 a n).length) else s.unitsOf a n
  let r := s.readUnits reader us
  (r.1, s.bytesAt a n, r.2)

/-- The error blocks of one block's bytes written: a whole block comes out clean, a part of a poisoned or uncorrectable one is lost
and logged with WRITE (R441, R281). -/
def State.writeUnit (s : State) (writer a : Nat) (bs : List Byte) (u sz : Nat) : State :=
  let lo := max a u
  let hi := min (a + bs.length) (u + sz)
  let part := slice bs (lo - a) (hi - lo)
  if lo = u ∧ hi = u + sz then { s with ecc := tput 0 s.ecc u 0 }.setBytes lo part
  else
    match tget 0 s.ecc u with
    | 0 => s.setBytes lo part
    | 1 => (s.correct u).setBytes lo part
    | k =>
      let o := if k = 2 then 0 else 1
      let s1 := if k = 2 then { s with ecc := tput 0 s.ecc u 3 }.countUe u else s
      let e := s.ueEntry u writer o
      s1.logEventW e.1 e.2.1 e.2.2
/-- A write by a requester. -/
def State.writeMem (s : State) (writer a : Nat) (bs : List Byte) : State :=
  if s.canPoison a then (s.unitsOf a bs.length).foldl (fun s u => s.writeUnit writer a bs u.1 u.2) s
  else s.setBytes a bs
/-- A write that leaves its blocks poisoned (R366): nothing of the data can be read again. -/
def State.poisonMem (s : State) (a n : Nat) : State :=
  { s with ecc := (s.unitsOf a n).foldl (fun t u => tput 0 t u.1 3) s.ecc }

/-! ### Throttling (R439) -/

/-- The address in a channel's DRAM of a visible channel address: with inline ECC 896 bytes of every 1 KiB segment hold data (R428). -/
def State.dramAddr (s : State) (v : Nat) : Nat := if s.xIecc then 1024 * (v / 896) + v % 896 else v
/-- The place of the check byte of the 8-byte word at a visible channel address (R428). -/
def checkAddr (v : Nat) : Nat := 1024 * (v / 896) + 896 + 8 * (v % 896 / 64) + v % 64 / 8
/-- The bank and row of an address in a channel's DRAM: free values, over the banks of Table DRAM-2 and the ranks. -/
def State.xBankRow (s : State) (a : Nat) : Nat × Nat :=
  let banks := (if bits s.mu.live 30 2 = 1 then 8 else 16) * (1 + bits s.mu.live 1 1)
  (Config.xdramBank a % banks, Config.xdramRow a)
/-- The bank and row of a place within its channel (R421). -/
def State.bankRow (s : State) : Place → Nat × Nat
  | .caddy _ off => (bits off 10 3, bits off 13 13)
  | .xdram _ v => s.xBankRow (s.dramAddr v)
  | _ => (0, 0)
/-- 64 cycles of CCLK, after which a controller closes an idle row (R423). -/
def rowIdle : Nat := unitNs * 6400 / 104
/-- A row of a bank is open. -/
def State.rowOpen (s : State) (k b row : Nat) : Bool :=
  tget 0 s.mu.rows (k * 32 + b) == row + 1 && decide (s.time.up - tget 0 s.mu.rowAt (k * 32 + b) < rowIdle)
/-- A row stands open, an access to it being served. -/
def State.touchRow (s : State) (k b row : Nat) : State :=
  { s with mu := { s.mu with rows := tput 0 s.mu.rows (k * 32 + b) (row + 1), rowAt := tput 0 s.mu.rowAt (k * 32 + b) s.time.up } }
/-- The rows that the neighbour refresh of an activate covers: those about it, with WIDE two to each side; none of an RFM command, whose rows
the DRAM chooses (R438). -/
def State.neighbours (s : State) (k row : Nat) : List Nat :=
  if k < 4 then (if bits s.mu.live 30 2 = 1 then (if row = 0 then [] else [row - 1]) ++ [row + 1] else [])
  else
    let w := if s.flag (Reg.CCH_GUARD_WIDE (k - 4)) then 2 else 1
    (List.range (2 * w + 1)).filterMap (fun i => if i = w ∨ row + i < w ∨ 8192 ≤ row + i - w then none else some (row + i - w))
/-- An activate issued for a requester: it counts in the running window (R439), and neighbour refresh may sample it (R438). -/
def State.activate (s : State) (k : Nat) (q : MemReq) (b row : Nat) : State :=
  let n := ((s.mu.acts.find? (fun e => e.1 == k && e.2.1 == q && e.2.2.1 == b)).map (fun e => e.2.2.2)).getD 0 + 1
  let acts := (s.mu.acts.filter (fun e => !(e.1 == k && e.2.1 == q && e.2.2.1 == b))) ++ [(k, q, b, n)]
  let pnr := s.flag (chFld Reg.XCH_GUARD_PNR_EN Reg.CCH_GUARD_PNR_EN k) &&
    Config.pnrSample s.mu.acted (s.get (chFld Reg.XCH_GUARD_K Reg.CCH_GUARD_K k))
  let owed := if pnr then s.mu.owed ++ [(k, b, s.neighbours k row)] else s.mu.owed
  { s with mu := { s.mu with acts := acts, acted := s.mu.acted + 1, owed := owed } }.touchRow k b row
/-- The check block of an access to external DRAM with inline ECC: one that the controller does not cache is read as well, and the 64
segments used last are cached (R429). -/
def State.useCheck (s : State) (q : MemReq) : Place → State
  | .xdram c v =>
    if !s.xIecc then s
    else
      let l := tget [] s.mu.segs c
      let seg := v / 896
      let s1 := { s with mu := { s.mu with segs := tput [] s.mu.segs c ((seg :: l.filter (· != seg)).take 64) } }
      let p := s.xBankRow (checkAddr v)
      if seg ∈ l then s1 else if s1.rowOpen c p.1 p.2 then s1.touchRow c p.1 p.2 else s1.activate c q p.1 p.2
  | _ => s
/-- The activates of a requester to one bank in the running window. -/
def State.actsOf (s : State) (k : Nat) (r : MemReq) (b : Nat) : Nat :=
  ((s.mu.acts.find? (fun e => e.1 == k && e.2.1 == r && e.2.2.1 == b)).map (fun e => e.2.2.2)).getD 0
/-- The requester that counts: of more than sixteen of a channel those beyond the fifteenth share one counter. -/
def State.actSlot (s : State) (k : Nat) (r : MemReq) : MemReq :=
  let l := ((s.mu.acts.filter (fun e => e.1 == k)).map (fun e => e.2.1)).eraseDups
  if r ∈ l.take 15 then r else if l.length < 15 then r else .rest
/-- Throttling holds a requester's access to a bank of a channel. -/
def State.throttled (s : State) (k : Nat) (r : MemReq) (b : Nat) : Bool :=
  s.flag (chFld Reg.XCH_GUARD_THR_EN Reg.CCH_GUARD_THR_EN k) &&
    decide (s.get (chFld Reg.XCH_GUARD_ACT_LIMIT Reg.CCH_GUARD_ACT_LIMIT k) ≤ s.actsOf k r b)
/-- An access admitted by its channel's controller: true with the activate counted where its row was not open, false with the request
waiting, counted in THR once and told of at most once a second. -/
def State.grantBlock (s : State) (r : MemReq) (a : Nat) : State × Bool :=
  let p := s.place a
  match p.key with
  | none => (s, true)
  | some k =>
    let b := (s.bankRow p).1
    let row := (s.bankRow p).2
    let q := s.actSlot k r
    if s.rowOpen k b row then ((s.touchRow k b row).useCheck q p, true)
    else if s.throttled k q b then
      if s.mu.waits.contains (k, r, b) then (s, false)
      else
        let s1 := { s with mu := { s.mu with waits := s.mu.waits ++ [(k, r, b)] } }.bumpSat
          (chFld Reg.XCH_THR_COUNT Reg.CCH_THR_COUNT k) 1
        let was := tfind s.mu.throttleAt k
        let due := match was with | some x => decide (unitSec ≤ s.time.up - x) | none => true
        if due then
          ({ s1 with mu := { s1.mu with throttleAt := tinsert s1.mu.throttleAt k s.time.up } }.logEvent 0x040A
            (if k < 4 then k else k - 4) (leBytes 1 (match r with
              | .tile t => if k = 4 + t then 0 else 1
              | .bulk _ => 2
              | .walk _ => 3
              | .pcie => 4
              | .csi _ => 5
              | .rest => 0)), false)
        else (s1, false)
    else ((s.activate k q b row).useCheck q p, true)
/-- Every block of a range admitted; the first that waits holds the whole access. -/
def State.admitAll (s : State) (r : MemReq) : List Nat → State × Bool
  | [] => (s, true)
  | b :: bs =>
    let q := s.grantBlock r b
    if q.2 then q.1.admitAll r bs else q
/-- THROTTLE_WINDOW_END: the counts start again and the channel's waiting requests are released (R439). -/
def execThrottleWindowEnd (ch : MemChannel) (s : State) : Host.Outcome State Fault Refusal :=
  let k := chKey ch
  .next { s with mu := { s.mu with acts := s.mu.acts.filter (fun e => e.1 != k), waits := s.mu.waits.filter (fun e => e.1 != k) } }

/-! ### Refresh and scrubbing -/

/-- A channel's controller runs: caddy memory running, the external channel ready. -/
def State.chRuns (s : State) (k : Nat) : Bool :=
  s.plinthPowered && (if k < 4 then s.xState k == 2 else s.get Reg.CADDY_STAT_STATE == 1 && !(k - 4) ∈ s.mu.held)
/-- A channel's open rows closed, in the banks that `p` names. -/
def State.closeRows (s : State) (k : Nat) (p : Nat → Bool) : State :=
  let keep (e : Nat × Nat) : Bool := !(e.1 / 32 == k && p (e.1 % 32))
  { s with mu := { s.mu with rows := s.mu.rows.filter keep, rowAt := s.mu.rowAt.filter keep } }
/-- A channel's owed neighbour refreshes issued (R438): each closes its bank's row. -/
def State.issueOwed (s : State) (k : Nat) : State :=
  let mine := s.mu.owed.filter (fun e => e.1 == k)
  let s1 := s.closeRows k (fun b => mine.any (fun e => e.2.1 == b))
  { s1 with mu := { s1.mu with owed := s1.mu.owed.filter (fun e => e.1 != k) } }
/-- REFRESH_DUE (R435): issued at once with the debt while the queue is empty, else postponed up to a debt of 8, and made up in one
burst where the ninth falls due. An all-bank refresh closes every row. Owed neighbour refreshes go out first, so each is issued within one
tREFI (DESIGN CHOICE, log entry 36). -/
def execRefreshDue (ch : MemChannel) (queued : Bool) (s : State) : Host.Outcome State Fault Refusal :=
  let k := chKey ch
  let d := chFld Reg.XCH_REF_DEBT Reg.CCH_REF_DEBT k
  let m := chFld Reg.XCH_REF_MAXDEBT Reg.CCH_REF_MAXDEBT k
  if !s.chRuns k then .next s
  else
    let s1 := s.issueOwed k
    if queued && decide (s.get d < 8) then
      .next ((s1.put d (s.get d + 1)).put m (max (s.get m) (s.get d + 1)))
    else .next ((s1.closeRows k (fun _ => true)).put d 0)
/-- MR4_POLL: the refresh rate that a channel's DRAM reports (R434). -/
def execMr4Poll (ch : Fin 4) (rate : Nat) (s : State) : Host.Outcome State Fault Refusal :=
  if s.chRuns ch.val then .next { s with mu := { s.mu with mr4 := s.mu.mr4.set ch.val rate } } else .next s
/-- The block is a channel's last: a pass ends with it (R443). -/
def State.lastBlock (s : State) (p : Place) : Bool :=
  match p with
  | .caddy _ off => off / 64 == 0xFFFFF
  | .xdram _ v => v / 64 == s.xV / 64 - 1
  | _ => false
/-- One error block met by the patrol scrubber: corrected, or reported and left as it is (R443). -/
def State.scrubUnit (s : State) (u : Nat) : State :=
  match tget 0 s.ecc u with
  | 0 => s
  | 1 => s.correct u
  | k =>
    let e := s.ueEntry u 7 (if k = 2 then 0 else 1)
    (if k = 2 then s.countUe u else s).logEvent e.1 e.2.1 e.2.2
/-- SCRUB_READ: the scrubber reads the 64-byte block at a device physical address of its channel (R443). -/
def execScrubRead (ch : MemChannel) (addr : Nat) (s : State) : Host.Outcome State Fault Refusal :=
  let k := chKey ch
  let p := s.place addr
  if !s.chRuns k || p.key != some k || s.get (chFld Reg.XCH_SCRUB_PERIOD Reg.CCH_SCRUB_PERIOD k) == 0 || !s.canPoison addr then .next s
  else
    let s1 := (s.unitsOf (addr / 64 * 64) 64).foldl (fun s u => s.scrubUnit u.1) s
    .next (if s.lastBlock p then s1.bumpWrap (chFld Reg.XCH_SCRUB_PASSES Reg.CCH_SCRUB_PASSES k) 1 else s1)

/-! ### Contents lost, calibration, self-refresh (R424, R431, R436, R79) -/

/-- Caddy contents lost. -/
def State.loseCaddy (s : State) : State :=
  let s1 := s.forget 0 0x300000000
  { s1 with mu := { s1.mu with caddyGen := (s1.draws + 2, s1.draws + 2) } }.draw
/-- The contents of one caddy die lost, or (`zero`) zeroed. -/
def State.caddyDie (s : State) (d : Nat) (zero : Bool) : State :=
  let s1 := s.forget (d * 0x180000000) ((d + 1) * 0x180000000)
  let g := if zero then 0 else s1.draws + 2
  { s1 with mu := { s1.mu with caddyGen := if d = 0 then (g, s1.mu.caddyGen.2) else (s1.mu.caddyGen.1, g) } }.draw
/-- External DRAM contents lost. -/
def State.loseXdram (s : State) : State :=
  let s1 := s.forget 0x1000000000 0x2000000000
  { s1 with mu := { s1.mu with xdramGen := s1.draws + 2 } }.draw
/-- Tile store contents lost. -/
def State.loseStores (s : State) : State :=
  let s1 := s.forget 0x4000000000 0x4003000000
  { s1 with mu := { s1.mu with storeGen := s1.draws + 2 } }.draw
/-- Tile stores zeroed. -/
def State.zeroStores (s : State) : State :=
  let s1 := s.forget 0x4000000000 0x4003000000
  { s1 with mu := { s1.mu with storeGen := 0 } }
/-- A calibration of every micro-channel ends (R424): those that fail are held off and logged; so
stay those that a self-test holds off (R590). -/
def State.calibrated (s : State) (fail : List Nat) : State :=
  let f := (fail ++ s.mu.bad).eraseDups
  let s1 := { s with mu := { s.mu with held := f, rows := s.mu.rows.filter (fun e => e.1 < 128) } }
  let s2 := (s1.put Reg.CADDY_STAT_FAILED f.length).put Reg.CADDY_STAT_STATE 1
  fail.eraseDups.foldl (fun s n => s.logEvent 0x0405 n []) s2
/-- Every micro-channel makes up its refresh debt and enters self-refresh (R435, R436). -/
def State.caddySleep (s : State) : State :=
  ((List.range 192).foldl (fun s n => s.put (Reg.CCH_REF_DEBT n) 0) s).put Reg.CADDY_STAT_STATE 2
/-- External channels enter self-refresh, but for the one that a wake camera keeps running (R427, R436). -/
def State.xdramSleep (s : State) (keep : Option Nat) : State :=
  (List.range s.xP).foldl (fun s c =>
    if keep = some c ∨ s.xState c ≠ 2 then s else (s.setXState c 3).put (Reg.XCH_REF_DEBT c) 0) s

/-! ### Training (R430–R433) -/

/-- XDRAM_CFG as one word. -/
def State.xcfg (s : State) : Nat := s.word (wordsXdram 0)
/-- Training starts on every populated channel of the configuration (R430); a configuration takes effect here (R448). -/
def State.startTraining (s : State) (t : Training) (store : Bool) : State :=
  let s1 := { s with mu := { s.mu with live := s.xcfg, training := t, store := store } }
  (s1.put Reg.XDRAM_STAT_CH 0).setXAll 1
/-- The restart of external DRAM at a wake from SLEEP or OFF (R432). -/
def State.wakeTraining (s : State) : State :=
  if s.get Reg.XDRAM_CFG_GEN = 0 then { s.put Reg.XDRAM_STAT_CH 0 with mu := { s.mu with live := s.xcfg, training := .none } }
  else s.loseXdram.startTraining .restart false
/-- The fields of a training record (Table DRAM-4). -/
def recGen (r : List Byte) : Nat := leAt r 0 1
def recResult (r : List Byte) : Nat := leAt r 9 1
def recTj (r : List Byte) : Int := sgn 8 (leAt r 8 1)
/-- GEN, RANKS, RATE and IDENT agree. -/
def recMatches (a b : List Byte) : Bool := slice a 0 8 == slice b 0 8
/-- Stored results exist. -/
def State.xStored (s : State) : Bool := s.flag Reg.XDRAM_STAT_STORED
/-- Why stored results cannot be used with the devices found, as XDRAM_RETRAIN's cause, 0 where they can (R432, Table FLT-7). -/
def State.retrainCause (s : State) (recs : List (List Byte)) : Nat :=
  let ps := (List.range s.xP).map (fun c => (recs.getD c [], s.mu.stored.getD c []))
  if !s.xStored then 1
  else if ps.any (fun p => !recMatches p.1 p.2) then 2
  else if ps.any (fun p => decide (40 < (recTj p.1 - recTj p.2).natAbs)) then 3
  else if ps.any (fun p => recResult p.1 != 0) then 4
  else 0
/-- A training's results in force: each channel ready or failed and logged, contents undefined (R431, R433). -/
def State.trainResults (s : State) (recs : List (List Byte)) : State :=
  let s1 := s.loseXdram
  let s2 := { s1 with mu := { s1.mu with results := recs, training := .none, rows := s1.mu.rows.filter (fun e => 128 ≤ e.1), segs := [] } }
  (List.range s2.xP).foldl (fun s c =>
    let r := recs.getD c []
    if recResult r = 0 then s.setXState c 2 else (s.setXState c 4).logNow 0x0407 c (leBytes 1 (recResult r))) s2
/-- Results written to NVM (KIND 0x0D01, R432). -/
def State.storeResults (s : State) : State :=
  (({ s with mu := { s.mu with stored := s.mu.results } }).put Reg.XDRAM_STAT_STORED 1).persist .training
/-- The RESULT bytes of the four channels. -/
def State.resultBytes (s : State) : List Byte :=
  (List.range 4).map (fun c => BitVec.ofNat 8 (if c < s.xP then recResult (s.mu.results.getD c []) else 0))
/-- The end of a training that leaves results: XDRAM_TRAIN's completion and the store (R432, R433). -/
def State.trainEnd (s : State) (recs : List (List Byte)) : State :=
  let s1 := s.trainResults recs
  let bad := s1.xFailed
  let s2 := if s1.mu.store && !bad then s1.storeResults else s1
  let s3 := { s2 with mu := { s2.mu with store := false } }
  let r := leBytes 4 (s3.word (wordsXdram 4)) ++ s3.resultBytes
  if bad then s3.complete 0x0401 { s3.faultAns with results := r } else s3.complete 0x0401 (Ans.ok r)
/-- XDRAM_TRAIN_DONE (R432): a training of every populated channel ends with the records found. A restart that cannot use the stored
results becomes a full training, logged; where only its shortened validation failed, the full training follows. -/
def execXdramTrainDone (recs : List (List Byte)) (s : State) : Host.Outcome State Fault Refusal :=
  let rs := recs.map (padTo 128)
  match s.mu.training with
  | .none => .next s
  | .full => .next (s.trainEnd rs)
  | .restart =>
    let c := s.retrainCause rs
    if c = 0 then .next (s.trainEnd s.mu.stored)
    else
      let s1 := (({ s with mu := { s.mu with training := .full } }.put Reg.XDRAM_STAT_STORED 0).persist .training).logEvent 0x0406 0 (leBytes 1 c)
      .next (if c = 4 then s1 else s1.trainEnd rs)
/-- XDRAM_SELF_REFRESH_EXIT (R436, R446): the channel is ready, or after a loss of VDDQ_X external DRAM is trained as after SLEEP. -/
def execXdramSelfRefreshExit (ch : Fin 4) (supplyLost : Bool) (s : State) : Host.Outcome State Fault Refusal :=
  if s.xState ch.val ≠ 3 ∨ ¬ s.stewardUp then .next s
  else if supplyLost then .next ((s.logEvent 0x0409 0 []).wakeTraining)
  else .next (s.setXState ch.val 2)

/-! ### The commands (Table DRAM-9) -/

/-- A configuration that R425 and R426 allow: the first field that breaks them. -/
def xcfgBad (gen flags pop cap rate lin : Nat) : Option Nat :=
  let v := let c := 2 ^ (30 + cap); if bit flags 0 then 7 * (c / 8) else c
  firstBad [(0, 1 ≤ gen && gen ≤ 3), (1, flags ≤ 3), (2, pop == 1 || pop == 3 || pop == 15), (3, cap ≤ 4),
    (4, (gen == 1 && (rate == 3200 || rate == 3733 || rate == 4266)) ||
        (gen == 2 && (rate == 3200 || rate == 4266 || rate == 5500 || rate == 6400)) ||
        (gen == 3 && (rate == 6400 || rate == 7500 || rate == 8533))),
    (6, lin ≤ 63 && lin * 0x4000000 ≤ v)]
/-- XDRAM_CONFIG's effect: stored in NVM, in force at the next training (R448). -/
def xdramConfigRun (s : State) (c : Ctx) : State × Ans :=
  let old := s.xcfg
  let s1 := ((((s.put Reg.XDRAM_CFG_GEN (c.at 0 1)).put Reg.XDRAM_CFG_IECC (bits (c.at 1 1) 0 1)).put Reg.XDRAM_CFG_RANKS2
    (bits (c.at 1 1) 1 1)).put Reg.XDRAM_CFG_POP (c.at 2 1)).put Reg.XDRAM_CFG_CAP (c.at 3 1)
  (((s1.put Reg.XDRAM_CFG_RATE (c.at 4 2)).put Reg.XDRAM_CFG_LINEAR (c.at 6 1)).persist .xdramCfg, Ans.ok (leBytes 4 old))
def xdramConfigOp : OpSpec := { plainOp 0x0400 8 xdramConfigRun with
  roles := [0]
  range := fun _ c => xcfgBad (c.at 0 1) (c.at 1 1) (c.at 2 1) (c.at 3 1) (c.at 4 2) (c.at 6 1) }
/-- XDRAM_CONFIG (R448). -/
def execXdramConfig (p : Packet) (s : State) : Host.Outcome State Fault Refusal := serve xdramConfigOp p s

/-- A steeper is in STATE 1 or 3. -/
def State.steeperActive (s : State) : Bool :=
  (List.range 192).any (fun t => (List.range 2).any (fun k =>
    s.get (Reg.STEEP_STAT_STATE t k) == 1 || s.get (Reg.STEEP_STAT_STATE t k) == 3))
/-- A CSI-2 receiver has a write to external DRAM under way: one that waits at its controller. -/
def State.cameraWrites (s : State) : Bool := s.mu.waits.any (fun e => match e.2.1 with | .csi _ => decide (e.1 < 4) | _ => false)
/-- XDRAM_TRAIN's effect (R430, R447). -/
def xdramTrainRun (s : State) (c : Ctx) : State × Ans :=
  if s.get Reg.XDRAM_CFG_GEN = 0 then (s, Ans.code 0xE 2)
  else if s.cameraWrites || s.steeperActive then (s, Ans.code 0xE 1)
  else if s.mu.training ≠ .none then busy s
  else pend (s.startTraining (if bit (c.at 0 1) 0 then .full else .restart) (bit (c.at 0 1) 1))
def xdramTrainOp : OpSpec := { plainOp 0x0401 4 xdramTrainRun with
  roles := [0]
  range := fun _ c => firstBad [(0, c.at 0 1 ≤ 3)]
  long := fun _ _ => true }
/-- XDRAM_TRAIN (R430). -/
def execXdramTrain (p : Packet) (s : State) : Host.Outcome State Fault Refusal := serve xdramTrainOp p s

def xdramResultOp : OpSpec := { plainOp 0x0402 4 (fun s c =>
    if s.get Reg.XDRAM_CFG_GEN = 0 then (s, Ans.code 0xE 2) else (s, Ans.ok (padTo 128 (s.mu.results.getD (c.at 0 1) [])))) with
  range := fun _ c => firstBad [(0, c.at 0 1 ≤ 3)] }
/-- XDRAM_RESULT (R448). -/
def execXdramResult (p : Packet) (s : State) : Host.Outcome State Fault Refusal := serve xdramResultOp p s

/-- The channel keys that TARGET and MASK name. -/
def maskKeys (target mask : Nat) : List Nat :=
  if target = 0 then (setBitsOf 192 mask).map (· + 4) else setBitsOf 4 mask
/-- The defences of one channel set (R438, R439); a waiting request that they no longer hold is released. -/
def State.guard (s : State) (k flags kk limit : Nat) : State :=
  let s1 := (s.put (chFld Reg.XCH_GUARD_PNR_EN Reg.CCH_GUARD_PNR_EN k) (bits flags 0 1)).put
    (chFld Reg.XCH_GUARD_WIDE Reg.CCH_GUARD_WIDE k) (bits flags 1 1)
  let s2 := ((s1.put (chFld Reg.XCH_GUARD_THR_EN Reg.CCH_GUARD_THR_EN k) (bits flags 2 1)).put
    (chFld Reg.XCH_GUARD_K Reg.CCH_GUARD_K k) kk).put (chFld Reg.XCH_GUARD_ACT_LIMIT Reg.CCH_GUARD_ACT_LIMIT k) limit
  { s2 with mu := { s2.mu with waits := s2.mu.waits.filter (fun e => e.1 != k || s2.throttled k (s2.actSlot k e.2.1) e.2.2) } }
/-- MEM_GUARD's effect. -/
def memGuardRun (s : State) (c : Ctx) : State × Ans :=
  let ks := maskKeys (c.at 0 1) (c.at 8 24)
  (ks.foldl (fun s k => s.guard k (c.at 1 1) (c.at 2 1) (c.at 4 2)) s, Ans.ok (leBytes 4 ks.length))
def memGuardOp : OpSpec := { plainOp 0x0403 32 memGuardRun with
  roles := [0]
  range := fun _ c => firstBad [(0, c.at 0 1 ≤ 1), (1, c.at 1 1 ≤ 7), (2, 6 ≤ c.at 2 1 && c.at 2 1 ≤ 12),
    (4, 16 ≤ c.at 4 2 && c.at 4 2 ≤ 2047)] }
/-- MEM_GUARD (R438, R439). -/
def execMemGuard (p : Packet) (s : State) : Host.Outcome State Fault Refusal := serve memGuardOp p s
/-- MEM_SCRUB's effect. -/
def memScrubRun (s : State) (c : Ctx) : State × Ans :=
  if c.at 0 1 = 1 ∧ s.get Reg.XDRAM_CFG_GEN = 0 then (s, Ans.code 0xE 2)
  else
    let ks := maskKeys (c.at 0 1) (c.at 4 24)
    (ks.foldl (fun s k => s.put (chFld Reg.XCH_SCRUB_PERIOD Reg.CCH_SCRUB_PERIOD k) (c.at 2 2)) s, Ans.ok (leBytes 4 ks.length))
def memScrubOp : OpSpec := { plainOp 0x0404 28 memScrubRun with
  roles := [0]
  range := fun _ c => firstBad [(0, c.at 0 1 ≤ 1), (2, c.at 2 2 ≤ 720)] }
/-- MEM_SCRUB (R443). -/
def execMemScrub (p : Packet) (s : State) : Host.Outcome State Fault Refusal := serve memScrubOp p s
/-- The words of a channel's registers from an offset. -/
def State.chWord (s : State) (k off : Nat) : Nat :=
  if k < 4 then s.word (wordsXdram (0x100 + 0x20 * k + off)) else s.word (wordsCaddy (0x1000 + 0x20 * (k - 4) + off))
/-- The RC fields of a channel's registers cleared. -/
def State.chClear (s : State) (k : Nat) : State :=
  (((s.put (chFld Reg.XCH_ERR_CE Reg.CCH_ERR_CE k) 0).put (chFld Reg.XCH_ERR_UE Reg.CCH_ERR_UE k) 0).put
    (chFld Reg.XCH_REF_MAXDEBT Reg.CCH_REF_MAXDEBT k) 0).put (chFld Reg.XCH_THR_COUNT Reg.CCH_THR_COUNT k) 0
/-- MEM_STATUS's effect. -/
def memStatusRun (s : State) (c : Ctx) : State × Ans :=
  let k := if c.at 0 1 = 0 then 4 + c.at 1 1 else c.at 1 1
  let r := wordBytes ([0, 4, 8, 0xC, 0x10, 0x14, 0x18].map (s.chWord k))
  (if bit (c.at 2 1) 0 then s.chClear k else s, Ans.ok r)
def memStatusOp : OpSpec := { plainOp 0x0405 4 memStatusRun with
  range := fun _ c => firstBad [(0, c.at 0 1 ≤ 1), (1, c.at 1 1 < (if c.at 0 1 = 0 then 192 else 4)), (2, c.at 2 1 ≤ 1)] }
/-- MEM_STATUS (R448). -/
def execMemStatus (p : Packet) (s : State) : Host.Outcome State Fault Refusal := serve memStatusOp p s

/-- An address that MEM_INJECT may name. -/
def State.injectable (s : State) (a : Nat) : Bool :=
  a % 64 == 0 && !s.inSave a &&
    (match s.place a with
     | .caddy _ _ => true
     | .xdram _ _ => s.xIecc
     | _ => false)
/-- MEM_INJECT's effect: an error in the named block, or in its first 8-byte word. -/
def memInjectRun (s : State) (c : Ctx) : State × Ans :=
  ({ s with ecc := tput 0 s.ecc (c.at 0 8) (c.at 8 1 + 1) }, Ans.ok [])
def memInjectOp : OpSpec := { plainOp 0x0406 12 memInjectRun with
  roles := [0]
  range := fun s c => firstBad [(0, s.injectable (c.at 0 8)), (8, c.at 8 1 ≤ 1)] }
/-- MEM_INJECT (R448): a packet that names external DRAM in training waits until it ends (R447). -/
def execMemInject (p : Packet) (s : State) : Host.Outcome State Fault Refusal :=
  if p.opcode = 0x0406 ∧ s.mustWait (leAt p.payload 0 8) 1 then .next s else serve memInjectOp p s

/-! ### The camera ring (R427) -/

/-- The linear window of a channel, as device physical addresses. -/
def State.linearWindow (s : State) (c : Nat) : Nat × Nat :=
  let lo := 0x1000000000 + s.xP * (s.xV - s.xL) + c * s.xL
  (lo, lo + s.xL)
/-- CAMERA_RING_WRITE: a receiver writes frame data to external DRAM. In DOZE, outside the linear window of CAM_XCH, it is discarded,
and told of once for each entry. A frame that comes while CAM_XCH is in self-refresh reaches no channel. -/
def execCameraRingWrite (r : Fin 4) (addr : Nat) (bytes : List Byte) (s : State) : Host.Outcome State Fault Refusal :=
  if !s.plinthPowered || bytes.isEmpty then .next s
  else if s.cur = 2 then
    let c := s.dozeChannel
    let w := s.linearWindow c
    if s.dozeCam ≠ some r.val then .next s
    else if w.1 ≤ addr ∧ addr + bytes.length ≤ w.2 ∧ c < s.xP then .next (if s.xState c = 2 then s.writeMem 8 addr bytes else s)
    else if s.mu.dozeDrop then .next s
    else .next ({ s with mu := { s.mu with dozeDrop := true } }.logEvent 0x0408 0 (leBytes 6 addr))
  else if !(blocks64 addr bytes.length).all (fun b => match s.place b with | .xdram c _ => s.xState c == 2 | _ => false) then .next s
  else
    let q := s.admitAll (.csi r.val) (blocks64 addr bytes.length)
    .next (if q.2 then q.1.writeMem 8 addr bytes else q.1)

end Sys2Proof.Machine
end

