-- ==== Sys2Proof/Machine/TileBase.lean ====
section
/-! DEFINITION. What tiles and steepers share with the units they talk to: their records, regions, events, halting and faulting
(R287–R290, R364–R367). -/

namespace Sys2Proof.Machine

/-! ### Records -/

/-- A tile's record beside its registers. -/
def State.tx (s : State) (t : Nat) : TileX := tget TileX.idle s.tu.tiles t
def State.setTx (s : State) (t : Nat) (x : TileX) : State :=
  { s with tu := { s.tu with tiles := tput TileX.idle s.tu.tiles t x } }
/-- A steeper's record beside its registers. -/
def State.sx (s : State) (t st : Nat) : SteepX := tget SteepX.idle s.tu.steepers (2 * t + st)
def State.setSx (s : State) (t st : Nat) (x : SteepX) : State :=
  { s with tu := { s.tu with steepers := tput SteepX.idle s.tu.steepers (2 * t + st) x } }
/-- A tile's region, as its bit of a region mask: die × 16 + region. -/
def tileRegion (t : Nat) : Nat := t / 96 * 16 + t % 96 / 6
/-- The tile runs. -/
def State.tileRuns (s : State) (t : Nat) : Bool := s.flag (Reg.TSTAT_RUN t)

/-- Tiles, steepers and engines issue: the fabric dies are powered and not in IDLE (R80, R252). -/
def State.coresRun (s : State) : Bool := s.fabricPowered && s.cur == 0
/-- The CSR window of a tile (R284). -/
def tileWin (t : Nat) : Nat := 0x1000000 + t * 0x10000
/-- Scalar register k: s0 reads 0 and discards writes (Table TILE-1). -/
def State.sreg (s : State) (t k : Nat) : Nat := if k = 0 then 0 else s.wget (tileWin t + 0x9000 + 4 * k)
def State.setSreg (s : State) (t k v : Nat) : State := if k = 0 then s else s.wput (tileWin t + 0x9000 + 4 * k) v
/-- Vector register k as its 64 bytes in one number, byte 0 lowest. -/
def State.vreg (s : State) (t k : Nat) : Nat :=
  (List.range 16).foldr (fun w x => s.wget (tileWin t + 0x9100 + 64 * k + 4 * w) + 2 ^ 32 * x) 0
def State.setVreg (s : State) (t k v : Nat) : State :=
  (List.range 16).foldl (fun s w => s.wput (tileWin t + 0x9100 + 64 * k + 4 * w) (v / 2 ^ (32 * w))) s
/-- Predicate k: p0 reads all ones and discards writes. -/
def State.preg (s : State) (t k : Nat) : Nat :=
  if k = 0 then 2 ^ 64 - 1 else s.wget (tileWin t + 0x9500 + 8 * k) + s.wget (tileWin t + 0x9504 + 8 * k) * 2 ^ 32
def State.setPreg (s : State) (t k v : Nat) : State :=
  if k = 0 then s else (s.wput (tileWin t + 0x9500 + 8 * k) v).wput (tileWin t + 0x9504 + 8 * k) (v / 2 ^ 32)

/-! ### Tile events, halts and faults -/

/-- A TEVT bit set: MSI-X vector 2 and TILE_IRQ where enabled (Table TILE-5). -/
def State.tileEvent (s : State) (t pos : Nat) : State :=
  let f := if pos = 0 then Reg.TEVT_FAULT t else if pos = 1 then Reg.TEVT_HALTED t else Reg.TEVT_CTX t
  s.event f 1 pos (Reg.TIRQ_EN_EN t) 2 (.tileIrq t)
/-- The tiles that a TILE field names, 0xFF for all. -/
def tilesOf (n : Nat) : List Nat := if n = 0xFF then List.range 192 else [n]
/-- TILE_HALT's reply: TSTAT, TSTART and the refused count. -/
def State.haltReply (s : State) (n refused : Nat) : Ans :=
  let t := if n = 0xFF then 0 else n
  Ans.ok (leBytes 4 (s.word (wordsTile t 0x8004)) ++ leBytes 4 (s.word (wordsTile t 0x8008)) ++ leBytes 4 refused)
/-- No tile of a TILE_HALT waits for the answer of a stall any more. -/
def State.haltSettled (s : State) (p : Packet) : Bool := (tilesOf (leAt p.payload 0 1)).all (fun t => (s.tx t).haltReq.isNone)
/-- The TILE_HALTs whose tiles have all halted are answered. -/
def State.settleHalts (s : State) : State :=
  let due := s.tu.halts.filter (fun e => s.haltSettled e.1)
  let s1 := { s with tu := { s.tu with halts := s.tu.halts.filter (fun e => !s.haltSettled e.1) } }
  due.foldl (fun s e => s.completeReq e.1 (s.haltReply (leAt e.1.payload 0 1) e.2)) s1
/-- A running tile halts (R290): CAUSE 0 cast or command, 1 STOP, 2 fault, 3 quiesce or freeze. -/
def State.tileHalted (s : State) (t cause : Nat) : State :=
  if s.tileRuns t then
    let s1 := ((s.put (Reg.TSTAT_RUN t) 0).put (Reg.TSTAT_STALL t) 0).put (Reg.TSTAT_CAUSE t) cause
    let x := s1.tx t
    ((s1.setTx t { x with stall := none, haltReq := none, step := false }).tileEvent t 1).settleHalts
  else s
/-- The words TFAULT1–TFAULT3 of a fault without operands (R318). -/
def noOperand : Nat × Nat × Nat × Nat := (0xF, 0, 0, 0)
/-- One operand word written: REG, TYPE, ROWS, COLB. -/
def State.putOperand (s : State) (t k : Nat) (o : Nat × Nat × Nat × Nat) : State :=
  (((s.put (Reg.TFAULTK_REG t k) o.1).put (Reg.TFAULTK_TYPE t k) o.2.1).put (Reg.TFAULTK_ROWS t k) o.2.2.1).put
    (Reg.TFAULTK_COLB t k) o.2.2.2
/-- What a tile fault leaves (R287, R318) but for its log entry: TFAULT, FAULTED, CAUSE 2, TEVT, and a running tile halts. -/
def State.tileFaultMark (s : State) (t code pc detail : Nat) (os : List (Nat × Nat × Nat × Nat)) : State :=
  let s1 := ((s.put (Reg.TFAULT0_CODE t) code).put (Reg.TFAULT0_PC t) pc).put (Reg.TFAULT0_DETAIL t) detail
  let s2 := ((s1.putOperand t 0 (os.getD 0 noOperand)).putOperand t 1 (os.getD 1 noOperand)).putOperand t 2 (os.getD 2 noOperand)
  (((s2.put (Reg.TSTAT_FAULTED t) 1).tileHalted t 2).put (Reg.TSTAT_CAUSE t) 2).tileEvent t 0
/-- The DATA of TILE_FAULT: TFAULT0. -/
def State.tileFaultData (s : State) (t : Nat) : List Byte := leBytes 4 (s.word (wordsTile t 0x8010))
/-- TCYC advanced (Table TISA-6). -/
def State.tileCycles (s : State) (t n : Nat) : State := s.put (Reg.TCYC_CYCLES t) (s.get (Reg.TCYC_CYCLES t) + n)
/-- A tile fault (R287, R318), logged. The cycles of an instruction that faults are a free value (log entry 41). -/
def State.tileFaultOps (s : State) (t code pc detail : Nat) (os : List (Nat × Nat × Nat × Nat)) : State :=
  let s0 := if s.tileRuns t then s.draw.tileCycles t (s.drawn 6) else s
  let s1 := s0.tileFaultMark t code pc detail os
  s1.logEvent 0x0501 t (s1.tileFaultData t)
def State.tileFault (s : State) (t code pc detail : Nat) : State := s.tileFaultOps t code pc detail []
/-- The tile's PC advanced past the instruction at it (R298). -/
def State.tileAdvance (s : State) (t : Nat) : State := s.put (Reg.TSTAT_PC t) ((s.get (Reg.TSTAT_PC t) + 1) % 4096)

/-- A stall ends: its cycles are one and a free number more (Table TISA-6, log entry 41). -/
def State.tileUnstall (s : State) (t : Nat) : State :=
  ((s.setTx t { s.tx t with stall := none }).put (Reg.TSTAT_STALL t) 0).draw.tileCycles t (1 + s.drawn 32)

/-! ### Steeper state -/

/-- A steeper's STATE: 0 idle, 1 running, 2 halted, 3 held. -/
def State.steepState (s : State) (t st : Nat) : Nat := s.get (Reg.STEEP_STAT_STATE t st)
/-- The remaining passes of each loop level shown in STREAM_POS6–11, and LEVEL. -/
def State.showLoops (s : State) (t st : Nat) : State :=
  let ls := (s.sx t st).loops
  let s1 := s.put (Reg.STEEP_STAT_LEVEL t st) ls.length
  (List.range 6).foldl (fun s k => s.put (Reg.STREAM_POS_REM_REM t st k)
    (match ls[k]? with | some l => l.left | none => 0)) s1
/-- The walk indices of the access at hand shown in STREAM_POS0–5 (R364): 0 where no walk has begun. -/
def State.showPos (s : State) (t st : Nat) : State :=
  let i := match (s.sx t st).walk with
    | none => []
    | some w => Desc.indices w.src w.n
  (List.range 6).foldl (fun s k => s.put (Reg.STREAM_POS_IDX t st k) (i.getD k 0)) s
/-- A stream stops in STATE 2 (R364, R365): CODE, DETAIL and side recorded, FEVT with its interrupt and the log entry where it is a
fault or an error; a stop by FORCE is logged (R77). A fault of no access (CODE 6–9) records a free value in STEEP_FADDR; for the others the caller has recorded the address. -/
def State.steepStop (s : State) (t st code detail : Nat) (remote write : Bool) : State :=
  let s1 := ((s.put (Reg.STEEP_FAULT_CODE t st) code).put (Reg.STEEP_FAULT_DETAIL t st) detail).setFlag
    (Reg.STEEP_FAULT_REMOTE t st) remote
  let s1 := if code ∈ [6, 7, 8, 9] then s1.draw.put (Reg.STEEP_FADDR_ADDR t st) (s1.drawn 48) else s1
  let s2 := (((s1.setFlag (Reg.STEEP_FAULT_WRITE t st) write).put (Reg.STEEP_STAT_STATE t st) 2).showPos t st).showLoops t st
  let x := s2.sx t st
  let s3 := s2.setSx t st { x with wait := none, haltReq := none }
  if code = 0xC then
    (if detail = 2 then s3.logEvent 0x0205 t (leBytes 1 st ++ leBytes 4 (s3.get (Reg.STREAM_POS_IDX t st 0))) else s3)
  else
    let s4 := s3.put (Reg.STEEP_STAT_FEVT t st) 1
    let s5 := if s4.flag (Reg.STEEP_CTRL_IRQ_EN t st) then
        s4.emit ((if s4.stewardUp then [Out.msi 3] else []) ++ (if s4.fabricPowered then [Out.streamIrq t st] else []))
      else s4
    s5.logEvent 0x0503 t (leBytes 1 st ++ leBytes 4 (s5.word (wordsSteep t st 0x8)) ++ leBytes 1 (s5.get (Reg.STEEP_STAT_PC t st)))
/-- Where a program goes after the instruction at `pc`, with its open loops innermost first: a level ending there runs again while
passes remain, else it closes (R353). -/
def loopNext : List SteepLoop → Nat → List SteepLoop × Nat
  | [], pc => ([], pc + 1)
  | l :: ls, pc =>
    if l.last = pc then (if l.left = 0 then loopNext ls pc else ({ l with left := l.left - 1 } :: ls, l.first)) else (l :: ls, pc + 1)
/-- The stream's PC moved to the next instruction; past instruction 63 it is STEEP_ILLEGAL (R351). -/
def State.steepNext (s : State) (t st : Nat) : State :=
  let x := s.sx t st
  let r := loopNext x.loops.reverse (s.get (Reg.STEEP_STAT_PC t st))
  let s1 := (s.setSx t st { x with loops := r.1.reverse }).put (Reg.STEEP_STAT_LEVEL t st) r.1.length
  if r.2 = 64 then s1.steepStop t st 6 64 false false else s1.put (Reg.STEEP_STAT_PC t st) r.2
/-- A halt asked for takes effect now: STATE 2 with CODE STOPPED, or STATE 3 for a hold. -/
def State.steepHaltNow (s : State) (t st : Nat) : State :=
  if s.steepState t st ≠ 1 then s
  else match (s.sx t st).haltReq with
  | none => s
  | some 0 =>
    let x := s.sx t st
    (((s.setSx t st { x with haltReq := none, wait := none }).put (Reg.STEEP_STAT_STATE t st) 3).showPos t st).showLoops t st
  | some d => s.steepStop t st 0xC d false false
/-- A stream abandoned: idle, without its completion signal (R367). -/
def State.steepAbandon (s : State) (t st : Nat) : State :=
  let s1 := s.setSx t st SteepX.idle
  (s1.put (Reg.STEEP_STAT_STATE t st) 0).put (Reg.STEEP_STAT_LEVEL t st) 0

end Sys2Proof.Machine
end

