-- ==== Sys2Proof/Machine/LinkSend.lean ====
section
/-! DEFINITION. The Holwell link's packets and flits, routing, the transmit side of a port, tags, and what completes a tag (R474–R493,
R509–R511). -/

namespace Sys2Proof.Machine

/-! ### Ports -/

/-- A port's record beside its registers. -/
def State.port (s : State) (p : Nat) : Port := s.link.ports.getD p Port.off
def State.setPort (s : State) (p : Nat) (x : Port) : State :=
  { s with link := { s.link with ports := s.link.ports.set p x } }
/-- HL_STAT.STATE (Table HOL-7): 0 OFF, 1 TRAINING, 2 UP, 3 DOWN, 4 PARKED, 5 ADMIN. -/
def State.hlState (s : State) (p : Nat) : Nat := s.get (Reg.HL_STAT_STATE p)
def State.isUp (s : State) (p : Nat) : Bool := s.hlState p == 2
/-- The width in lanes of an UP port. -/
def State.hlWidth (s : State) (p : Nat) : Nat := s.get (Reg.HL_STAT_WIDTH p)
/-- This device's ID (R505). -/
def State.ensId (s : State) : Nat := s.get Reg.ENS_STAT_ID
/-- The device is ACTIVE. -/
def State.ensActive (s : State) : Bool := s.get Reg.ENS_STAT_STATE == 2
/-- Member i of the active set. -/
def State.inActive (s : State) (i : Nat) : Bool := bit (s.get Reg.ENS_ACTIVE_SET) i

/-- The words of a flit on its lane (R477). -/
def flitWords (f : List Byte) : List Nat := (List.range 4).map (fun k => leAt f (8 * k) 8)
/-- Flits that have joined a port's transmit sequence go out: flit k of the sequence on lane k mod W as four words, scrambled and stuffed with the
lane's markers between (R453–R456, R477). TRAIN flits go on every lane, each lane its own. -/
def State.lineOut (s : State) (p n : Nat) (train : Bool) : State :=
  let w := (s.port p).wire
  let out (s : State) (e : List Byte × Nat) : State :=
    let k := if train then leAt e.1 4 1 % 4 else e.2 % max 1 (s.hlWidth p)
    let x := s.lanes.getD (4 * p + k) LaneX.fresh
    { s with lanes := s.lanes.set (4 * p + k) { x with tx := (x.tx.send (markerWord s.ensId p k) (flitWords e.1)).1 } }
  (w.zipIdx.drop (w.length - n)).foldl out s

/-! ### Routing (R509, R510) -/

/-- Coordinates of a device. -/
def State.coord (s : State) (i : Nat) : Nat × Nat × Nat :=
  let x := s.get Reg.ENS_SHAPE_X
  let y := s.get Reg.ENS_SHAPE_Y
  (i % x, (i / x) % y, i / (x * y))
/-- Steps forward or back along a ring of size n: true for the + port. -/
def forward (a b n : Nat) : Bool := 2 * ((b + n - a) % n) ≤ n
/-- The port by which a packet at device c leaves for device t, none at home or without a shape. -/
def State.routePort (s : State) (t : Nat) : Option Nat :=
  let c := s.ensId
  let X := s.get Reg.ENS_SHAPE_X
  let Y := s.get Reg.ENS_SHAPE_Y
  let Z := s.get Reg.ENS_SHAPE_Z
  if c = t ∨ X = 0 ∨ s.get Reg.ENS_SHAPE_N ≤ t then none
  else if s.isUp 6 ∧ s.get (Reg.HL_STAT_PEER_ID 6) = t then some 6
  else
    let a := s.coord c
    let b := s.coord t
    if a.1 ≠ b.1 then some (if forward a.1 b.1 X then 0 else 1)
    else if a.2.1 ≠ b.2.1 then some (if forward a.2.1 b.2.1 Y then 2 else 3)
    else some (if forward a.2.2 b.2.2 Z then 4 else 5)
/-- The hop by a port from this device crosses a dateline. -/
def State.dateline (s : State) (p : Nat) : Bool :=
  let c := s.ensId
  let a := s.coord c
  if p = 0 then c + 1 == s.get Reg.ENS_SHAPE_N
  else if p = 1 then c == 0
  else if p = 2 then a.2.1 + 1 == s.get Reg.ENS_SHAPE_Y
  else if p = 3 then a.2.1 == 0
  else if p = 4 then a.2.2 + 1 == s.get Reg.ENS_SHAPE_Z
  else if p = 5 then a.2.2 == 0
  else false
/-- The VC of a packet on leaving: 0 where it enters or starts a new dimension or takes H6, kept within a dimension, 1 across a
dateline. `came` is the port and VC it arrived by. -/
def State.routeVc (s : State) (p : Nat) (came : Option (Nat × Nat)) : Nat :=
  if p = 6 then 0
  else if s.dateline p then 1
  else match came with
    | some (q, vc) => if q / 2 = p / 2 ∧ q ≠ 6 then vc else 0
    | none => 0

/-! ### Packets (Table HOL-2) -/

/-- Header fields of a packet. -/
def hDst (h : List Byte) : Nat := leAt h 0 1 % 64
def hSrc (h : List Byte) : Nat := leAt h 1 1 % 64
def hOp (h : List Byte) : Nat := leAt h 2 1 % 16
def hGen (h : List Byte) : Nat := leAt h 2 1 / 16
def hStatus (h : List Byte) : Nat := leAt h 3 1
def hTag (h : List Byte) : Nat := leAt h 4 1
def hSport (h : List Byte) : Nat := leAt h 5 1 % 8
def hLen (h : List Byte) : Nat := leAt h 6 1 + 1
def hSepoch (h : List Byte) : Nat := leAt h 7 1
def hEpoch (h : List Byte) : Nat := leAt h 8 2
def hAddr (h : List Byte) : Nat := leAt h 10 6
/-- A packet header. -/
def header (dst src op gen status tag sport len sepoch epoch addr : Nat) : List Byte :=
  leBytes 1 dst ++ leBytes 1 src ++ leBytes 1 (op + 16 * gen) ++ leBytes 1 status ++ leBytes 1 tag ++ leBytes 1 sport ++
    leBytes 1 (len - 1) ++ leBytes 1 sepoch ++ leBytes 2 epoch ++ leBytes 6 addr
/-- The class code of an operation (Table HOL-3). -/
def opClass (op : Nat) : Nat :=
  if op = 0 ∨ op = 1 then 4 else if op = 2 ∨ op = 3 ∨ op = 5 then 1 else if op = 4 then 2 else 0
/-- The response to a request: its header turned round (R490). -/
def response (h : List Byte) (op status : Nat) (data : List Byte) : LinkPacket :=
  { header := header (hSrc h) (hDst h) op (hGen h) status (hTag h) (hSport h) (if op = 2 then hLen h else data.length) (hSepoch h)
      (hEpoch h) 0,
    payload := data }
/-- A packet is a request that is answered (Table HOL-3). -/
def isRequest (h : List Byte) : Bool := hOp h == 0 || hOp h == 1 || hOp h == 4
/-- The answer UNREACHABLE to a request: for a SYNC its code is LINK_LOST (R481, Table HOL-3). -/
def unreachable (h : List Byte) : LinkPacket :=
  if hOp h = 0 then response h 2 3 [] else if hOp h = 1 then response h 3 3 [] else response h 5 8 (zeros 8)

/-! ### Flits (R475–R479) -/

/-- The payload chunks of a packet: 12 data bytes after the header, then 28 each, zero padded. -/
def chunks28 : Nat → List Byte → List (List Byte)
  | 0, _ => []
  | n + 1, l => if l = [] then [] else padTo 28 (l.take 28) :: chunks28 n (l.drop 28)
/-- The flits of a packet as FT and payload: ONLY, or FIRST, MIDDLE and LAST. -/
def packetFlits (pk : LinkPacket) : List (Nat × List Byte) :=
  let f := padTo 28 (pk.header ++ pk.payload.take 12)
  let r := chunks28 9 (pk.payload.drop 12)
  if r = [] then [(4, f)]
  else (1, f) :: (r.dropLast.map (fun c => (2, c)) ++ (r.getLast?.map (fun c => (3, c))).toList)
/-- A flit: header, payload, CRC-16. -/
def flit (ft cls vc fseq : Nat) (payload : List Byte) : List Byte :=
  let b := leBytes 2 (ft * 8192 + cls * 1024 + vc * 512 + fseq) ++ padTo 28 payload
  b ++ leBytes 2 (crc16 b)
/-- Fields of a flit. -/
def fFt (f : List Byte) : Nat := bits (leAt f 0 2) 13 3
def fCls (f : List Byte) : Nat := bits (leAt f 0 2) 10 3
def fVc (f : List Byte) : Nat := bits (leAt f 0 2) 9 1
def fSeq (f : List Byte) : Nat := bits (leAt f 0 2) 0 9
def fPay (f : List Byte) : List Byte := slice f 2 28
/-- The flit's CRC passes and no field marked 0 is set (R475, R476). -/
def flitOk (f : List Byte) : Bool :=
  f.length == 32 && leAt f 30 2 == crc16 (f.take 30) && fFt f != 7 && decide (fCls f ≤ 4) &&
    (decide (1 ≤ fFt f ∧ fFt f ≤ 4) || leAt f 0 2 % 8192 == 0)

/-! ### The transmit side -/

/-- Receive buffers in flits by class (Table HOL-6), the OFFER of Table HOL-8. -/
def rxBuffer (c : Nat) : Nat := if c = 0 then 24 else if c = 1 then 192 else if c = 2 then 32 else if c = 4 then 192 else 0
def offerBytes : List Byte := (List.range 10).map (fun i => BitVec.ofNat 8 (rxBuffer (i / 2)))
/-- The queued packet that may send its next flit: by class in the order MGT, RSP, SYN, REQ, a class that has waited 256 slots first
(R487); of a class and VC only its oldest packet. -/
def Port.pick (x : Port) : Option Nat :=
  let ready (c : Nat) : Option Nat :=
    (List.range x.txq.length).find? (fun i => match x.txq[i]? with
      | some q => q.cls == c && tget 0 x.credits (2 * q.cls + q.vc) != 0 &&
          !((x.txq.take i).any (fun r => r.cls == q.cls && r.vc == q.vc))
      | none => false)
  let starved := [0, 1, 2, 3, 4].find? (fun c => decide (256 ≤ tget 0 x.waits c) && (ready c).isSome)
  match starved with
  | some c => ready c
  | none => ([0, 1, 2, 3, 4].filterMap ready).head?
/-- One flit sent where the replay buffer and a credit allow it (R483, R488). -/
def Port.sendOne (x : Port) : Option Port :=
  if 511 ≤ x.replay.length then none
  else match x.pick with
    | none => none
    | some i =>
      match x.txq[i]? with
      | none => none
      | some q =>
        match q.flits with
        | [] => none
        | (ft, pay) :: fs =>
          let f := flit ft q.cls q.vc x.txSeq pay
          let k := 2 * q.cls + q.vc
          let waits := [0, 1, 2, 3, 4].foldl (fun w c =>
            tput 0 w c (if c = q.cls then 0 else if x.txq.any (fun r => r.cls == c) then tget 0 w c + 1 else 0)) x.waits
          let txq := if fs = [] then x.txq.eraseIdx i else x.txq.set i { q with flits := fs }
          some { x with txq := txq, replay := x.replay ++ [(x.txSeq, f)], txSeq := (x.txSeq + 1) % 512, waits := waits,
                        credits := tput 0 x.credits k (tget 0 x.credits k - 1), wire := x.wire ++ [f] }
/-- Flits sent while any may go; the count sent. -/
def Port.pump : Nat → Port → Port × Nat
  | 0, x => (x, 0)
  | n + 1, x =>
    match x.sendOne with
    | none => (x, 0)
    | some y => let r := Port.pump n y; (r.1, r.2 + 1)
/-- An UP port sends what it can. -/
def State.pumpPort (s : State) (p : Nat) : State :=
  if s.isUp p then
    let r := Port.pump 512 (s.port p)
    ((s.setPort p r.1).lineOut p r.2 false).bumpWrap (Reg.HL_TXFLITS_COUNT p) r.2
  else s
/-- A packet queued at a port and sent. -/
def State.enqueue (s : State) (p vc : Nat) (pk : LinkPacket) : State :=
  let x := s.port p
  (s.setPort p { x with txq := x.txq ++ [{ cls := opClass (hOp pk.header), vc := vc, pk := pk, flits := packetFlits pk }] }).pumpPort p
/-- A wake burst on a parked port, at most one in every 10 ms (R498). -/
def State.burst (s : State) (p : Nat) : State :=
  let x := s.port p
  let due := match x.lastBurst with
    | some b => decide (10 * (unitSec / 1000) ≤ s.time.up - b)
    | none => true
  if due then s.setPort p { x with lastBurst := some s.time.up, bursts := x.bursts + 1 } else s
/-- A packet sent on its way from this device, `came` telling how it arrived. A next port that is not UP discards it; the answer
UNREACHABLE to a request goes back to its source, one of this device's own requests being answered in place by its caller (R481,
R498). -/
def State.sendPacket (s : State) (pk : LinkPacket) (came : Option (Nat × Nat)) : State :=
  match s.routePort (hDst pk.header) with
  | none => s
  | some p =>
    if s.isUp p then s.enqueue p (s.routeVc p came) pk
    else
      let s1 := if s.hlState p = 4 ∧ s.cur ≤ 1 then s.burst p else s
      if isRequest pk.header && came.isSome then
        let r := unreachable pk.header
        match s1.routePort (hDst r.header) with
        | some q => if s1.isUp q then s1.enqueue q (s1.routeVc q came) r else s1
        | none => s1
      else s1

/-! ### Tags (R490, R491) -/

/-- HL_STAT.TAGS follows the tags held. -/
def State.showTags (s : State) (p : Nat) : State := s.put (Reg.HL_STAT_TAGS p) (s.port p).tags.length
/-- The lowest free tag of a port. -/
def Port.freeTag (x : Port) : Option Nat := (List.range 256).find? (fun i => !x.tags.any (fun r => r.tag == i))
/-- A tag taken for a request of this device, which is sent; none where no tag is free. The port is UP. -/
def State.request (s : State) (p dst op : Nat) (wait : Bool) (use : TagUse) (len addr : Nat) (data : List Byte) :
    Option (State × Nat) :=
  let x := s.port p
  match x.freeTag with
  | none => none
  | some tag =>
    let g := tget 0 x.gens tag
    let e := s.get (Reg.HL_EPOCH_EPOCH p)
    let h := header dst s.ensId op g 0 tag p len (s.get Reg.ENS_EPOCH_EPOCH % 256) e addr
    let r : TagRec := { tag := tag, gen := g, epoch := e, op := op, wait := wait, use := use }
    let s1 := (s.setPort p { x with tags := x.tags ++ [r] }).showTags p
    some (s1.enqueue p (s1.routeVc p none) { header := h, payload := data }, tag)
/-- A tag freed: its generation rises. -/
def State.freeTag (s : State) (p tag : Nat) : State :=
  let x := s.port p
  (s.setPort p { x with tags := x.tags.filter (fun r => r.tag != tag),
                        gens := tput 0 x.gens tag ((tget 0 x.gens tag + 1) % 16) }).showTags p
/-- A sync operation by its number, changed. -/
def State.mapOp (s : State) (key : Nat) (f : SyncOp → SyncOp) : State :=
  { s with sync := { s.sync with ops := s.sync.ops.map (fun o => if o.key == key then f o else o) } }
/-- What a tag's request belongs to learns how it ended: a status of the link (0 done, 1 poison, 2 refused, 3 unreachable,
4 LINK_LOST) with the port, and the data. -/
def State.tagEnds (s : State) (u : TagUse) (p status : Nat) (data : List Byte) : State :=
  match u with
  | .stream t st =>
    let x := s.sx t st
    match x.walk with
    | some w =>
      let ph := if status = 0 then AccPhase.back 0 0 false data
        else if status = 1 then .back 0 0 true data
        else if status = 2 then .back 0xA 0 false []
        else .back 5 p false []
      s.setSx t st { x with walk := some { w with phase := ph } }
    | none => s
  | .sync key =>
    if 3 ≤ status then s.mapOp key (fun o => { o with phase := .resp 8 p })
    else s.mapOp key (fun o => { o with phase := .resp (leAt data 8 1) (leAt data 0 8) })
/-- A tag completes and is freed. -/
def State.completeTag (s : State) (p : Nat) (r : TagRec) (status : Nat) (data : List Byte) : State :=
  (s.freeTag p r.tag).tagEnds r.use p status data
/-- Every tag of a port completes with LINK_LOST (R499). -/
def State.loseTags (s : State) (p : Nat) : State :=
  (s.port p).tags.foldl (fun s r => s.completeTag p r 4 []) s

/-! ### Peer commands sent (R480) -/

/-- The CMD packets of a command's bytes, 256 bytes each. -/
def cmdPackets (dst src num total : Nat) : Nat → Nat → List Byte → List LinkPacket
  | 0, _, _ => []
  | n + 1, off, b =>
    if b = [] then []
    else
      let d := b.take 256
      { header := leBytes 1 dst ++ leBytes 1 src ++ leBytes 1 7 ++ zeros 3 ++ leBytes 1 (d.length - 1) ++ zeros 3 ++ leBytes 2 off ++
          leBytes 2 total ++ leBytes 1 num ++ zeros 1, payload := d } :: cmdPackets dst src num total n (off + 256) (b.drop 256)
/-- A command packet sent to a device over the link (R56, R480). -/
def State.sendCmd (s : State) (dst : Nat) (b : List Byte) : State :=
  let n := s.link.nextCmd
  let s1 := { s with link := { s.link with nextCmd := (n + 1) % 256 } }
  (cmdPackets dst s.ensId n b.length 17 0 b).foldl (fun s pk => s.sendPacket pk none) s1

end Sys2Proof.Machine
end

