-- ==== Sys2Proof/Machine/EnsMsg.lean ====
section
/-! DEFINITION. The accord's messages: digests and keys of R512 and R514, the devices heard, a message built and sent (R514–R516,
R528). -/

namespace Sys2Proof.Machine

/-- One millisecond in units of the counter. -/
def unitMs : Nat := unitSec / 1000
/-- Fields of the join descriptor in force (Table ENS-2). -/
def State.hbMs (s : State) : Nat := leAt s.ens.desc 9 1
def State.missMs (s : State) : Nat := leAt s.ens.desc 10 1 * leAt s.ens.desc 9 1
def State.trayT (s : State) : Nat := leAt s.ens.desc 11 1
/-- The configuration digest and the key check value (R512, R514). -/
def State.cfgDigest (s : State) : List Byte := if s.ens.desc = [] then zeros 32 else sha256 s.ens.desc
def State.kcv (s : State) : List Byte :=
  if s.cmd.ensKey = [] then zeros 8 else (hmac s.cmd.ensKey [0x4D, 0x37, 0x45, 0x4B]).take 8
def State.accordKey (s : State) : List Byte := hmac s.cmd.ensKey [0x4D, 0x37, 0x41, 0x43]
/-- The devices heard: a RECORD within the last MISS × HB ms (R516). -/
def State.heardIds (s : State) : List Nat :=
  (s.ens.heardAt.filter (fun e => decide (s.time.up - e.2 ≤ s.missMs * unitMs))).map Prod.fst
/-- A set of IDs as a bit mask. -/
def idMask (l : List Nat) : Nat := l.foldl (fun m i => m ||| 2 ^ i) 0
/-- ENS_HEARD follows the devices heard. -/
def State.showHeard (s : State) : State := s.put Reg.ENS_HEARD_SET (idMask s.heardIds)

/-- The cast digest CDIG as bytes, zeros while no cast is current (R164). -/
def State.cdig (s : State) : List Byte := (List.range 8).flatMap (fun k => leBytes 4 (s.get (Reg.CDIG_DIG k)))

/-- Bytes 0–127 of a message (Table ENS-3). -/
def State.accordBody (s : State) (kind epoch : Nat) (set held : List Byte) : List Byte :=
  leBytes 1 kind ++ leBytes 1 s.ensId ++ leBytes 1 (s.get Reg.ENS_STAT_STATE) ++
    leBytes 1 (s.get Reg.ENS_STAT_FORCED + 2 * b2n s.ens.running) ++ leBytes 1 Config.fwVersion.1 ++ leBytes 1 Config.fwVersion.2.1 ++
    leBytes 2 Config.fwVersion.2.2 ++ leBytes 8 epoch ++ leBytes 4 (todNs s.time.tod) ++ leBytes 6 (todSec s.time.tod) ++ zeros 6 ++
    s.cdig ++ s.cfgDigest ++ s.kcv ++ padTo 8 set ++ padTo 8 held ++ zeros 8
/-- A message with its tag. -/
def State.accordMsg (s : State) (body : List Byte) : List Byte := body ++ (hmac s.accordKey body).take 16
/-- A peer command of the steward to a device, under its next SEQ. -/
def State.sendPeer (s : State) (dst opcode : Nat) (payload : List Byte) : State :=
  let q := tget 0 s.link.seqs dst
  let h : Packet := { via := .holwell 0, magic := 0x4D37, ver := 1, flags := 0, opcode := BitVec.ofNat 16 opcode,
                      seq := BitVec.ofNat 16 q, role := 2, session := 0, len := BitVec.ofNat 16 payload.length, crc := 0,
                      body := payload }
  let c := crc32c (h.header 0 ++ payload)
  let s1 := { s with link := { s.link with seqs := tput 0 s.link.seqs dst ((q + 1) % 65536) } }
  s1.sendCmd dst (h.header c ++ payload)
/-- A message sent to a list of devices. -/
def State.sendAccord (s : State) (ids : List Nat) (body : List Byte) : State :=
  let m := s.accordMsg body
  ids.foldl (fun s i => s.sendPeer i 0x06F0 m) s
/-- A NOTICE of a link declared down or come up, to every device heard (R528). -/
def State.sendNotice (s : State) (p : Nat) : State :=
  if s.ens.desc = [] then s
  else s.sendAccord s.heardIds (s.accordBody 2 (s.get Reg.ENS_EPOCH_EPOCH)
    (leBytes 1 p ++ leBytes 1 (s.get (Reg.HL_STAT_PEER_ID p))) [])

end Sys2Proof.Machine
end

