-- ==== Sys2Proof/Machine/Sync.lean ====
section
/-! DEFINITION. Sync objects: operations, waits and the waiter table, remote operations and the duplicate window, the window's
registers and the commands (chapter 15). -/

namespace Sys2Proof.Machine

/-! ### Objects (R377–R380) -/

/-- The device and the object number of a name in ensemble form. -/
def objDev (o : Nat) : Nat := o / 131072
def objNum (o : Nat) : Nat := o % 131072
/-- The object's value. -/
def State.soVal (s : State) (j : Nat) : Nat := s.get (Reg.SO_VAL_VALUE j)
/-- An operation applied (Table SYNC-2): the state and a code of Table SYNC-3. -/
def State.soApply (s : State) (j fn v : Nat) : State × Nat :=
  let x := s.soVal j
  let p := s.get (Reg.SO_CFG_PARTIES j)
  let k := s.get (Reg.SO_CFG_KIND j)
  let set (y : Nat) : State × Nat := (s.put (Reg.SO_VAL_VALUE j) y, 0)
  if !s.flag (Reg.SO_CFG_EN j) then (s, 1)
  else if fn = 0 then (if k = 0 then set (x + v) else (s, 2))
  else if fn = 1 ∨ fn = 2 then (if k ≠ 1 then (s, 2) else if v ≠ 0 then (s, 4) else set (2 - fn))
  else if fn = 3 then
    if k ≠ 2 then (s, 2) else if v = 0 ∨ p < v then (s, 4)
    else
      let a := x % 65536 + v
      set (if p ≤ a then (x / 65536 + 1) * 65536 + (a - p) else x / 65536 * 65536 + a)
  else if fn = 4 then (if k ≠ 3 then (s, 2) else if v = 0 ∨ 2 ^ 32 - 1 - x < v then (s, 4) else set (x + v))
  else (s, 2)
/-- A wait's value lies in the range of its kind. -/
def waitValueOk (kind v : Nat) : Bool :=
  if kind = 1 then v == 0 else if kind = 2 then decide (v < 2 ^ 48) else if kind = 3 then 1 ≤ v && decide (v < 2 ^ 32) else true
/-- The condition of a wait holds. -/
def waitHolds (kind x v : Nat) : Bool :=
  if kind = 0 then decide (v ≤ x) else if kind = 1 then x % 2 == 1 else if kind = 2 then decide (v ≤ x / 65536) else decide (v ≤ x)
/-- The change a completing wait makes: an acquire takes its count. -/
def State.waitTake (s : State) (j v : Nat) : State :=
  if s.get (Reg.SO_CFG_KIND j) = 3 then s.put (Reg.SO_VAL_VALUE j) (s.soVal j - v) else s

/-! ### Operations in flight -/

/-- The operation of a number. -/
def State.op (s : State) (key : Nat) : Option SyncOp := s.sync.ops.find? (fun o => o.key == key)
def State.dropOp (s : State) (key : Nat) : State :=
  { s with sync := { s.sync with ops := s.sync.ops.filter (fun o => o.key != key) } }
/-- The local object a recorded waiter waits on. -/
def State.waiterOn (s : State) (j : Nat) : List SyncOp :=
  s.sync.waiters.filterMap (fun k => match s.op k with
    | some o => if objNum o.obj = j then some o else none
    | none => none)
/-- SO_CFG.WAITING follows the waiter table. -/
def State.showWaiting (s : State) (j : Nat) : State := s.setFlag (Reg.SO_CFG_WAITING j) (s.waiterOn j != [])
/-- A waiter's entry freed. -/
def State.freeWaiter (s : State) (key j : Nat) : State :=
  { s with sync := { s.sync with waiters := s.sync.waiters.filter (fun k => k != key) } }.showWaiting j
/-- The place that a requester of a sync object stands at in the tile network; others than tiles and steepers stand at the plinth. -/
def SyncWho.place (w : SyncWho) : Nat :=
  match w with
  | .tile t _ | .steeper t _ | .done t _ => t
  | _ => plinthPlace
/-- A command's answer to a code of Table SYNC-3 (R392). -/
def State.syncAns (s : State) (code value : Nat) (r : List Byte) : Ans :=
  if code = 0 then Ans.ok r
  else if code = 7 then Ans.code 0xD (s.get Reg.ENS_EPOCH_EPOCH % 65536)
  else if code = 8 then Ans.code 8 value
  else if code = 0xFE then Ans.code 0xC 0
  else Ans.code 0xE (0x80 + code)
/-- The mark of an OP_ID in a source's window cleared (R502). -/
def State.clearMark (s : State) (src opid : Nat) : State :=
  match tfind s.sync.windows src with
  | some w => { s with sync := { s.sync with windows := tinsert s.sync.windows src { w with marks := w.marks.filter (· != opid) } } }
  | none => s
/-- An operation answered with a code and a value: a remote one by SYNC_RSP, a command at once, a tile's signal at once (an error
faults the tile), any other on its way back to the requester that stalls for it. -/
def State.answerOp (s : State) (key code value : Nat) : State :=
  match s.op key with
  | none => s
  | some o =>
    let s := s.netSend plinthPlace o.who.place clsRsp 8
    match o.who with
    | .remote _ hdr _ => (s.dropOp key).sendPacket (response hdr 5 code (leBytes 8 value)) none
    | .cmd req => (s.dropOp key).completeReq req (s.syncAns code value (if o.wait then leBytes 8 value else []))
    | .matcher _ => s.dropOp key
    | .tile t pc =>
      if o.wait then s.mapOp key (fun o => { o with phase := .resp code value })
      else
        let s1 := s.dropOp key
        if code = 0 then s1
        else
          let s2 := if code = 8 then
              s1.setTx t { s1.tx t with kept := some { pc := pc, obj := o.obj, opid := o.opid, epoch := o.epoch } }
            else s1
          if s2.flag (Reg.TSTAT_FAULTED t) then s2 else s2.tileFault t 6 pc code
    | .steeper _ _ | .done _ _ => s.mapOp key (fun o => { o with phase := .resp code value })
/-- The waiters of an object tested in arrival order after an operation (R382). -/
def State.testList (s : State) (j : Nat) : List SyncOp → State
  | [] => s
  | o :: os =>
    let k := s.get (Reg.SO_CFG_KIND j)
    if waitHolds k (s.soVal j) o.v then
      let s1 := s.waitTake j o.v
      ((s1.freeWaiter o.key j).answerOp o.key 0 (s1.soVal j)).testList j os
    else if k = 3 then s
    else s.testList j os
def State.testWaiters (s : State) (j : Nat) : State := s.testList j (s.waiterOn j)
/-- A signal applied with its waiters tested. -/
def State.signal (s : State) (j fn v : Nat) : State × Nat :=
  let r := s.soApply j fn v
  if r.2 = 0 then (r.1.testWaiters j, 0) else r
/-- What a wait meets that reaches its object: done with a value, an error, or it must be recorded. -/
inductive WaitRes where
  | done (s : State) (value : Nat)
  | err (code : Nat)
  | hold
def State.tryWait (s : State) (j v : Nat) : WaitRes :=
  let k := s.get (Reg.SO_CFG_KIND j)
  if !s.flag (Reg.SO_CFG_EN j) then .err 1
  else if !waitValueOk k v then .err 4
  else if waitHolds k (s.soVal j) v && (k != 3 || s.waiterOn j == []) then
    let s1 := s.waitTake j v
    .done s1 (s1.soVal j)
  else .hold
/-- An operation reaches its local object (R381, R382). A withdrawn wait whose condition does not hold is abandoned (R389). -/
def State.reach (s : State) (o : SyncOp) : State :=
  let j := objNum o.obj
  if o.wait then
    match s.tryWait j o.v with
    | .done s1 x => s1.answerOp o.key 0 x
    | .err c => s.answerOp o.key c 0
    | .hold =>
      if o.withdrawn then s.answerOp o.key 0xFE 0
      else if s.sync.waiters.length < 4096 then
        let s1 := s.mapOp o.key (fun o => { o with phase := .waiter })
        ({ s1 with sync := { s1.sync with waiters := s1.sync.waiters ++ [o.key] } }).showWaiting j
      else s.mapOp o.key (fun o => { o with phase := .retry })
  else
    let r := s.signal j o.fn o.v
    r.1.answerOp o.key r.2 (r.1.soVal j)

/-! ### Remote operations (R385–R388, R519, R520) -/

/-- Remote operations outstanding to a device, all and waits alone. -/
def State.outTo (s : State) (d : Nat) : List SyncOp :=
  s.sync.ops.filter (fun o => objDev o.obj == d && (match o.phase with | .sent _ _ => true | _ => false))
/-- FN of a SYNC packet: 8 for a wait; 9 is the model's own withdrawal of a wait (DESIGN CHOICE, log entry 25). -/
def wireFn (o : SyncOp) : Nat := if o.wait then 8 else o.fn
/-- A remote operation issued: refused where the accord or the route does not allow it, sent, or kept waiting for a slot or a tag. -/
def State.issueRemote (s : State) (o : SyncOp) : State :=
  let d := objDev o.obj
  if !s.ensActive || !s.inActive d then s.answerOp o.key 3 0
  else match s.routePort d with
    | none => s.answerOp o.key 3 0
    | some p =>
      if !s.isUp p then (if s.hlState p = 4 then s.burst p else s).answerOp o.key 8 p
      else
        let out := s.outTo d
        if s.ens.adopting.isSome || decide (512 ≤ out.length) || (o.wait && decide (64 ≤ (out.filter (·.wait)).length)) then
          s.mapOp o.key (fun o => { o with phase := .slot })
        else
          let fresh := o.opid = 2 ^ 32
          let id := if fresh then tget 0 s.sync.opids d else o.opid
          let ep := if fresh then s.get Reg.ENS_EPOCH_EPOCH % 65536 else o.epoch
          match s.request p d 4 o.wait (.sync o.key) 12 (o.obj + wireFn o * 2 ^ 24 + ep * 2 ^ 32) (leBytes 4 id ++ leBytes 8 o.v) with
          | none => s.mapOp o.key (fun o => { o with phase := .slot })
          | some (s1, tag) =>
            let s2 := s1.mapOp o.key (fun o => { o with phase := .sent p tag, opid := id, epoch := ep })
            if fresh then { s2 with sync := { s2.sync with opids := tput 0 s2.sync.opids d ((id + 1) % 2 ^ 32) } } else s2
/-- Operations waiting for a slot tried again, oldest first. -/
def State.issueSlots (s : State) : State :=
  (s.sync.ops.filter (fun o => o.phase == .slot)).foldl (fun s o => s.issueRemote o) s
/-- An operation issued by a requester: its number. A remote one keeps the OP_ID and epoch of its first issue. -/
def State.issueSync (s : State) (who : SyncWho) (obj : Nat) (wait : Bool) (fn v : Nat) (kept : Option HeldOp) : State × Nat :=
  let key := s.sync.next
  let o : SyncOp := { key := key, who := who, obj := obj, wait := wait, fn := fn, v := v,
                      opid := match kept with | some h => h.opid | none => 2 ^ 32,
                      epoch := match kept with | some h => h.epoch | none => 0, phase := .flight, withdrawn := false }
  let s1 := { s with sync := { s.sync with ops := s.sync.ops ++ [o], next := key + 1 } }.netSend who.place plinthPlace clsSyn 16
  if objDev obj = s.ensId then (s1, key) else (s1.issueRemote o, key)
/-- A wait withdrawn by its requester (R290, R373, R389): abandoned where it has not been applied, else its answer stands. A remote
one is withdrawn at its target. -/
def State.withdrawSync (s : State) (key : Nat) : State :=
  match s.op key with
  | none => s
  | some o =>
    let gone (s : State) : State := s.answerOp key 0xFE 0
    match o.phase with
    | .flight => s.mapOp key (fun o => { o with withdrawn := true })
    | .retry | .slot => gone s
    | .waiter => gone (s.freeWaiter key (objNum o.obj))
    | .sent p tag =>
      let s1 := s.mapOp key (fun o => { o with withdrawn := true })
      match (s.port p).tags.find? (fun r => r.tag == tag) with
      | some r =>
        let h := header (objDev o.obj) s.ensId 4 r.gen 0 tag p 12 (s.get Reg.ENS_EPOCH_EPOCH % 256) r.epoch
          (o.obj + 9 * 2 ^ 24 + o.epoch * 2 ^ 32)
        s1.sendPacket { header := h, payload := leBytes 4 o.opid ++ leBytes 8 o.v } none
      | none => s1
    | .resp _ _ => s
/-- Two operations of one source, whose packets of class SYN arrive in order (R415). -/
def sameSource (a b : SyncWho) : Bool :=
  match a, b with
  | .tile t _, .tile u _ | .tile t _, .steeper u _ | .tile t _, .done u _ | .steeper t _, .tile u _ | .steeper t _, .steeper u _
  | .steeper t _, .done u _ | .done t _, .tile u _ | .done t _, .steeper u _ | .done t _, .done u _ => t == u
  | .matcher p, .matcher q => p == q
  | _, _ => false
/-- SYNC_OP_ARRIVE: the operation at a place of the list reaches its object (R382), unless an earlier one of its source is still on
its way. -/
def execSyncOpArrive (i : Nat) (s : State) : Host.Outcome State Fault Refusal :=
  match s.sync.ops[i]? with
  | none => .next s
  | some o =>
    let before := (s.sync.ops.take i).any (fun q => q.phase == .flight && sameSource q.who o.who)
    if o.phase = .flight ∧ ¬ before ∧ s.plinthPowered then .next (s.netSettle.reach o) else .next s
/-- SYNC_WAIT_RETRY: a wait refused because the table was full tries again (R381). -/
def execSyncWaitRetry (i : Nat) (s : State) : Host.Outcome State Fault Refusal :=
  match s.sync.ops[i]? with
  | none => .next s
  | some o => if o.phase = .retry ∧ s.plinthPowered then .next (s.reach o) else .next s

/-- The answer of a wait reaches a tile that stalls (R290, R314). A wait withdrawn for a halt that has been called off issues again. -/
def State.tileAnswer (s : State) (t pc : Nat) (o : SyncOp) (code : Nat) : State :=
  let x := s.tx t
  let s1 := (s.setTx t { x with kept := none }).tileUnstall t
  if code = 0 then
    let s2 := s1.tileAdvance t
    match x.haltReq with
    | some c => s2.tileHalted t c
    | none => if x.step then s2.tileHalted t 0 else s2
  else if code = 0xFE then (match x.haltReq with | some c => s1.tileHalted t c | none => s1)
  else
    let s2 := if code = 8 then
        s1.setTx t { s1.tx t with kept := some { pc := pc, obj := o.obj, opid := o.opid, epoch := o.epoch } }
      else s1
    s2.tileFault t 6 pc code
/-- The answer of an operation reaches a steeper (R353, R373): it goes on, halts, or stops with SYNC_ERR or LINK_LOST. A completion
signal's answer ends the stream (R351). -/
def State.steepAnswer (s : State) (t st : Nat) (o : SyncOp) (isDone : Bool) (code value : Nat) : State :=
  let x := s.sx t st
  let s1 := s.setSx t st { x with wait := none, kept := none }
  if code = 0 then
    if isDone then ((s1.setSx t st SteepX.idle).put (Reg.STEEP_STAT_DONE t st) 1).put (Reg.STEEP_STAT_STATE t st) 0
    else (s1.steepNext t st).steepHaltNow t st
  else if code = 0xFE then s1.steepHaltNow t st
  else if code = 8 then
    let h : HeldOp := { pc := s.get (Reg.STEEP_STAT_PC t st), obj := o.obj, opid := o.opid, epoch := o.epoch }
    ((s1.draw.put (Reg.STEEP_FADDR_ADDR t st) (s1.drawn 48)).setSx t st { s1.sx t st with kept := some h }).steepStop t st 5 value true false
  else s1.steepStop t st 9 code false false
/-- SYNC_WAIT_RESPONSE: the answer of the operation at a place of the list reaches its requester (R382). -/
def execSyncWaitResponse (i : Nat) (s : State) : Host.Outcome State Fault Refusal :=
  match s.sync.ops[i]? with
  | none => .next s
  | some o =>
    match o.phase with
    | .resp code value =>
      let s := s.netSettle
      match o.who with
      | .tile t pc =>
        if o.wait then .next ((s.dropOp o.key).tileAnswer t pc o code)
        else .next ((s.mapOp o.key (fun o => { o with phase := .flight })).answerOp o.key code value)
      | .steeper t st => .next ((s.dropOp o.key).steepAnswer t st o false code value)
      | .done t st => .next ((s.dropOp o.key).steepAnswer t st o true code value)
      | _ => .next (s.answerOp o.key code value)
    | _ => .next s

/-! ### The duplicate window (R387) -/

/-- What a source's window says of an OP_ID. -/
inductive DupRes where
  | fresh | repeated | stale
deriving DecidableEq, Repr
def State.dupCheck (s : State) (src n : Nat) : DupRes :=
  match tfind s.sync.windows src with
  | none => .fresh
  | some w =>
    let d := (n + 2 ^ 32 - w.high) % 2 ^ 32
    if 1 ≤ d ∧ d < 2 ^ 31 then .fresh
    else if (w.high + 2 ^ 32 - n) % 2 ^ 32 < 1024 then (if n ∈ w.marks then .repeated else .fresh)
    else .stale
/-- An OP_ID marked, the window sliding to it where it is newer than HIGH. -/
def State.dupMark (s : State) (src n : Nat) : State :=
  let w := match tfind s.sync.windows src with
    | none => { high := n, marks := [n] }
    | some w =>
      let d := (n + 2 ^ 32 - w.high) % 2 ^ 32
      let h := if 1 ≤ d ∧ d < 2 ^ 31 then n else w.high
      { high := h, marks := n :: w.marks.filter (fun m => decide ((h + 2 ^ 32 - m) % 2 ^ 32 < 1024) && m != n) }
  { s with sync := { s.sync with windows := tinsert s.sync.windows src w } }
/-- A SYNC packet at its target (R387, R388, R513, R520). -/
def State.remoteSync (s : State) (port : Nat) (pk : LinkPacket) : State :=
  let h := pk.header
  let src := hSrc h
  let obj := leAt h 10 3 % 2 ^ 23
  let fn := leAt h 13 1
  let ep := leAt h 14 2
  let n := leAt pk.payload 0 4
  let v := leAt pk.payload 4 8
  let answer (s : State) (c x : Nat) : State := s.sendPacket (response h 5 c (leBytes 8 x)) none
  if !s.ensActive || !s.inActive src || objDev obj != s.ensId then answer s 3 0
  else if ep ≠ s.get Reg.ENS_EPOCH_EPOCH % 65536 then answer s 7 0
  else if fn = 9 then
    match s.sync.ops.find? (fun o => match o.who with | .remote _ g m => hSrc g == src && m == n && hTag g == hTag h | _ => false) with
    | some o =>
      let s1 := if o.phase = .waiter then s.freeWaiter o.key (objNum o.obj) else s
      ((s1.clearMark src n).answerOp o.key 0xFE 0)
    | none => s
  else match s.dupCheck src n with
    | .stale => answer s 6 0
    | .repeated => answer s 0 (s.soVal (objNum obj))
    | .fresh =>
      let key := s.sync.next
      let o : SyncOp := { key := key, who := .remote port h n, obj := obj, wait := fn == 8, fn := fn, v := v, opid := n, epoch := ep,
                          phase := .flight, withdrawn := false }
      let s1 := { s with sync := { s.sync with ops := s.sync.ops ++ [o], next := key + 1 } }
      let bad := if fn = 8 then (match s1.tryWait (objNum obj) v with | .err _ => true | _ => false)
        else (s1.soApply (objNum obj) fn v).2 != 0
      (if bad then s1 else s1.dupMark src n).reach o
/-- A SYNC_RSP at the requester: UNREACHABLE (code 8 on the wire) ends as LINK_LOST (R491). -/
def State.syncRsp (s : State) (p : Nat) (r : TagRec) (pk : LinkPacket) : State :=
  if hStatus pk.header = 8 then s.completeTag p r 3 []
  else s.completeTag p r 0 (padTo 8 pk.payload ++ leBytes 1 (hStatus pk.header))
/-- The answers that have come back to commands are delivered. -/
def State.settleCmds (s : State) : State :=
  s.sync.ops.foldl (fun s o => match o.who, o.phase with
    | .cmd _, .resp c x => s.answerOp o.key c x
    | .matcher _, .resp _ _ => s.dropOp o.key
    | .tile _ _, .resp c x => if o.wait then s else s.answerOp o.key c x
    | _, _ => s) s
/-- Every outstanding remote wait completes with LINK_LOST, and waiter entries held for remote requesters are freed (R502). -/
def State.linkNotice (s : State) : State :=
  let s1 := s.sync.ops.foldl (fun s o => match o.phase with
    | .sent p tag => if o.wait then (match (s.port p).tags.find? (fun r => r.tag == tag) with
        | some r => s.completeTag p r 4 []
        | none => s) else s
    | _ => s) s
  let s2 := s1.sync.ops.foldl (fun s o => match o.who with
    | .remote _ h n => if o.wait then ((s.freeWaiter o.key (objNum o.obj)).clearMark (hSrc h) n).dropOp o.key else s
    | _ => s) s1
  s2.settleCmds.issueSlots

/-! ### The window (R383) -/

/-- An object disabled: its value is zero and its waiters fail with DISABLED_WAIT. -/
def State.soDisable (s : State) (j : Nat) : State :=
  let ws := s.waiterOn j
  let s1 := (s.put (Reg.SO_CFG_EN j) 0).put (Reg.SO_VAL_VALUE j) 0
  ws.foldl (fun s o => (s.freeWaiter o.key j).answerOp o.key 5 0) s1
/-- KIND and PARTIES stored where allowed: KIND 4 to 7 and PARTIES 0 are discarded. -/
def State.soShape (s : State) (j kind parties : Nat) : State :=
  let s1 := if kind ≤ 3 then s.put (Reg.SO_CFG_KIND j) kind else s
  if parties = 0 then s1 else s1.put (Reg.SO_CFG_PARTIES j) parties
/-- SO_CFG written: KIND and PARTIES are read-only where EN was 1. -/
def State.soCfg (s : State) (j w : Nat) : State :=
  let s1 := if bit w 26 then s.put (Reg.SO_CFG_ERR j) 0 else s
  if s1.flag (Reg.SO_CFG_EN j) then (if bit w 31 then s1 else s1.soDisable j)
  else
    let s2 := s1.soShape j (bits w 28 3) (bits w 0 16)
    if bit w 31 then s2.put (Reg.SO_CFG_EN j) 1 else s2
/-- SO_VAL written whole: one operation, discarded with ERR where the object is disabled or the value breaks its kind. -/
def State.soSet (s : State) (j x : Nat) : State :=
  let k := s.get (Reg.SO_CFG_KIND j)
  let ok := if k = 1 then decide (x ≤ 1) else if k = 2 then decide (x % 65536 < s.get (Reg.SO_CFG_PARTIES j))
    else if k = 3 then decide (x < 2 ^ 32) else true
  if s.flag (Reg.SO_CFG_EN j) && ok then (s.put (Reg.SO_VAL_VALUE j) x).testWaiters j else s.put (Reg.SO_CFG_ERR j) 1
/-- SO_OP written. -/
def State.soOp (s : State) (j w : Nat) : State :=
  let r := s.signal j (bits w 0 4) (bits w 4 28)
  if r.2 = 0 then r.1 else s.put (Reg.SO_CFG_ERR j) 1
/-- The low words that a requester has written and the highest word now completes (R401): the words below `hi`, at `addr`. -/
def State.takeHeld (s : State) (req : Requester) (lo hi : Nat) : State × List (Option Nat) :=
  let f (a : Nat) : Option Nat := (s.addr.held.find? (fun h => h.req == req && h.addr == a)).map (fun h => h.word)
  let n := (hi - lo) / 4
  let out := (List.range n).map (fun k => f (lo + 4 * k))
  ({ s with addr := { s.addr with held := s.addr.held.filter (fun h => !(h.req == req && decide (lo ≤ h.addr ∧ h.addr < hi))) } }, out)
/-- A word held for a requester until the highest word is written (R401). -/
def State.hold (s : State) (req : Requester) (a w : Nat) : State :=
  let rest := s.addr.held.filter (fun h => !(h.req == req && h.addr == a))
  { s with addr := { s.addr with held := rest ++ [{ req := req, addr := a, word := w }] } }
/-- SO_VAL_HI written by a requester: the held low word, or the present one, goes with it. -/
def State.soValHi (s : State) (req : Requester) (j w : Nat) : State :=
  let a := 0x2000000 + j * 0x10
  let r := s.takeHeld req (a + 4) (a + 8)
  let lo := ((r.2.getD 0 none).getD (s.soVal j % 2 ^ 32))
  r.1.soSet j (lo + w * 2 ^ 32)
/-- SO_OP_WRITE (R383). -/
def execSoOpWrite (j : Fin 131072) (w : Word) (s : State) : Host.Outcome State Fault Refusal :=
  .next (if s.plinthPowered then s.soOp j.val w.toNat else s)
/-- SO_VAL_WRITE (R383). -/
def execSoValWrite (req : Requester) (j : Fin 131072) (hi : Word) (s : State) : Host.Outcome State Fault Refusal :=
  .next (if s.plinthPowered then s.soValHi req j.val hi.toNat else s)
/-- SO_CFG_WRITE (R378). -/
def execSoCfgWrite (j : Fin 131072) (w : Word) (s : State) : Host.Outcome State Fault Refusal :=
  .next (if s.plinthPowered then s.soCfg j.val w.toNat else s)

/-! ### The commands (Table SYNC-5) -/

/-- SYNC_CONFIG's effect (R392). -/
def syncConfigRun (s : State) (c : Ctx) : State × Ans :=
  let j := objNum (c.at 0 4)
  let k := c.at 5 1
  let p := if k = 2 then c.at 6 2 else 0
  let old := leBytes 4 (s.word (wordsSo j 0))
  if c.at 4 1 = 0 then ((s.soDisable j).soShape j k p, Ans.ok old)
  else if !s.flag (Reg.SO_CFG_EN j) then ((s.soShape j k p).put (Reg.SO_CFG_EN j) 1, Ans.ok old)
  else if s.get (Reg.SO_CFG_KIND j) = k ∧ (k ≠ 2 ∨ s.get (Reg.SO_CFG_PARTIES j) = p) then (s, Ans.ok old)
  else (s, Ans.code 0xE 1)
def syncConfigOp : OpSpec := { plainOp 0x0600 8 syncConfigRun with
  range := fun s c => firstBad [(0, c.at 0 4 < 2 ^ 23 && objDev (c.at 0 4) == s.ensId), (4, c.at 4 1 ≤ 1), (5, c.at 5 1 ≤ 3),
    (6, c.at 5 1 != 2 || c.at 6 2 != 0)] }
/-- SYNC_CONFIG (R392). -/
def execSyncConfig (p : Packet) (s : State) : Host.Outcome State Fault Refusal := serve syncConfigOp p s
/-- SYNC_SIGNAL's effect. -/
def syncSignalRun (s : State) (c : Ctx) : State × Ans :=
  let o := c.at 0 4
  if objDev o = s.ensId then
    let r := s.signal (objNum o) (c.at 4 1) (c.at 8 8)
    (r.1, r.1.syncAns r.2 0 [])
  else
    let r := s.issueSync (.cmd c.p) o false (c.at 4 1) (c.at 8 8) none
    match r.1.op r.2 with
    | some _ => (r.1, Ans.late)
    | none => (r.1, s.syncAns (if s.ensActive && s.inActive (objDev o) && (s.routePort (objDev o)).isSome then 8 else 3)
        ((s.routePort (objDev o)).getD 0) [])
def syncSignalOp : OpSpec := { plainOp 0x0601 16 syncSignalRun with
  range := fun _ c => firstBad [(0, c.at 0 4 < 2 ^ 23), (4, c.at 4 1 ≤ 4)] }
/-- SYNC_SIGNAL (R379). -/
def execSyncSignal (p : Packet) (s : State) : Host.Outcome State Fault Refusal := serve syncSignalOp p s
/-- SYNC_READ's effect: a remote object is read by a peer command to its device (DESIGN CHOICE, log entry 25). -/
def syncReadRun (s : State) (c : Ctx) : State × Ans :=
  let o := c.at 0 4
  let d := objDev o
  if d = s.ensId then
    (s, Ans.ok (leBytes 4 (s.word (wordsSo (objNum o) 0)) ++ leBytes 8 (s.soVal (objNum o)) ++ leBytes 4 (s.waiterOn (objNum o)).length))
  else if !s.ensActive || !s.inActive d then (s, s.syncAns 3 0 [])
  else match s.routePort d with
    | none => (s, s.syncAns 3 0 [])
    | some p =>
      if !s.isUp p then (s, s.syncAns 8 p [])
      else
        let f : FwdCmd := { req := c.p, dst := d, seq := tget 0 s.link.seqs d, port := p }
        let s1 := s.sendPeer d 0x0602 (leBytes 4 o)
        ({ s1 with link := { s1.link with fwd := s1.link.fwd ++ [f] } }, Ans.late)
def syncReadOp : OpSpec := { plainOp 0x0602 4 syncReadRun with
  range := fun _ c => firstBad [(0, c.at 0 4 < 2 ^ 23)] }
/-- SYNC_READ (R392). -/
def execSyncRead (p : Packet) (s : State) : Host.Outcome State Fault Refusal := serve syncReadOp p s
/-- SYNC_WAIT's effect: a wait that holds at once, or cannot be made, is answered at once; else it is PENDING. -/
def syncWaitRun (s : State) (c : Ctx) : State × Ans :=
  let o := c.at 0 4
  if objDev o = s.ensId then
    match s.tryWait (objNum o) (c.at 8 8) with
    | .done s1 x => (s1, Ans.ok (leBytes 8 x))
    | .err e => (s, s.syncAns e 0 [])
    | .hold =>
      let r := s.issueSync (.cmd c.p) o true 0 (c.at 8 8) none
      let s1 := match r.1.op r.2 with | some q => r.1.reach q | none => r.1
      pend s1
  else
    let r := s.issueSync (.cmd c.p) o true 0 (c.at 8 8) none
    match r.1.op r.2 with
    | some _ => pend r.1
    | none => (r.1, s.syncAns (if s.ensActive && s.inActive (objDev o) && (s.routePort (objDev o)).isSome then 8 else 3)
        ((s.routePort (objDev o)).getD 0) [])
def syncWaitOp : OpSpec := { plainOp 0x0603 16 syncWaitRun with
  range := fun _ c => firstBad [(0, c.at 0 4 < 2 ^ 23), (4, 1 ≤ c.at 4 2 && c.at 4 2 ≤ 60000)]
  long := fun _ _ => true }
/-- SYNC_WAIT (R392). -/
def execSyncWait (p : Packet) (s : State) : Host.Outcome State Fault Refusal := serve syncWaitOp p s
/-- SYNC_WAIT_TIMEOUT: a SYNC_WAIT command reaches its TIMEOUT and is withdrawn (R392). -/
def execSyncWaitTimeout (i : Nat) (s : State) : Host.Outcome State Fault Refusal :=
  match s.sync.ops[i]? with
  | none => .next s
  | some o =>
    match o.who with
    | .cmd _ => if o.wait then .next (s.withdrawSync o.key) else .next s
    | _ => .next s

end Sys2Proof.Machine
end

