-- ==== Sys2Proof/Machine/LinkState.lean ====
section
/-! DEFINITION. Lanes leaving and entering alignment, and a Holwell port's training attempts, its coming up and its declaration down
(R457–R459, R494–R499, R507). -/

namespace Sys2Proof.Machine

/-! ### Lanes -/

/-- A lane's record beside its registers. -/
def State.ln (s : State) (l : Nat) : LaneX := s.lanes.getD l LaneX.fresh
def State.setLn (s : State) (l : Nat) (x : LaneX) : State := { s with lanes := s.lanes.set l x }
/-- LN_STAT.STATE: 0 off, 1 signal, 2 CDR, 3 adapting, 4 searching, 5 aligned, 6 holdover, 7 failed. -/
def State.lnState (s : State) (l : Nat) : Nat := s.get (Reg.LN_STAT_STATE l)
/-- The native owner of a quad (Table LANE-1): Holwell, PCIe or Holwell by the strap Q6_SEL, Ethernet. -/
def State.nativeOwner (s : State) (q : Nat) : Nat :=
  if q ≤ 5 then 0 else if q = 6 then (if s.flag Reg.LANE_REF_Q6_SEL then 0 else 1) else 2
/-- QUAD_CFG.OWNER: 0 Holwell, 1 PCIe, 2 Ethernet, 3 test, 4 off. -/
def State.owner (s : State) (q : Nat) : Nat := s.get (Reg.QUAD_CFG_OWNER q)
/-- The rate code of a lane is one of Holwell coding (Table LANE-2). -/
def State.holwellCoded (s : State) (l : Nat) : Bool := 8 ≤ s.get (Reg.QUAD_CFG_RATE (l / 4))
/-- The lane is in use: its quad is not off, and lanes 30 and 31 serve tests alone (Table LANE-1). -/
def State.laneUsed (s : State) (l : Nat) : Bool := s.owner (l / 4) != 4 && (l < 30 || s.owner 7 == 3)
/-- Every exit from STATE 5 sets LOST (R459). -/
def State.leave5 (s : State) (l : Nat) : State := if s.lnState l = 5 then s.put (Reg.LN_STAT_LOST l) 1 else s
/-- A lane off: nothing of its receiver stands. -/
def State.laneOff (s : State) (l : Nat) : State :=
  let s1 := ((s.leave5 l).put (Reg.LN_STAT_STATE l) 0).put (Reg.LN_STAT_SIG l) 0
  ((((s1.put (Reg.LN_STAT_CDR l) 0).put (Reg.LN_STAT_MARK l) 0).put (Reg.LN_STAT_MARK_INV l) 0).put (Reg.LN_STAT_COMMA l) 0).setLn l
    { s1.ln l with fast := false, trains := 0, slips := 0, sighted := false, confirm := false, lows := 0 }
/-- Training from STATE 1 (R457): `fast` for a retrain, which keeps CTLE, DFE and the held boundary (R496). A signal detected stays so. Any
other training resets the lane's transmitter (R454, log entry 94). -/
def State.laneTrain (s : State) (l : Nat) (fast : Bool) : State :=
  if !s.laneUsed l then s.laneOff l
  else
    let s1 := ((s.leave5 l).put (Reg.LN_STAT_STATE l) 1).put (Reg.LN_STAT_CDR l) 0
    (((s1.put (Reg.LN_STAT_MARK l) 0).put (Reg.LN_STAT_MARK_INV l) 0).put (Reg.LN_STAT_COMMA l) 0).setLn l
      { s1.ln l with fast := fast, trains := 0, slips := 0, sighted := false, confirm := false, lows := 0, startAt := s1.time.up,
                     tx := if fast then (s1.ln l).tx else LaneTx.fresh }
/-- The lanes of a quad. -/
def quadLanes (q : Nat) : List Nat := [4 * q, 4 * q + 1, 4 * q + 2, 4 * q + 3]
/-- Every lane of a quad trains. -/
def State.quadTrain (s : State) (q : Nat) (fast : Bool) : State := (quadLanes q).foldl (fun s l => s.laneTrain l fast) s
/-- A quad's PLL locks where its reference is within limits and the quad is not off (R449, R470). -/
def State.quadPll (s : State) (q : Nat) : State :=
  let ok := if s.get (Reg.QUAD_CFG_REF q) = 0 then s.flag Reg.LANE_REF_LREF0_OK else s.flag Reg.LANE_REF_LREF1_OK
  s.setFlag (Reg.QUAD_CFG_PLL_LOCK q) (ok && s.owner q != 4)

/-! ### Training attempts (R494–R497) -/

/-- The link may train: the quad's owner is Holwell and the port is not held in ADMIN. -/
def State.linkMay (s : State) (p : Nat) : Bool := s.owner p == 0 && !s.flag (Reg.HL_CTRL_ADMIN p)
/-- A training attempt starts (R495); it takes the fast path where the port has been UP or PARKED within the last 1 s and FULL is not
set (R496). -/
def State.attempt (s : State) (p : Nat) : State :=
  let x := s.port p
  let recent := match x.lastUp with
    | some t => decide (s.time.up - t ≤ unitSec)
    | none => false
  let fast := !x.full && (recent || s.hlState p == 4)
  let s1 := ((s.put (Reg.HL_STAT_STATE p) 1).put (Reg.HL_STAT_WIDTH p) 0).bumpWrap (Reg.HL_DOWNS_ATTEMPTS p) 1
  ((s1.setFlag (Reg.HL_STAT_FAST p) fast).setPort p { x with partner := [], readyW := 0 }).quadTrain p fast
/-- The lanes of a port whose receivers are aligned, as MASK (Table HOL-8). -/
def State.alignMask (s : State) (p : Nat) : Nat :=
  (List.range 4).foldl (fun m k => m + (if s.lnState (4 * p + k) = 5 then 2 ^ k else 0)) 0
/-- Each lane has aligned or has failed; one without a signal counts as failed, and on the fast path one that waits for TRAIN flits at
its held boundary does not hold them back (R495, R496; DEDUCED, log entry 50). -/
def State.settled (s : State) (p : Nat) : Bool :=
  (quadLanes p).all (fun l => s.lnState l == 5 || s.lnState l == 7 || !s.flag (Reg.LN_STAT_SIG l) || ((s.ln l).fast && s.lnState l == 4))
/-- Every lane has finished on its part of the attempt, so that W can be agreed. -/
def State.lanesDone (s : State) (p : Nat) : Bool :=
  (quadLanes p).all (fun l => s.lnState l == 5 || s.lnState l == 7 || !s.flag (Reg.LN_STAT_SIG l))
/-- W: the largest of 4, 2 and 1 whose lanes are in both masks, 0 for none. -/
def widthOf (a b : Nat) : Nat :=
  let m := a &&& b
  if m % 16 = 15 then 4 else if m % 4 = 3 then 2 else if m % 2 = 1 then 1 else 0
/-- A TRAIN flit of a lane (Table HOL-8). -/
def State.trainPayload (s : State) (p k mask w : Nat) : List Byte :=
  leBytes 1 s.ensId ++ leBytes 1 p ++ leBytes 1 k ++ leBytes 1 (mask + 16 * w + (if w = 0 then 0 else 128)) ++
    leBytes 2 (s.get (Reg.HL_EPOCH_EPOCH p)) ++ leBytes 2 (s.port p).tcount ++ offerBytes ++ zeros 10
/-- One slot of TRAIN flits, on every lane whose transmitter is enabled, READY where W is found (R495). -/
def State.trainSlot (s : State) (p : Nat) : State :=
  if s.hlState p = 1 ∧ s.settled p then
    let x := s.port p
    let m := s.alignMask p
    let w := if x.partner = [] ∨ !s.lanesDone p then 0 else widthOf m (leAt x.partner 3 1)
    let ks := (List.range 4).filter (fun k => !s.flag (Reg.LN_CTRL_TX_IDLE (4 * p + k)))
    let fl := ks.map (fun k => flit 6 0 0 0 (s.trainPayload p k m w))
    (s.setPort p { x with readyW := w, tcount := (x.tcount + 1) % 65536, wire := x.wire ++ fl }).lineOut p fl.length true
  else s

/-! ### Down (R497–R499) -/

/-- What a declaration down does at its instant (R499): tags and peer commands complete with LINK_LOST, buffers and queued packets go,
queued requests of others are answered UNREACHABLE; it is counted and logged with its reason, and the accord is told (R528). -/
def State.linkDrop (s : State) (p reason : Nat) : State :=
  let lost := (s.port p).tags.length
  let s1 := s.loseTags p
  let fw := s1.link.fwd.filter (fun f => f.port == p)
  let s2 := { s1 with link := { s1.link with fwd := s1.link.fwd.filter (fun f => f.port != p) } }
  let s3 := fw.foldl (fun s f => s.completeReq f.req (Ans.code 8 p)) s2
  let x := s3.port p
  let up := if s3.isUp p then some s3.time.up else x.lastUp
  let reqs := (x.txq.map (fun q => q.pk)).filter (fun k => isRequest k.header && hSrc k.header != s3.ensId)
  let s4 := s3.setPort p { x with txq := [], replay := [], credits := [], waits := [], rounds := 0, accepted := 0, owed := [],
                                  nakked := false, rxPart := [], rxq := [], lastUp := up, attempts := 0 }
  let s5 := (((s4.put (Reg.HL_STAT_STATE p) 3).put (Reg.HL_STAT_WIDTH p) 0).put (Reg.HL_STAT_DOWNED p) 1).put (Reg.HL_DOWN_WHY_REASON p) reason
  let s6 := (s5.bumpWrap (Reg.HL_DOWNS_DOWNS p) 1).logEvent 0x0B09 p (leBytes 1 reason ++ leBytes 2 lost)
  let s7 := reqs.foldl (fun s k => s.sendPacket (unreachable k.header) none) s6
  (s7.sendNotice p).linkNotice
/-- A link declared down: ADMIN and PARK hold the port there, three failed attempts leave it DOWN, and every other declaration is
followed at once by an attempt (R497, R498). -/
def State.linkDown (s : State) (p reason : Nat) : State :=
  let s1 := s.linkDrop p reason
  if s1.flag (Reg.HL_CTRL_ADMIN p) then s1.put (Reg.HL_STAT_STATE p) 5
  else if reason = 5 then
    (s1.setPort p { s1.port p with lastUp := some s1.time.up }).put (Reg.HL_STAT_STATE p) 4
  else if reason = 6 then s1.setPort p { s1.port p with attempts := 3 }
  else s1.attempt p
/-- A lane that leaves STATE 5 for training: where it carries an UP port's data, the link is declared down (R497). -/
def State.laneLost (s : State) (l : Nat) : State :=
  let p := l / 4
  if p < 7 ∧ s.owner p = 0 ∧ s.isUp p ∧ l % 4 < s.hlWidth p then s.linkDown p 1 else s
/-- HLINK_RETRAIN's results: HL_STAT and HL_EPOCH. -/
def State.retrainBytes (s : State) (p : Nat) : List Byte :=
  leBytes 4 (s.word (wordsHlink (0x104 + p * 0x40))) ++ leBytes 4 (s.word (wordsHlink (0x108 + p * 0x40)))
/-- HLINK_RETRAIN requests of a port, answered. -/
def State.retrainDone (s : State) (p : Nat) (ok : Bool) : State :=
  let l := (s.cmd.longOps.map (fun o => o.req)).filter (fun q => q.opcode == 0x0B12 && leAt q.payload 0 1 == p)
  l.foldl (fun s q => s.completeReq q (if ok then Ans.ok (s.retrainBytes p) else Ans.code 0xC 0)) s
/-- An attempt fails (R495, R497): up to three back to back, then the port is DOWN. -/
def State.attemptFails (s : State) (p : Nat) : State :=
  let x := s.port p
  let n := x.attempts + 1
  if n < 3 then (s.setPort p { x with attempts := n }).attempt p
  else if n = 3 then (s.linkDown p 6).retrainDone p false
  else s.put (Reg.HL_STAT_STATE p) 3

/-! ### Up (R492, R495, R507) -/

/-- What a port joins at its partner (Table ENS-1): device and port, none where the shape gives the port no link. -/
def State.wiring (s : State) (p : Nat) : Option (Nat × Nat) :=
  let X := s.get Reg.ENS_SHAPE_X
  let Y := s.get Reg.ENS_SHAPE_Y
  let Z := s.get Reg.ENS_SHAPE_Z
  let n := s.get Reg.ENS_SHAPE_N
  let i := s.ensId
  let a := s.coord i
  let at_ (x y z : Nat) : Nat := x + X * (y + Y * z)
  if n = 0 then none
  else if p = 0 then some ((i + 1) % n, 1)
  else if p = 1 then some ((i + n - 1) % n, 0)
  else if p = 2 then some (at_ a.1 ((a.2.1 + 1) % Y) a.2.2, 3)
  else if p = 3 then some (at_ a.1 ((a.2.1 + Y - 1) % Y) a.2.2, 2)
  else if p = 4 then some (at_ a.1 a.2.1 ((a.2.2 + 1) % Z), 5)
  else if p = 5 then some (at_ a.1 a.2.1 ((a.2.2 + Z - 1) % Z), 4)
  else none
/-- When a port first reaches UP, its partner's markers must name what Table ENS-1 gives; a port that does not match is held in ADMIN
(R507). Markers of lane 0 are taken. -/
def State.wireCheck (s : State) (p : Nat) : State :=
  let x := s.port p
  match s.wiring p with
  | none => s
  | some (d, q) =>
    if x.checked then s
    else
      let s1 := s.setPort p { x with checked := true }
      let i := s.get (Reg.LN_STAT_REM_ID (4 * p))
      let k := s.get (Reg.LN_STAT_REM_PORT (4 * p))
      if i = d ∧ k = q then s1
      else ((s1.put (Reg.HL_CTRL_ADMIN p) 1).logEvent 0x0601 p (leBytes 1 i ++ leBytes 1 k)).linkDown p 4
/-- Both ends hold READY with the same W: the port enters UP (R492, R495). -/
def State.linkUp (s : State) (p w : Nat) : State :=
  let x := s.port p
  let f := x.partner
  let e := (max (s.get (Reg.HL_EPOCH_EPOCH p)) (leAt f 4 2) + 1) % 65536
  let cr := (List.range 10).foldl (fun t k => tput 0 t k (leAt f (8 + k) 1)) ([] : Tab Nat)
  let s1 := (((s.put (Reg.HL_STAT_STATE p) 2).put (Reg.HL_STAT_WIDTH p) w).put (Reg.HL_STAT_PEER_ID p) (leAt f 0 1 % 64)).put
    (Reg.HL_STAT_PEER_PORT p) (leAt f 1 1 % 8)
  let s2 := (s1.put (Reg.HL_EPOCH_EPOCH p) e).setPort p
    { x with credits := cr, txSeq := 0, rxSeq := 0, accepted := 0, rounds := 0, attempts := 0, full := false, nakked := false, owed := [],
             waits := [], replay := [], txq := [], rxPart := [], rxq := [] }
  let s3 := (s2.logEvent 0x0B08 p (leBytes 1 w ++ leBytes 2 e)).retrainDone p true
  ((s3.sendNotice p).wireCheck p).issueSlots
/-- A TRAIN flit taken in TRAINING: what the partner offers, W, READY, and UP (R495). -/
def State.trainTake (s : State) (p : Nat) (pay : List Byte) : State :=
  let s1 := (s.setPort p { s.port p with partner := pay }).trainSlot p
  let w := (s1.port p).readyW
  if w ≠ 0 ∧ bit (leAt pay 3 1) 7 ∧ bits (leAt pay 3 1) 4 3 = w then s1.linkUp p w else s1

/-! ### Aligned -/

/-- LANE_ALIGN requests of a lane, answered with LN_STAT and LN_ALIGN. -/
def State.alignDone (s : State) (l : Nat) : State :=
  let q := (s.cmd.longOps.map (fun o => o.req)).filter (fun q => q.opcode == 0x0B04 && leAt q.payload 0 1 == l)
  let a := 0x100 + l * 0x40
  q.foldl (fun s q => s.completeReq q (Ans.ok (leBytes 4 (s.word (wordsLane (a + 4))) ++ leBytes 4 (s.word (wordsLane (a + 0x1C)))))) s
/-- A lane reaches STATE 5: LN_ALIGN shows how long training took and the slips of the search, and a port in TRAINING goes on. -/
def State.lane5 (s : State) (l : Nat) (confirm : Bool) : State :=
  let x := s.ln l
  let s1 := ((s.put (Reg.LN_STAT_STATE l) 5).put (Reg.LN_ALIGN_US l) ((s.time.up - x.startAt) / (1000 * unitNs))).put
    (Reg.LN_ALIGN_SLIPS l) x.slips
  let s2 := (s1.setLn l { x with fast := false, trains := 0, sighted := false, confirm := confirm, lows := 0 }).alignDone l
  if l < 28 ∧ s2.owner (l / 4) = 0 then s2.trainSlot (l / 4) else s2
/-- A lane fails. -/
def State.lane7 (s : State) (l : Nat) : State :=
  let s1 := (s.put (Reg.LN_STAT_STATE l) 7).setLn l { s.ln l with fast := false, sighted := false }
  if l < 28 ∧ s1.owner (l / 4) = 0 then s1.trainSlot (l / 4) else s1

end Sys2Proof.Machine
end

