-- ==== Sys2Proof/Machine/System.lean ====
section
/-! DEFINITION. The system commands of Table CMD-9 (PEEK and POKE stand in Csr.lean) and the events of the transports: sessions,
chains, MCTP control, the SPI target port and the PCIe mailbox (chapter 2). -/

namespace Sys2Proof.Machine

def echoOp : OpSpec := { plainOp 0x0100 0 (fun s c => (s, Ans.ok c.data)) with
  expect := 0xFFFF
  lenOk := fun b => b.length ≤ 4060 }
/-- ECHO (R66): the payload unchanged. -/
def execEcho (p : Packet) (s : State) : Host.Outcome State Fault Refusal := serve echoOp p s

/-- GET_INFO.TRANSPORT (Table CMD-9). -/
def transportCode : Transport → Nat
  | .pcie => 0 | .spi => 1 | .smbus => 2 | .i3c => 3 | .holwell _ => 4 | .fabric _ => 5
/-- The sixteen bytes of GET_INFO (Table CMD-9). -/
def State.infoBytes (s : State) (v : Transport) : List Byte :=
  leBytes 4 (s.get Reg.SYS_ID_PART * 65536 + s.get Reg.SYS_ID_STEP) ++
  leBytes 1 Config.fwVersion.1 ++ leBytes 1 Config.fwVersion.2.1 ++ leBytes 2 Config.fwVersion.2.2 ++
  leBytes 1 (b2n (!s.stewardUp)) ++ leBytes 1 s.cur ++ leBytes 1 (s.get Reg.SYS_STRAP_ENS_ID) ++
  leBytes 1 s.cmd.sessions.length ++ leBytes 2 4064 ++ leBytes 1 (transportCode v) ++ leBytes 1 0
def getInfoOp : OpSpec := plainOp 0x0101 0 (fun s c => (s, Ans.ok (s.infoBytes c.p.via)))
/-- GET_INFO (R66). -/
def execGetInfo (p : Packet) (s : State) : Host.Outcome State Fault Refusal := serve getInfoOp p s

/-- The root key of a role (R45): none where blank; the fabric has none. -/
def State.rootKey (s : State) (role : Nat) : List Byte :=
  if role = 0 then s.cmd.hostKey else if role = 1 then s.cmd.mgrKey else if role = 2 then s.cmd.ensKey else []
/-- The session numbers not open. -/
def State.freeSessions (s : State) : List Nat :=
  (List.range 255).map (· + 1) |>.filter (fun n => !s.cmd.sessions.any (fun x => x.num == n))
/-- The delay until the session whose last verified packet is oldest reaches the idle limit of 10 minutes, in ms (R661). -/
def State.sessionDelay (s : State) : Nat :=
  let oldest := s.cmd.sessions.foldl (fun m x => min m x.verified) s.time.up
  satU 16 ((oldest + 600 * unitSec - s.time.up) / (unitSec / 1000))
/-- SESSION_OPEN's effect (R46, R50): a free number, a device nonce drawn (both free values), the session key derived. -/
def sessionOpenRun (s : State) (c : Ctx) : State × Ans :=
  let root := s.rootKey c.role
  if c.p.session ≠ 0 then (s, Ans.code 5 5)
  else if root = [] then (s, Ans.code 5 3)
  else if 8 ≤ s.cmd.sessions.length then (s, Ans.code 6 s.sessionDelay)
  else
    let fr := s.freeSessions
    let n := fr.getD (s.drawn 8 % fr.length) 1
    let nonce := s.draw.drawnBytes 16
    let key := hmac root ([0x4D, 0x37, 0x53, 0x4B] ++ slice c.data 0 16 ++ nonce ++ leBytes 1 n)
    let x : Session := { num := n, role := c.role, key := key, started := false, last := 0, fails := 0, verified := s.time.up }
    (s.draw.draw.putSession x, Ans.ok (leBytes 1 n ++ zeros 3 ++ nonce))
def sessionOpenOp : OpSpec := plainOp 0x0102 16 sessionOpenRun
/-- SESSION_OPEN (R46). -/
def execSessionOpen (p : Packet) (s : State) : Host.Outcome State Fault Refusal := serve sessionOpenOp p s

def sessionCloseOp : OpSpec := { plainOp 0x0103 0 (fun s _ => (s, Ans.ok [])) with auth := fun _ _ => true }
/-- SESSION_CLOSE (R50): `finish` closes the session after its reply is built. -/
def execSessionClose (p : Packet) (s : State) : Host.Outcome State Fault Refusal := serve sessionCloseOp p s

/-- The record of a SEQ in a stream. -/
def Stream.recorded (t : Stream) (q : Nat) : Option Record := t.recs.find? (fun r => r.seq == q)
/-- CMD_POLL's effect (R41): the recorded status word and results. -/
def cmdPollRun (s : State) (c : Ctx) : State × Ans :=
  match (s.stream c.p.stream).recorded (c.at 0 2) with
  | some r => (s, Ans.ok (r.reply.payload.take 4060))
  | none => (s, Ans.code 7 0)
def cmdPollOp : OpSpec := { plainOp 0x0104 4 cmdPollRun with
  range := fun s c => if ((s.stream c.p.stream).recorded (c.at 0 2)).isSome then none else some 0 }
/-- CMD_POLL (R41). -/
def execCmdPoll (p : Packet) (s : State) : Host.Outcome State Fault Refusal := serve cmdPollOp p s

/-- KEY_PROVISION's effect (Table CMD-9, R48): under AUTH the sealed key, else the key in clear followed by zeros. -/
def keyProvisionRun (s : State) (c : Ctx) : State × Ans :=
  let f := slice c.data 4 48
  let put (k : List Byte) : State × Ans :=
    if c.at 0 1 = 0 then ({ s with cmd := { s.cmd with hostKey := k } }.persist .hostKey, Ans.ok [])
    else ({ s with cmd := { s.cmd with mgrKey := k } }.persist .mgrKey, Ans.ok [])
  if c.auth then
    match c.unseal f with
    | some k => put k
    | none => (s, Ans.code 5 4)
  else put (f.take 32)
/-- Its checks. DESIGN CHOICE (log entry 81): a key in clear that is not followed by zeros is refused at the first byte that must be
zero, payload offset 36. -/
def keyProvisionOp : OpSpec := { plainOp 0x0105 52 keyProvisionRun with
  auth := fun s c => s.rootKey (c.at 0 1) != []
  range := fun _ c => firstBad [(0, c.at 0 1 ≤ 1), (36, c.auth || allZero (slice c.data 36 16))] }
/-- KEY_PROVISION (R66). -/
def execKeyProvision (p : Packet) (s : State) : Host.Outcome State Fault Refusal := serve keyProvisionOp p s

/-! ### Timeouts -/

/-- SESSION_IDLE_TIMEOUT: a session without a verified packet for 10 minutes closes (R50). -/
def execSessionIdleTimeout (n : Fin 256) (s : State) : Host.Outcome State Fault Refusal :=
  if s.kettleOn then .next (s.closeSession n).settleCastChain else .next s
/-- CHAIN_TIMEOUT: 1 s between two packets of a chain abandons it (R39). -/
def execChainTimeout (st : StreamId) (s : State) : Host.Outcome State Fault Refusal :=
  let t := s.stream st
  match t.chain with
  | some ch => .next (s.putStream { t with chain := some { ch with dead := true } }).settleCastChain
  | none => .next s
/-- MCTP_MESSAGE_TIMEOUT: a message not complete within 100 ms is discarded, without reply, and counted (R55, Table CMD-5). What has come of
it is no packet and stands in no state. -/
def execMctpMessageTimeout (s : State) : Host.Outcome State Fault Refusal :=
  .next (if s.plinthPowered then s.bumpSat Reg.CMD_DROPS_COUNT 1 else s)

/-! ### The management port -/

/-- A response on the management port, which answers in every state but OFF. -/
def State.mctpSay (s : State) (o : MctpOut) : State :=
  if s.kettleOn then { s with cmd := { s.cmd with mctpOut := s.cmd.mctpOut ++ [o] } } else s
/-- SET_ENDPOINT_ID (R55). PRESUMED from the MCTP base specification: 0x00 and 0xFF are no endpoint IDs and are refused. -/
def execSetEndpointId (eid : Byte) (s : State) : Host.Outcome State Fault Refusal :=
  if eid = 0 ∨ eid = 0xFF then .next (s.mctpSay (.setEid 2 s.cmd.eid))
  else if s.kettleOn then .next (({ s with cmd := { s.cmd with eid := eid } }).mctpSay (.setEid 0 eid))
  else .next s
/-- GET_ENDPOINT_ID (R55). -/
def execGetEndpointId (s : State) : Host.Outcome State Fault Refusal := .next (s.mctpSay (.getEid s.cmd.eid))
/-- GET_MCTP_VERSION_SUPPORT (R55). The versions are not stated: a free value. -/
def execGetMctpVersionSupport (msgType : Byte) (s : State) : Host.Outcome State Fault Refusal :=
  .next (s.draw.mctpSay (.versions msgType 0 [s.drawn 32]))
/-- GET_MESSAGE_TYPE_SUPPORT (R55): type 0x7E. -/
def execGetMessageTypeSupport (s : State) : Host.Outcome State Fault Refusal := .next (s.mctpSay (.types [0x7E]))
/-- ENTDAA (R55): the dynamic address is assigned. -/
def execEntdaa (addr : BitVec 7) (s : State) : Host.Outcome State Fault Refusal :=
  if s.kettleOn then .next { s with cmd := { s.cmd with i3cAddr := some addr } } else .next s

/-! ### The SPI target port -/

/-- A WRITE_PACKET discarded: ERR, and counted as every packet discarded without reply (Tables CMD-5, CMD-6). -/
def State.spiDrop (s : State) : State := { s with cmd := { s.cmd with spiErr := true } }.bumpSat Reg.CMD_DROPS_COUNT 1
/-- WRITE_PACKET (R54): discarded with ERR while both buffers are full or where fewer than 16 bytes came; ERR tells of the last one
(Table CMD-6). The port is closed while the steward does not answer (R59). -/
def execWritePacket (bytes : List Byte) (s : State) : Host.Outcome State Fault Refusal :=
  if !s.stewardUp then .next s
  else match packetOf .spi bytes with
    | some p =>
      if s.cmd.spiReq.length < 2 then .next { s with cmd := { s.cmd with spiReq := s.cmd.spiReq ++ [p], spiErr := false } }
      else .next s.spiDrop
    | none => .next s.spiDrop
/-- READ_REPLY (R54): the oldest undelivered reply, 0x00 0x00 if none; removed where SPIT_CS_N rose after its last byte. -/
def execReadReply (whole : Bool) (s : State) : Host.Outcome State Fault Refusal :=
  if !s.stewardUp then .next { s with cmd := { s.cmd with spiOut := [] } }
  else match s.cmd.spiRpl with
    | [] => .next { s with cmd := { s.cmd with spiOut := [0, 0] } }
    | r :: rs => .next { s with cmd := { s.cmd with spiOut := r.bytes, spiRpl := if whole then rs else r :: rs } }.spiPlace
/-- SPIT_IRQ_N: low while RPL_READY is 1 (R54). -/
def State.spitIrqN (s : State) : Bool := s.cmd.spiRpl == []
/-- The status byte of READ_STATUS (Table CMD-6). -/
def State.spiStatus (s : State) : Nat :=
  8 * b2n s.cmd.spiErr + 4 * b2n (!s.stewardUp) + 2 * b2n (decide (s.cmd.spiReq.length < 2)) + b2n (s.cmd.spiRpl != [])
/-- READ_STATUS (R53): the status byte, ERR cleared. -/
def execReadStatus (s : State) : Host.Outcome State Fault Refusal :=
  if !s.stewardUp then .next { s with cmd := { s.cmd with spiOut := [] } }
  else .next { s with cmd := { s.cmd with spiOut := leBytes 1 s.spiStatus, spiErr := false } }

/-! ### The PCIe mailbox -/

/-- A TAIL written (R51): ignored and counted where it runs more than 8 ahead of HEAD; the packets placed wait in the ring. In
IDLE the doorbell is a wake (R74); in DOZE it is held (R59). -/
def State.doorbell (s : State) (tail : Nat) (placed : List Packet) : State :=
  if !s.plinthPowered then s
  else if (tail + 65536 - s.get Reg.MBX_REQ_HEAD_HEAD) % 65536 > 8 then s.bumpSat Reg.CMD_DROPS_COUNT 1
  else
    let n := (tail + 65536 - s.get Reg.MBX_REQ_TAIL_TAIL) % 65536
    let ps := (placed.take n).map (fun p => { p with via := .pcie })
    (({ s with cmd := { s.cmd with mbxReq := s.cmd.mbxReq ++ ps } }).put Reg.MBX_REQ_TAIL_TAIL tail).leaveIdle
/-- MBX_DOORBELL (R51). -/
def execMbxDoorbell (tail : BitVec 16) (placed : List Packet) (s : State) : Host.Outcome State Fault Refusal :=
  .next (s.doorbell tail.toNat placed)
/-- MBX_RPL_HEAD written (R52): the replies before it are consumed, and waiting ones take their slots. -/
def State.rplHead (s : State) (head : Nat) : State :=
  if !s.plinthPowered then s
  else
    let n := (head + 65536 - s.get Reg.MBX_RPL_HEAD_HEAD) % 65536
    (({ s with cmd := { s.cmd with mbxRing := s.cmd.mbxRing.drop n } }).put Reg.MBX_RPL_HEAD_HEAD head).mbxPlace
/-- MBX_RPL_HEAD_WRITE (R52). -/
def execMbxRplHeadWrite (head : BitVec 16) (s : State) : Host.Outcome State Fault Refusal := .next (s.rplHead head.toNat)
/-- MBX_CTRL written (Table CMD-5): the RW fields, then RESET: both rings empty, all four indices zero, the PCIe streams ended, the
completion replies of pending operations discarded. -/
def State.mbxCtrl (s : State) (w : Nat) : State :=
  if !s.plinthPowered then s
  else
    let s1 := (s.put Reg.MBX_CTRL_IRQ_EN (bits w 2 1)).put Reg.MBX_CTRL_ENABLE (bits w 0 1)
    if bit w 1 then
      let ops := s1.cmd.longOps.map (fun o => if o.req.via == .pcie then { o with silent := true } else o)
      let sts := s1.cmd.streams.filter (fun t => t.id.via != .pcie)
      let c := { s1.cmd with mbxReq := [], mbxRing := [], mbxWait := [], streams := sts, longOps := ops }
      ((((({ s1 with cmd := c }).put Reg.MBX_REQ_TAIL_TAIL 0).put Reg.MBX_REQ_HEAD_HEAD 0).put Reg.MBX_RPL_TAIL_TAIL 0).put
        Reg.MBX_RPL_HEAD_HEAD 0).setFlag Reg.MBX_STATUS_HELD false |>.settleCastChain
    else s1
/-- MBX_RESET: a write of MBX_CTRL (R51). -/
def execMbxReset (w : Word) (s : State) : Host.Outcome State Fault Refusal := .next (s.mbxCtrl w.toNat)

end Sys2Proof.Machine
end

