-- ==== Sys2Proof/Machine/Lanes.lean ====
section
/-! DEFINITION. Serial lanes: training, the boundary search, markers, holdover, EYEQ, references, the PCIe reset, and the lane commands
(chapter 18). -/

namespace Sys2Proof.Machine

/-! ### The commands (Table LANE-9) -/

/-- Table LANE-2: the reference of a rate code, none for a code not in it. -/
def rateRef (r : Nat) : Option Nat :=
  if r = 0 ∨ r = 2 ∨ r = 4 ∨ (8 ≤ r ∧ r ≤ 13) then some 1 else if r = 1 ∨ r = 3 then some 0 else none
/-- The first field of LANE_CONFIG that Table LANE-1 or Table LANE-2 refuses (R450). -/
def State.laneConfigBad (s : State) (c : Ctx) : Option Nat :=
  let q := c.at 0 1
  let o := c.at 1 1
  let r := c.at 2 1
  let f := c.at 3 1
  let pcie := q == 6 && s.nativeOwner 6 == 1
  let rateOk : Bool := if pcie then r == 0 else if o = 0 then (if q = 7 then r == 0 || r == 2 else decide (8 ≤ r ∧ r ≤ 13))
    else (rateRef r).isSome
  let refOk : Bool := if pcie then f == 0 else if o = 0 then f == 1 else rateRef r == some f
  firstBad [(0, q ≤ 7), (1, o == 0 || ((o == 3 || o == 4) && !pcie)), (2, rateOk), (3, refOk), (4, c.at 4 1 ≤ 3)]
/-- A quad takes an owner, a rate and a reference; a change restarts the training of its lanes, and a loopback or pattern of a test ends
with the test owner (R450, R463). The PCIe endpoint sets its own rate, 2.5 GT/s from LREFCLK0 first. -/
def State.setQuad (s : State) (q owner rate ref : Nat) : State :=
  let same := s.owner q = owner ∧ s.get (Reg.QUAD_CFG_RATE q) = rate ∧ s.get (Reg.QUAD_CFG_REF q) = ref
  if same then s
  else
    let s1 := (((s.put (Reg.QUAD_CFG_OWNER q) owner).put (Reg.QUAD_CFG_RATE q) rate).put (Reg.QUAD_CFG_REF q) ref).quadPll q
    let s2 := if owner = 3 then s1
      else (quadLanes q).foldl (fun s l => ((((s.put (Reg.LN_CTRL_LB l) 0).put (Reg.LN_PRBS_GEN l) 0).put (Reg.LN_PRBS_CHK l) 0).put
        (Reg.LN_PRBS_CHK_LOCK l) 0)) s1
    if q < 7 ∧ owner = 0 then
      if s2.linkMay q then (s2.setPort q { s2.port q with lastUp := none }).attempt q
      else (s2.quadTrain q false).put (Reg.HL_STAT_STATE q) 5
    else
      let s3 := s2.quadTrain q false
      if q < 7 then (s3.put (Reg.HL_STAT_STATE q) 0).put (Reg.HL_STAT_WIDTH q) 0 else s3
def laneConfigRun (s : State) (c : Ctx) : State × Ans :=
  let q := c.at 0 1
  let old := Ans.ok (leBytes 4 (s.word (wordsLane (0x10 + 4 * q))))
  if q < 7 ∧ s.isUp q then (s, Ans.code 0xE 2)
  else if s.opOn 0x0B04 (fun r => leAt r.payload 0 1 / 4 == q) then busy s
  else
    let o := if c.at 1 1 = 0 then s.nativeOwner q else c.at 1 1
    let rate := if o = 1 then (if s.owner q = 1 then s.get (Reg.QUAD_CFG_RATE q) else 1) else c.at 2 1
    let s1 := s.setQuad q o rate (c.at 3 1)
    if q = 7 then
      ((s1.setLn 28 { s1.ln 28 with baseX := bit (c.at 4 1) 0 }).setLn 29 { s1.ln 29 with baseX := bit (c.at 4 1) 1 }, old)
    else (s1, old)
def laneConfigOp : OpSpec := { plainOp 0x0B00 8 laneConfigRun with
  roles := [0, 1]
  range := fun s c => s.laneConfigBad c }
/-- LANE_CONFIG (R450, R472). -/
def execLaneConfig (p : Packet) (s : State) : Host.Outcome State Fault Refusal := serve laneConfigOp p s

/-- The RC fields of a lane cleared. -/
def State.laneClear (s : State) (l : Nat) : State :=
  ((s.put (Reg.LN_ERR_CODE l) 0).put (Reg.LN_ERR_MARKER l) 0).put (Reg.LN_PRBS_ERR_COUNT l) 0
def laneStatusRun (s : State) (c : Ctx) : State × Ans :=
  let l := c.at 0 1
  let a := 0x100 + l * 0x40
  let ws := s.word (wordsLane (0x10 + 4 * (l / 4))) :: (List.range 8).map (fun k => s.word (wordsLane (a + 4 * k)))
  (if c.at 1 1 = 1 then s.laneClear l else s, Ans.ok (wordBytes ws))
def laneStatusOp : OpSpec := { plainOp 0x0B01 4 laneStatusRun with
  range := fun _ c => firstBad [(0, c.at 0 1 ≤ 31), (1, c.at 1 1 ≤ 1)] }
/-- LANE_STATUS (R473). -/
def execLaneStatus (p : Packet) (s : State) : Host.Outcome State Fault Refusal := serve laneStatusOp p s

/-- LANE_TXEQ's effect (R462): PCIe and Ethernet owners set their transmitters themselves. -/
def laneTxeqRun (s : State) (c : Ctx) : State × Ans :=
  let l := c.at 0 1
  let o := s.owner (l / 4)
  if o = 1 ∨ o = 2 then (s, Ans.code 0xE 1)
  else
    (((s.put (Reg.LN_TXEQ_PRE l) (c.at 1 1)).put (Reg.LN_TXEQ_POST l) (c.at 2 1)).put (Reg.LN_TXEQ_SWING l) (c.at 3 1),
      Ans.ok (leBytes 4 (s.word (wordsLane (0x110 + l * 0x40)))))
def laneTxeqOp : OpSpec := { plainOp 0x0B02 4 laneTxeqRun with
  roles := [0, 1]
  range := fun _ c => firstBad [(0, c.at 0 1 ≤ 31), (1, c.at 1 1 ≤ 15),
    (2, c.at 2 1 ≤ 31 && c.at 1 1 + c.at 2 1 + 16 ≤ 63), (3, c.at 3 1 ≤ 15)] }
/-- LANE_TXEQ (R462). -/
def execLaneTxeq (p : Packet) (s : State) : Host.Outcome State Fault Refusal := serve laneTxeqOp p s

/-- LB and PRBS set on a test lane (R463, R464); a checker switched off holds no lock. -/
def State.setTest (s : State) (l lb prbs : Nat) : State :=
  let s1 := ((s.put (Reg.LN_CTRL_LB l) lb).put (Reg.LN_PRBS_GEN l) (bits prbs 0 1)).put (Reg.LN_PRBS_CHK l) (bits prbs 1 1)
  let s2 := s1.put (Reg.LN_PRBS_PAT l) (bits prbs 2 2)
  if bit prbs 1 then s2 else (s2.put (Reg.LN_PRBS_CHK_LOCK l) 0).setLn l { s2.ln l with prbs := { (s2.ln l).prbs with good := 0 } }
/-- A LANE_ALIGN of the lane runs: what acts on the lane's receiver receives BUSY (R662, log entry 85). -/
def State.aligning (s : State) (l : Nat) : Bool := s.opOn 0x0B04 (fun r => leAt r.payload 0 1 == l)
def laneTestRun (s : State) (c : Ctx) : State × Ans :=
  let l := c.at 0 1
  if s.owner (l / 4) ≠ 3 then (s, Ans.code 0xE 1)
  else if s.aligning l then busy s
  else
    let s1 := s.setTest l (c.at 1 1) (c.at 2 1)
    (s1, Ans.ok (wordBytes [s1.word (wordsLane (0x114 + l * 0x40)), s1.word (wordsLane (0x118 + l * 0x40))]))
def laneTestOp : OpSpec := { plainOp 0x0B03 4 laneTestRun with
  roles := [0, 1]
  range := fun _ c => firstBad [(0, c.at 0 1 ≤ 31), (1, c.at 1 1 ≤ 3), (2, c.at 2 1 ≤ 15)] }
/-- LANE_TEST (R463). -/
def execLaneTest (p : Packet) (s : State) : Host.Outcome State Fault Refusal := serve laneTestOp p s

/-- Training restarted from STATE 1; a port that the lane carries goes down (R457, R497). -/
def State.laneRestart (s : State) (l : Nat) : State :=
  if s.lnState l = 0 then s else (s.laneTrain l false).laneLost l
/-- LANE_ALIGN's effect (R458, R473): it waits for STATE 5. -/
def laneAlignRun (s : State) (c : Ctx) : State × Ans :=
  let l := c.at 0 1
  if !s.holwellCoded l then (s, Ans.code 0xE 3)
  else if s.aligning l then busy s
  else
    let s1 := if c.at 1 1 = 1 then s.laneRestart l else s
    if s1.lnState l = 5 then
      (s1, Ans.ok (wordBytes [s1.word (wordsLane (0x104 + l * 0x40)), s1.word (wordsLane (0x11C + l * 0x40))]))
    else pend s1
def laneAlignOp : OpSpec := { plainOp 0x0B04 4 laneAlignRun with
  roles := [0, 1]
  range := fun _ c => firstBad [(0, c.at 0 1 ≤ 31), (1, c.at 1 1 ≤ 1)]
  long := fun _ _ => true }
/-- LANE_ALIGN (R458). -/
def execLaneAlign (p : Packet) (s : State) : Host.Outcome State Fault Refusal := serve laneAlignOp p s
/-- LANE_ALIGN_TIMEOUT: a LANE_ALIGN whose lane has not reached STATE 5 within 200 ms (R473). -/
def execLaneAlignTimeout (l : Fin 32) (s : State) : Host.Outcome State Fault Refusal :=
  match (s.cmd.longOps.map (fun o => o.req)).find? (fun q => q.opcode == 0x0B04 && leAt q.payload 0 1 == l.val) with
  | some q => .next (s.completeReq q (Ans.code 0xC 0))
  | none => .next s

/-- EYEQ from the eye's two counts (R460). -/
def eyeq (h v : Nat) : Nat := min 255 (h * v / 16)
/-- LANE_EYE's results, with the measurement in LN_STAT.EYEQ. -/
def State.eyeAns (s : State) (l h v : Nat) : State × Ans :=
  let s1 := s.put (Reg.LN_STAT_EYEQ l) (eyeq h v)
  (s1, Ans.ok (leBytes 1 h ++ leBytes 1 v ++ leBytes 1 (eyeq h v) ++ leBytes 1 (s1.get (Reg.LN_EQ_CTLE l)) ++
    leBytes 4 (s1.word (wordsLane (0x10C + l * 0x40)))))
/-- LANE_EYE's effect (R460, R471): the counts are free values up to 64 positions. During adaptation the request waits for its end; a
lane whose CDR holds no lock has nothing to sample (the DETAIL of its STATE is a free value of 0x0001 to 0x00FF, log entry 51). -/
def laneEyeRun (s : State) (c : Ctx) : State × Ans :=
  let l := c.at 0 1
  if s.lnState l = 3 then (s, Ans.late)
  else if !s.flag (Reg.LN_STAT_CDR l) then (s.draw, Ans.code 0xE (1 + s.drawn 16 % 255))
  else s.draw.draw.eyeAns l (s.drawn 16 % 65) (s.draw.drawn 16 % 65)
def laneEyeOp : OpSpec := { plainOp 0x0B05 4 laneEyeRun with
  roles := [0, 1]
  range := fun _ c => firstBad [(0, c.at 0 1 ≤ 31)] }
/-- LANE_EYE (R460). -/
def execLaneEye (p : Packet) (s : State) : Host.Outcome State Fault Refusal := serve laneEyeOp p s
/-- LANE_EYE requests that waited for the end of adaptation, measured. -/
def State.eyeDone (s : State) (l h v : Nat) : State :=
  let qs := (s.cmd.longOps.map (fun o => o.req)).filter (fun q => q.opcode == 0x0B05 && leAt q.payload 0 1 == l)
  qs.foldl (fun s q => let r := s.eyeAns l h v; r.1.completeReq q r.2) s

/-! ### Training (R457, R461) -/

/-- LANE_RESTART: LN_CTRL.RESTART (R457). -/
def execLaneRestart (l : Fin 32) (s : State) : Host.Outcome State Fault Refusal :=
  .next (if s.plinthPowered ∧ s.cur ≤ 1 then s.laneRestart l.val else s)
/-- The receivers run: the plinth is awake and the quad's PLL holds lock. -/
def State.laneLive (s : State) (l : Nat) : Bool := s.plinthPowered && decide (s.cur ≤ 1) && s.flag (Reg.QUAD_CFG_PLL_LOCK (l / 4))
/-- LANE_SIGNAL_DETECT: signal ends STATE 1; in holdover it has returned (R457, R459). -/
def execLaneSignalDetect (l : Fin 32) (s : State) : Host.Outcome State Fault Refusal :=
  let x := s.lnState l.val
  if !s.laneLive l.val || x == 0 then .next s
  else
    let s0 := if s.flag (Reg.LN_STAT_SIG l.val) then s else s.setLn l.val { s.ln l.val with rx := LaneRx.fresh, rx8 := LaneX.fresh.rx8 }
    let s1 := s0.put (Reg.LN_STAT_SIG l.val) 1
    .next (if x = 1 then s1.put (Reg.LN_STAT_STATE l.val) 2 else s1)
/-- LANE_CDR_LOCK: adaptation starts, or on the fast path the lane waits at its held boundary for TRAIN flits (R457, R496). In holdover
lock stands again and violations have stopped: with signal the lane is back in STATE 5, its next marker to confirm (R459). -/
def execLaneCdrLock (l : Fin 32) (s : State) : Host.Outcome State Fault Refusal :=
  let x := s.lnState l.val
  if !s.laneLive l.val || !s.flag (Reg.LN_STAT_SIG l.val) then .next s
  else if x = 2 then
    let s1 := s.put (Reg.LN_STAT_CDR l.val) 1
    if (s.ln l.val).fast then
      let s2 := s1.put (Reg.LN_STAT_STATE l.val) 4
      .next (if s2.owner (l.val / 4) = 0 then s2.trainSlot (l.val / 4) else s2)
    else .next (s1.put (Reg.LN_STAT_STATE l.val) 3)
  else if x = 6 then
    .next (((s.put (Reg.LN_STAT_CDR l.val) 1).put (Reg.LN_STAT_STATE l.val) 5).setLn l.val { s.ln l.val with confirm := true })
  else .next s
/-- The CTLE code of the highest EYEQ of a sweep, the lower one of equals (R461). -/
def bestCtle (sweep : List (Fin 65 × Fin 65)) : Nat :=
  let e (k : Nat) : Nat := let p := sweep.getD k (0, 0); eyeq p.1.val p.2.val
  (List.range 16).foldl (fun b k => if e b < e k then k else b) 0
/-- LANE_ADAPT_DONE: step 1's measurement of each CTLE code keeps the best, step 2 leaves its DFE taps, and the eye measured then is classed
(R461, Table LANE-3). With FREEZE the settings stand, and the one eye measured is classed (DEDUCED, log entry 53). -/
def execLaneAdaptDone (l : Fin 32) (sweep : List (Fin 65 × Fin 65)) (dfe : BitVec 24) (h : Fin 65) (v : Fin 65) (s : State) :
    Host.Outcome State Fault Refusal :=
  let n := l.val
  if s.lnState n ≠ 3 ∨ !s.laneLive n then .next s
  else
    let e := eyeq h.val v.val
    let s1 := if s.flag (Reg.LN_CTRL_FREEZE n) then s
      else (s.put (Reg.LN_EQ_CTLE n) (bestCtle sweep)).put (Reg.LN_EQ_DFE n) dfe.toNat
    let s2 := (s1.put (Reg.LN_STAT_EYEQ n) e).eyeDone n h.val v.val
    if e < 32 then .next ((s2.logEvent 0x0B05 n (leBytes 1 e)).lane7 n)
    else
      let s3 := if e < 64 then s2.logEvent 0x0B04 n (leBytes 1 e) else s2
      .next (s3.put (Reg.LN_STAT_STATE n) 4)
/-- ALIGN_RETRY: every 100 ms a failed lane trains again, until its quad is off (R458). -/
def execAlignRetry (l : Fin 32) (s : State) : Host.Outcome State Fault Refusal :=
  if s.lnState l.val = 7 ∧ s.plinthPowered ∧ s.cur ≤ 1 then .next (s.laneTrain l.val false) else .next s
/-- The line bits of a lane's front end as its receiver takes them: RX_INV turns each (Table LANE-8). -/
def State.rxLine (s : State) (l : Nat) (line : List Bool) : List Bool := line.map (fun b => b != s.flag (Reg.LN_CTRL_RX_INV l))
/-- COMMA_ALIGN: line bits reach an 8b/10b lane. The first comma after CDR lock aligns it; each errored symbol counts, and after four in a row
it moves to a comma at another position (R451, R452). -/
def execCommaAlign (x : LineBits) (s : State) : Host.Outcome State Fault Refusal :=
  let n := x.lane.val
  if s.holwellCoded n || !s.flag (Reg.LN_STAT_CDR n) || !s.laneLive n then .next s
  else
    let was := s.flag (Reg.LN_STAT_COMMA n)
    let r := (s.ln n).rx8.take was (s.rxLine n x.line)
    let s1 := (s.setLn n { s.ln n with rx8 := r.1 }).bumpSat (Reg.LN_ERR_CODE n) r.2.2
    .next (if !was && r.2.1 then (s1.put (Reg.LN_STAT_COMMA n) 1).lane5 n false else s1)

/-! ### The search (R458) -/

/-- The boundary one bit later: MARK and MARK_INV clear. The 64th slip ends the search as failed; the six bits of SLIPS cannot hold 64,
so what they show then is a free value (log entry 52). -/
def State.slip (s : State) (l : Nat) : State :=
  let n := (s.ln l).slips + 1
  let s1 := ((s.put (Reg.LN_STAT_MARK l) 0).put (Reg.LN_STAT_MARK_INV l) 0).setLn l { s.ln l with slips := n, sighted := false }
  if n < 64 then s1
  else
    let k := s1.drawn 6
    ((s1.draw.put (Reg.LN_ALIGN_SLIPS l) k).logEvent 0x0B01 l (leBytes 1 k)).lane7 l
/-- A lane in the boundary search. -/
def State.searching (s : State) (l : Nat) : Bool := s.lnState l == 4 && s.holwellCoded l && !(s.ln l).fast && s.laneLive l
/-- LN_CTRL.SLIP: discarded unless MANUAL is 1 and STATE is 4; without effect on an 8b/10b lane (R452, Table LANE-8). -/
def State.laneSlip (s : State) (l : Nat) : State :=
  if s.searching l && s.flag (Reg.LN_CTRL_MANUAL l) then s.slip l else s
/-- LANE_SLIP (R458). -/
def execLaneSlip (l : Fin 32) (s : State) : Host.Outcome State Fault Refusal := .next (s.laneSlip l.val)
/-- ALIGN_SEARCH_STEP: one wait of the firmware's search ends, with the marker seen at the boundary in it, if any, and whether it was
complemented (R458). -/
def execAlignSearchStep (l : Fin 32) (seen : Option Bool) (s : State) : Host.Outcome State Fault Refusal :=
  let n := l.val
  if !s.searching n || s.flag (Reg.LN_CTRL_MANUAL n) then .next s
  else match (s.ln n).sighted, seen with
    | false, some inv =>
      let s1 := if inv then s.put (Reg.LN_CTRL_RX_INV n) (1 - s.get (Reg.LN_CTRL_RX_INV n)) else s
      .next (((s1.put (Reg.LN_STAT_MARK n) 0).put (Reg.LN_STAT_MARK_INV n) 0).setLn n { s1.ln n with sighted := true })
    | true, some false =>
      .next (((s.put (Reg.LN_STAT_MARK n) 1).put (Reg.LN_STAT_MARK_INV n) 0).lane5 n false)
    | _, _ => .next (s.slip n)

/-! ### Markers and holdover (R456, R459) -/

/-- The 48 fixed bits of a marker. -/
def markBits : Nat := 0xB7A68F1CD2E4
/-- The sender's fields of a marker. -/
def State.markFrom (s : State) (l w : Nat) : State :=
  ((s.put (Reg.LN_STAT_REM_ID l) (bits w 10 6)).put (Reg.LN_STAT_REM_PORT l) (bits w 7 3)).put (Reg.LN_STAT_REM_LANE l) (bits w 5 2)
/-- A marker missing or wrong, or a holdover too long: training restarts, counted and logged (R459). -/
def State.alignLost (s : State) (l : Nat) : State :=
  (((s.bumpSat (Reg.LN_ERR_MARKER l) 1).logEvent 0x0B02 l []).laneTrain l false).laneLost l
/-- A word at a marker's place. -/
def State.markAt (s : State) (n w : Nat) (placed : Bool) : State :=
  let true_ := bits w 16 48 == markBits
  let inv := bits w 16 48 == 2 ^ 48 - 1 - markBits
  if s.lnState n = 5 then
    if placed && true_ then (s.markFrom n w).setLn n { s.ln n with confirm := false } else s.alignLost n
  else if s.searching n && placed then
    if inv then (s.put (Reg.LN_STAT_MARK n) 1).put (Reg.LN_STAT_MARK_INV n) 1
    else if true_ then
      let again := s.flag (Reg.LN_CTRL_MANUAL n) && s.flag (Reg.LN_STAT_MARK n) && !s.flag (Reg.LN_STAT_MARK_INV n)
      let s1 := ((s.put (Reg.LN_STAT_MARK n) 1).put (Reg.LN_STAT_MARK_INV n) 0).markFrom n w
      if again then s1.lane5 n false else s1
    else s
  else s
/-- Line bits reach a lane's receiver: it removes stuffed bits, counting violations, and descrambles the others; RX_INV turns every bit (R454,
R455, Table LANE-8). -/
def State.lineIn (s : State) (l : Nat) (line : List Bool) : State :=
  let r := (s.ln l).rx.take (s.rxLine l line)
  (s.setLn l { s.ln l with rx := r.1 }).bumpSat (Reg.LN_ERR_CODE l) r.2
/-- MARKER_RECEIVED: line bits arrive, and their last 64 data bits are the word at a marker's place (`placed` where it came where
one is expected, at the same flit position as on the port's other lanes (R478), or at the boundary under test). In the
search it sets MARK, and in a manual search a second true marker at one boundary aligns the lane (DEDUCED from R458, log entry 53);
aligned, a marker in its place is recorded, and one missing or wrong restarts training. A receiver that has discarded its first bits only
just now has no word yet. -/
def execMarkerReceived (l : Fin 32) (line : List Bool) (placed : Bool) (s : State) : Host.Outcome State Fault Refusal :=
  let n := l.val
  if !s.laneLive n || !s.holwellCoded n || s.lnState n == 0 then .next s
  else
    let s1 := s.lineIn n line
    match (s1.ln n).rx.full with
    | some w => .next (s1.markAt n w placed)
    | none => .next s1
/-- LANE_HOLDOVER: loss of signal, CDR unlock, or eight stuffing violations within 1 µs, each counted (R455, R459). A lane that is not
aligned, or has 8b/10b coding, loses what it had and waits in STATE 1 again. -/
def execLaneHoldover (l : Fin 32) (cause : Fin 3) (s : State) : Host.Outcome State Fault Refusal :=
  let n := l.val
  let x := s.lnState n
  if x = 0 ∨ !s.laneLive n then .next s
  else
    let s1 := if cause = 0 then (s.put (Reg.LN_STAT_SIG n) 0).put (Reg.LN_STAT_CDR n) 0
      else if cause = 1 then s.put (Reg.LN_STAT_CDR n) 0 else s.bumpSat (Reg.LN_ERR_CODE n) 8
    if s.holwellCoded n then
      if x = 5 then .next ((s1.leave5 n).put (Reg.LN_STAT_STATE n) 6)
      else if x = 6 ∨ x = 7 ∨ cause = 2 then .next s1
      else .next (s1.laneTrain n (s.ln n).fast)
    else if cause = 2 then .next s
    else .next (s1.laneTrain n false)
/-- LANE_HOLDOVER_TIMEOUT: a holdover longer than 2 µs (R459, R497). -/
def execLaneHoldoverTimeout (l : Fin 32) (s : State) : Host.Outcome State Fault Refusal :=
  if s.lnState l.val = 6 then .next (s.alignLost l.val) else .next s

/-! ### EYEQ, PRBS, references, PCIe -/

/-- EYEQ_MEASURE: an aligned lane's measurement of every 10 ms; three in a row below 32 are logged (R461). -/
def execEyeqMeasure (l : Fin 32) (h : Fin 65) (v : Fin 65) (s : State) : Host.Outcome State Fault Refusal :=
  let n := l.val
  if s.lnState n ≠ 5 ∨ !s.laneLive n then .next s
  else
    let e := eyeq h.val v.val
    let s1 := s.put (Reg.LN_STAT_EYEQ n) e
    let k := (s.ln n).lows + 1
    if 32 ≤ e then .next (s1.setLn n { s.ln n with lows := 0 })
    else if k < 3 then .next (s1.setLn n { s.ln n with lows := k })
    else .next ((s1.setLn n { s.ln n with lows := 0 }).logEvent 0x0B03 n (leBytes 1 e))
/-- PRBS_CHECKER_LOCK: line bits reach a lane's checker, which locks after 128 correct ones, counts every errored one in LN_PRBS_ERR and
unlocks after 64 of them in 1,024 bits. The generator sends as many bits meanwhile, and in near-end serial loopback those are the ones
received, the line's being ignored (R464, Table LANE-4). -/
def execPrbsCheckerLock (l : Fin 32) (line : List Bool) (s : State) : Host.Outcome State Fault Refusal :=
  let n := l.val
  if !s.laneLive n then .next s
  else
    let pat := s.get (Reg.LN_PRBS_PAT n)
    let x := (s.ln n).prbs
    let g := if s.flag (Reg.LN_PRBS_GEN n) then LanePrbs.generate pat x line.length else (x, [])
    let sent := g.2.map (fun b => b != s.flag (Reg.LN_CTRL_TX_INV n))
    let bs := s.rxLine n (if s.get (Reg.LN_CTRL_LB n) = 1 then sent else line)
    if !s.flag (Reg.LN_PRBS_CHK n) then .next (s.setLn n { s.ln n with prbs := g.1 })
    else
      let r := LanePrbs.take pat g.1 (s.flag (Reg.LN_PRBS_CHK_LOCK n)) bs
      .next (((s.setLn n { s.ln n with prbs := r.1 }).setFlag (Reg.LN_PRBS_CHK_LOCK n) r.2.1).bumpSat (Reg.LN_PRBS_ERR_COUNT n) r.2.2)
/-- A reference's bit of LANE_REF. -/
def lrefOk (r : Nat) : Fld := if r = 0 then Reg.LANE_REF_LREF0_OK else Reg.LANE_REF_LREF1_OK
/-- The quads that use a reference. -/
def State.quadsOn (s : State) (r : Nat) : List Nat := (List.range 8).filter (fun q => s.get (Reg.QUAD_CFG_REF q) == r && s.owner q != 4)
/-- LANE_REF_LOSS: every quad on the reference loses PLL lock and its lanes go to STATE 1; a link up on them is lost (R470, R497). -/
def execLaneRefLoss (r : Fin 2) (s : State) : Host.Outcome State Fault Refusal :=
  if !s.flag (lrefOk r.val) then .next s
  else
    let s1 := (s.put (lrefOk r.val) 0).logEvent 0x0B06 r.val []
    let go (s : State) (q : Nat) : State :=
      let s2 := (s.quadPll q).quadTrain q false
      let s3 := (quadLanes q).foldl (fun s l => s.put (Reg.LN_STAT_SIG l) 0) s2
      if q < 7 ∧ s3.isUp q then s3.linkDown q 1 else s3
    .next ((s1.quadsOn r.val).foldl go s1)
/-- LREFCLK_RETURN: a reference is within limits again, PLLs lock and lanes train anew (R470); so is a reference first told. -/
def execLrefclkReturn (r : Fin 2) (s : State) : Host.Outcome State Fault Refusal :=
  if s.flag (lrefOk r.val) || !s.plinthPowered then .next s
  else
    let s1 := s.put (lrefOk r.val) 1
    .next ((s1.quadsOn r.val).foldl (fun s q => (quadLanes q).foldl (fun s l =>
      if s.lnState l = 0 then s else s.laneTrain l (s.ln l).fast) (s.quadPll q)) s1)
/-- PCIE_RESET: it acts as MBX_CTRL.RESET and is logged with its cause (R467). Without the endpoint there is nothing to reset. -/
def execPcieReset (cause : Fin 4) (s : State) : Host.Outcome State Fault Refusal :=
  if !s.plinthPowered || s.nativeOwner 6 != 1 then .next s
  else .next ((s.mbxCtrl (s.get Reg.MBX_CTRL_IRQ_EN * 4 + s.get Reg.MBX_CTRL_ENABLE + 2)).logEvent 0x0B07 0 (leBytes 1 cause.val))

end Sys2Proof.Machine
end

