-- ==== Sys2Proof/Machine/Walks.lean ====
section
/-! DEFINITION. Translation and the issue of a steeper's accesses: the translation caches and walks (R403–R409), the peer windows
(R513), what each side of an access addresses, and the access on its way (R350, R354–R357, R364). -/

namespace Sys2Proof.Machine

/-! ### Fields of XFER (Table STRM-1) -/

def xBs (w : Nat) : Nat := bits w 57 3
def xBd (w : Nat) : Nat := bits w 54 3
def xPath (w : Nat) : Nat := bits w 52 2
def xRsrc (w : Nat) : Bool := bit w 51
def xRdst (w : Nat) : Bool := bit w 50
def xDev (w : Nat) : Nat := bits w 44 6
def xSrow (w : Nat) : Nat := bits w 12 12
def xDrow (w : Nat) : Nat := bits w 0 12
/-- Base register k: b0 reads 0 and discards writes (R349). -/
def State.breg (s : State) (t st k : Nat) : Nat := if k = 0 then 0 else s.get (Reg.STEEP_B_B t st (k - 1))
def State.setBreg (s : State) (t st k v : Nat) : State := if k = 0 then s else s.put (Reg.STEEP_B_B t st (k - 1)) v

/-! ### The translation cache (R404, R408) -/

/-- The page size of a cached leaf. -/
def XlatEnt.size (e : XlatEnt) : Nat := if e.big then 0x200000 else 0x10000
def XlatEnt.covers (e : XlatEnt) (asid va : Nat) : Bool := e.asid == asid && e.va == va / e.size * e.size
/-- A tile's cache. -/
def State.cache (s : State) (t : Nat) : List XlatEnt := tget [] s.addr.caches t
def State.setCache (s : State) (t : Nat) (l : List XlatEnt) : State :=
  { s with addr := { s.addr with caches := tput [] s.addr.caches t l } }
/-- Every cache emptied. -/
def State.dropCaches (s : State) : State := { s with addr := { s.addr with caches := [] } }
/-- What a translation meets. -/
inductive Xl where
  | pa (a : Nat)
  | denied
  | miss
deriving DecidableEq, Repr
/-- A virtual address of a tile's stream translated, for a write or a read. -/
def State.xlate (s : State) (t va : Nat) (write : Bool) : Xl :=
  let asid := s.get (Reg.TCTRL_ASID t)
  if asid = 0 then .pa va
  else match (s.cache t).find? (fun e => e.covers asid va) with
    | some e => if (if write then e.w else e.r) then .pa (e.pa + va % e.size) else .denied
    | none => .miss
/-- A leaf put into a tile's cache; of 33 the oldest goes. -/
def State.cachePut (s : State) (t : Nat) (e : XlatEnt) : State :=
  let l := s.cache t ++ [e]
  s.setCache t (l.drop (l.length - 32))

/-! ### Walks of the tables (R405–R407) -/

/-- How a walk ends: a leaf, a TRANSLATION DETAIL (with the entry logged as bad), MEM_UE, or not yet, because a read must wait. -/
inductive WalkEnd where
  | leaf (e : XlatEnt)
  | bad (detail : Nat) (logged : Bool)
  | ue
  | wait
deriving DecidableEq, Repr
/-- An entry is malformed at a level (0 root, 1–3, 4): a reserved bit, R or W beside LEAF, LEAF wrong, ADDR unaligned or outside caddy
memory and external DRAM. -/
def entryMalformed (level x : Nat) : Bool :=
  let leaf := bit x 1
  let a := bits x 8 40 * 256
  let align := if level = 4 then 0x10000 else if level = 3 then (if leaf then 0x200000 else 256) else 0x1000
  bits x 48 16 != 0 || bits x 4 4 != 0 || (!leaf && bits x 2 2 != 0) || (decide (level ≤ 2) && leaf) || (level == 4 && !leaf) ||
    a % align != 0 || !(decide (a < 0x300000000) || decide (0x1000000000 ≤ a ∧ a < 0x2000000000))
/-- The index of a virtual address at a level (Table ADDR-5). -/
def levelIndex (level asid va : Nat) : Nat :=
  if level = 0 then asid else if level = 1 then bits va 39 9 else if level = 2 then bits va 30 9 else if level = 3 then bits va 21 9
  else bits va 16 5
/-- One entry read by unit `u`, and the walk from there on. -/
def State.walkFrom (s : State) (u asid va : Nat) : Nat → Nat → Nat → State × WalkEnd
  | 0, _, _ => (s, .bad 1 false)
  | fuel + 1, level, table =>
    let a := table + 8 * levelIndex level asid va
    match s.place a with
    | .caddy _ _ | .xdram _ _ =>
      if s.mustWait a 8 then (s, .wait)
      else
        let q := s.admitAll (.walk u) (blocks64 a 8)
        if !q.2 then (q.1, .wait)
        else
          let r := (q.1.netAccess plinthPlace a 8 false).readMem 4 a 8
          let x := leNat r.2.1
          if r.2.2 then (r.1, .ue)
          else if !bit x 0 then (r.1, .bad 1 false)
          else if entryMalformed level x then (r.1, .bad 1 true)
          else if bit x 1 then
            let big := level == 3
            let sz := if big then 0x200000 else 0x10000
            (r.1, .leaf { asid := asid, va := va / sz * sz, big := big, pa := bits x 8 40 * 256, r := bit x 2, w := bit x 3 })
          else State.walkFrom r.1 u asid va fuel (level + 1) (bits x 8 40 * 256)
    | _ => (s, .bad 3 true)
/-- A queued walk carried out by unit `u`. -/
def State.runWalk (s : State) (u : Nat) (w : XlatWalk) : State × WalkEnd := s.walkFrom u w.asid w.va 5 0 w.base

/-! ### Invalidations that wait (R409, R419) -/

/-- Invalidations whose waits are over answer. -/
def State.xlatAnswer (s : State) : State :=
  let done := s.addr.invals.filter (fun v => v.waits == [])
  let s1 := { s with addr := { s.addr with invals := s.addr.invals.filter (fun v => v.waits != []) } }
  done.foldl (fun s v => s.completeReq v.req (Ans.ok v.results)) s1
/-- A wait is over: an access issued by steeper number k, or (1000 + k) its walk. -/
def State.xlatOver (s : State) (k : Nat) : State :=
  let l := s.addr.invals.map (fun v => { v with waits := v.waits.filter (fun j => j != k) })
  { s with addr := { s.addr with invals := l } }.xlatAnswer

/-! ### Peer windows (R513) -/

/-- A range lies wholly inside one exported window with the permission. -/
def State.inWindow (s : State) (write : Bool) (a n : Nat) : Bool :=
  (List.range 4).any (fun w =>
    let start := leAt s.ens.desc (32 + 16 * w) 8
    let len := leAt s.ens.desc (40 + 16 * w) 6
    len != 0 && decide (start ≤ a ∧ a + n ≤ start + len) && bit (leAt s.ens.desc (46 + 16 * w) 1) (if write then 1 else 0))
/-- The requester's check before issue. -/
def State.mayReach (s : State) (dev : Nat) (write : Bool) (a n : Nat) : Bool :=
  s.ensActive && s.inActive dev && s.inWindow write a n

/-! ### Issuing one access -/

/-- What one side of an access is. -/
inductive Side where
  | pad (b : List Byte)
  | here (pa : Nat)
  | away (a : Nat)
  | fault (code detail a : Nat)
  | miss (va : Nat)
deriving DecidableEq, Repr
/-- One side of access n. -/
def State.sideOf (s : State) (t : Nat) (d : Desc) (n : Nat) (remote : Bool) (dev : Nat) (write : Bool) : Side :=
  match d.access n with
  | .pad b => .pad b
  | .at a =>
    if remote then (if s.mayReach dev write a d.w then .away a else .fault 4 dev a)
    else match s.xlate t a write with
      | .pa p => .here p
      | .denied => .fault 1 2 a
      | .miss => .miss a
/-- A walk's record changed. -/
def State.mapWalk (s : State) (t st : Nat) (f : Walk → Walk) : State :=
  let x := s.sx t st
  s.setSx t st { x with walk := x.walk.map f }
/-- A fault or error of the access at hand: the stream stops, to reissue it on resume (R364, R365). -/
def State.accessFault (s : State) (t st code detail : Nat) (remote write : Bool) (a : Nat) : State :=
  let s1 := s.mapWalk t st (fun w => { w with phase := .idle, xferLen := 0 })
  let s2 := if code = 1 then { s1 with addr := { s1.addr with xfaults := (s1.addr.xfaults + 1) % 2 ^ 32 } } else s1
  ((s2.put (Reg.STEEP_FADDR_ADDR t st) a).steepStop t st code detail remote write).xlatOver (2 * t + st)
/-- A cache miss: the walk is queued (R408). -/
def State.queueWalk (s : State) (t st va : Nat) (dst : Bool) : State :=
  let q : XlatWalk := { t := t, st := st, va := va, asid := s.get (Reg.TCTRL_ASID t), base := s.addr.xlatBase, dst := dst }
  let s1 := { s with addr := { s.addr with walkQ := s.addr.walkQ ++ [q], misses := (s.addr.misses + 1) % 2 ^ 64 } }
  s1.mapWalk t st (fun w => { w with phase := .walk dst })
/-- A remote request of the access at hand sent, or waiting for a tag; a port that is not UP ends it as LINK_LOST (R357, R365, R481). -/
def State.sendAccess (s : State) (t st dev op a n : Nat) (data : List Byte) : State :=
  match s.routePort dev with
  | none => s.mapWalk t st (fun w => { w with phase := .back 4 dev false [] })
  | some p =>
    if !s.isUp p then
      (if s.hlState p = 4 then s.burst p else s).mapWalk t st (fun w => { w with phase := .back 5 p false [] })
    else match s.request p dev op false (.stream t st) n a data with
      | none => s.mapWalk t st (fun w => { w with phase := .tag })
      | some r => r.1.mapWalk t st (fun w => match w.phase with
          | .back _ _ _ _ => w
          | _ => { w with phase := .sent p r.2 })
/-- The address of a side: none of a padded one. -/
def Side.addr : Side → Nat
  | .here a | .away a => a
  | _ => 0
/-- A padded side. -/
def Side.padded : Side → Bool
  | .pad _ => true
  | _ => false
/-- A local side in the tile's own pillar or its own store. -/
def Side.own (t : Nat) : Side → Bool
  | .here a => decide (t * 0x4000000 ≤ a ∧ a < (t + 1) * 0x4000000) || decide (storeAddr t 0 ≤ a ∧ a < storeAddr t 0 + 0x40000)
  | _ => false
/-- G of R354. -/
def Walk.grain (w : Walk) : Nat := min (min (Desc.run w.src) (Desc.run w.dst)) 4096
/-- The path that a transfer of the access at hand takes: 0 direct, 1 sip, 2 bulk; a remote one is of sip or bulk size (R354, R357). -/
def Walk.path (t : Nat) (w : Walk) (src dst : Side) : Nat :=
  if src.own t && dst.own t then 0 else if bulkPath (xPath w.word) w.src w.dst then 2 else 1
/-- The transfer of the walk that the access at hand joins, or the one that it begins: on the bulk path at most G bytes inside an aligned
4 KiB block of each side, on the sip path at most 64 bytes inside an aligned 64-byte block of each; on the direct path one side alone may stay in its
block, and reading and writing merge apart (R342, R354, R355). A padded access makes none, and ends one. -/
def Walk.merge (t : Nat) (w : Walk) (src dst : Side) : Walk :=
  let p := w.path t src dst
  let g := if p = 2 then 4096 else 64
  let a := src.addr / g
  let b := dst.addr / g
  let len := w.xferLen + Desc.w w.src
  let sa := w.xferSrc == some a
  let sb := w.xferDst == some b
  if src.padded then { w with xferLen := 0, joined := false }
  else if p = w.xferPath ∧ 0 < w.xferLen ∧ len ≤ (if p = 2 then w.grain else 64) ∧ (if p = 0 then sa || sb else sa && sb) then
    { w with xferSrc := if sa then some a else none, xferDst := if sb then some b else none, xferLen := len, joined := true }
  else { w with xferPath := p, xferSrc := some a, xferDst := some b, xferLen := Desc.w w.src, joined := false, ueBlock := none }
/-- The access at hand issued: both sides checked and translated, source first; a remote read goes out at once. -/
def State.steepIssue (s : State) (t st : Nat) : State :=
  match (s.sx t st).walk with
  | none => s
  | some w =>
    let dev := xDev w.word
    match s.sideOf t w.src w.n (xRsrc w.word) dev false with
    | .fault c d a => s.accessFault t st c d (xRsrc w.word) false a
    | .miss va => s.queueWalk t st va false
    | src =>
      match s.sideOf t w.dst w.n (xRdst w.word) dev true with
      | .fault c d a => s.accessFault t st c d (xRdst w.word) true a
      | .miss va => s.queueWalk t st va true
      | dst =>
        let m := w.merge t src dst
        let s1 := (s.mapWalk t st (fun _ => { m with srcPa := src.addr, dstPa := dst.addr, phase := .ready })).bumpWrap
          (Reg.STEEP_XFERS_COUNT t st) (if m.joined || src.padded then 0 else 1)
        match src with
        | .away a => s1.sendAccess t st dev 0 a (Desc.w w.src) []
        | _ => s1
/-- XLAT_WALK_DONE: a translation unit ends the walk of a steeper, the units serving the four oldest (R408). The leaf is cached, and the
access issued with it; a walk under an old base is used once and not kept (R419). -/
def execXlatWalkDone (t : Fin 192) (st : Fin 2) (s : State) : Host.Outcome State Fault Refusal :=
  match s.addr.walkQ.findIdx? (fun w => w.t == t.val && w.st == st.val) with
  | none => .next s
  | some i =>
    match s.addr.walkQ[i]? with
    | none => .next s
    | some w =>
      if 4 ≤ i ∨ !s.plinthPowered then .next s
      else
        let r := s.runWalk i w
        match r.2 with
        | .wait => .next r.1
        | e =>
          let k := 2 * t.val + st.val
          let s1 := { r.1 with addr := { r.1.addr with walkQ := s.addr.walkQ.eraseIdx i, walks := (s.addr.walks + 1) % 2 ^ 64 } }
          let waiting : Bool := match (s1.sx t.val st.val).walk with | some v => v.phase == .walk w.dst | none => false
          let s2 := match e with
            | .leaf l =>
              let c := s1.cache t.val
              let s2 := s1.cachePut t.val l
              let s3 := if waiting then s2.steepIssue t.val st.val else s2
              if w.base = s.addr.xlatBase then s3 else s3.setCache t.val c
            | .bad d logged =>
              let s2 := if logged then
                  { s1 with addr := { s1.addr with malformed := (s1.addr.malformed + (if d = 1 then 1 else 0)) % 2 ^ 32 } }.logEvent 0x040B t.val
                    (leBytes 1 w.asid ++ leBytes 6 w.va)
                else s1
              if waiting then s2.accessFault t.val st.val 1 d false w.dst w.va else s2
            | _ => if waiting then s1.accessFault t.val st.val 0xB 0 false w.dst w.va else s1
          .next (s2.xlatOver (1000 + k))

/-! ### The commands (Table ADDR-8) -/

/-- A page or an access at `va` under `asid` is covered by an invalidation. -/
def invCovers (scope asid va len a b n : Nat) : Bool :=
  a != 0 && (scope == 0 || (a == asid && (scope == 1 || decide (b < va + len ∧ va < b + n))))
/-- The steepers whose issued access, or whose queued walk (1000 + k), an invalidation covers. -/
def State.invWaits (s : State) (scope asid va len : Nat) : List Nat :=
  let issued := (List.range 384).filter (fun k =>
    let t := k / 2
    match (s.sx t (k % 2)).walk with
    | none => false
    | some w =>
      let out := match w.phase with | .ready | .tag | .sent _ _ | .back _ _ _ _ => true | _ => false
      let hit (remote : Bool) (d : Desc) : Bool := !remote && (match d.access w.n with
        | .at a => invCovers scope asid va len (s.get (Reg.TCTRL_ASID t)) a d.w
        | .pad _ => false)
      out && (hit (xRsrc w.word) w.src || hit (xRdst w.word) w.dst))
  let walks := (s.addr.walkQ.filter (fun w => invCovers scope asid va len w.asid w.va 1)).map (fun w => 1000 + 2 * w.t + w.st)
  issued ++ walks
/-- Caches drop what is covered, and the reply follows once the waits are over. -/
def State.invalidate (s : State) (c : Ctx) (scope asid va len : Nat) (results : List Byte) : State × Ans :=
  let s1 := (List.range 192).foldl (fun s t =>
    match s.cache t with
    | [] => s
    | l => s.setCache t (l.filter (fun e => !invCovers scope asid va len e.asid e.va e.size))) s
  let ws := s1.invWaits scope asid va len
  if ws = [] then (s1, Ans.ok results)
  else ({ s1 with addr := { s1.addr with invals := s1.addr.invals ++ [{ req := c.p, waits := ws, results := results }] } }, Ans.late)
/-- XLAT_SET_BASE's effect (R419): caches empty, later walks use the new base. -/
def xlatSetBaseRun (s : State) (c : Ctx) : State × Ans :=
  let old := leBytes 8 s.addr.xlatBase
  ({ s with addr := { s.addr with xlatBase := c.at 0 8 } }).invalidate c 0 0 0 0 old
def xlatSetBaseOp : OpSpec := { plainOp 0x0420 8 xlatSetBaseRun with
  roles := [0]
  range := fun s c => firstBad [(0, c.at 0 8 % 2048 == 0 && decide (c.at 0 8 < 2 ^ 48) && s.allDram (c.at 0 8) 2048)] }
/-- XLAT_SET_BASE (R419). -/
def execXlatSetBase (p : Packet) (s : State) : Host.Outcome State Fault Refusal := serve xlatSetBaseOp p s
/-- XLAT_INVALIDATE's effect (R409). -/
def xlatInvalidateRun (s : State) (c : Ctx) : State × Ans := s.invalidate c (c.at 0 1) (c.at 1 1) (c.at 4 8) (c.at 12 8) []
def xlatInvalidateOp : OpSpec := { plainOp 0x0421 20 xlatInvalidateRun with
  roles := [0]
  range := fun _ c =>
    let k := c.at 0 1
    let a := c.at 1 1
    let v := c.at 4 8
    let l := c.at 12 8
    firstBad [(0, decide (k ≤ 2)), (1, if k = 0 then a == 0 else decide (1 ≤ a)),
      (4, if k = 2 then v % 65536 == 0 && decide (v ≤ 2 ^ 48) else v == 0),
      (12, if k = 2 then l % 65536 == 0 && decide (v + l ≤ 2 ^ 48) else l == 0)] }
/-- XLAT_INVALIDATE (R409). -/
def execXlatInvalidate (p : Packet) (s : State) : Host.Outcome State Fault Refusal := serve xlatInvalidateOp p s
/-- XLAT_STATUS's effect. -/
def xlatStatusRun (s : State) (_ : Ctx) : State × Ans :=
  (s, Ans.ok (leBytes 8 s.addr.xlatBase ++ leBytes 8 s.addr.walks ++ leBytes 8 s.addr.misses ++ leBytes 4 s.addr.xfaults ++
    leBytes 4 s.addr.malformed))
def xlatStatusOp : OpSpec := plainOp 0x0422 0 xlatStatusRun
/-- XLAT_STATUS (R420). -/
def execXlatStatus (p : Packet) (s : State) : Host.Outcome State Fault Refusal := serve xlatStatusOp p s
/-- TNET_STATUS's effect (R420): the counts of a die. What the steward itself has sent as class MGT since the last reading, and the
starvation grants that the exact time of each flit would show, are free values (log entry 93). -/
def tnetStatusRun (s : State) (c : Ctx) : State × Ans :=
  let d := c.at 0 1
  let n := s.mesh
  let add (l : List Nat) (k w x : Nat) : List Nat := l.set k ((l.getD k 0 + x) % 2 ^ w)
  let n1 := { n with granted := add n.granted (5 * d) 64 (s.drawn 32), starved := add n.starved d 32 (s.draw.drawn 16) }
  ({ s.draw.draw with mesh := n1 }, Ans.ok ((List.range 5).flatMap (fun k => leBytes 8 (n1.granted.getD (5 * d + k) 0)) ++
    leBytes 4 (n1.starved.getD d 0) ++ leBytes 8 (n1.bridgeOut.getD d 0) ++ leBytes 8 (n1.bridgeIn.getD d 0)))
def tnetStatusOp : OpSpec := { plainOp 0x0423 4 tnetStatusRun with range := fun _ c => firstBad [(0, c.at 0 1 ≤ 1)] }
/-- TNET_STATUS (R420). -/
def execTnetStatus (p : Packet) (s : State) : Host.Outcome State Fault Refusal := serve tnetStatusOp p s

end Sys2Proof.Machine
end

