-- ==== Sys2Proof/Machine/Link.lean ====
section
/-! DEFINITION. The Holwell link: flits received, acknowledgement and replay, training, tags, packets at their target, peer commands and
the link commands (chapter 19). -/

namespace Sys2Proof.Machine

/-! ### Flits received (R484–R488) -/

/-- A CTRL flit of a port sent (Table HOL-5): what is owed goes with it, at most 255 credits of one buffer at a time. -/
def State.sendCtrl (s : State) (p : Nat) (nak park : Bool) : State :=
  let x := s.port p
  let ack := (x.rxSeq + 511) % 512
  let cr (k : Nat) : Nat := min 255 (tget 0 x.owed k)
  let pay := leBytes 2 (ack + (if nak then 2 ^ 15 else 0) + (if park then 2 ^ 14 else 0)) ++ leBytes 2 (s.get (Reg.HL_EPOCH_EPOCH p)) ++
    (List.range 10).flatMap (fun k => leBytes 1 (cr k)) ++ zeros 14
  let owed := (List.range 10).foldl (fun t k => tput 0 t k (tget 0 t k - cr k)) x.owed
  (s.setPort p { x with wire := x.wire ++ [flit 5 0 0 0 pay], owed := owed, accepted := 0 }).lineOut p 1 false
/-- A NAK sent, one for each run of discarded flits (R484). -/
def State.sendNak (s : State) (p : Nat) : State :=
  if (s.port p).nakked then s
  else
    let s1 := (s.bumpSat (Reg.HL_REPLAY_NAKS p) 1).sendCtrl p true false
    s1.setPort p { s1.port p with nakked := true }
/-- Credits to return for flits of a class and VC. -/
def Port.owe (x : Port) (cls vc n : Nat) : Port := { x with owed := tput 0 x.owed (2 * cls + vc) (tget 0 x.owed (2 * cls + vc) + n) }
/-- An accepted flit joins its packet in the buffer of its class and VC (R479); one that continues no packet leaves at once. -/
def Port.assemble (x : Port) (f : List Byte) : Port :=
  let c := fCls f
  let v := fVc f
  let rest := x.rxPart.filter (fun q => !(q.cls == c && q.vc == v))
  let part := x.rxPart.find? (fun q => q.cls == c && q.vc == v)
  if fFt f = 4 then { x with rxq := x.rxq ++ [{ cls := c, vc := v, bytes := fPay f, flits := 1 }] }
  else if fFt f = 1 then { x with rxPart := rest ++ [{ cls := c, vc := v, bytes := fPay f, flits := 1 }] }
  else match part with
    | none => x.owe c v 1
    | some q =>
      let q1 : RxPacket := { q with bytes := q.bytes ++ fPay f, flits := q.flits + 1 }
      if fFt f = 2 then { x with rxPart := rest ++ [q1] } else { x with rxPart := rest, rxq := x.rxq ++ [q1] }
/-- A sequenced flit accepted: a CTRL flit follows every 32 (R485). -/
def State.acceptFlit (s : State) (p : Nat) (f : List Byte) : State :=
  let x := s.port p
  let y := { (x.assemble f) with rxSeq := (x.rxSeq + 1) % 512, accepted := x.accepted + 1, nakked := false }
  let s1 := (s.setPort p y).bumpWrap (Reg.HL_RXFLITS_COUNT p) 1
  if 32 ≤ y.accepted then s1.sendCtrl p false false else s1
/-- FLIT_RECEIVE: a sequenced or IDLE flit at an UP port (R484). A failed CRC is counted and answered by a NAK. Every FSEQ but the
expected one lies within the 511 before it, so it is a duplicate and dropped in silence. -/
def execFlitReceive (port : Fin 7) (f : List Byte) (s : State) : Host.Outcome State Fault Refusal :=
  let p := port.val
  if !s.isUp p then .next s
  else if !flitOk f then .next ((s.bumpSat (Reg.HL_CRC_COUNT p) 1).sendNak p)
  else if 1 ≤ fFt f ∧ fFt f ≤ 4 ∧ fSeq f = (s.port p).rxSeq then .next (s.acceptFlit p f)
  else .next s
/-- One replay round: every unacknowledged flit goes out again (R486). -/
def State.replay (s : State) (p : Nat) : State :=
  let x := s.port p
  if x.replay = [] then s
  else
    ((s.setPort p { x with wire := x.wire ++ x.replay.map (fun r => r.2), rounds := x.rounds + 1 }).lineOut p x.replay.length false).bumpSat (Reg.HL_REPLAY_ROUNDS p) 1
/-- A replay asked for: after four rounds without ACKSEQ advancing the link is declared down (R497). -/
def State.replayOrDrop (s : State) (p : Nat) : State :=
  if 4 ≤ (s.port p).rounds ∧ (s.port p).replay ≠ [] then s.linkDown p 2 else s.replay p
/-- ACKSEQ frees every flit up to and including it. -/
def Port.ack (x : Port) (n : Nat) : Port :=
  match x.replay.findIdx? (fun r => r.1 == n) with
  | some i => { x with replay := x.replay.drop (i + 1), rounds := 0 }
  | none => x
/-- Credits returned by a CTRL flit. -/
def Port.credit (x : Port) (pay : List Byte) : Port :=
  { x with credits := (List.range 10).foldl (fun t k => tput 0 t k (tget 0 t k + leAt pay (4 + k) 1)) x.credits }
/-- CTRL_FLIT: acknowledgement, credits, NAK and PARK (R485, R486, R498). One with a failed CRC is counted, one of another epoch
ignored. -/
def execCtrlFlit (port : Fin 7) (f : List Byte) (s : State) : Host.Outcome State Fault Refusal :=
  let p := port.val
  if !s.isUp p then .next s
  else if !flitOk f || fFt f != 5 then .next (s.bumpSat (Reg.HL_CRC_COUNT p) 1)
  else
    let pay := fPay f
    if leAt pay 2 2 ≠ s.get (Reg.HL_EPOCH_EPOCH p) then .next s
    else
      let s1 := s.setPort p (((s.port p).ack (leAt pay 0 2 % 512)).credit pay)
      if bit (leAt pay 0 2) 14 then .next (s1.linkDown p 5)
      else .next ((if bit (leAt pay 0 2) 15 then s1.replayOrDrop p else s1).pumpPort p)
/-- Replies to peers that the steward has handed over go out as CMD packets (R56, R480). -/
def State.flushPeers (s : State) : State :=
  s.cmd.peerOut.foldl (fun s r => match r.via with
    | .holwell d => s.sendCmd d.val r.bytes
    | _ => s) { s with cmd := { s.cmd with peerOut := [] } }
/-- CTRL_FLIT_DUE: within 100 ns of a change of ACKSEQ or of credits to return a CTRL flit goes out (R485); replies that wait for the
link go with it (log entry 54). -/
def execCtrlFlitDue (port : Fin 7) (s : State) : Host.Outcome State Fault Refusal :=
  let p := port.val
  if !s.isUp p then .next s
  else
    let s1 := if (s.port p).accepted = 0 ∧ (s.port p).owed = [] then s else s.sendCtrl p false false
    .next s1.flushPeers
/-- REPLAY_TIMEOUT: flits unacknowledged and ACKSEQ still for 8 µs (R486, R497). -/
def execReplayTimeout (port : Fin 7) (s : State) : Host.Outcome State Fault Refusal :=
  if s.isUp port.val then .next (s.replayOrDrop port.val) else .next s

/-! ### Training (R495–R497) -/

/-- TRAIN_FLIT: it declares an UP link down, starts an attempt of a DOWN or PARKED port, and in an attempt counts toward the fast path
of the lane it came by and carries the partner's offer. READY flits of the W just agreed are the tail of the attempt that has ended and
do nothing (DEDUCED, log entry 50). -/
def execTrainFlit (port : Fin 7) (f : List Byte) (s : State) : Host.Outcome State Fault Refusal :=
  let p := port.val
  let pay := fPay f
  let l := 4 * p + leAt pay 2 1 % 4
  if !s.plinthPowered ∨ 1 < s.cur then .next s
  else if !flitOk f || fFt f != 6 then
    .next ((s.bumpSat (Reg.HL_CRC_COUNT p) 1).setLn l { s.ln l with trains := 0 })
  else if s.isUp p then
    if bit (leAt pay 3 1) 7 && bits (leAt pay 3 1) 4 3 == s.hlWidth p && leAt pay 4 2 != s.get (Reg.HL_EPOCH_EPOCH p) then .next s
    else .next (s.linkDown p 3)
  else if (s.hlState p = 3 ∨ s.hlState p = 4) ∧ s.linkMay p then .next (s.attempt p)
  else if s.hlState p = 1 then
    let x := s.ln l
    let s1 := if x.fast && s.lnState l == 4 then
        (if x.trains + 1 < 4 then s.setLn l { x with trains := x.trains + 1 } else s.lane5 l true)
      else s
    .next (if s1.lnState l = 5 then s1.trainTake p pay else s1)
  else .next s
/-- TRAINING_TIMEOUT: an attempt that has not reached UP within 100 ms fails (R495). -/
def execTrainingTimeout (port : Fin 7) (s : State) : Host.Outcome State Fault Refusal :=
  if s.hlState port.val = 1 then .next (s.attemptFails port.val) else .next s
/-- RETRAIN_FAST_TIMEOUT: a lane of a fast retrain not aligned within 100 µs runs the full sequence (R496). -/
def execRetrainFastTimeout (l : Fin 32) (s : State) : Host.Outcome State Fault Refusal :=
  if (s.ln l.val).fast ∧ s.lnState l.val ≠ 5 then .next (s.laneTrain l.val false) else .next s
/-- LINK_RETRY_TIMER: a DOWN port tries once every 1 s (R497). -/
def execLinkRetryTimer (port : Fin 7) (s : State) : Host.Outcome State Fault Refusal :=
  if s.hlState port.val = 3 ∧ s.linkMay port.val then .next (s.attempt port.val) else .next s

/-! ### Tags (R490, R491) -/

/-- What follows a tag's end: commands answered, operations that waited for a slot or a tag issued. -/
def State.afterTag (s : State) : State := s.settleCmds.issueSlots
/-- TAG_TIMEOUT: a tag outstanding for HL_CTRL.TAG_TO completes with LINK_LOST; a remote wait is exempt (R491). -/
def execTagTimeout (port : Fin 7) (tag : Fin 256) (s : State) : Host.Outcome State Fault Refusal :=
  let p := port.val
  match (s.port p).tags.find? (fun r => r.tag == tag.val) with
  | some r => if r.wait then .next s else .next ((s.bumpSat (Reg.HL_STALE_TAG_TO p) 1).completeTag p r 4 []).afterTag
  | none => .next s

/-! ### Packets at a device -/

/-- A packet taken from a port's buffers: the oldest of its class and VC, its credits to be returned; with the VC it came by. -/
def State.takeRx (s : State) (p : Nat) (pk : LinkPacket) : Option (State × Nat) :=
  let x := s.port p
  let bs := (packetFlits pk).flatMap (fun f => f.2)
  match x.rxq.findIdx? (fun q => q.bytes == bs) with
  | none => none
  | some i =>
    match x.rxq[i]? with
    | none => none
    | some q =>
      if (x.rxq.take i).any (fun r => r.cls == q.cls && r.vc == q.vc) || pk.header.length != 16 || opClass (hOp pk.header) != q.cls then none
      else some (s.setPort p ({ x with rxq := x.rxq.eraseIdx i }.owe q.cls q.vc q.flits), q.vc)
/-- A packet of a row: taken, passed on where it is not for this device (R481), else served. -/
def State.packetRow (s : State) (op p : Nat) (pk : LinkPacket) (f : State → Option State) : State :=
  if !s.isUp p || hOp pk.header != op then s
  else match s.takeRx p pk with
    | none => s
    | some (s1, vc) =>
      if hDst pk.header ≠ s.ensId then s1.sendPacket pk (some (p, vc))
      else match f s1 with
        | some s2 => s2
        | none => s
/-- The target's checks of a READ or WRITE (R513, R520): both ACTIVE under the same state epoch, inside one window with the permission,
outside the DOZE save areas, and in memory. -/
def State.peerMay (s : State) (h : List Byte) (write : Bool) : Bool :=
  let a := hAddr h
  let n := hLen h
  s.ensActive && s.inActive (hSrc h) && hSepoch h == s.get Reg.ENS_EPOCH_EPOCH % 256 && s.inWindow write a n && s.allMem a n &&
    !((blocks64 a n).any (fun b => s.inSave b))
/-- A READ served: its data, poisoned where the memory could not correct it, or PORT_DENIED. Memory that trains holds it. -/
def State.serveRead (s : State) (h : List Byte) : Option State :=
  if !s.peerMay h false then some (s.sendPacket (response h 2 2 []) none)
  else if s.mustWait (hAddr h) (hLen h) then none
  else
    let r := (s.netAccess plinthPlace (hAddr h) (hLen h) false).readMem 0 (hAddr h) (hLen h)
    some (r.1.sendPacket (response h 2 (b2n r.2.2) r.2.1) none)
/-- READ (R513). -/
def execRead (port : Fin 7) (pk : LinkPacket) (s : State) : Host.Outcome State Fault Refusal :=
  .next (s.packetRow 0 port.val pk (fun s => s.serveRead pk.header))
/-- A WRITE served. -/
def State.serveWrite (s : State) (h data : List Byte) : Option State :=
  if !s.peerMay h true then some (s.sendPacket (response h 3 2 []) none)
  else if s.mustWait (hAddr h) (hLen h) then none
  else some (((s.netAccess plinthPlace (hAddr h) (hLen h) true).writeMem 0 (hAddr h) (padTo (hLen h) data)).sendPacket (response h 3 0 []) none)
/-- WRITE (R513). -/
def execWrite (port : Fin 7) (pk : LinkPacket) (s : State) : Host.Outcome State Fault Refusal :=
  .next (s.packetRow 1 port.val pk (fun s => s.serveWrite pk.header pk.payload))
/-- A response at its requester (R490): its tag with its generation and epoch, else it is discarded and counted. -/
def State.responseFor (s : State) (h : List Byte) (f : State → Nat → TagRec → State) : Option State :=
  let p := hSport h
  if 7 ≤ p then some s
  else match (s.port p).tags.find? (fun r => r.tag == hTag h && r.gen == hGen h && r.epoch == hEpoch h) with
    | some r => some (f s p r).afterTag
    | none => some (s.bumpSat (Reg.HL_STALE_STALE p) 1)
/-- READ_RSP (R490). -/
def execReadRsp (port : Fin 7) (pk : LinkPacket) (s : State) : Host.Outcome State Fault Refusal :=
  .next (s.packetRow 2 port.val pk (fun s => s.responseFor pk.header (fun s p r =>
    s.completeTag p r (hStatus pk.header) (padTo (hLen pk.header) pk.payload))))
/-- WRITE_RSP (R490). -/
def execWriteRsp (port : Fin 7) (pk : LinkPacket) (s : State) : Host.Outcome State Fault Refusal :=
  .next (s.packetRow 3 port.val pk (fun s => s.responseFor pk.header (fun s p r => s.completeTag p r (hStatus pk.header) [])))
/-- SYNC (R387). -/
def execSync (port : Fin 7) (pk : LinkPacket) (s : State) : Host.Outcome State Fault Refusal :=
  .next (s.packetRow 4 port.val pk (fun s => some (s.remoteSync port.val pk)))
/-- SYNC_RSP (R490). -/
def execSyncRsp (port : Fin 7) (pk : LinkPacket) (s : State) : Host.Outcome State Fault Refusal :=
  .next (s.packetRow 5 port.val pk (fun s => s.responseFor pk.header (fun s p r => s.syncRsp p r pk)))

/-! ### Peer commands (R480) -/

/-- A reply to a command that this device sent for a request: the request is answered with it. -/
def State.peerReply (s : State) (src : Nat) (r : Packet) : State :=
  match s.link.fwd.find? (fun f => f.dst == src && f.seq == r.seq.toNat) with
  | none => s
  | some f =>
    let pay := r.payload
    ({ s with link := { s.link with fwd := s.link.fwd.filter (fun g => g != f) } }).completeReq f.req
      ⟨leAt pay 0 2, leAt pay 2 2, pay.drop 4⟩
/-- A command assembled: a request goes to the steward's input, a reply to what waits for it; less than a header is discarded. -/
def State.peerCommand (s : State) (src : Nat) (b : List Byte) : State :=
  match packetOf (.holwell (Fin.ofNat 64 src)) b with
  | none => s.bumpSat Reg.CMD_DROPS_COUNT 1
  | some q => if q.fReply then s.peerReply src q else { s with cmd := { s.cmd with peerIn := s.cmd.peerIn ++ [q] } }
/-- A segment of a command: the command is whole once its bytes have all come, in ascending offset. -/
def State.segment (s : State) (h data : List Byte) : State :=
  let src := hSrc h
  let num := leAt h 14 1
  let d := data.take (hLen h)
  let off := leAt h 10 2
  let is (c : CmdPart) : Bool := c.src == src && c.num == num
  let c : CmdPart := (s.link.parts.find? is).getD { src := src, num := num, len := leAt h 12 2, got := [] }
  let got : List (Nat × List Byte) := c.got ++ [(off, d)]
  let n := (got.map (fun g => g.2.length)).sum
  let rest := s.link.parts.filter (fun c => !is c)
  if n < c.len then { s with link := { s.link with parts := rest ++ [{ c with got := got }] } }
  else ({ s with link := { s.link with parts := rest } }).peerCommand src ((got.flatMap (fun (g : Nat × List Byte) => g.2)).take c.len)
/-- CMD (R480). -/
def execCmd (port : Fin 7) (pk : LinkPacket) (s : State) : Host.Outcome State Fault Refusal :=
  .next (s.packetRow 7 port.val pk (fun s => some (s.segment pk.header pk.payload)))
/-- CMD_REASSEMBLY_TIMEOUT: a command not complete within 1 ms of its first segment is discarded and counted (R480). -/
def execCmdReassemblyTimeout (src : Fin 64) (num : Byte) (s : State) : Host.Outcome State Fault Refusal :=
  let is (c : CmdPart) : Bool := c.src == src.val && c.num == num.toNat
  if s.link.parts.any is then
    .next ({ s with link := { s.link with parts := s.link.parts.filter (fun c => !is c) } }.bumpSat Reg.CMD_DROPS_COUNT 1)
  else .next s

/-! ### The commands (Table HOL-11) -/

/-- The RC fields of a port cleared. -/
def State.hlClear (s : State) (p : Nat) : State :=
  ((((s.put (Reg.HL_CRC_COUNT p) 0).put (Reg.HL_REPLAY_NAKS p) 0).put (Reg.HL_REPLAY_ROUNDS p) 0).put (Reg.HL_STALE_TAG_TO p) 0).put
    (Reg.HL_STALE_STALE p) 0
def hlinkStatusRun (s : State) (c : Ctx) : State × Ans :=
  let p := c.at 0 1
  let a := 0x100 + p * 0x40
  (if c.at 1 1 = 1 then s.hlClear p else s,
    Ans.ok (wordBytes ((List.range 8).map (fun k => s.word (wordsHlink (a + 4 * k)))) ++ leBytes 8 (s.get (Reg.HL_TXFLITS_COUNT p)) ++
      leBytes 8 (s.get (Reg.HL_RXFLITS_COUNT p))))
def hlinkStatusOp : OpSpec := { plainOp 0x0B10 4 hlinkStatusRun with
  range := fun _ c => firstBad [(0, c.at 0 1 ≤ 6), (1, c.at 1 1 ≤ 1)] }
/-- HLINK_STATUS (R504). -/
def execHlinkStatus (p : Packet) (s : State) : Host.Outcome State Fault Refusal := serve hlinkStatusOp p s

/-- ADMIN set or cleared: set, the link is declared down and held; cleared, a port that is not UP and does not train starts an attempt
(R504, Table HOL-10). -/
def State.setAdmin (s : State) (p admin : Nat) : State :=
  let s1 := s.put (Reg.HL_CTRL_ADMIN p) admin
  if s.owner p ≠ 0 then s1
  else if admin = 1 then (if s.hlState p = 5 then s1 else s1.linkDown p 4)
  else if 3 ≤ s.hlState p then (s1.setPort p { s1.port p with attempts := 0 }).attempt p else s1
/-- An HLINK_RETRAIN of the port runs: what acts on the port receives BUSY (R662, log entry 85). -/
def State.retraining (s : State) (p : Nat) : Bool := s.opOn 0x0B12 (fun r => leAt r.payload 0 1 == p)
def hlinkSetRun (s : State) (c : Ctx) : State × Ans :=
  let p := c.at 0 1
  if s.owner p ≠ 0 then (s, Ans.code 0xE 4)
  else if s.retraining p then busy s
  else ((s.put (Reg.HL_CTRL_TAG_TO p) (c.at 2 1)).setAdmin p (c.at 1 1), Ans.ok (leBytes 4 (s.word (wordsHlink (0x100 + p * 0x40)))))
def hlinkSetOp : OpSpec := { plainOp 0x0B11 4 hlinkSetRun with
  roles := [0, 1]
  range := fun _ c => firstBad [(0, c.at 0 1 ≤ 6), (1, c.at 1 1 ≤ 1), (2, 1 ≤ c.at 2 1)] }
/-- HLINK_SET (R504). -/
def execHlinkSet (p : Packet) (s : State) : Host.Outcome State Fault Refusal := serve hlinkSetOp p s

/-- HLINK_RETRAIN's effect (R496, R497): declared down by command, and an attempt starts. -/
def hlinkRetrainRun (s : State) (c : Ctx) : State × Ans :=
  let p := c.at 0 1
  if s.owner p ≠ 0 then (s, Ans.code 0xE 4)
  else if s.flag (Reg.HL_CTRL_ADMIN p) then (s, Ans.code 0xE 5)
  else if s.retraining p then busy s
  else pend ((s.setPort p { s.port p with full := c.at 1 1 == 1 }).linkDown p 4)
def hlinkRetrainOp : OpSpec := { plainOp 0x0B12 4 hlinkRetrainRun with
  roles := [0, 1]
  range := fun _ c => firstBad [(0, c.at 0 1 ≤ 6), (1, c.at 1 1 ≤ 1)]
  long := fun _ _ => true }
/-- HLINK_RETRAIN (R496). -/
def execHlinkRetrain (p : Packet) (s : State) : Host.Outcome State Fault Refusal := serve hlinkRetrainOp p s
/-- A wake burst on a PARKED or DOWN port (R498, Table HOL-10). -/
def State.wakeBurst (s : State) (p : Nat) : State := if s.hlState p = 3 ∨ s.hlState p = 4 then s.burst p else s
def hlinkWakeRun (s : State) (c : Ctx) : State × Ans :=
  let p := c.at 0 1
  if s.owner p ≠ 0 then (s, Ans.code 0xE 4)
  else if s.isUp p then (s, Ans.code 0xE 6)
  else if s.retraining p then busy s
  else (s.wakeBurst p, Ans.ok [])
def hlinkWakeOp : OpSpec := { plainOp 0x0B13 4 hlinkWakeRun with
  roles := [0, 1]
  range := fun _ c => firstBad [(0, c.at 0 1 ≤ 6)] }
/-- HLINK_WAKE (R498). -/
def execHlinkWake (p : Packet) (s : State) : Host.Outcome State Fault Refusal := serve hlinkWakeOp p s
/-- HL_CTRL.RETRAIN: declared down by command, and an attempt starts (R497, Table HOL-10). -/
def State.hlRetrain (s : State) (p : Nat) : State := if s.linkMay p ∧ s.hlState p ≠ 0 then s.linkDown p 4 else s
/-- HL_RETRAIN (R497). -/
def execHlRetrain (port : Fin 7) (s : State) : Host.Outcome State Fault Refusal := .next (s.hlRetrain port.val)
/-- HL_WAKE: HL_CTRL.WAKE (R498). -/
def execHlWake (port : Fin 7) (s : State) : Host.Outcome State Fault Refusal := .next (s.wakeBurst port.val)

end Sys2Proof.Machine
end

