-- ==== Sys2Proof/Machine/Time.lean ====
section
/-! DEFINITION. Time of day (chapter 21): the counter and its tick, steps and slews, sources, holdover, the alarm, captures,
and the time commands. -/

namespace Sys2Proof.Machine

/-- The limit of RATE, 500 ppm in units of 2^-40 (R534). -/
def rateMax : Int := 549755814
/-- RATE limited. -/
def clipRate (r : Int) : Int := if r > rateMax then rateMax else if r < -rateMax then -rateMax else r
/-- RATE set from its parts: the servo's value on the fast tick, the learned offset and the temperature term on the
crystal, and the largest rate in the slew's direction while a slew runs (R534, R537, R544). -/
def State.applyRate (s : State) : State :=
  let base := if s.flag Reg.TIME_STAT_XTAL then s.time.learned + s.time.comp else s.time.servo
  let r := if s.time.slew > 0 then rateMax else if s.time.slew < 0 then -rateMax else clipRate base
  s.put Reg.TIME_RATE_RATE (unsgn 32 r)
/-- RATE as a signed number. -/
def State.rate (s : State) : Int := sgn 32 (s.get Reg.TIME_RATE_RATE)

/-- The nominal tick in units of 2^-40 ns (Table TIME-1): 4 ns, 30,517.578125 ns or 62.5 ns. -/
def State.nominalTick (s : State) : Nat :=
  if s.flag Reg.TIME_STAT_RC then 125 * 2 ^ 39
  else if s.flag Reg.TIME_STAT_XTAL then 1000000000 * 2 ^ 25
  else 4 * 2 ^ 40
/-- The drift in ppb that TIME_UNCERT grows by in holdover (R535, R545). -/
def State.driftPpb (s : State) : Nat :=
  if s.flag Reg.TIME_STAT_RC then 30000
  else if s.flag Reg.TIME_STAT_XTAL then s.time.cfg.driftXtal else s.time.cfg.driftRef
/-- One microsecond of uncertainty in (2^-40 ns) × ppb. -/
def uncertUnit : Nat := 1000 * 2 ^ 40 * 1000000000

/-- REFCLK_REQ rises again 10 ms after the first reference timeout (R87). -/
def State.refAgain (s : State) : State :=
  match s.pwr.refLow with
  | some t =>
    if t + 10000000 * unitNs ≤ s.time.up then { s with pwr := { s.pwr with refLow := none } }.setFlag Reg.PWR_CLK_STATUS_REF_REQ true else s
  | none => s
/-- One tick of the counter (R534): nominal × (1 + RATE × 2^-40). A running slew shrinks by what RATE adds beyond the base, and
TIME_UNCERT grows in holdover (R545). In OFF the counter is lost (R533) and nothing ticks. -/
def State.tick (s : State) : State :=
  if !s.kettleOn && s.pwr.kettle != .thermalOff then s
  else
    let n := s.nominalTick
    let adv := (n : Int) + (n : Int) * s.rate / 2 ^ 40
    let base := if s.flag Reg.TIME_STAT_XTAL then s.time.learned + s.time.comp else s.time.servo
    let part := (n : Int) * (s.rate - clipRate base) / 2 ^ 40
    let left := s.time.slew - part
    let slew := if s.time.slew > 0 then max 0 left else if s.time.slew < 0 then min 0 left else 0
    let f := s.time.uncertFrac + (if s.flag Reg.TIME_STAT_HOLDOVER then n * s.driftPpb else 0)
    let s1 := { s with time := { s.time with
      tod := (s.time.tod + adv.toNat) % (2 ^ 48 * unitSec), up := s.time.up + n, slew := slew, uncertFrac := f % uncertUnit } }
    (s1.bumpSat Reg.TIME_UNCERT_US (f / uncertUnit)).refAgain

/-- The alarm's time in counter units. -/
def State.alarmSec (s : State) : Nat := s.get Reg.ALM_PERIOD_SEC_HI * 2 ^ 32 + s.get Reg.ALM2_SEC
def State.alarmAt (s : State) : Nat := s.alarmSec * unitSec + s.get Reg.ALM1_NS * unitNs
/-- The alarm's seconds set. -/
def State.putAlarmSec (s : State) (x : Nat) : State :=
  (s.put Reg.ALM2_SEC x).put Reg.ALM_PERIOD_SEC_HI (x >>> 32)
/-- The first second, counting in PERIOD steps from the time the alarm was set to, whose alarm time lies after the counter. -/
def State.alarmNext (s : State) : Nat :=
  let p := s.get Reg.ALM_PERIOD_PERIOD
  let b := s.time.alarmBase * unitSec + s.get Reg.ALM1_NS * unitNs
  if s.time.tod < b then s.time.alarmBase
  else s.time.alarmBase + p * ((s.time.tod - b) / (p * unitSec) + 1)
/-- The alarm fires (R546): ALARM set, the wake latched, the fabric event pulsed. It then disarms with PERIOD 0; otherwise it
takes its time plus PERIOD, or, where it fired for a time already past or crossed by a step, the next time after the
counter (R547). -/
def State.fireAlarm (s : State) (past : Bool) : State :=
  let s1 := (s.event Reg.TIME_EVT_ALARM 1 0 Reg.TIME_IRQ_EN_EN 4 .timeIrq).latchWake 9
  let s2 := if s1.fabricPowered then s1.emit [.timeAlarm] else s1
  let p := s2.get Reg.ALM_PERIOD_PERIOD
  if p = 0 then s2.setFlag Reg.ALM0_EN false
  else if past then s2.putAlarmSec s2.alarmNext
  else s2.putAlarmSec (s2.alarmSec + p)
/-- The alarm armed and reached. -/
def State.alarmDue (s : State) : Bool := s.flag Reg.ALM0_EN && decide (s.alarmAt ≤ s.time.tod)

/-- A step of the counter (R537, R547, R551): TIME_EVT.STEP, TIME_STEP with the step in ns, the slew cancelled, an alarm crossed
forwards fired once, a periodic alarm set anew after a step backwards. -/
def State.stepTo (s : State) (t : Nat) : State :=
  let old := s.time.tod
  let d := satS 64 (((t : Int) - (old : Int)) / 2 ^ 40)
  let s1 := ({ s with time := { s.time with tod := t, slew := 0 } }).applyRate
  let s2 := (s1.event Reg.TIME_EVT_STEP 1 3 Reg.TIME_IRQ_EN_EN 4 .timeIrq).logEvent 0x0901 0 (leBytes 8 (unsgn 64 d))
  if t < old then
    if s2.flag Reg.ALM0_EN && s2.get Reg.ALM_PERIOD_PERIOD != 0 then s2.putAlarmSec s2.alarmNext else s2
  else if s2.alarmDue then s2.fireAlarm true else s2

/-- An ACTIVE member that is not the leader takes its time from the leader (R538). -/
def State.follows (s : State) : Bool :=
  s.get Reg.ENS_STAT_STATE == 2 && s.get Reg.ENS_STAT_LEADER != s.get Reg.ENS_STAT_ID
/-- TIME_STAT.SRC_ACT (R538). -/
def State.setSrcAct (s : State) : State :=
  s.put Reg.TIME_STAT_SRC_ACT (if s.follows then 2 else if s.time.cfg.src = 0 then 0 else 1)
/-- HOLDOVER set; HOLD where it rose (R539, R545). -/
def State.enterHoldover (s : State) : State :=
  let s1 := s.setFlag Reg.TIME_STAT_LOCKED false
  let s2 := { s1 with time := { s1.time with good := 0 } }
  if s2.flag Reg.TIME_STAT_HOLDOVER then s2
  else (s2.setFlag Reg.TIME_STAT_HOLDOVER true).event Reg.TIME_EVT_HOLD 1 1 Reg.TIME_IRQ_EN_EN 4 .timeIrq
/-- A TIME_UNSURE change (R17, R524). -/
def State.setUnsure (s : State) (b : Bool) : State :=
  if s.flag Reg.TIME_STAT_TIME_UNSURE = b then s
  else ((s.setFlag Reg.TIME_STAT_TIME_UNSURE b).setFlag Reg.ENS_STAT_TIME_UNSURE b).event Reg.TIME_EVT_UNSURE 1 4
    Reg.TIME_IRQ_EN_EN 4 .timeIrq

/-- A measurement of the source: the amount `off` in ns by which the source is ahead (R539, R542). TIME_OFFSET holds it; a
first PTP offset above 1 ms is stepped, anything else slewed; eight in a row below 100 ns lock the counter. The servo's own
rate after a measurement is a free value within the limit. -/
def State.measure (s : State) (off : Int) (mayStep : Bool) : State :=
  let s1 := s.put Reg.TIME_OFFSET_OFFSET (unsgn 32 (satS 32 off))
  let s2 := (s1.setFlag Reg.TIME_STAT_SET true).draw
  let big := off > 1000000 ∨ off < -1000000
  let s3 :=
    if mayStep && decide big then s2.stepTo ((s2.time.tod : Int) + off * 2 ^ 40).toNat
    else ({ s2 with time := { s2.time with slew := off * 2 ^ 40, servo := clipRate (sgn 32 (s1.drawn 32)) } }).applyRate
  let g := if off < 100 ∧ off > -100 then s3.time.good + 1 else 0
  let s4 := { s3 with time := { s3.time with good := g, firstDone := true } }
  if 8 ≤ g ∧ ¬ s4.flag Reg.TIME_STAT_LOCKED then
    let s5 := { s4 with time := { s4.time with fresh := true, uncertFrac := 0 } }
    (((s5.setFlag Reg.TIME_STAT_LOCKED true).setFlag Reg.TIME_STAT_HOLDOVER false).put Reg.TIME_UNCERT_US 0).event
      Reg.TIME_EVT_LOCK 1 2 Reg.TIME_IRQ_EN_EN 4 .timeIrq
  else s4

/-! ### Commands -/

/-- The TIME_STAT word. -/
def State.timeStatWord (s : State) : Nat :=
  s.get Reg.TIME_STAT_SRC_ACT <<< 30 ||| s.get Reg.TIME_STAT_LOCKED <<< 29 ||| s.get Reg.TIME_STAT_HOLDOVER <<< 28 |||
  s.get Reg.TIME_STAT_TIME_UNSURE <<< 27 ||| s.get Reg.TIME_STAT_SET <<< 26 ||| s.get Reg.TIME_STAT_XTAL <<< 25 |||
  s.get Reg.TIME_STAT_RC <<< 24
def timeGetOp : OpSpec := plainOp 0x0900 0 (fun s _ =>
  (s, Ans.ok (todBytes s.time.tod ++ wordBytes [s.timeStatWord, s.get Reg.TIME_RATE_RATE, s.get Reg.TIME_OFFSET_OFFSET,
    s.get Reg.TIME_UNCERT_US, s.get Reg.TIME_UTC_UTC])))
/-- TIME_GET (R553). -/
def execTimeGet (p : Packet) (s : State) : Host.Outcome State Fault Refusal := serve timeGetOp p s

/-- The counter value that TIME_SET asks for, as an integer in counter units. -/
def timeSetTarget (s : State) (c : Ctx) : Int :=
  if c.at 0 1 = 0 then (c.at 4 8 : Int) * (unitSec : Int) + (c.at 12 4 : Int) * (unitNs : Int)
  else (s.time.tod : Int) + sgn 64 (c.at 4 8) * (unitSec : Int) + sgn 32 (c.at 12 4) * (unitNs : Int)
/-- TIME_SET's effect (R537, R545, R552). -/
def timeSetRun (s : State) (c : Ctx) : State × Ans :=
  if s.follows then (s, Ans.code 0xE 1)
  else
    let before := todBytes s.time.tod
    let s1 := s.stepTo (timeSetTarget s c).toNat
    let s2 := ((s1.put Reg.TIME_UTC_UTC (c.at 2 2)).put Reg.TIME_UNCERT_US (c.at 16 4)).setFlag Reg.TIME_STAT_SET true
    ({ s2 with time := { s2.time with uncertFrac := 0 } }, Ans.ok before)
/-- TIME_SET's ranges (R553). -/
def timeSetRange (s : State) (c : Ctx) : Option Nat :=
  let sec := sgn 64 (c.at 4 8)
  let ns := sgn 32 (c.at 12 4)
  if c.at 0 1 = 0 then firstBad [(4, c.at 4 8 < 2 ^ 48), (12, c.at 12 4 ≤ 999999999)]
  else if c.at 0 1 = 1 then
    let t := timeSetTarget s c
    firstBad [(12, -999999999 ≤ ns && ns ≤ 999999999 && !(sec > 0 && ns < 0) && !(sec < 0 && ns > 0)),
      (4, decide (0 ≤ t) && decide (t < ((2 ^ 48 * unitSec : Nat) : Int)))]
  else some 0
def timeSetOp : OpSpec := { plainOp 0x0901 20 timeSetRun with roles := [0, 1], range := timeSetRange }
/-- TIME_SET (R537). -/
def execTimeSet (p : Packet) (s : State) : Host.Outcome State Fault Refusal := serve timeSetOp p s

/-- TIME_ADJUST: a slew, added to what a running slew has not yet removed (R553). -/
def timeAdjustRun (s : State) (c : Ctx) : State × Ans :=
  if s.follows then (s, Ans.code 0xE 1)
  else
    let t := { s.time with slew := s.time.slew + sgn 64 (c.at 0 8) * 2 ^ 40 }
    (({ s with time := t }).applyRate, Ans.ok [])
def timeAdjustOp : OpSpec := { plainOp 0x0902 8 timeAdjustRun with
  roles := [0, 1]
  range := fun _ c => let o := sgn 64 (c.at 0 8); firstBad [(0, -10000000000 ≤ o && o ≤ 10000000000)] }
/-- TIME_ADJUST (R537). -/
def execTimeAdjust (p : Packet) (s : State) : Host.Outcome State Fault Refusal := serve timeAdjustOp p s

/-- The twelve bytes of TIME_SOURCE's settings. -/
def TimeCfg.sourceBytes (t : TimeCfg) : List Byte :=
  leBytes 1 t.src ++ leBytes 1 t.t0 ++ leBytes 2 t.beta ++ leBytes 4 t.driftRef ++ leBytes 4 t.driftXtal
/-- TIME_SOURCE's effect: the settings recorded and in use (R538, R663). -/
def timeSourceRun (s : State) (c : Ctx) : State × Ans :=
  let t := { s.time.cfg with src := c.at 0 1, t0 := c.at 1 1, beta := c.at 2 2, driftRef := c.at 4 4, driftXtal := c.at 8 4 }
  let first := s.time.firstDone && t.src == s.time.cfg.src
  (({ s with time := { s.time with cfg := t, firstDone := first } }.persist .timeCfg).setSrcAct, Ans.ok s.time.cfg.sourceBytes)
def timeSourceOp : OpSpec := { plainOp 0x0903 12 timeSourceRun with
  roles := [0, 1]
  range := fun s c => firstBad [(0, c.at 0 1 ≤ 2 && (c.at 0 1 == 0 || s.get (Reg.QUAD_CFG_OWNER 7) == 2))] }
/-- TIME_SOURCE (R538). -/
def execTimeSource (p : Packet) (s : State) : Host.Outcome State Fault Refusal := serve timeSourceOp p s

/-- The words ALM0–ALM2 and ALM_PERIOD. -/
def State.alarmWords (s : State) : List Nat :=
  [s.get Reg.ALM0_EN <<< 31, s.get Reg.ALM1_NS, s.get Reg.ALM2_SEC,
   s.get Reg.ALM_PERIOD_SEC_HI <<< 16 ||| s.get Reg.ALM_PERIOD_PERIOD]
/-- TIME_ALARM's effect: the alarm set or disarmed; one set to a time already past fires at once (R547). -/
def timeAlarmRun (s : State) (c : Ctx) : State × Ans :=
  let s1 := (((s.put Reg.ALM0_EN (c.at 0 1)).put Reg.ALM1_NS (c.at 12 4)).putAlarmSec (c.at 4 8)).put Reg.ALM_PERIOD_PERIOD (c.at 16 4)
  let s2 := { s1 with time := { s1.time with alarmBase := c.at 4 8 } }
  (if s2.alarmDue then s2.fireAlarm true else s2, Ans.ok (wordBytes s.alarmWords))
def timeAlarmOp : OpSpec := { plainOp 0x0904 20 timeAlarmRun with
  range := fun _ c => firstBad [(0, c.at 0 1 ≤ 1), (4, c.at 4 8 < 2 ^ 48), (12, c.at 12 4 ≤ 999999999),
    (16, c.at 16 4 ≤ 65535)] }
/-- TIME_ALARM (R546). -/
def execTimeAlarm (p : Packet) (s : State) : Host.Outcome State Fault Refusal := serve timeAlarmOp p s

/-- The eight bytes of TIME_PTP_CONFIG's settings. -/
def TimeCfg.ptpBytes (t : TimeCfg) : List Byte :=
  leBytes 1 t.domain ++ leBytes 1 t.flags ++ leBytes 1 t.logPdelay ++ leBytes 1 0 ++ leBytes 4 t.ipv4
/-- TIME_PTP_CONFIG's effect: recorded, and in force at once or at the next RUN (R553, R663). -/
def timePtpRun (s : State) (c : Ctx) : State × Ans :=
  let t := { s.time.cfg with domain := c.at 0 1, flags := c.at 1 1, logPdelay := c.at 2 1, ipv4 := c.at 4 4 }
  let live := if s.stewardUp then t else s.time.ptpLive
  ({ s with time := { s.time with cfg := t, ptpLive := live } }.persist .timeCfg, Ans.ok s.time.cfg.ptpBytes)
def timePtpConfigOp : OpSpec := { plainOp 0x0905 8 timePtpRun with
  roles := [0, 1]
  range := fun _ c => let l := sgn 8 (c.at 2 1)
    firstBad [(0, c.at 0 1 ≤ 127), (1, c.at 1 1 ≤ 7), (2, -4 ≤ l && l ≤ 4), (4, bit (c.at 1 1) 2 || c.at 4 4 == 0)] }
/-- TIME_PTP_CONFIG (R540). -/
def execTimePtpConfig (p : Packet) (s : State) : Host.Outcome State Fault Refusal := serve timePtpConfigOp p s

/-- Capture `i`: 0–15 TCAP, 16–19 CSI_FS (Table TIME-5), as its four words. -/
def State.captureWords (s : State) (i : Nat) : List Nat :=
  if i < 16 then
    [s.get (Reg.TCAP_NEW i) <<< 31 ||| s.get (Reg.TCAP_OVR i) <<< 30 ||| s.get (Reg.TCAP_HOLD i) <<< 29 ||| s.get (Reg.TCAP_FRAC i),
     s.get (Reg.TCAP_NS i), s.get (Reg.TCAP_SEC i) % 2 ^ 32, s.get (Reg.TCAP_SEC i) >>> 32]
  else
    let r := i - 16
    [s.get (Reg.CSI_FS_NEW r) <<< 31 ||| s.get (Reg.CSI_FS_OVR r) <<< 30 ||| s.get (Reg.CSI_FS_HOLD r) <<< 29 |||
       s.get (Reg.CSI_FS_FRAC r),
     s.get (Reg.CSI_FS_NS r), s.get (Reg.CSI_FS_SEC r) % 2 ^ 32, s.get (Reg.CSI_FS_SEC r) >>> 32]
/-- The NEW bit of capture `i` cleared. -/
def State.captureRead (s : State) (i : Nat) : State :=
  if i < 16 then s.setFlag (Reg.TCAP_NEW i) false else s.setFlag (Reg.CSI_FS_NEW (i - 16)) false
/-- TIME_CAPTURE's effect (R549). -/
def timeCaptureRun (s : State) (c : Ctx) : State × Ans :=
  let l := (List.range (c.at 1 1)).map (fun k => c.at 0 1 + k)
  (l.foldl State.captureRead s, Ans.ok (l.flatMap (fun i => wordBytes (s.captureWords i))))
def timeCaptureOp : OpSpec := { plainOp 0x0906 4 timeCaptureRun with
  range := fun _ c => firstBad [(0, c.at 0 1 ≤ 19), (1, 1 ≤ c.at 1 1 && c.at 0 1 + c.at 1 1 ≤ 20)] }
/-- TIME_CAPTURE (R549). -/
def execTimeCapture (p : Packet) (s : State) : Host.Outcome State Fault Refusal := serve timeCaptureOp p s

/-- The counter captured into a set of capture fields (R548, R549). -/
def State.capture (s : State) (new ovr hold frac ns sec : Fld) : State :=
  let t := s.time.tod
  let s1 := if s.flag new then s.setFlag ovr true else s
  ((((s1.setFlag new true).put hold (s.get Reg.TIME_STAT_HOLDOVER)).put frac (todFrac t)).put ns (todNs t)).put sec (todSec t)
/-- TCAP_CAPTURE: a rising edge of the fabric signal TCAPc, while the fabric runs (R548, R549). -/
def execTcapCapture (c : Fin 16) (s : State) : Host.Outcome State Fault Refusal :=
  if s.fabricPowered then
    .next (s.capture (Reg.TCAP_NEW c) (Reg.TCAP_OVR c) (Reg.TCAP_HOLD c) (Reg.TCAP_FRAC c) (Reg.TCAP_NS c) (Reg.TCAP_SEC c))
  else .next s
/-- The CSI-2 receiver runs: its lanes powered, in DOZE the wake camera's alone (R19, R71). -/
def State.csiRuns (s : State) (r : Nat) : Bool :=
  s.kettleOn && s.pwr.enL && (s.cur != 2 || s.dozeCam == some r)
/-- CSI_FRAME_START: the end of a Frame Start packet at receiver r (R548). -/
def execCsiFrameStart (r : Fin 4) (s : State) : Host.Outcome State Fault Refusal :=
  if s.csiRuns r.val then
    .next (s.capture (Reg.CSI_FS_NEW r) (Reg.CSI_FS_OVR r) (Reg.CSI_FS_HOLD r) (Reg.CSI_FS_FRAC r) (Reg.CSI_FS_NS r)
      (Reg.CSI_FS_SEC r))
  else .next s

/-! ### Events -/

/-- The accuracy of a MAC's timestamps in ns (R541): by the rate of Q7 and the mode of the lane, in SGMII by the speed of the PHY. -/
def State.macAccuracy (s : State) (mac : Nat) (mbps : Nat) : Nat :=
  if s.get (Reg.QUAD_CFG_RATE 7) = 2 ∨ (s.lanes.getD (28 + mac) LaneX.fresh).baseX then 4
  else if mbps = 1000 then 8 else if mbps = 100 then 40 else 400
/-- An event message timestamped: the counter at the message timestamp point, off by a free value within the accuracy. -/
def State.macStamp (s : State) (mac : Nat) (egress : Bool) (mbps : Nat) : State :=
  let a := s.macAccuracy mac mbps
  let err : Int := (s.drawn 16 % (2 * a + 1) : Nat) - (a : Int)
  let x : MacStamp := { mac := mac, egress := egress, tod := ((s.time.tod : Int) + err * unitNs).toNat, hold := s.flag Reg.TIME_STAT_HOLDOVER }
  { s.draw with time := { s.time with macStamps := s.time.macStamps ++ [x] } }
/-- PTP_EVENT_MESSAGE: an event message comes to a MAC of Q7 or leaves it and is timestamped. One that completes a measurement gives its
offset: the steward takes the timestamps, and where the MAC is the one that TIME_SOURCE names the offset steers the counter, unless the
device follows a leader (R538–R541). TIME_UTC takes what that source reports (R532). -/
def execPtpEventMessage (m : PtpMessage) (s : State) : Host.Outcome State Fault Refusal :=
  if !s.stewardUp || s.get (Reg.QUAD_CFG_OWNER 7) != 2 then .next s
  else
    let steers := decide (s.time.cfg.src = m.mac.val + 1) && !s.follows
    let s0 := s.macStamp m.mac.val m.egress m.mbps
    let s1 := match m.utc with
      | some u => if steers then s0.put Reg.TIME_UTC_UTC u.toNat else s0
      | none => s0
    match m.offset with
    | none => .next s1
    | some off =>
      let s2 := { s1 with time := { s1.time with macStamps := s1.time.macStamps.filter (fun x => x.mac != m.mac.val) } }
      .next (if steers then s2.measure off (!s2.time.firstDone && !s2.flag Reg.TIME_STAT_LOCKED) else s2)
/-- TIME_SYNC_EXCHANGE: the four times of one exchange in units of 2^-16 ns. An exchange with a replayed flit, a changed link
epoch or a round trip above 2 µs is discarded; a member steers only while its parent is LOCKED or is the leader, and a member
more than 1 ms away is TIME_UNSURE (R542, R543). -/
def execTimeSyncExchange (t1 t2 t3 t4 : Nat) (valid parentLocked : Bool) (s : State) : Host.Outcome State Fault Refusal :=
  let rt : Int := ((t4 : Int) - t1) - ((t3 : Int) - t2)
  let off : Int := (((t2 : Int) - t1) - ((t4 : Int) - t3)) / 2 / 65536
  if s.stewardUp && s.follows && valid && decide (rt ≤ 2000 * 65536) && parentLocked then
    .next ((s.measure off false).setUnsure (decide (off > 1000000 ∨ off < -1000000)))
  else .next s
/-- HOLDOVER_TIMEOUT: no valid measurement for 1 s (R539). -/
def execHoldoverTimeout (s : State) : Host.Outcome State Fault Refusal :=
  if s.kettleOn && s.flag Reg.TIME_STAT_LOCKED then .next s.enterHoldover else .next s
/-- XTAL_COMPENSATION: on the crystal in holdover, the term β × (T − T0)² in units of 2^-40 (R544). -/
def execXtalCompensation (temp : Int) (s : State) : Host.Outcome State Fault Refusal :=
  if s.kettleOn && s.flag Reg.TIME_STAT_XTAL && s.flag Reg.TIME_STAT_HOLDOVER then
    let d := temp - sgn 8 s.time.cfg.t0
    let c := (s.time.cfg.beta : Int) * d * d * 2 ^ 40 / 1000000000
    .next (({ s with time := { s.time with comp := c } }).applyRate)
  else .next s
/-- XTAL_OK_CHANGE: the crystal's amplitude comes within limits or leaves them, and the counter hands over its tick source; a
crystal that fails under the counter sets HOLDOVER (R535). -/
def execXtalOkChange (ok : Bool) (s : State) : Host.Outcome State Fault Refusal :=
  if s.kettleOn then
    let was := s.flag Reg.TIME_STAT_XTAL
    let s1 := ((s.setFlag Reg.PWR_CLK_STATUS_XTAL_OK ok).retick).applyRate
    .next (if !ok && was then s1.enterHoldover else s1)
  else .next s
/-- SLEW_COMPLETE: RATE returns to the servo's value (R537). -/
def execSlewComplete (s : State) : Host.Outcome State Fault Refusal :=
  if s.time.slew = 0 then .next s else .next (({ s with time := { s.time with slew := 0 } }).applyRate)
/-- ALARM_FIRE: the armed alarm's time is reached (R546). -/
def execAlarmFire (s : State) : Host.Outcome State Fault Refusal :=
  if s.kettleOn && s.alarmDue then .next (s.fireAlarm false) else .next s
/-- TOD_PPS: the ball rises at a second boundary and falls 1 ms later; it is low in SLEEP (R549). -/
def execTodPps (level : Bool) (s : State) : Host.Outcome State Fault Refusal :=
  .next { s with time := { s.time with pps := level && s.kettleOn && s.cur != 3 } }

/-- A packet that only the steward firmware of a partner sends: taken without reply where it is whole and comes over the link in
the peer role; anyone else's is refused (R515, R553). -/
def serveSteward (code : Nat) (p : Packet) (act : State → State) (s : State) : Host.Outcome State Fault Refusal :=
  let op : OpSpec := { plainOp code 0 (fun s _ => (s, Ans.code 5 1)) with roles := [] }
  let mine : Bool := match p.via with | .holwell _ => true | _ => false
  let whole : Bool := p.opcode.toNat == code && p.magic == 0x4D37 && p.flags == 0 && p.ver == 1 && p.role == 2 && p.session == 0 &&
    decide (p.body.length = p.len.toNat) && crc32c p.covered == p.crc.toNat
  if mine && whole then
    match s.takePacket p with
    | none => .next s
    | some s1 => .next (act s1)
  else serve op p s

/-- TIME_SYNC: a request of a neighbour is answered with the times it was received and is answered at; a response is kept for
the exchange (R542). -/
def execTimeSync (p : Packet) (s : State) : Host.Outcome State Fault Refusal :=
  serveSteward 0x09F0 p (fun s =>
    let b := p.payload
    if leAt b 0 1 = 0 then
      let now := todBytes s.time.tod
      let pay := leBytes 1 1 ++ zeros 3 ++ slice b 4 20 ++ now ++ now
      let q : Packet := { p with len := BitVec.ofNat 16 pay.length, body := pay, crc := 0 }
      { s with cmd := { s.cmd with peerOut := s.cmd.peerOut ++ [{ q with crc := BitVec.ofNat 32 (crc32c q.covered) }] } }
    else { s with time := { s.time with syncResp := b } }) s

end Sys2Proof.Machine
end

