-- ==== Sys2Proof/Machine/Ens.lean ====
section
/-! DEFINITION. Ensembles: the join descriptor, the view and the leader, commits and their adoption, disagreement, the tray steward, and
the ensemble commands (chapter 20, tray caps of chapter 22). -/

namespace Sys2Proof.Machine

/-! ### Records and the view (R516) -/

/-- Fields of bytes 0–127 of a message (Table ENS-3). -/
def mKind (m : List Byte) : Nat := leAt m 0 1
def mId (m : List Byte) : Nat := leAt m 1 1
def mState (m : List Byte) : Nat := leAt m 2 1
def mForced (m : List Byte) : Bool := bit (leAt m 3 1) 0
def mRunning (m : List Byte) : Bool := bit (leAt m 3 1) 1
def mMajor (m : List Byte) : Nat := leAt m 4 1
def mEpoch (m : List Byte) : Nat := leAt m 8 8
def mTime (m : List Byte) : Nat := leAt m 20 6 * unitSec + leAt m 16 4 * unitNs
def mCdig (m : List Byte) : List Byte := slice m 32 32
def mCfg (m : List Byte) : List Byte := slice m 64 32
def mKcv (m : List Byte) : List Byte := slice m 96 8
def mSet (m : List Byte) : Nat := leAt m 104 8
def mHeld (m : List Byte) : Nat := leAt m 112 8

/-- The number of devices of the ensemble. -/
def State.ensN (s : State) : Nat := s.get Reg.ENS_SHAPE_N
/-- The RECORD that this device would send now. -/
def State.ownRecord (s : State) : List Byte :=
  s.accordBody 0 (s.get Reg.ENS_EPOCH_EPOCH) (leBytes 8 (idMask s.heardIds)) []
/-- The view: this device and every device it hears, with their RECORDs. -/
def State.view (s : State) : List (Nat × List Byte) :=
  (s.ensId, s.ownRecord) :: ((s.heardIds.filter (fun i => i != s.ensId && decide (i < s.ensN))).map (fun i => (i, tget [] s.ens.recs i)))
/-- The eligible devices of the view: same CFG and KCV, a distinct ID, not HELD. -/
def State.eligible (s : State) : List (Nat × List Byte) :=
  s.view.filter (fun e => mCfg e.2 == s.cfgDigest && mKcv e.2 == s.kcv && mState e.2 != 5 &&
    (e.1 != s.ensId || (!s.ens.dup && !s.ens.out)))
/-- The group with the most members; on a tie the one that contains the lowest ID. -/
def majority {α : Type} [DecidableEq α] (l : List (Nat × α)) : List Nat :=
  let groups := (l.map (fun e => e.2)).eraseDups.map (fun k => (l.filter (fun e => decide (e.2 = k))).map (fun e => e.1))
  let low (g : List Nat) : Nat := g.foldl min 64
  groups.foldl (fun b g => if b.length < g.length ∨ (b.length = g.length ∧ low g < low b) then g else b) []
/-- The active set of the view: of the firmware majority, those whose CDIG the most hold. -/
def State.viewActive (s : State) : List Nat :=
  let e := s.eligible
  let fw := majority (e.map (fun d => (d.1, mMajor d.2)))
  majority ((e.filter (fun d => decide (d.1 ∈ fw))).map (fun d => (d.1, mCdig d.2)))
/-- The leader of the view: the lowest ID of its active set. -/
def State.viewLeader (s : State) : Option Nat :=
  match s.viewActive with
  | [] => none
  | i :: l => some (l.foldl min i)
/-- The held devices of the view. -/
def State.viewHeld (s : State) : List Nat :=
  (s.view.filter (fun e => mState e.2 == 5 && mCfg e.2 == s.cfgDigest && mKcv e.2 == s.kcv)).map (fun e => e.1)
/-- A set of `n` devices is a quorum. -/
def State.quorum (s : State) (n : Nat) : Bool := decide (s.ensN / 2 + 1 ≤ n)

/-! ### Tray limits (R525, R526) -/

/-- The tray limit in force, a share (3) or the fallback (4), and the cap recomputed. -/
def State.setTrayLim (s : State) (src lim : Nat) : State :=
  { s with bud := { s.bud with traySrc := src, trayLim := lim } }.capRecalc
/-- The fallback: the last tray cap received ÷ T; none where no tray cap has come. -/
def State.trayFallback (s : State) : State :=
  let c := s.get Reg.BUD_TRAY_TRAY_CAP
  if s.ens.desc = [] ∨ s.trayT = 0 ∨ c = 0 then s.setTrayLim 0 0 else s.setTrayLim 4 (c / s.trayT)
/-- A tray cap and share in mW received. -/
def State.takeShare (s : State) (cap share : Nat) : State :=
  let s1 := (s.put Reg.BUD_TRAY_TRAY_CAP (cap / 100)).put Reg.BUD_TRAY_SHARE (share / 100)
  if s1.get Reg.ENS_STAT_STATE = 1 then s1.trayFallback else s1.setTrayLim 3 (share / 100)
/-- The devices of this device's tray. -/
def State.trayIds (s : State) : List Nat :=
  (List.range s.ensN).filter (fun i => s.trayT != 0 && i / s.trayT == s.ensId / s.trayT)
/-- The tray steward: the lowest-ID device of the tray in the active set. -/
def State.traySteward (s : State) : Option Nat := (s.trayIds.filter (fun i => s.inActive i)).head?
/-- The tray cap the steward splits, in mW: the lower of host's and manager's, else the one it last received. -/
def State.trayCap (s : State) : Nat :=
  let h := s.ens.hostTray * 1000
  let m := s.ens.mgrTray * 1000
  if h = 0 ∧ m = 0 then s.get Reg.BUD_TRAY_TRAY_CAP * 100 else if h = 0 then m else if m = 0 then h else min h m
/-- The largest number below 2^n at which `f` is at most `b`, for a rising `f`. -/
def largest (f : Nat → Nat) (b : Nat) : Nat → Nat → Nat
  | 0, x => x
  | n + 1, x => largest f b n (if f (x + 2 ^ n) ≤ b then x + 2 ^ n else x)
/-- The shares of heard devices (R566): from cap C, T devices a tray, the unheard count, and each heard device's demand and effective
cap in 100 mW. -/
def shares (c t unheard : Nat) (l : List (Nat × Nat)) : List Nat :=
  let b := c - unheard * c / t
  let w : List (Nat × Nat) := l.map (fun e => (min (max (110 * e.1) 15000) (100 * e.2), 100 * e.2))
  if (w.map (fun e => e.1)).sum ≤ b then
    let x := largest (fun x => (w.map (fun e => min (e.1 + x) e.2)).sum) b 20 0
    w.map (fun e => min (e.1 + x) e.2)
  else
    let y := largest (fun y => (w.map (fun e => min e.1 y)).sum) b 20 0
    w.map (fun e => min e.1 y)
/-- The steward splits the tray cap: `got` holds demand and effective cap of each heard tray device but itself, by rising ID. -/
def State.trayShare (s : State) (got : List (BitVec 16 × BitVec 16)) : State :=
  let c := s.trayCap
  if !s.flag Reg.ENS_STAT_STEWARD || c == 0 then s
  else
    let others := s.trayIds.filter (fun i => i != s.ensId && s.heardIds.contains i)
    let unheard := s.trayIds.length - others.length - 1
    let vals := others.zipIdx.map (fun e => match got[e.2]? with
      | some v => (e.1, v.1.toNat, v.2.toNat)
      | none => (e.1, 0, 1100))
    let all := (s.ensId, s.get Reg.BUD_POWER_DEMAND, s.get Reg.BUD_CAP_EFF_NOTRAY) :: vals
    let sh := shares c s.trayT unheard (all.map (fun e => (e.2.1, e.2.2)))
    (all.zip sh).foldl (fun s e =>
      if e.1.1 = s.ensId then s.takeShare c e.2
      else s.sendAccord [e.1.1] (s.accordBody 3 (s.get Reg.ENS_EPOCH_EPOCH) (leBytes 4 c ++ leBytes 4 e.2) [])) s

/-! ### States (Table ENS-4, Table ENS-5) -/

/-- The device returns to FORMING (R512, R518). -/
def State.forming (s : State) : State :=
  let s1 := ((s.put Reg.ENS_STAT_STATE 1).put Reg.ENS_REASON_REASON 0).put Reg.ENS_STAT_STEWARD 0
  ({ s1 with ens := { s1.ens with formedAt := s1.time.up, leader := none, adopting := none } }).trayFallback.setSrcAct
/-- A disagreement's outcome: the state, ENS_REASON, and an entry the first time (R522). -/
def State.disagree (s : State) (st reason : Nat) : State :=
  let same := s.get Reg.ENS_STAT_STATE = st ∧ s.get Reg.ENS_REASON_REASON = reason
  let s1 := (((s.put Reg.ENS_STAT_STATE st).put Reg.ENS_REASON_REASON reason).put Reg.ENS_STAT_STEWARD 0).setSrcAct
  if same then s1
  else if reason = 5 then s1.logEvent 0x0603 s.ensId []
  else s1.logEvent 0x0602 s.ensId (leBytes 1 reason)
/-- FORCED ends when the device hears a quorum (R521). -/
def State.hearQuorum (s : State) : State :=
  if s.quorum s.viewActive.length then { s with ens := { s.ens with force := false } }.put Reg.ENS_STAT_FORCED 0 else s

/-! ### Commits (R517–R519) -/

/-- A COMMIT taken: it is adopted once the remote operations of the old epoch have completed. Waits whose target is not in its active
set fail with NO_DEVICE (R391). -/
def State.takeCommit (s : State) (m : List Byte) : State :=
  let s1 := { s with ens := { s.ens with adopting := some m, timeAt := (mTime m : Int) - s.time.tod } }
  (s1.sync.ops.foldl (fun s o => match o.phase with
    | .sent p tag =>
      if o.wait && !bit (mSet m) (objDev o.obj) then (s.freeTag p tag).answerOp o.key 3 0 else s
    | _ => s) s1).settleCmds
/-- The commit of this device as leader sent and taken (R517): a RUNNING leader counts no epoch above its own (DEDUCED from R523, log
entry 57). -/
def State.commit (s : State) : State :=
  let el := s.eligible
  let own := s.get Reg.ENS_EPOCH_EPOCH
  let top := el.foldl (fun m e => max m (mEpoch e.2)) own
  let base := if s.ens.running then own else top
  let forced := !s.quorum s.viewActive.length
  let e := base + 1 + (if forced then 2 ^ 32 else 0)
  let s1 := if forced then s.put Reg.ENS_STAT_FORCED 1 else s
  let body := s1.accordBody 1 (e % 2 ^ 64) (leBytes 8 (idMask s1.viewActive)) (leBytes 8 (idMask s1.viewHeld))
  (s1.sendAccord ((el.map (fun e => e.1)).filter (fun i => i != s1.ensId)) body).takeCommit body
/-- The leader's part of a heartbeat: a commit where the active set, the held set or the leader differs from the last commit, with
quorum or under ENS_FORCE, and not before MISS × HB in FORMING. -/
def State.maybeCommit (s : State) : State :=
  let a := s.viewActive
  let changed := s.ens.leader ≠ some s.ensId ∨ s.ens.active ≠ idMask a ∨ s.ens.heldSet ≠ idMask s.viewHeld
  if s.viewLeader = some s.ensId ∧ s.ens.adopting = none ∧ changed ∧ (s.quorum a.length ∨ s.ens.force) ∧
      s.missMs * unitMs ≤ s.time.up - s.ens.formedAt then s.commit
  else s
/-- The state that a commit gives this device (Table ENS-4, Table ENS-5): the state and the reason. -/
def State.commitGives (s : State) (m : List Byte) : Nat × Nat :=
  if bit (mSet m) s.ensId then (2, 0)
  else if bit (mHeld m) s.ensId then (5, 6)
  else if mMajor m ≠ Config.fwVersion.1 % 256 then (4, 1)
  else if mCdig m ≠ s.cdig then (3, 2)
  else (1, 0)
/-- Waiters held for remote requesters outside the set are freed (R391). -/
def State.dropRemoteWaits (s : State) (set : Nat) : State :=
  s.sync.ops.foldl (fun s o => match o.who with
    | .remote _ h n =>
      if o.wait && !(bit set (hSrc h) && bit set s.ensId) then
        ((s.freeWaiter o.key (objNum o.obj)).clearMark (hSrc h) n).dropOp o.key
      else s
    | _ => s) s
/-- The epoch adopted and the state taken (R518): windows and OP_IDs start again (R388), and a device that becomes ACTIVE more than
1 ms from the leader steps to its time (R524). -/
def State.adopt (s : State) (m : List Byte) : State :=
  let was := s.ensActive
  let g := s.commitGives m
  let n := popcount 64 (mSet m)
  let s1 := { s with sync := { s.sync with windows := [], opids := [] },
                     ens := { s.ens with adopting := none, active := mSet m, heldSet := mHeld m, leader := some (mId m),
                                         running := s.quorum n } }
  let s2 := ((((s1.put Reg.ENS_EPOCH_EPOCH (mEpoch m)).put Reg.ENS_ACTIVE_SET (mSet m)).put Reg.ENS_STAT_ACTIVE n).put
    Reg.ENS_STAT_LEADER (mId m)).bumpWrap Reg.ENS_COMMITS_COUNT 1
  let s3 := (s2.setFlag Reg.ENS_STAT_QUORUM (s.quorum n)).setFlag Reg.ENS_STAT_FORCED (mForced m)
  let far := decide (s.ens.timeAt > 1000000 * 2 ^ 40 ∨ s.ens.timeAt < -(1000000 * 2 ^ 40))
  let mine := mId m == s.ensId
  let s4 := if g.1 = 2 ∧ ¬ mine ∧ far = true then
      (if was then s3.setUnsure true else (s3.stepTo ((s3.time.tod : Int) + s.ens.timeAt).toNat).setUnsure false)
    else s3
  let s5 := (s4.logEvent 0x0604 (mId m) (leBytes 8 (mEpoch m))).dropRemoteWaits (mSet m)
  let s6 := if g.2 = 0 then (s5.put Reg.ENS_STAT_STATE g.1).put Reg.ENS_REASON_REASON 0 else s5.disagree g.1 g.2
  let s6 := if g.1 = 5 then { s6 with ens := { s6.ens with hold := true } } else s6
  let s7 := (s6.setFlag Reg.ENS_STAT_STEWARD (g.1 == 2 && s6.traySteward == some s.ensId)).setSrcAct
  if g.1 = 1 then s7.forming else s7.issueSlots
/-- ACCORD_EPOCH_ADOPT: once every remote sync operation issued under the old epoch has completed (R518). -/
def execAccordEpochAdopt (s : State) : Host.Outcome State Fault Refusal :=
  match s.ens.adopting with
  | none => .next s
  | some m =>
    if s.sync.ops.any (fun o => match o.phase with | .sent _ _ => true | _ => false) then .next s else .next (s.adopt m)

/-! ### Messages (R514, R515) -/

/-- An accord message: LEN 144, its tag verified, of the row's KIND; a failed tag is counted. A device without a descriptor takes
none. -/
def accordRow (kind : Nat) (p : Packet) (act : State → List Byte → State) (s : State) : Host.Outcome State Fault Refusal :=
  serveSteward 0x06F0 p (fun s =>
    let b := p.payload
    let m := b.take 128
    if b.length ≠ 144 ∨ s.cmd.ensKey = [] ∨ (hmac s.accordKey m).take 16 ≠ b.drop 128 then s.bumpSat Reg.ENS_BADTAG_COUNT 1
    else if mKind m ≠ kind ∨ s.ens.desc = [] then s
    else act s m) s
/-- A RECORD kept, and its device heard; one with this device's own ID makes both EXCLUDED (R516, R522). -/
def State.takeRecord (s : State) (m : List Byte) : State :=
  let i := mId m
  if i = s.ensId then ({ s with ens := { s.ens with dup := true } }).disagree 4 5
  else
    let s1 := { s with ens := { s.ens with recs := tinsert s.ens.recs i m, heardAt := tinsert s.ens.heardAt i s.time.up } }
    s1.showHeard.hearQuorum
/-- ACCORD_RECORD (R516). -/
def execAccordRecord (p : Packet) (s : State) : Host.Outcome State Fault Refusal := accordRow 0 p State.takeRecord s
/-- A COMMIT (R518, R523): taken from the view's leader where its epoch is newer; a newer epoch of this device's own is HELD while that
leader is RUNNING. A HELD, duplicate or resolved-away device takes none. -/
def State.heardCommit (s : State) (m : List Byte) : State :=
  let own := s.get Reg.ENS_EPOCH_EPOCH
  if s.get Reg.ENS_STAT_STATE = 5 ∨ s.ens.dup ∨ s.ens.out ∨ s.viewLeader ≠ some (mId m) ∨ mId m = s.ensId then s
  else if own < mEpoch m then s.takeCommit m
  else if mEpoch m < own ∧ mRunning m then ({ s with ens := { s.ens with hold := true } }).disagree 5 6
  else s
/-- ACCORD_COMMIT (R518). -/
def execAccordCommit (p : Packet) (s : State) : Host.Outcome State Fault Refusal := accordRow 1 p State.heardCommit s
/-- ACCORD_NOTICE: a link of the ensemble was declared down or came UP (R502, R528). -/
def execAccordNotice (p : Packet) (s : State) : Host.Outcome State Fault Refusal := accordRow 2 p (fun s _ => s.linkNotice) s
/-- ACCORD_SHARE: a share of this device's tray (R525, R526). -/
def execAccordShare (p : Packet) (s : State) : Host.Outcome State Fault Refusal :=
  accordRow 3 p (fun s m => if s.trayIds.contains (mId m) then s.takeShare (leAt m 104 4) (leAt m 108 4) else s) s
/-- A device that hears peers but none of its configuration, or none of its key, is EXCLUDED (R522). -/
def State.configCheck (s : State) : State :=
  let others := (s.view.filter (fun e => e.1 != s.ensId)).map (fun e => e.2)
  if s.get Reg.ENS_STAT_STATE = 5 ∨ s.ens.dup ∨ s.ens.out ∨ others = [] then s
  else if others.all (fun m => mCfg m != s.cfgDigest) then s.disagree 4 3
  else if others.all (fun m => mKcv m != s.kcv) then s.disagree 4 4
  else if s.get Reg.ENS_STAT_STATE = 4 ∧ (s.get Reg.ENS_REASON_REASON = 3 ∨ s.get Reg.ENS_REASON_REASON = 4) then s.forming
  else s
/-- HEARTBEAT: every HB ms in RUN and IDLE: a RECORD to every other ID, the view, a commit by its leader, the tray's shares (R516,
R517, R525). -/
def execHeartbeat (tray : List (BitVec 16 × BitVec 16)) (s : State) : Host.Outcome State Fault Refusal :=
  if s.ens.desc = [] ∨ !s.stewardUp ∨ 1 < s.cur then .next s
  else
    let s1 := s.showHeard
    let s2 := s1.sendAccord ((List.range s1.ensN).filter (fun i => i != s1.ensId)) s1.ownRecord
    .next ((s2.hearQuorum.configCheck).maybeCommit.trayShare tray)
/-- LEADER_LOST: no COMMIT or RECORD from the leader for MISS × HB ms (R518). -/
def execLeaderLost (s : State) : Host.Outcome State Fault Refusal :=
  let st := s.get Reg.ENS_STAT_STATE
  match s.ens.leader with
  | none => .next s
  | some i =>
    if i ≠ s.ensId ∧ (st = 2 ∨ st = 3 ∨ (st = 4 ∧ s.get Reg.ENS_REASON_REASON = 1)) then .next s.forming else .next s
/-- SHARE_TIMEOUT: no SHARE for MISS × HB ms (R526). -/
def execShareTimeout (s : State) : Host.Outcome State Fault Refusal :=
  if s.ens.desc = [] ∨ s.bud.traySrc ≠ 3 then .next s else .next s.trayFallback

/-! ### The commands (Table ENS-7) -/

/-- A range lies wholly in caddy memory, in external DRAM or in the tile stores. -/
def State.windowOk (s : State) (a n : Nat) : Bool :=
  decide (a + n ≤ 0x300000000) || (decide (0x1000000000 ≤ a) && decide (a + n ≤ 0x1000000000 + s.xCap)) ||
    (decide (0x4000000000 ≤ a) && decide (a + n ≤ 0x4003000000))
/-- The first field of a join descriptor outside Table ENS-2. -/
def State.joinBad (s : State) (d : List Byte) : Option Nat :=
  let n := leAt d 5 1 * leAt d 6 1 * leAt d 7 1
  let dim (k : Nat) : Bool := 1 ≤ leAt d k 1 && leAt d k 1 ≤ 4
  let win (w : Nat) : List (Nat × Bool) :=
    let a := leAt d (32 + 16 * w) 8
    let l := leAt d (40 + 16 * w) 6
    [(32 + 16 * w, a % 65536 == 0 && (l == 0 || s.windowOk a l)), (40 + 16 * w, l % 65536 == 0),
      (46 + 16 * w, leAt d (46 + 16 * w) 1 ≤ 3), (47 + 16 * w, leAt d (47 + 16 * w) 1 == 0)]
  firstBad ([(0, leAt d 0 4 == 0x4A534E45), (4, leAt d 4 1 == 1), (5, dim 5 && decide (n = 0 ∨ (2 ≤ n ∧ n ≤ 64))), (6, dim 6), (7, dim 7),
    (8, 8 ≤ leAt d 8 1 && leAt d 8 1 ≤ 13), (9, 1 ≤ leAt d 9 1 && leAt d 9 1 ≤ 100), (10, 2 ≤ leAt d 10 1 && leAt d 10 1 ≤ 16),
    (11, leAt d 11 1 ≤ 16), (12, allZero (slice d 12 20))] ++ (List.range 4).flatMap win ++ [(96, allZero (slice d 96 32))])
/-- The shape and the quads that a descriptor sets (R506, R512). -/
def State.applyDesc (s : State) : State :=
  let d := s.ens.desc
  let x := leAt d 5 1
  let y := leAt d 6 1
  let z := leAt d 7 1
  let s1 := (((s.put Reg.ENS_SHAPE_X x).put Reg.ENS_SHAPE_Y y).put Reg.ENS_SHAPE_Z z).put Reg.ENS_SHAPE_N (x * y * z)
  let go (s : State) (q : Nat) : State :=
    let size := if q ≤ 1 then x else if q ≤ 3 then y else z
    let off := size = 1
    let change := off ∨ s.get (Reg.QUAD_CFG_RATE q) ≠ leAt d 8 1
    let s2 := if s.isUp q ∧ change then s.linkDrop q 4 else s
    let s3 := s2.setPort q { s2.port q with checked := false }
    s3.setQuad q (if off then 4 else 0) (leAt d 8 1) 1
  [0, 1, 2, 3, 4, 5].foldl go s1
def ensJoinRun (s : State) (c : Ctx) : State × Ans :=
  if s.cmd.ensKey = [] then (s, Ans.code 0xE 5)
  else if leAt c.data 5 1 * leAt c.data 6 1 * leAt c.data 7 1 ≤ s.ensId then (s, Ans.code 0xE 6)
  else
    let s1 := { s with ens := { s.ens with desc := c.data, out := false, hold := false, dup := false, recs := [], heardAt := [], force := false } }
    let s2 := (s1.persist .joinDesc).applyDesc.showHeard.forming
    (s2, Ans.ok s2.cfgDigest)
def ensJoinOp : OpSpec := { plainOp 0x0610 128 ensJoinRun with
  roles := [0, 1]
  auth := fun _ _ => true
  range := fun s c => s.joinBad c.data }
/-- ENS_JOIN (R512, R529, R530). -/
def execEnsJoin (p : Packet) (s : State) : Host.Outcome State Fault Refusal := serve ensJoinOp p s

/-- ENS_LEAVE's effect: the descriptor erased, the device ALONE. -/
def ensLeaveRun (s : State) (_ : Ctx) : State × Ans :=
  if s.ens.desc = [] then (s, Ans.code 0xE 2)
  else
    let e := { EnsUnit.alone with hostTray := s.ens.hostTray, mgrTray := s.ens.mgrTray }
    let s1 := { s with ens := e }.persist .joinDesc
    let s2 := [Reg.ENS_STAT_STATE, Reg.ENS_STAT_QUORUM, Reg.ENS_STAT_FORCED, Reg.ENS_STAT_STEWARD, Reg.ENS_STAT_LEADER, Reg.ENS_STAT_ACTIVE,
      Reg.ENS_SHAPE_N, Reg.ENS_SHAPE_X, Reg.ENS_SHAPE_Y, Reg.ENS_SHAPE_Z, Reg.ENS_REASON_REASON, Reg.ENS_ACTIVE_SET,
      Reg.ENS_HEARD_SET].foldl (fun s f => s.put f 0) s1
    (((s2.setUnsure false).setTrayLim 0 0).setSrcAct, Ans.ok [])
def ensLeaveOp : OpSpec := { plainOp 0x0611 0 ensLeaveRun with
  roles := [0, 1]
  auth := fun _ _ => true }
/-- ENS_LEAVE (R531). -/
def execEnsLeave (p : Packet) (s : State) : Host.Outcome State Fault Refusal := serve ensLeaveOp p s
def ensStatusRun (s : State) (_ : Ctx) : State × Ans :=
  let s1 := if s.ens.desc = [] then s else s.showHeard
  (s1, Ans.ok (wordBytes [s1.word (wordsEns 0), s1.word (wordsEns 4), s1.word (wordsEns 8)] ++ leBytes 8 (s1.get Reg.ENS_EPOCH_EPOCH) ++
    leBytes 8 (s1.get Reg.ENS_ACTIVE_SET) ++ leBytes 8 (s1.get Reg.ENS_HEARD_SET) ++ s1.cfgDigest ++ s1.kcv))
def ensStatusOp : OpSpec := plainOp 0x0612 0 ensStatusRun
/-- ENS_STATUS (R531). -/
def execEnsStatus (p : Packet) (s : State) : Host.Outcome State Fault Refusal := serve ensStatusOp p s
def ensMemberRun (s : State) (c : Ctx) : State × Ans :=
  (s, Ans.ok (match tfind s.ens.recs (c.at 0 1) with
    | some m => m.take 104 ++ zeros 8 ++ (m.drop 112).take 16
    | none => zeros 128))
def ensMemberOp : OpSpec := { plainOp 0x0613 4 ensMemberRun with range := fun _ c => firstBad [(0, c.at 0 1 ≤ 63)] }
/-- ENS_MEMBER (R531). -/
def execEnsMember (p : Packet) (s : State) : Host.Outcome State Fault Refusal := serve ensMemberOp p s
def ensKeySetRun (s : State) (c : Ctx) : State × Ans :=
  match c.unseal c.data with
  | some k =>
    let s1 := { s with cmd := { s.cmd with ensKey := k } }.persist .ensKey
    (s1, Ans.ok s1.kcv)
  | none => (s, Ans.code 5 4)
def ensKeySetOp : OpSpec := { plainOp 0x0614 48 ensKeySetRun with
  roles := [1]
  auth := fun _ _ => true }
/-- ENS_KEY_SET (R514). -/
def execEnsKeySet (p : Packet) (s : State) : Host.Outcome State Fault Refusal := serve ensKeySetOp p s
/-- ENS_RESOLVE's effect (R523): ADOPT gives up the epoch, EXCLUDE keeps the device out. -/
def ensResolveRun (s : State) (c : Ctx) : State × Ans :=
  if s.get Reg.ENS_STAT_STATE ≠ 5 then (s, Ans.code 0xE 3)
  else if c.at 0 1 = 0 then
    let s1 := s.put Reg.ENS_EPOCH_EPOCH 0
    (({ s1 with ens := { s1.ens with running := false, hold := false } }.put Reg.ENS_STAT_QUORUM 0).forming, Ans.ok [])
  else (({ s with ens := { s.ens with out := true, hold := false } }).disagree 4 7, Ans.ok [])
def ensResolveOp : OpSpec := { plainOp 0x0615 4 ensResolveRun with
  roles := [0, 1]
  auth := fun _ _ => true
  range := fun _ c => firstBad [(0, c.at 0 1 ≤ 1)] }
/-- ENS_RESOLVE (R523). -/
def execEnsResolve (p : Packet) (s : State) : Host.Outcome State Fault Refusal := serve ensResolveOp p s
def ensForceRun (s : State) (c : Ctx) : State × Ans :=
  if s.ens.desc = [] then (s, Ans.code 0xE 2)
  else if c.at 0 1 = 1 ∧ s.quorum s.viewActive.length then (s, Ans.code 0xE 4)
  else ({ s with ens := { s.ens with force := c.at 0 1 == 1 } }, Ans.ok [])
def ensForceOp : OpSpec := { plainOp 0x0616 4 ensForceRun with
  roles := [1]
  auth := fun _ _ => true
  range := fun _ c => firstBad [(0, c.at 0 1 ≤ 1)] }
/-- ENS_FORCE (R521). -/
def execEnsForce (p : Packet) (s : State) : Host.Outcome State Fault Refusal := serve ensForceOp p s
/-- The route byte of a device (Table ENS-7). -/
def State.routeByte (s : State) (t : Nat) : Nat :=
  match s.routePort t with
  | some p => p + 8 * s.routeVc p none
  | none => 7
def ensRoutesRun (s : State) (_ : Ctx) : State × Ans :=
  if s.ens.desc = [] then (s, Ans.code 0xE 2)
  else (s, Ans.ok ((List.range 64).flatMap (fun t => leBytes 1 (s.routeByte t))))
def ensRoutesOp : OpSpec := plainOp 0x0617 0 ensRoutesRun
/-- ENS_ROUTES (R531). -/
def execEnsRoutes (p : Packet) (s : State) : Host.Outcome State Fault Refusal := serve ensRoutesOp p s

/-! ### Tray caps (R565) -/

/-- A tray cap of a role kept by the steward. -/
def State.keepTray (s : State) (role w : Nat) : State :=
  if role = 1 then { s with ens := { s.ens with mgrTray := w } } else { s with ens := { s.ens with hostTray := w } }
/-- BUD_TRAY_CAP's effect: kept by the steward, else forwarded to it in a peer command whose third byte is 1 + the role (log entry 58). -/
def budTrayCapRun (s : State) (c : Ctx) : State × Ans :=
  if !s.stewardUp then (s, Ans.code 0xE (0x100 + s.cur))
  else if s.ens.desc = [] ∨ s.trayT = 0 then (s, Ans.code 0xE 0x20)
  else match s.traySteward with
    | none => (s.draw, Ans.code 8 (s.drawn 16 % 7))
    | some d =>
      if d = s.ensId then (s.keepTray c.role (c.at 0 2), Ans.ok [])
      else match s.routePort d with
        | none => (s.draw, Ans.code 8 (s.drawn 16 % 7))
        | some q =>
          if !s.isUp q then (s, Ans.code 8 q)
          else
            let f : FwdCmd := { req := c.p, dst := d, seq := tget 0 s.link.seqs d, port := q }
            let s1 := s.sendPeer d 0x0213 (leBytes 2 (c.at 0 2) ++ leBytes 1 (1 + c.role) ++ zeros 1)
            ({ s1 with link := { s1.link with fwd := s1.link.fwd ++ [f] } }, Ans.late)
def trayRange (s : State) (c : Ctx) : Option Nat :=
  firstBad [(0, s.ens.desc == [] || s.trayT == 0 || (15 * s.trayT ≤ c.at 0 2 && c.at 0 2 ≤ 110 * s.trayT))]
def budTrayCapOp : OpSpec := { plainOp 0x0213 4 budTrayCapRun with
  roles := [0, 1]
  range := trayRange }
/-- A forwarded tray cap at the steward: none other keeps it. -/
def trayFwdOp : OpSpec := { plainOp 0x0213 4 (fun s c =>
    if s.traySteward = some s.ensId then (s.keepTray (c.at 2 1 - 1) (c.at 0 2), Ans.ok []) else (s, Ans.code 0xE 0x20)) with
  roles := [2]
  range := trayRange }
/-- BUD_TRAY_CAP (R565). -/
def execBudTrayCap (p : Packet) (s : State) : Host.Outcome State Fault Refusal :=
  let fwd : Bool := (match p.via with | .holwell _ => true | _ => false) && (leAt p.body 2 1 == 1 || leAt p.body 2 1 == 2)
  serve (if fwd then trayFwdOp else budTrayCapOp) p s

end Sys2Proof.Machine
end

