-- ==== Sys2Proof/Machine/Hq.lean ====
section
/-! DEFINITION. Handle queues: pushes and pops over the network with their waiter lists and reservations, by fabric logic, by CSR
access and by command (chapter 14, R246, R269, R315). -/

namespace Sys2Proof.Machine

/-- The null handle (R358). -/
def nullHandle : Nat := 0xFFFFFFFF

/-! ### Where a queue is held -/

/-- The queue block that holds queue `q`, where a released cast binds it (R246, R359). -/
def State.hqBlock (s : State) (q : Nat) : Option QbCfg :=
  if s.flag (Reg.HQ_CFG_FABRIC q) then s.fab.pers.qbs.find? (fun c => c.mode == .handle && c.hqn == q) else none
/-- A queue's handles, oldest first. -/
def State.hqHeld (s : State) (q : Nat) : List Nat :=
  match s.hqBlock q with
  | some c => (s.qb c.qb).entries
  | none => tget [] s.hq.held q
def State.setHeld (s : State) (q : Nat) (l : List Nat) : State :=
  match s.hqBlock q with
  | some c => s.setQb c.qb { s.qb c.qb with entries := l }
  | none => { s with hq := { s.hq with held := tput [] s.hq.held q l } }
/-- A queue's depth: the cast's for a fabric-held queue. -/
def State.hqDepth (s : State) (q : Nat) : Nat :=
  match s.hqBlock q with
  | some c => c.depth
  | none => s.get (Reg.HQ_CFG_DEPTH q) + 1
/-- HQ_CFG as it reads: EN 1, FABRIC 1 and the cast's depth for a fabric-held queue. -/
def State.hqCfg (s : State) (q : Nat) : Nat :=
  match s.hqBlock q with
  | some c => 0xC0000000 + (c.depth - 1) % 256
  | none => s.word (wordsHq q 0)
/-- A fabric-held queue whose region is frozen, or whose block is in reset, refuses as if full or empty (R361, Table RCST-2, R244). -/
def State.hqFrozen (s : State) (q : Nat) : Bool :=
  match s.hqBlock q with
  | some c => s.frozen (qbRegion c.qb) || (s.qb c.qb).wRst || (s.qb c.qb).rRst
  | none => false

/-! ### Waiters and reservations (R361) -/

/-- The operation of a number. -/
def State.hqOp (s : State) (key : Nat) : Option HqOp := s.hq.ops.find? (fun o => o.key == key)
def State.hqMap (s : State) (key : Nat) (f : HqOp → HqOp) : State :=
  { s with hq := { s.hq with ops := s.hq.ops.map (fun o => if o.key = key then f o else o) } }
def State.hqDrop (s : State) (key : Nat) : State :=
  { s with hq := { s.hq with ops := s.hq.ops.filter (fun o => o.key != key) } }
/-- The waiter list of a side. -/
def State.hqList (s : State) (q : Nat) (push : Bool) : List Nat := tget [] (if push then s.hq.pushW else s.hq.popW) q
def State.setHqList (s : State) (q : Nat) (push : Bool) (l : List Nat) : State :=
  if push then { s with hq := { s.hq with pushW := tput [] s.hq.pushW q l } }
  else { s with hq := { s.hq with popW := tput [] s.hq.popW q l } }
/-- HQ_STAT's LEVEL, WPUSH and WPOP follow the queue. -/
def State.showHq (s : State) (q : Nat) : State :=
  ((s.put (Reg.HQ_STAT_LEVEL q) (s.hqHeld q).length).put (Reg.HQ_STAT_WPUSH q) (s.hqList q true).length).put
    (Reg.HQ_STAT_WPOP q) (s.hqList q false).length
/-- A waiter holds a reservation. -/
def State.hqReserved (s : State) (key : Nat) : Bool :=
  match s.hqOp key with
  | some o => o.phase == .reserved
  | none => false
/-- Slots (for a push) or entries (for a pop) that no waiter has reserved. -/
def State.hqFree (s : State) (q : Nat) (push : Bool) : Nat :=
  (if push then s.hqDepth q - (s.hqHeld q).length else (s.hqHeld q).length) -
    ((s.hqList q push).filter (fun k => s.hqReserved k)).length
/-- A slot or an entry that has freed is reserved for the oldest waiter without one. -/
def State.hqReserve (s : State) (q : Nat) (push : Bool) : State :=
  if s.hqFrozen q ∨ s.hqFree q push = 0 then s
  else match (s.hqList q push).find? (fun k => !s.hqReserved k) with
    | some k => s.hqMap k (fun o => { o with phase := .reserved })
    | none => s
/-- Every slot and entry offered to the waiters: what a binding and a release do. -/
def State.hqServeN : Nat → State → Nat → State
  | 0, s, _ => s
  | n + 1, s, q => State.hqServeN n ((s.hqReserve q true).hqReserve q false) q
def State.hqServe (s : State) (q : Nat) : State := State.hqServeN 16 s q
/-- The place that a requester, and a queue, stand at in the tile network: a queue held in the fabric at its region (R246). -/
def HqWho.place (w : HqWho) : Nat :=
  match w with
  | .tile t _ _ => t
  | .steeper t _ _ _ => t
  | .engine e => regionPlace (e / 3)
def State.hqPlace (s : State) (q : Nat) : Nat :=
  match s.hqBlock q with
  | some c => regionPlace (qbRegion c.qb)
  | none => plinthPlace
/-- An operation answered with a code and a value; it leaves its waiter list. -/
def State.hqAnswer (s : State) (o : HqOp) (code value : Nat) : State :=
  let p := o.push.isSome
  let s1 := s.setHqList o.q p ((s.hqList o.q p).filter (fun k => k != o.key))
  ((s1.hqMap o.key (fun o => { o with phase := .resp code value })).showHq o.q).netSend (s.hqPlace o.q) o.who.place clsRsp 4

/-! ### Pushes and pops applied (R360) -/

/-- A handle put at the end: the push is counted, and the entry that appears is reserved for the oldest waiter to pop. -/
def State.hqApplyPush (s : State) (q h : Nat) : State :=
  (((s.setHeld q (s.hqHeld q ++ [h])).bumpWrap (Reg.HQ_PUSHES_COUNT q) 1).hqReserve q false).showHq q
/-- The oldest handle taken: the pop is counted, and the slot that frees is reserved for the oldest waiter to push. -/
def State.hqApplyPop (s : State) (q : Nat) : State × Nat :=
  match s.hqHeld q with
  | [] => (s, nullHandle)
  | h :: r => ((((s.setHeld q r).bumpWrap (Reg.HQ_POPS_COUNT q) 1).hqReserve q true).showHq q, h)
/-- A network operation applied now, and answered. -/
def State.hqApply (s : State) (o : HqOp) : State :=
  let s0 := s.hqMap o.key (fun o => { o with phase := .flight })
  match o.push with
  | some h => (s0.hqApplyPush o.q h).hqAnswer o 0 0
  | none =>
    let r := s0.hqApplyPop o.q
    r.1.hqAnswer o 0 r.2
/-- A network operation that meets its queue: applied, failed (Table STRM-4), put onto the waiter list, or refused with the list
full. A withdrawn one that cannot be applied is abandoned (R290, R373). -/
def State.hqMeet (s : State) (o : HqOp) : State :=
  let p := o.push.isSome
  if !s.flag (Reg.HQ_CFG_EN o.q) then s.hqAnswer o 1 0
  else if o.push = some nullHandle then s.hqAnswer o 3 0
  else if !s.hqFrozen o.q && decide (0 < s.hqFree o.q p) then s.hqApply o
  else if o.withdrawn then s.hqAnswer o 0xFE 0
  else if (s.hqList o.q p).length < 16 then
    ((s.setHqList o.q p (s.hqList o.q p ++ [o.key])).hqMap o.key (fun o => { o with phase := .waiter })).showHq o.q
  else s.hqMap o.key (fun o => { o with phase := .retry })
/-- An operation issued on its way to its queue: its number. -/
def State.issueHq (s : State) (who : HqWho) (q : Nat) (push : Option Nat) : State × Nat :=
  let key := s.hq.next
  let o : HqOp := { key := key, who := who, q := q, push := push, phase := .flight, withdrawn := false }
  ({ s with hq := { s.hq with ops := s.hq.ops ++ [o], next := key + 1 } }.netSend who.place (s.hqPlace q) clsHq 4, key)
/-- A reservation given up is offered to the next waiter in order. -/
def State.hqUnreserve (s : State) (o : HqOp) : State :=
  if o.phase = .reserved then s.hqReserve o.q o.push.isSome else s
/-- An operation withdrawn by its requester: abandoned where the queue has not applied it, else its answer stands (R290, R373). -/
def State.withdrawHq (s : State) (key : Nat) : State :=
  match s.hqOp key with
  | none => s
  | some o =>
    match o.phase with
    | .flight => s.hqMap key (fun o => { o with withdrawn := true })
    | .resp _ _ => s
    | _ => (s.hqAnswer o 0xFE 0).hqUnreserve o
/-- An operation taken back whole: nothing of it reaches its queue any more (R264). -/
def State.cancelHq (s : State) (key : Nat) : State :=
  match s.hqOp key with
  | none => s
  | some o =>
    let p := o.push.isSome
    (((s.setHqList o.q p ((s.hqList o.q p).filter (fun k => k != key))).hqDrop key).hqUnreserve o).showHq o.q

/-! ### The network rows -/

/-- Two requesters behind one network source. -/
def sameHqSource (a b : HqWho) : Bool :=
  match a, b with
  | .tile t _ _, .tile u _ _ | .tile t _ _, .steeper u _ _ _ | .steeper t _ _ _, .tile u _ _ | .steeper t _ _ _, .steeper u _ _ _ => t == u
  | .engine e, .engine f => e == f
  | _, _ => false
/-- HQ_OP_ARRIVE: the operation at a place of the list reaches its queue (R360), unless an earlier one of its source is still on its
way. -/
def execHqOpArrive (i : Nat) (s : State) : Host.Outcome State Fault Refusal :=
  match s.hq.ops[i]? with
  | none => .next s
  | some o =>
    let before := (s.hq.ops.take i).any (fun q => q.phase == .flight && sameHqSource q.who o.who)
    if o.phase = .flight ∧ ¬ before ∧ s.plinthPowered then .next (s.netSettle.hqMeet o) else .next s
/-- HQ_RETRY: a waiter with a reservation retries and is served; a requester refused because the list was full tries again (R361). -/
def execHqRetry (i : Nat) (s : State) : Host.Outcome State Fault Refusal :=
  match s.hq.ops[i]? with
  | none => .next s
  | some o =>
    if !s.plinthPowered then .next s
    else if o.phase = .retry then .next (s.hqMeet o)
    else if o.phase = .reserved ∧ ¬ s.hqFrozen o.q then .next (s.hqApply o)
    else .next s
/-- HQ_RESERVATION_EXPIRE: the reservation of the oldest waiter that holds one ends; it waits on (R361). -/
def execHqReservationExpire (q : Fin 1024) (push : Bool) (s : State) : Host.Outcome State Fault Refusal :=
  match (s.hqList q.val push).find? (fun k => s.hqReserved k) with
  | some k => .next (s.hqMap k (fun o => { o with phase := .waiter }))
  | none => .next s
/-- The answer reaches a tile that stalls (R290, R315). -/
def State.tileHqAnswer (s : State) (t pc sd : Nat) (push : Bool) (code value : Nat) : State :=
  let x := s.tx t
  let s1 := s.tileUnstall t
  if code = 0 then
    let s2 := (if push then s1 else s1.setSreg t sd value).tileAdvance t
    match x.haltReq with
    | some c => s2.tileHalted t c
    | none => if x.step then s2.tileHalted t 0 else s2
  else if code = 0xFE then (match x.haltReq with | some c => s1.tileHalted t c | none => s1)
  else s1.tileFault t 5 pc code
/-- The answer reaches a steeper (R353, R373): HPOP writes h[HK] and b[BK]. -/
def State.steepHqAnswer (s : State) (t st bk hk : Nat) (push : Bool) (code value : Nat) : State :=
  let s1 := s.setSx t st { s.sx t st with wait := none }
  if code = 0 then
    let s2 := if push then s1 else
      (s1.put (Reg.STEEP_H_HANDLE t st hk) value).put (Reg.STEEP_B_B t st (bk - 1))
        ((s1.get (Reg.HPOOL_BASE t st) + value / 4096 * 2 ^ s1.get (Reg.HPOOL_SHIFT t st)) % 2 ^ 48)
    (s2.steepNext t st).steepHaltNow t st
  else if code = 0xFE then s1.steepHaltNow t st
  else s1.steepStop t st 8 code false false
/-- HQ_RESPONSE: the answer of the operation at a place of the list reaches the tile or steeper that stalls for it. -/
def execHqResponse (i : Nat) (s : State) : Host.Outcome State Fault Refusal :=
  match s.hq.ops[i]? with
  | none => .next s
  | some o =>
    match o.phase with
    | .resp code value =>
      let s := s.netSettle
      match o.who with
      | .tile t pc sd => .next ((s.hqDrop o.key).tileHqAnswer t pc sd o.push.isSome code value)
      | .steeper t st bk hk => .next ((s.hqDrop o.key).steepHqAnswer t st bk hk o.push.isSome code value)
      | .engine _ => .next s
    | _ => .next s

/-! ### Enabling, disabling, binding (R359, R362, R374) -/

/-- Every waiter of a queue fails with HQ_ERR 0x02. -/
def State.hqFailWaiters (s : State) (q : Nat) : State :=
  (s.hqList q true ++ s.hqList q false).foldl (fun s k =>
    match s.hqOp k with
    | some o => s.hqAnswer o 2 0
    | none => s) s
/-- EN cleared: the queue empties and its waiters fail. -/
def State.hqDisable (s : State) (q : Nat) : State :=
  (((s.put (Reg.HQ_CFG_EN q) 0).setHeld q []).hqFailWaiters q).showHq q
/-- A write to HQ_CFG: DEPTH is discarded where EN was 1, all of it where the queue is held in the fabric. -/
def State.hqWriteCfg (s : State) (q w : Nat) : State :=
  if s.flag (Reg.HQ_CFG_FABRIC q) then s
  else if s.flag (Reg.HQ_CFG_EN q) then (if bit w 31 then s else s.hqDisable q)
  else (s.put (Reg.HQ_CFG_DEPTH q) (bits w 0 8)).setFlag (Reg.HQ_CFG_EN q) (bit w 31)
/-- A binding takes effect: plinth-held handles are discarded and logged, and the block serves the waiters. -/
def State.hqBind (s : State) (q : Nat) : State :=
  let n := (tget [] s.hq.held q).length
  let s1 := ({ s with hq := { s.hq with held := tput [] s.hq.held q [] } }.put (Reg.HQ_CFG_EN q) 1).put (Reg.HQ_CFG_FABRIC q) 1
  ((s1.logEvent 0x0506 q (leBytes 4 n)).hqServe q).showHq q
/-- A binding ends: the waiters fail, the handles are lost, and the queue is plinth-held, empty and disabled. -/
def State.hqUnbind (s : State) (q : Nat) : State :=
  let s1 := (s.setHeld q []).hqFailWaiters q
  ((s1.put (Reg.HQ_CFG_FABRIC q) 0).put (Reg.HQ_CFG_EN q) 0).showHq q
/-- HQ_CFG_WRITE (R362). -/
def execHqCfgWrite (q : Fin 1024) (w : Word) (s : State) : Host.Outcome State Fault Refusal :=
  .next (if s.plinthPowered then s.hqWriteCfg q.val w.toNat else s)

/-! ### CSR and command accesses (R363, R375) -/

/-- A push that never waits: none where it cannot be applied. -/
def State.hqTryPush (s : State) (q h : Nat) : Option State :=
  if s.flag (Reg.HQ_CFG_EN q) && h != nullHandle && !s.hqFrozen q && decide (0 < s.hqFree q true) then some (s.hqApplyPush q h) else none
/-- A pop that never waits. -/
def State.hqTryPop (s : State) (q : Nat) : Option (State × Nat) :=
  if s.flag (Reg.HQ_CFG_EN q) && !s.hqFrozen q && decide (0 < s.hqFree q false) then some (s.hqApplyPop q) else none
/-- HQ_PUSH written. -/
def State.hqCsrPush (s : State) (q h : Nat) : State :=
  match s.hqTryPush q h with
  | some s1 => s1
  | none => s.put (Reg.HQ_STAT_OVF q) 1
/-- HQ_POP read. -/
def State.hqCsrPop (s : State) (q : Nat) : State × Nat :=
  match s.hqTryPop q with
  | some r => r
  | none => (s.put (Reg.HQ_STAT_UDF q) 1, nullHandle)
/-- HQ_PUSH_WRITE (R363). -/
def execHqPushWrite (q : Fin 1024) (w : Word) (s : State) : Host.Outcome State Fault Refusal :=
  .next (if s.plinthPowered then s.hqCsrPush q.val w.toNat else s)
/-- HQ_POP_READ: the handle is what the read returned (R363). -/
def execHqPopRead (q : Fin 1024) (s : State) : Host.Outcome State Fault Refusal :=
  if s.plinthPowered then
    let r := s.hqCsrPop q.val
    .next { r.1 with addr := { r.1.addr with readData := r.2 } }
  else .next s
/-- HQ_FABRIC_ACCESS: fabric logic pushes, pops, or does both in one cycle on the block of a fabric-held queue (R246): an empty queue
applies the push first, any other the pop (R360). A push that does not fit sets the block's OVF, a pop of nothing its UDF. -/
def State.hqFabPush (s : State) (c : QbCfg) (h : Nat) : State :=
  if (s.qb c.qb).wRst then s
  else match s.hqTryPush c.hqn h with
    | some s1 => s1
    | none => s.setQb c.qb { s.qb c.qb with ovf := true }
def State.hqFabPop (s : State) (c : QbCfg) : State :=
  if (s.qb c.qb).rRst then s
  else match s.hqTryPop c.hqn with
    | some r => r.1.setQb c.qb { r.1.qb c.qb with outA := r.2 }
    | none => s.setQb c.qb { s.qb c.qb with udf := true }
def execHqFabricAccess (q : Fin 1024) (push : Option Word) (pop : Bool) (s : State) : Host.Outcome State Fault Refusal :=
  match s.hqBlock q.val with
  | none => .next s
  | some c =>
    let doPush (s : State) : State := match push with | some h => if s.clockRuns c.ckA then s.hqFabPush c h.toNat else s | none => s
    let doPop (s : State) : State := if pop && s.clockRuns c.ckB then s.hqFabPop c else s
    if !s.fabricPowered || s.frozen (qbRegion c.qb) then .next s
    else if s.hqHeld q.val = [] then .next (doPop (doPush s)) else .next (doPush (doPop s))

/-- HQ_CONFIG's effect. -/
def hqConfigRun (s : State) (c : Ctx) : State × Ans :=
  let q := c.at 0 2
  let old := leBytes 4 (s.hqCfg q)
  if s.flag (Reg.HQ_CFG_FABRIC q) then (s, Ans.code 0xE 6)
  else if c.at 2 1 = 0 then
    ((if s.flag (Reg.HQ_CFG_EN q) then s.hqDisable q else s).put (Reg.HQ_CFG_DEPTH q) (c.at 3 1), Ans.ok old)
  else if s.flag (Reg.HQ_CFG_EN q) then
    if s.get (Reg.HQ_CFG_DEPTH q) = c.at 3 1 then (s, Ans.ok old) else (s, Ans.code 0xE 7)
  else ((s.put (Reg.HQ_CFG_DEPTH q) (c.at 3 1)).put (Reg.HQ_CFG_EN q) 1, Ans.ok old)
def hqConfigOp : OpSpec := { plainOp 0x0515 4 hqConfigRun with
  range := fun _ c => firstBad [(0, c.at 0 2 < 1024), (2, c.at 2 1 ≤ 1)] }
/-- HQ_CONFIG (R375). -/
def execHqConfig (p : Packet) (s : State) : Host.Outcome State Fault Refusal := serve hqConfigOp p s
/-- HQ_STATUS's effect. -/
def hqStatusRun (s : State) (c : Ctx) : State × Ans :=
  let q := c.at 0 2
  (s, Ans.ok (leBytes 4 (s.hqCfg q) ++ leBytes 4 (s.word (wordsHq q 4)) ++ leBytes 4 (s.get (Reg.HQ_PUSHES_COUNT q)) ++
    leBytes 4 (s.get (Reg.HQ_POPS_COUNT q))))
def hqStatusOp : OpSpec := { plainOp 0x0516 4 hqStatusRun with range := fun _ c => firstBad [(0, c.at 0 2 < 1024)] }
/-- HQ_STATUS (R375). -/
def execHqStatus (p : Packet) (s : State) : Host.Outcome State Fault Refusal := serve hqStatusOp p s
/-- Handles pushed until one does not fit. -/
def State.hqPushAll (s : State) (q : Nat) : List Nat → State × Nat
  | [] => (s, 0)
  | h :: r =>
    match s.hqTryPush q h with
    | some s1 =>
      let x := s1.hqPushAll q r
      (x.1, x.2 + 1)
    | none => (s, 0)
/-- At most `n` handles popped. -/
def State.hqPopN : Nat → State → Nat → State × List Nat
  | 0, s, _ => (s, [])
  | n + 1, s, q =>
    match s.hqTryPop q with
    | some r =>
      let x := State.hqPopN n r.1 q
      (x.1, r.2 :: x.2)
    | none => (s, [])
/-- HQ_PUSH's effect: it stops at the first handle that does not fit. -/
def hqPushRun (s : State) (c : Ctx) : State × Ans :=
  let q := c.at 0 2
  if !s.flag (Reg.HQ_CFG_EN q) then (s, Ans.code 0xE 8)
  else
    let r := s.hqPushAll q (bytesWords (c.at 2 2) (c.data.drop 4))
    (r.1, Ans.ok (leBytes 2 r.2 ++ zeros 2))
/-- The offset of the first null handle. -/
def nullAt : Nat → List Nat → Option Nat
  | _, [] => none
  | o, h :: r => if h = nullHandle then some o else nullAt (o + 4) r
def hqPushOp : OpSpec := { plainOp 0x0517 0xFFFF hqPushRun with
  lenOk := fun b => b.length == 4 + 4 * leAt b 2 2
  range := fun _ c => match firstBad [(0, c.at 0 2 < 1024), (2, 1 ≤ c.at 2 2 && c.at 2 2 ≤ 64)] with
    | some d => some d
    | none => nullAt 4 (bytesWords (c.at 2 2) (c.data.drop 4)) }
/-- HQ_PUSH (R375). -/
def execHqPush (p : Packet) (s : State) : Host.Outcome State Fault Refusal := serve hqPushOp p s
/-- HQ_POP's effect. -/
def hqPopRun (s : State) (c : Ctx) : State × Ans :=
  let q := c.at 0 2
  if !s.flag (Reg.HQ_CFG_EN q) then (s, Ans.code 0xE 8)
  else
    let r := State.hqPopN (c.at 2 2) s q
    (r.1, Ans.ok (leBytes 2 r.2.length ++ zeros 2 ++ r.2.flatMap (leBytes 4)))
def hqPopOp : OpSpec := { plainOp 0x0518 4 hqPopRun with
  range := fun _ c => firstBad [(0, c.at 0 2 < 1024), (2, 1 ≤ c.at 2 2 && c.at 2 2 ≤ 64)] }
/-- HQ_POP (R375). -/
def execHqPop (p : Packet) (s : State) : Host.Outcome State Fault Refusal := serve hqPopOp p s

end Sys2Proof.Machine
end

