-- ==== Sys2Proof/Machine/Logic.lean ====
section
/-! DEFINITION. Fabric logic at work: signals, user clocks, macrocell and I/O flip-flops, die crossings, freeze walls and priming (R202,
R205–R208, R221–R235, R251). -/

namespace Sys2Proof.Machine

/-! ### Signals -/

/-- The macrocell of a CELL in the running cast: its PLB and its number there. -/
def State.plbOf (s : State) (c : Nat) : Option (PlbSet × Nat) :=
  (s.fab.pers.plbs.find? (fun b => b.code 0 == c / 16 * 16)).map (fun b => (b, c % 16))
/-- The bank of user I/O `k` of the device. -/
def ioBank (k : Nat) : Nat := k / 36
/-- User I/O can drive: the fabric dies are powered, and an exit from DOZE has restored them (R83, R117). -/
def State.ioLive (s : State) : Bool :=
  s.fabricPowered && (!s.pwr.fromDoze || s.pwr.stage == .none || s.quiescing)
/-- A bank is supplied. -/
def State.bankOn (s : State) (k : Nat) : Bool := s.fab.supply.getD (ioBank k) 4 != 4
/-- What a user I/O drives its pin to, given the values of its signals: none in high impedance, before release or with its bank unpowered.
A frozen cell holds what it drove (R117, R202, R251). -/
def State.ioDrive (s : State) (c : IoSet) (oe out : Bool) : Option Bool :=
  let held := s.frozen (c.io / 18)
  let e := if c.useOe || held then bit s.fab.ioOe c.io else oe
  let v := if c.useOut || held then bit s.fab.ioOut c.io else out
  if s.ioLive && e && s.bankOn c.io then some v else none
/-- The level at a pin as its cell sees it: 0 with its bank unpowered (R251); what the cell drives; what the board drives, a free value of
the instant; or what the pull gives, with a free value where there is none (R234). -/
def State.pinLevel (s : State) (c : IoSet) (driven : Option Bool) : Bool :=
  if !s.bankOn c.io then false
  else match driven with
    | some v => v
    | none =>
      match Config.pin c.io s.time.up s.draws % 4, c.pull with
      | 0, _ => false
      | 1, _ => true
      | _, 1 => false
      | _, 2 => true
      | _, 3 => bit s.fab.ioKeep c.io
      | n, _ => n == 2
/-- A flag of a queue block as fabric logic sees it (R241–R243, R240). -/
def State.qbFlagOf (s : State) (b f : Nat) : Bool :=
  match s.qbCfg b with
  | none => false
  | some c =>
    let x := s.qb b
    match f with
    | 0 => s.qbFull c
    | 1 => s.qbAfull c
    | 2 => s.qbEmpty c
    | 3 => s.qbAempty c
    | 4 => x.ovf
    | 5 => x.udf
    | 6 => x.eccFix
    | _ => x.eccBad
/-- A signal's value as region `view` sees it. What a frozen region sends out stands as it was when the wall rose (R202). `n` bounds the depth
of logic between flip-flops: a loop of logic has no value that the manual gives, and a free one here (R248). -/
def State.netVal (s : State) : Nat → Option Nat → Net → Bool
  | 0, _, x => bit (Config.loopSignal x.num s.time.up s.draws) 0
  | n + 1, view, x =>
    let here := x.region
    if here.any (fun r => s.frozen r) && here != view then s.fab.held.contains x
    else match x with
      | .zero => false
      | .one => true
      | .cell c =>
        match s.plbOf c with
        | none => false
        | some (b, m) =>
          if (b.cell m).any PlbCell.registered then tget 0 s.fab.q c == 1
          else b.xorOut m ((b.ins.zipIdx).foldl (fun y e => y + b2n (s.netVal n here e.1) * 2 ^ e.2) 0)
      | .io k =>
        match s.fab.pers.ios.find? (fun c => c.io == k) with
        | none => false
        | some c =>
          if c.useIn then bit s.fab.ioIn k else s.pinLevel c (s.ioDrive c (s.netVal n here c.oe) (s.netVal n here c.out))
      | .cross r j => bit (tget 0 s.fab.crossB ((r + 16) % 32)) j
      | .qbFlag b f => s.qbFlagOf b f
      | .qbOut b i => bit (s.qb b).outA i
      | .eo e k => bit (tget EngX.fresh s.eng e).eo k
      | .other k => bit (Config.fabricSignal k s.time.up s.draws) 0
/-- A signal's value: no path is longer than the macrocells there are. -/
def State.net (s : State) (view : Option Nat) (x : Net) : Bool := s.netVal (16 * s.fab.pers.plbs.length + 2) view x
/-- The inputs of a PLB as a number, one bit per input. -/
def State.plbIns (s : State) (b : PlbSet) : Nat := (b.ins.zipIdx).foldl (fun y e => y + b2n (s.net (some (b.plb / 768)) e.1) * 2 ^ e.2) 0
/-- The level a user I/O drives: none in high impedance or with its bank unpowered. -/
def State.ioLevel (s : State) (k : Nat) : Option Bool :=
  match s.fab.pers.ios.find? (fun c => c.io == k) with
  | none => none
  | some c => s.ioDrive c (s.net (some (k / 18)) c.oe) (s.net (some (k / 18)) c.out)
/-- The level at a user I/O's pin. -/
def State.ioPin (s : State) (c : IoSet) : Bool := s.pinLevel c (s.ioLevel c.io)

/-! ### Flip-flops -/

/-- A macrocell with a flip-flop, of a region where clocks and ASR act. -/
def State.cellsLive (s : State) : List (PlbSet × Nat × PlbCell) :=
  (s.fab.pers.plbs.filter (fun b => !s.frozen (b.plb / 768))).flatMap (fun b =>
    (b.cells.zipIdx).filterMap (fun e => if e.1.mode = .bypass then none else some (b, e.2, e.1)))
/-- A table of bits with one set. -/
def putQ (t : Tab Nat) (k : Nat) (v : Bool) : Tab Nat := tput 0 t k (b2n v)
/-- Bit `k` of a word set to a value. -/
def putBit (w k : Nat) (v : Bool) : Nat := setBits w k 1 (b2n v)
/-- The macrocell flip-flops after an instant at which the UCLKs `ks` have a rising edge: all take what stood before it. Of the flip-flops
that answer to an ASR which has just fallen, an edge may be missed: a free value for each (R227). -/
def State.nextQ (s : State) (ks : List Nat) : Tab Nat × List Nat :=
  let ins := (s.fab.pers.plbs.filter (fun b => !s.frozen (b.plb / 768))).map (fun b =>
    let x := s.plbIns b
    (b, x, b.asr x (s.net (some (b.plb / 768)) b.asrIn)))
  let asr := (ins.filter (fun e => e.2.2)).map (fun e => e.1.plb)
  let step (q : Tab Nat) (e : PlbSet × Nat × Bool) (m : Nat × PlbCell) : Tab Nat :=
    let k := e.1.code m.1
    let fell := s.fab.asr.contains e.1.plb && !e.2.2 && m.2.asr != .none
    let edge := ks.contains (e.1.clock m.2) && !(fell && bit (s.drawn (k + 1)) k)
    if m.2.mode = .bypass then q
    else putQ q k (e.1.next m.1 e.2.1 edge (s.net (some (e.1.plb / 768)) e.1.ce) e.2.2 (tget 0 s.fab.q k == 1))
  (ins.foldl (fun q e => ((e.1.cells.zipIdx).map (fun c => (c.2, c.1))).foldl (fun q m => step q e m) q) s.fab.q, asr)
/-- An instant at which the UCLKs `ks` have a rising edge (R225, R227, R229, R235, R244). -/
def State.clockEdge (s : State) (ks : List Nat) : State :=
  let q := s.nextQ ks
  let ios := s.fab.pers.ios.filter (fun c => ks.contains c.uclk && !s.frozen (c.io / 18))
  let f := s.fab
  let inn := ios.foldl (fun w c => if c.useIn then putBit w c.io (s.ioPin c) else w) f.ioIn
  let out := ios.foldl (fun w c => if c.useOut then putBit w c.io (s.net (some (c.io / 18)) c.out) else w) f.ioOut
  let oe := ios.foldl (fun w c => if c.useOe then putBit w c.io (s.net (some (c.io / 18)) c.oe) else w) f.ioOe
  let xs := f.pers.crossings.filter (fun c => ks.contains c.uclk)
  let word (c : CrossSet) : Nat := (c.outs.zipIdx).foldl (fun y e => y + b2n (s.net (some c.region) e.1) * 2 ^ e.2) 0
  let a := xs.foldl (fun t c => if s.frozen c.region then t else tput 0 t c.region (word c)) f.crossA
  let b := xs.foldl (fun t c =>
    if s.frozen ((c.region + 16) % 32) then t
    else tput 0 t c.region (if f.clocks.getD c.uclk 0 ≤ 300000 then tget 0 f.crossA c.region else bits (s.draw.drawn (32 * c.region + 32)) (32 * c.region) 32)) f.crossB
  let slow (c : QbCfg) : Nat := if s.uclkRate c.ckB < s.uclkRate c.ckA ∧ c.ckB < 8 then c.ckB else if c.ckA < 8 then c.ckA else c.ckB
  let rst := f.pers.qbs.filter (fun c => ((s.qb c.qb).wRst || (s.qb c.qb).rRst) && !s.frozen (qbRegion c.qb))
  let runs (k : Nat) : Bool := ks.contains k || (decide (8 ≤ k) && ks != [])
  let s1 := { s.draw.draw with fab := { f with q := q.1, asr := q.2, ioIn := inn, ioOut := out, ioOe := oe, crossA := a, crossB := b } }
  rst.foldl (fun s c =>
    let y := (s.qb c.qb).edge (runs c.ckA) (runs c.ckB) (runs (slow c))
    let s2 := s.setQb c.qb y
    if c.mode = .handle ∧ !y.wRst ∧ !y.rRst then (s2.hqServe c.hqn).showHq c.hqn else s2) s1
/-- Pins sampled by keepers. -/
def State.keepPins (s : State) : State :=
  { s with fab := { s.fab with ioKeep := (s.fab.pers.ios.filter (fun c => c.pull == 3)).foldl (fun w c => putBit w c.io (s.ioPin c)) s.fab.ioKeep } }

/-! ### User clocks (R231–R233) -/

/-- The UCLKs with an edge left in a span, each with its rate and the way to that edge. -/
def edgesLeft (rates phase count done : List Nat) : List (Nat × Nat × Nat) :=
  (List.range 8).filterMap (fun k =>
    if done.getD k 0 < count.getD k 0 then some (k, rates.getD k 0, (done.getD k 0 + 1) * unitMs - phase.getD k 0) else none)
/-- The UCLKs whose next edge comes first; edges at one instant come together, as those of one PLL do (R232). -/
def firstEdges (l : List (Nat × Nat × Nat)) : List Nat :=
  let first := l.foldl (fun (b : Option (Nat × Nat × Nat)) e => match b with
    | none => some e
    | some o => if e.2.2 * o.2.1 < o.2.2 * e.2.1 then some e else b) none
  match first with
  | none => []
  | some o => (l.filter (fun e => e.2.2 * o.2.1 == o.2.2 * e.2.1)).map (fun e => e.1)
/-- The edges of a span, one instant after another, `n` at most. -/
def State.clockSpan (rates phase count : List Nat) : Nat → List Nat → State → State
  | 0, _, s => s
  | n + 1, done, s =>
    match firstEdges (edgesLeft rates phase count done) with
    | [] => s
    | ks => State.clockSpan rates phase count n (done.zipIdx.map (fun e => if ks.contains e.2 then e.1 + 1 else e.1)) (s.clockEdge ks)
/-- Cap hold stops TCLK, SECLK and every UCLK at this instant: for the part of each millisecond that the on fraction (of 255) leaves out,
from a free place in it (R564, log entry 100). -/
def State.holdGates (s : State) : Bool :=
  s.flag Reg.BUD_STAT_HOLD &&
    (let off := unitMs * (255 - s.bud.onFraction) / 255
     let start := Config.holdFrom (s.time.up / unitMs) % (unitMs - off + 1)
     let x := s.time.up % unitMs
     decide (start ≤ x) && decide (x < start + off))
/-- Fabric logic runs through a span of time in which its clocks are not gated: every edge of the UCLKs that run, in order, then what ASR and the pins do between edges. -/
def State.fabricRuns (s : State) (span : Nat) : State :=
  let p := s.fab.pers
  if !s.castRuns || s.holdGates then s
  else
    let rates := (List.range 8).map s.uclkRate
    let way := (List.range 8).map (fun k => s.fab.phase.getD k 0 + rates.getD k 0 * span)
    let count := way.map (fun x => x / unitMs)
    let idle := p.plbs.isEmpty && p.ios.isEmpty && p.crossings.isEmpty && p.qbs.all (fun c => !(s.qb c.qb).wRst && !(s.qb c.qb).rRst)
    let s1 := if idle then s
      else (State.clockSpan rates s.fab.phase count (count.foldl (· + ·) 0) (List.replicate 8 0) s |>.clockEdge []).keepPins
    { s1 with fab := { s1.fab with phase := way.map (fun x => x % unitMs) } }

/-! ### Initialisation, freeze walls, priming (R175, R202, R205–R208, R228) -/

/-- The flip-flops of the regions of a mask take their initial values, but for macrocells that carry theirs (R205, R228). -/
def FabUnit.initLogic (f : FabUnit) (m : Nat) (keep : Nat → Bool) : FabUnit :=
  let old := f.q.filter (fun e => !bit m (e.1 / 2 ^ 20) || keep e.1)
  let plbs := f.pers.plbs.filter (fun b => bit m (b.plb / 768))
  let q := plbs.foldl (fun q b => ((b.cells.zipIdx).filter (fun e => e.1.mode != .bypass && !keep (b.code e.2))).foldl (fun q e =>
    putQ q (b.code e.2) e.1.init) q) old
  let ios := f.pers.ios.filter (fun c => bit m (c.io / 18))
  let all := (maskBits m).foldl (fun x r => x ||| ((2 ^ 18 - 1) <<< (18 * r))) 0
  let clear (w : Nat) : Nat := w ^^^ (w &&& all)
  let xs := f.pers.crossings.filter (fun c => bit m c.region)
  let reg (t : Tab Nat) : Tab Nat := xs.foldl (fun t c => tput 0 t c.region (cut 32 c.init)) (t.filter (fun e => !bit m e.1))
  { f with
    q := q, asr := f.asr.filter (fun b => !bit m (b / 768))
    ioIn := ios.foldl (fun w c => putBit w c.io (c.useIn && c.initIn)) (clear f.ioIn)
    ioOut := ios.foldl (fun w c => putBit w c.io (c.useOut && c.initOut)) (clear f.ioOut)
    ioOe := ios.foldl (fun w c => putBit w c.io (c.useOe && c.initOe)) (clear f.ioOe)
    ioKeep := clear f.ioKeep, crossA := reg f.crossA, crossB := reg f.crossB }
where
  /-- The regions of a mask. -/
  maskBits (m : Nat) : List Nat := setBitsOf 32 m
/-- The walls of a mask stand: every signal that leaves it, and what its user I/O drive, is held (R202). -/
def State.holdSignals (s : State) (m : Nat) : State :=
  let inn (x : Net) : Bool := x.region.any (fun r => bit m r)
  let now := (s.fab.pers.nets.eraseDups).filter (fun x => inn x && s.net none x)
  let ios := s.fab.pers.ios.filter (fun c => bit m (c.io / 18))
  let drive (c : IoSet) : Option Bool := s.ioDrive c (s.net (some (c.io / 18)) c.oe) (s.net (some (c.io / 18)) c.out)
  let f := s.fab
  { s with fab := { f with
    held := f.held.filter (fun x => !inn x) ++ now
    ioOe := ios.foldl (fun w c => if c.useOe then w else putBit w c.io (drive c).isSome) f.ioOe
    ioOut := ios.foldl (fun w c => if c.useOut then w else putBit w c.io ((drive c).getD false)) f.ioOut } }
/-- One cycle of priming: the flip-flops listed take a cycle of their own clock, all others stay still, and ASR has no effect (R202, R207). -/
def State.primeCycle (s : State) (cells : List Nat) : State :=
  let q := cells.foldl (fun q c =>
    match s.plbOf c with
    | none => q
    | some (b, m) =>
      if (b.cell m).any (fun x => x.mode != .bypass) then
        putQ q c (b.next m (s.plbIns b) true (s.net (some (b.plb / 768)) b.ce) false (tget 0 s.fab.q c == 1))
      else q) s.fab.q
  { s with fab := { s.fab with q := q } }
/-- Priming: four cycles with the inbound side of the wall open (R207). -/
def State.prime (s : State) (cells : List Nat) : State := (((s.primeCycle cells).primeCycle cells).primeCycle cells).primeCycle cells

end Sys2Proof.Machine
end

