-- ==== Sys2Proof/Machine/Fabric.lean ====
section
/-! DEFINITION. The rows of queue blocks in RAM, FIFO and credit FIFO modes, and of the user I/O banks (chapter 8). -/

namespace Sys2Proof.Machine

/-! ### FIFO modes (R241–R245) -/

/-- FIFO_WRITE (R243, R245): an edge of the write side's clock, where that runs. A fabric command port takes what its request block gets. -/
def execFifoWrite (qb : Fin 2304) (data : DWord) (s : State) : Host.Outcome State Fault Refusal :=
  match s.qbCfg qb.val with
  | some c =>
    if !c.isFifo || !s.clockRuns c.ckA then .next s
    else
      let s1 := s.fifoPush c data.toNat
      .next (match s1.portOf c.qb false with | some d => s1.portDrain d | none => s1)
  | none => .next s
/-- FIFO_READ (R243, R245): an edge of the read side's clock, where that runs. The room goes to the words that a command port has. -/
def execFifoRead (qb : Fin 2304) (s : State) : Host.Outcome State Fault Refusal :=
  match s.qbCfg qb.val with
  | some c =>
    if !c.isFifo || !s.clockRuns c.ckB then .next s
    else
      let s1 := s.fifoPop c
      .next (match s1.portOf c.qb true with | some d => s1.portFill d | none => s1)
  | none => .next s
/-- QB_RST: pointers and sticky flags clear, credits return to the depth, and RST with its tail holds both sides until the clocks have run
(R244). -/
def execQbRst (qb : Fin 2304) (s : State) : Host.Outcome State Fault Refusal :=
  match s.qbCfg qb.val with
  | none => .next s
  | some c =>
    if s.frozen (qbRegion c.qb) then .next s
    else if c.isFifo || c.mode == .handle then
      let s1 := s.setQb c.qb (s.qb c.qb).reset
      .next (if c.mode = .handle then s1.showHq c.hqn else s1)
    else .next s
/-- FIFO_POINTER_CROSS: the other side's pointer, or its returned credits, arrives by the clock of the side it goes to (R242, R250). Nothing
crosses a freeze wall. -/
def execFifoPointerCross (qb : Fin 2304) (toWrite : Bool) (s : State) : Host.Outcome State Fault Refusal :=
  match s.qbCfg qb.val with
  | none => .next s
  | some c =>
    let x := s.qb c.qb
    if s.frozen (qbRegion c.qb) || !c.isFifo || !s.clockRuns (if toWrite then c.ckA else c.ckB) then .next s
    else if toWrite then .next (s.setQb c.qb { x with wlag := 0 })
    else .next (s.setQb c.qb ({ x with rlag := 0 }.fall c))

/-! ### RAM modes (R238–R240) -/

/-- The word at an address. -/
def QbX.word (x : QbX) (c : QbCfg) (a : Nat) : List Nat := tgetN 0 x.ram (a * c.lanes) c.lanes
/-- The word stored after both ports' writes: the same lane of the same address takes port A's byte, or with different clocks one
of the two, as bit k of `pick` says. -/
def mergeLane (dual : Bool) (pick k old : Nat) (a b : Option Nat) : Nat :=
  match a, b with
  | some x, some y => if dual && bit pick k then y else x
  | some x, none => x
  | none, some y => y
  | none, none => old
/-- The lane that a port reads: QUIET is settled before; COHERENT returns new lanes of its own port, and of the other with the same
clock; with different clocks a lane that the other port writes reads old or new, as bit k of `pick` says (R239). -/
def readLane (dual : Bool) (rdw pick k old now : Nat) (mine other : Option Nat) : Nat :=
  match mine, other with
  | none, none => old
  | some _, none => if rdw = 0 then now else old
  | _, some y =>
    if dual then (if bit pick k then y else (if rdw = 0 ∧ mine.isSome then now else old)) else if rdw = 0 then now else old
/-- Lanes as a word, and a word as lanes. -/
def lanesWord (ls : List Nat) : Nat := ls.foldr (fun b n => b + 256 * n) 0
def wordLanes (n w : Nat) : List Nat := (List.range n).map (fun k => bits w (8 * k) 8)
/-- The lanes stored at an address as a read gives them: of the protected shape checked and corrected, with ECC_FIX and ECC_BAD (R240). -/
def QbX.stored (x : QbX) (c : QbCfg) (a : Nat) : List Nat × Bool × Bool :=
  let l := x.word c a
  if c.prot then
    let r := eccRead (lanesWord l) (tget 0 x.ram (4096 + a))
    (wordLanes c.lanes r.1, r.2.1, r.2.2)
  else (l, false, false)
/-- What one port's access makes of its read output: unchanged in QUIET where it writes, a free value beyond the depth. Each lane is one that
was stored, checked, or one that is written in the cycle; ECC_FIX and ECC_BAD tell of the stored word where a lane of it is returned
(R239, R240). -/
def ramRead (c : QbCfg) (x y : QbX) (mine other : Option RamOp) (pick prev : Nat) : Nat × Bool × Bool :=
  match mine with
  | none => (prev, false, false)
  | some o =>
    if c.rdw = 2 && o.write then (prev, false, false)
    else if c.size ≤ o.addr then (cut c.width pick, false, false)
    else
      let oth (k : Nat) : Option Nat := match other with | some p => if p.addr = o.addr then p.lane k else none | none => none
      let old := x.stored c o.addr
      let now := y.word c o.addr
      let lanes := List.range c.lanes
      let fresh (k : Nat) : Bool :=
        match o.lane k, oth k with
        | none, none => false
        | some _, none => c.rdw == 0
        | _, some _ => if c.dual then bit pick k || (c.rdw == 0 && (o.lane k).isSome) else c.rdw == 0
      let ls := lanes.map (fun k => readLane c.dual c.rdw pick k (old.1.getD k 0) (now.getD k 0) (o.lane k) (oth k))
      let e := lanes.any (fun k => !fresh k)
      (lanesWord ls, e && old.2.1, e && old.2.2)
/-- One port's write with the other's at the same address. -/
def QbX.ramWrite (x : QbX) (c : QbCfg) (mine other : Option RamOp) (isA : Bool) (pick : Nat) : QbX :=
  match mine with
  | none => x
  | some o =>
    if !o.write || decide (c.size ≤ o.addr) then x
    else
      let oth (k : Nat) : Option Nat := match other with | some p => if p.addr = o.addr then p.lane k else none | none => none
      let old := x.word c o.addr
      let ls := (List.range c.lanes).map (fun k =>
        if isA then mergeLane c.dual pick k (old.getD k 0) (o.lane k) (oth k) else mergeLane c.dual pick k (old.getD k 0) (oth k) (o.lane k))
      let r := tputN 0 x.ram (o.addr * c.lanes) ls
      let w := ls.foldr (fun b n => b + 256 * n) 0
      { x with ram := if c.prot then tput 0 r (4096 + o.addr) (cut 8 (Config.secded w)) else r }
/-- RAM_ACCESS: one cycle of a RAM's ports whose clocks run (R233, R237–R240). In a wide shape port A writes and port B reads. -/
def execRamAccess (qb : Fin 2304) (a b : Option RamOp) (s : State) : Host.Outcome State Fault Refusal :=
  match s.qbCfg qb.val with
  | none => .next s
  | some c =>
    let a := if s.clockRuns c.ckA then a else none
    let b := if s.clockRuns c.ckB then b else none
    if s.frozen (qbRegion c.qb) then .next s
    else
      let x := s.qb c.qb
      let pk := s.drawn 64
      let pr := s.draw.drawn 64
      let s1 := s.draw.draw
      match c.mode with
      | .ram =>
        let y := ((x.ramWrite c a b true pk).ramWrite c b a false pk)
        let ra := ramRead c x y a b pr x.outA
        let rb := ramRead c x y b a (pr / 2 ^ 32) x.outB
        .next (s1.setQb c.qb { y with outA := ra.1, outB := rb.1 })
      | .ramWide =>
        let wr := match a with | some o => some { o with write := true } | none => none
        let rd := match b with | some o => some { o with write := false } | none => none
        let y := x.ramWrite c wr none true pk
        let r := ramRead c x y rd wr pr x.outB
        .next (s1.setQb c.qb { y with outB := r.1, eccFix := r.2.1, eccBad := r.2.2 })
      | _ => .next s

/-! ### User I/O banks (R234, R251) -/

/-- A bank's measured supply code set. -/
def State.setSupply (s : State) (b code : Nat) : State := { s with fab := { s.fab with supply := s.fab.supply.set b code } }
/-- IO_BANK_LOSS: the bank's outputs are unpowered and its inputs read 0; after release it is logged (R251). -/
def execIoBankLoss (bank : Fin 16) (s : State) : Host.Outcome State Fault Refusal :=
  if s.fab.supply.getD bank.val 4 = 4 then .next s
  else
    let s1 := s.setSupply bank.val 4
    .next (if s.castRuns then s1.logEvent 0x0307 bank.val [] else s1)
/-- BANK_SUPPLY_RETURN: the supply is in the range of a code of R236, and outputs take the values of their flip-flops. -/
def execBankSupplyReturn (bank : Fin 16) (code : Fin 5) (s : State) : Host.Outcome State Fault Refusal :=
  .next (if 1 ≤ code.val ∧ code.val ≤ 3 then s.setSupply bank.val code.val else s)

end Sys2Proof.Machine
end

