-- ==== Sys2Proof/Machine/Formats.lean ====
section
/-! DEFINITION. Number formats and patina pairs (chapter 12): exact values, the one rounding, maximum and minimum, conversions,
pairs, and the correctly rounded quotient and square root of the match engine. -/

namespace Sys2Proof.Machine

/-- An exact value: NaN, an infinity by sign, or (-1)^neg × m × 2^e. -/
inductive Fv where
  | nan
  | inf (neg : Bool)
  | fin (neg : Bool) (m : Nat) (e : Int)
deriving DecidableEq, Repr

/-- A format of Table NUM-1: exponent and mantissa widths, and whether it has infinities (E4M3 has none). -/
structure Fmt where
  eb : Nat
  mb : Nat
  hasInf : Bool
deriving DecidableEq, Repr
def e4m3 : Fmt := ⟨4, 3, false⟩
def e5m2 : Fmt := ⟨5, 2, true⟩
def fp16 : Fmt := ⟨5, 10, true⟩
def bf16 : Fmt := ⟨8, 7, true⟩
def fp32 : Fmt := ⟨8, 23, true⟩
/-- The width in bits. -/
def Fmt.width (f : Fmt) : Nat := 1 + f.eb + f.mb
def Fmt.bias (f : Fmt) : Nat := 2 ^ (f.eb - 1) - 1
/-- The exponent of the smallest normal. -/
def Fmt.emin (f : Fmt) : Int := 1 - (f.bias : Int)
/-- The code of the largest finite value (Table NUM-1). -/
def Fmt.maxCode (f : Fmt) : Nat :=
  if f.hasInf then (2 ^ f.eb - 1) * 2 ^ f.mb - 1 else 2 ^ (f.eb + f.mb) - 2
/-- The canonical NaN, sign 0 (R323). -/
def Fmt.nanCode (f : Fmt) : Nat :=
  if f.hasInf then (2 ^ f.eb - 1) * 2 ^ f.mb + 2 ^ (f.mb - 1) else 2 ^ (f.eb + f.mb) - 1

/-- The mode of the NM bit: IEEE, else NANIGN (Table TISA-1). -/
abbrev Ieee := Bool

namespace Fv

/-- A zero of either sign. -/
def isZero : Fv → Bool
  | .fin _ 0 _ => true
  | _ => false
def isNan : Fv → Bool
  | .nan => true
  | _ => false
/-- The sign bit. -/
def sign : Fv → Bool
  | .nan => false
  | .inf s => s
  | .fin s _ _ => s
def neg : Fv → Fv
  | .nan => .nan
  | .inf s => .inf (!s)
  | .fin s m e => .fin (!s) m e
/-- An integer. -/
def ofInt (i : Int) : Fv := .fin (decide (i < 0)) i.natAbs 0
/-- The magnitude of a finite value in units of 2^q, where q is at or below its exponent. -/
def units (q : Int) : Fv → Int
  | .fin s m e => (if s then -1 else 1) * ((m * 2 ^ (e - q).toNat : Nat) : Int)
  | _ => 0
/-- The exponent of a finite value. -/
def expo : Fv → Int
  | .fin _ _ e => e
  | _ => 0

/-- The exact sum (R305, R325, R330): NaN from any NaN or from infinities of both signs; an exact zero is +0 unless every addend
is −0. -/
def sum (l : List Fv) : Fv :=
  if l.any isNan then .nan
  else
    let pos := l.any (fun x => x == .inf false)
    let ngt := l.any (fun x => x == .inf true)
    if pos && ngt then .nan
    else if pos then .inf false
    else if ngt then .inf true
    else
      let q := l.foldl (fun q x => min q x.expo) 0
      let v := (l.map (units q)).sum
      if v = 0 then .fin (!l.isEmpty && l.all (fun x => x.sign && x.isZero)) 0 0
      else .fin (decide (v < 0)) v.natAbs q
def add (a b : Fv) : Fv := sum [a, b]
def sub (a b : Fv) : Fv := sum [a, b.neg]
/-- The exact product: 0 × ∞ is NaN, a zero takes the exclusive OR of the signs (R325). -/
def mul : Fv → Fv → Fv
  | .nan, _ => .nan
  | _, .nan => .nan
  | .inf s, x => if x.isZero then .nan else .inf (s != x.sign)
  | x, .inf s => if x.isZero then .nan else .inf (s != x.sign)
  | .fin s m e, .fin t n f => .fin (s != t) (m * n) (e + f)
/-- `a` is below `b`; −0 and +0 are equal (R325). -/
def lt (a b : Fv) : Bool :=
  match a, b with
  | .nan, _ => false
  | _, .nan => false
  | .inf s, .inf t => s && !t
  | .inf s, _ => s
  | _, .inf t => !t
  | x, y => let q := min x.expo y.expo; decide (x.units q < y.units q)

/-- A finite value rounded to a multiple of 2^q, to nearest with ties to even; a zero keeps the sign. -/
def roundTo (q : Int) : Fv → Fv
  | .fin s m e =>
    if q ≤ e then .fin s m e
    else
      let sh := (q - e).toNat
      let n := m >>> sh
      let r := m % 2 ^ sh
      let up := 2 ^ sh < 2 * r ∨ (2 * r = 2 ^ sh ∧ n % 2 = 1)
      .fin s (if up then n + 1 else n) q
  | x => x

end Fv

/-- The exact value of an encoding (R322). -/
def Fmt.decode (f : Fmt) (b : Nat) : Fv :=
  let s := bit b (f.eb + f.mb)
  let ex := bits b f.mb f.eb
  let mf := bits b 0 f.mb
  if f.hasInf && ex == 2 ^ f.eb - 1 then (if mf = 0 then .inf s else .nan)
  else if !f.hasInf && ex == 2 ^ f.eb - 1 && mf == 2 ^ f.mb - 1 then .nan
  else if ex = 0 then .fin s mf (f.emin - f.mb)
  else .fin s (mf + 2 ^ f.mb) ((ex : Int) - f.bias - f.mb)

/-- A zero result's sign: +0 in NANIGN (R325). -/
def zeroSign (ieee : Ieee) (x : Fv) : Fv :=
  if !ieee && x.isZero then .fin false 0 0 else x
/-- What an out-of-range finite value becomes (R326, Table NUM-4). -/
def Fmt.overflow (f : Fmt) (s : Bool) : Fv :=
  if f.hasInf then .inf s
  else match f.decode f.maxCode with
    | .fin _ m e => .fin s m e
    | x => x
/-- The one rounding of a result (R326): to nearest, ties to even, subnormals kept, out of range as Table NUM-4 gives; a source ±∞
gives ±448 in E4M3 under NANIGN and NaN under IEEE. -/
def Fmt.rne (f : Fmt) (ieee : Ieee) (x : Fv) : Fv :=
  match x with
  | .nan => .nan
  | .inf s => if f.hasInf then .inf s else if ieee then .nan else f.overflow s
  | .fin s m e =>
    if m = 0 then zeroSign ieee x
    else
      let y := x.roundTo (max ((Nat.log2 m : Int) + e) f.emin - f.mb)
      let mx := f.decode f.maxCode
      if (mx.lt y && !s) || (mx.lt y.neg && s) then f.overflow s else zeroSign ieee y

/-- The code of a value the format holds exactly. -/
def Fmt.code (f : Fmt) (x : Fv) : Nat :=
  match x with
  | .nan => f.nanCode
  | .inf s => b2n s * 2 ^ (f.eb + f.mb) + (2 ^ f.eb - 1) * 2 ^ f.mb
  | .fin s m e =>
    let sb := b2n s * 2 ^ (f.eb + f.mb)
    if m = 0 then sb
    else
      let ey := (Nat.log2 m : Int) + e
      let q := max ey f.emin - f.mb
      let n := if q ≤ e then m * 2 ^ (e - q).toNat else m >>> (q - e).toNat
      sb + (if ey < f.emin then n else ((ey + f.bias).toNat - 1) * 2 ^ f.mb + n)
/-- A result rounded once and encoded. -/
def Fmt.encode (f : Fmt) (ieee : Ieee) (x : Fv) : Nat := f.code (f.rne ieee x)

/-- Maximum of Table NUM-3 (R324). -/
def fmax (ieee : Ieee) (a b : Fv) : Fv :=
  if a.isNan then (if ieee || b.isNan then .nan else b)
  else if b.isNan then (if ieee then .nan else a)
  else if a.isZero && b.isZero && a.sign != b.sign then (if ieee then .fin false 0 0 else a)
  else if a.lt b then b else a
/-- Minimum of Table NUM-3 (R324). -/
def fmin (ieee : Ieee) (a b : Fv) : Fv :=
  if a.isNan then (if ieee || b.isNan then .nan else b)
  else if b.isNan then (if ieee then .nan else a)
  else if a.isZero && b.isZero && a.sign != b.sign then (if ieee then .fin true 0 0 else a)
  else if b.lt a then b else a

/-- A floating-point value as an integer of `w` bits (Table NUM-4): nearest even, clamped; NaN gives 0. -/
def fvToInt (w : Nat) (x : Fv) : Int :=
  match x with
  | .nan => 0
  | .inf s => if s then -((2 ^ (w - 1) : Nat) : Int) else (2 ^ (w - 1) : Nat) - 1
  | .fin _ _ _ => satS w ((x.roundTo 0).units 0)

/-! ### Patina pairs -/

/-- The value of a pair (R328). -/
def pairValue (h l : Fv) : Fv := Fv.sum [h, l]
/-- PR (R329): (h, l) of an exact result. -/
def pairRound (f : Fmt) (ieee : Ieee) (e : Fv) : Fv × Fv :=
  match f.rne ieee e with
  | .nan => (.nan, .fin false 0 0)
  | .inf s => (.inf s, .fin false 0 0)
  | h =>
    let l := f.rne ieee (Fv.sub e h)
    (h, if l.isZero then .fin false 0 0 else l)
/-- A tile's BF16 pair from its 32 bits, h in [31:16] (R328). -/
def pairOf (b : Nat) : Fv := pairValue (bf16.decode (bits b 16 16)) (bf16.decode (bits b 0 16))
/-- The 32 bits of PR of an exact result in a tile. -/
def pairBits (ieee : Ieee) (e : Fv) : Nat :=
  let r := pairRound bf16 ieee e
  bf16.code r.1 * 65536 + bf16.code r.2

/-! ### Quotient and square root (R332) -/

/-- The integer square root by binary digits, from bit `k` down. -/
def isqrtFrom : Nat → Nat → Nat → Nat
  | 0, _, r => r
  | k + 1, n, r => let t := r + 2 ^ k; isqrtFrom k n (if t * t ≤ n then t else r)
def isqrt (n : Nat) : Nat := isqrtFrom (Nat.log2 n / 2 + 1) n 0
/-- The correctly rounded square root of a value that is not negative. The half unit appended stands for any remainder. -/
def Fmt.sqrt (f : Fmt) (x : Fv) : Fv :=
  match x with
  | .fin s m e =>
    if m = 0 then x
    else if s then .nan
    else
      let odd := e % 2
      let m1 := m * 2 ^ odd.toNat
      let k := f.mb + 4
      let n := m1 * 2 ^ (2 * k)
      let r := isqrt n
      f.rne true (.fin false (2 * r + b2n (r * r != n)) ((e - odd) / 2 - k - 1))
  | .inf false => .inf false
  | _ => .nan
/-- The correctly rounded quotient. -/
def Fmt.div (f : Fmt) (a b : Fv) : Fv :=
  match a, b with
  | .fin s m e, .fin t n g =>
    if n = 0 then (if m = 0 then .nan else .inf (s != t))
    else if m = 0 then .fin (s != t) 0 0
    else
      let k := f.mb + 4 + Nat.log2 n
      let q := m * 2 ^ k / n
      f.rne true (.fin (s != t) (2 * q + b2n (q * n != m * 2 ^ k)) (e - g - k - 1))
  | .inf s, .fin t _ _ => .inf (s != t)
  | .fin s _ _, .inf t => .fin (s != t) 0 0
  | _, _ => .nan

/-! ### Scores of the match engine (R142, R143, R332) -/

/-- The FP16 elements of a vector of bytes. -/
def vecElems : Nat → List Byte → List Fv
  | 0, _ => []
  | n + 1, b => fp16.decode (leAt b 0 2) :: vecElems n (b.drop 2)
/-- Every element is finite (R136). -/
def vecFinite (v : List Fv) : Bool := v.all (fun x => match x with | .fin _ _ _ => true | _ => false)
/-- One term entered into an FP32 pair. -/
def pairTerm (p : Fv × Fv) (x : Fv) : Fv × Fv := pairRound fp32 true (Fv.sum [p.1, p.2, x])
/-- One level of the tree: neighbours added. -/
def pairLevel : List (Fv × Fv) → List (Fv × Fv)
  | a :: b :: r => pairRound fp32 true (Fv.sum [a.1, a.2, b.1, b.2]) :: pairLevel r
  | l => l
/-- Six levels, then h + l rounded once. -/
def pairTree (l : List (Fv × Fv)) : Fv :=
  match pairLevel (pairLevel (pairLevel (pairLevel (pairLevel (pairLevel l))))) with
  | p :: _ => fp32.rne true (Fv.sum [p.1, p.2])
  | [] => .fin false 0 0
/-- Lane j takes elements j, j + 64, …, j + 448 in that order; each element gives its terms in order. -/
def laneSum (terms : List (List Fv)) (j : Nat) : Fv × Fv :=
  (List.range 8).foldl (fun p k => (terms.getD (j + 64 * k) []).foldl pairTerm p) (.fin false 0 0, .fin false 0 0)
def lanesSum (terms : List (List Fv)) : Fv := pairTree ((List.range 64).map (laneSum terms))
/-- The dot product. -/
def vecDot (q t : List Fv) : Fv := lanesSum ((q.zip t).map (fun e => [Fv.mul e.1 e.2]))
/-- The sum of squared differences: each difference formed in FP32, its square entered as a high and a low part. -/
def vecL2 (q t : List Fv) : Fv :=
  lanesSum ((q.zip t).map (fun e =>
    let d := fp32.rne true (Fv.sub e.1 e.2)
    let sq := Fv.mul d d
    let hi := fp32.rne true sq
    [hi, Fv.sub sq hi]))
/-- NORM: the square root of t·t. -/
def vecNorm (t : List Fv) : Fv := fp32.sqrt (vecDot t t)
/-- The score of a query against a template with its NORM: metric 0 cosine, 1 L2. -/
def vecScore (metric : Nat) (q t : List Fv) (norm : Fv) : Fv :=
  if metric = 1 then vecL2 q t
  else fp32.div (vecDot q t) (fp32.rne true (Fv.mul (fp32.sqrt (vecDot q q)) norm))

end Sys2Proof.Machine
end

