-- ==== Sys2Proof/Machine/Operands.lean ====
section
/-! DEFINITION. The operand forms of tile instructions: element types, tile registers and accumulators with their shapes, rows and
elements, tile store rows (R276–R281, Table TILE-2, R302–R304). -/

namespace Sys2Proof.Machine

/-! ### Element types (Table TILE-2) -/

/-- Bits per element. -/
def elemBits (ty : Nat) : Nat := if ty = 1 then 4 else if ty ≤ 4 then 8 else if ty ≤ 6 then 16 else 32
/-- Bytes are a whole number of elements of a type. -/
def wholeElems (ty colb : Nat) : Bool := colb * 8 % elemBits ty == 0
/-- An integer type. -/
def isIntTy (ty : Nat) : Bool := ty == 1 || ty == 2 || ty == 9
/-- The format of a floating-point type. -/
def fmtOf (ty : Nat) : Fmt :=
  if ty = 3 then e4m3 else if ty = 4 then e5m2 else if ty = 5 then bf16 else if ty = 6 then fp16 else fp32
/-- The exact value of an element. -/
def elemVal (ty b : Nat) : Fv :=
  if isIntTy ty then Fv.ofInt (sgn (elemBits ty) b) else if ty = 8 then pairOf b else (fmtOf ty).decode b
/-- The type code of an ATYPE, and back. -/
def tyOfA (a : Nat) : Nat := if a = 0 then 9 else if a = 1 then 7 else 8
def aOfTy (ty : Nat) : Nat := if ty = 9 then 0 else if ty = 7 then 1 else 2
/-- The first n elements of a row, and a row from elements, low first. -/
def rowElems (ty n row : Nat) : List Nat := (List.range n).map (fun i => bits row (i * elemBits ty) (elemBits ty))
def packElems (ty : Nat) (l : List Nat) : Nat := l.foldr (fun e x => cut (elemBits ty) e + 2 ^ elemBits ty * x) 0

/-! ### Registers and accumulators -/

/-- An operand register: Tk below 8, A(k - 8) from 8 on. -/
structure Opnd where
  acc : Bool
  k : Nat
deriving DecidableEq, Repr
def Opnd.num (o : Opnd) : Nat := if o.acc then 8 + o.k else o.k
/-- A row's place in the row table. -/
def Opnd.key (o : Opnd) (t r : Nat) : Nat := (t * 16 + o.num) * 16 + r
/-- EMPTY, TYPE (0 for an empty accumulator), ROWS, COLB. -/
def State.oEmpty (s : State) (t : Nat) (o : Opnd) : Bool :=
  if o.acc then bit (s.get (Reg.TACC_EMPTY t)) o.k else s.flag (Reg.TSHAPE_EMPTY t o.k)
def State.aType (s : State) (t k : Nat) : Nat := bits (s.get (Reg.TACC_ATYPE t)) (2 * k) 2
def State.oType (s : State) (t : Nat) (o : Opnd) : Nat :=
  if o.acc then (if s.oEmpty t o then 0 else tyOfA (s.aType t o.k)) else s.get (Reg.TSHAPE_TYPE t o.k)
def State.oRows (s : State) (t : Nat) (o : Opnd) : Nat := if o.acc then 16 else s.get (Reg.TSHAPE_ROWS t o.k)
def State.oColb (s : State) (t : Nat) (o : Opnd) : Nat := if o.acc then 64 else s.get (Reg.TSHAPE_COLB t o.k)
/-- Elements per row at a type. -/
def State.oElems (s : State) (t : Nat) (o : Opnd) : Nat := s.oColb t o * 8 / elemBits (s.oType t o)
/-- What TFAULT1–TFAULT3 say of an operand (R318). -/
def State.oWord (s : State) (t : Nat) (o : Opnd) : Nat × Nat × Nat × Nat := (o.num, s.oType t o, s.oRows t o, s.oColb t o)
/-- Row r of an operand: zero outside its shape, and zero while it is empty (R278, R292). -/
def State.oRow (s : State) (t : Nat) (o : Opnd) (r : Nat) : Nat :=
  if s.oEmpty t o ∨ s.oRows t o ≤ r then 0 else cut (8 * s.oColb t o) (tget 0 s.tu.rows (o.key t r))
/-- EMPTY written. -/
def State.setEmpty (s : State) (t : Nat) (o : Opnd) (e : Bool) : State :=
  if o.acc then s.put (Reg.TACC_EMPTY t) (setBits (s.get (Reg.TACC_EMPTY t)) o.k 1 (b2n e)) else s.setFlag (Reg.TSHAPE_EMPTY t o.k) e
/-- A row written as it is stored. -/
def State.putRow (s : State) (t : Nat) (o : Opnd) (r v : Nat) : State :=
  { s with tu := { s.tu with rows := tput 0 s.tu.rows (o.key t r) v } }
/-- Row r written: bytes outside the shape are not written, and EMPTY clears. -/
def State.setRow (s : State) (t : Nat) (o : Opnd) (r v : Nat) : State :=
  let old := tget 0 s.tu.rows (o.key t r)
  (s.putRow t o r (setBits old 0 (8 * s.oColb t o) v)).setEmpty t o false
/-- Every row zero. -/
def State.zeroRows (s : State) (t : Nat) (o : Opnd) : State := (List.range 16).foldl (fun s r => s.putRow t o r 0) s
/-- A tile register's shape set. -/
def State.setShape (s : State) (t k rows colb : Nat) : State := (s.put (Reg.TSHAPE_ROWS t k) rows).put (Reg.TSHAPE_COLB t k) colb
/-- An accumulator's ATYPE set. -/
def State.setAtype (s : State) (t k a : Nat) : State := s.put (Reg.TACC_ATYPE t) (setBits (s.get (Reg.TACC_ATYPE t)) (2 * k) 2 a)
/-- An empty accumulator takes a type; one that holds something keeps its own. -/
def State.giveType (s : State) (t : Nat) (o : Opnd) (ty : Nat) : State :=
  if o.acc && s.oEmpty t o then s.setAtype t o.k (aOfTy ty) else s
/-- A register or accumulator released (R311). -/
def State.release (s : State) (t : Nat) (o : Opnd) : State :=
  let s1 := (s.zeroRows t o).setEmpty t o true
  if o.acc then s1.setAtype t o.k 0 else s1

/-! ### The tile store (R279–R281) -/

/-- A store row read by the tile: the row, and whether it is poisoned. -/
def State.loadRow (s : State) (t a : Nat) : State × Nat × Bool :=
  let r := s.readMem 1 (storeAddr t (a / 64 * 64)) 64
  (r.1, leNat r.2.1, r.2.2)
/-- One 8-byte word of the store written under a mask of bytes: a whole word comes out clean, a part of a poisoned one is lost. -/
def State.storeWord (s : State) (writer t a v mask : Nat) : State :=
  if mask % 256 = 0 then s
  else if mask % 256 = 255 then s.writeMem writer (storeAddr t a) (leBytes 8 v)
  else if tget 0 s.ecc (storeAddr t a) ≤ 1 then
    let s1 := if tget 0 s.ecc (storeAddr t a) = 1 then s.correct (storeAddr t a) else s
    (setBitsOf 8 mask).foldl (fun s b => s.setByte (storeAddr t (a + b)) (BitVec.ofNat 8 (v / 256 ^ b))) s1
  else s.writeMem writer (storeAddr t (a + (setBitsOf 8 mask).headD 0)) (zeros 1)
/-- A store row written under a mask of 64 bytes. -/
def State.storeRow (s : State) (t a v mask : Nat) : State :=
  (List.range 8).foldl (fun s w => s.storeWord 1 t (a / 64 * 64 + 8 * w) (v / 2 ^ (64 * w) % 2 ^ 64) (mask / 2 ^ (8 * w))) s
/-- The row addresses of a TLOAD or TSTORE (R302). -/
def rowAddr (base imm stride r : Nat) : Nat := (base + imm + r * stride) % 2 ^ 32 / 64 * 64

end Sys2Proof.Machine
end

