-- ==== Sys2Proof/Machine/Steeper.lean ====
section
/-! DEFINITION. Steepers: starting and running a steep program, its instructions, halting, holding, resuming and abandoning a stream,
and the stream commands (R348–R353, R364–R375). -/

namespace Sys2Proof.Machine

/-! ### Starting (R348, R349) -/

/-- The 64 instructions of a program copied from the tile store at `pbase`, wrapping at its end. -/
def State.copyProg (s : State) (t pbase : Nat) : List Nat :=
  (List.range 64).map (fun k => leNat (s.bytesAt (storeAddr t ((pbase + 8 * k) % 0x40000)) 8))
/-- The store rows that a range of `n` rows from row `r` takes, wrapping. -/
def State.rowPoison (s : State) (t r n : Nat) : State × Bool :=
  (List.range n).foldl (fun (p : State × Bool) k =>
    let q := p.1.readMem 0 (storeAddr t ((r + k) % 4096 * 64)) 64
    (q.1, p.2 || q.2.2)) (s, false)
/-- A stream started on an idle steeper. A frozen region or a quiescing device holds it at once. -/
def State.startStream (s : State) (t st entry param : Nat) : State :=
  let pb := s.get (Reg.STEEP_CTRL_PBASE t st) * 64
  let r := s.rowPoison t (pb / 64) 8
  let s1 := r.1.setSx t st { SteepX.idle with prog := r.1.copyProg t pb, param := param }
  let s2 := (List.range 7).foldl (fun s k => s.put (Reg.STEEP_B_B t st k) 0) s1
  let s3 := (List.range 4).foldl (fun s k => s.put (Reg.STEEP_H_HANDLE t st k) 0) s2
  let held := s3.frozen (tileRegion t) || s3.quiescing
  let s4 := ((s3.put (Reg.STEEP_STAT_PC t st) entry).put (Reg.STEEP_STAT_LEVEL t st) 0).put (Reg.STEEP_STAT_STATE t st) (if held then 3 else 1)
  if r.2 then (s4.put (Reg.STEEP_FADDR_ADDR t st) (storeAddr t pb)).steepStop t st 0xB 0 false false else s4

/-! ### Instructions (R352, R353) -/

/-- The instruction at a running steeper's PC, where it can issue one now. -/
def State.steepWord (s : State) (t st : Nat) : Option Nat :=
  let x := s.sx t st
  if s.coresRun && s.steepState t st == 1 && x.walk.isNone && x.wait.isNone then some (x.prog.getD (s.get (Reg.STEEP_STAT_PC t st)) 0)
  else none
/-- The rows that hold a stated 0 of each instruction, and the other causes of STEEP_ILLEGAL (Table STRM-1, R352). -/
def steepLegal (own w : Nat) : Bool :=
  let op := bits w 60 4
  if op = 0 then bits w 0 60 == 0
  else if op = 1 then bits w 57 3 != 0 && bits w 48 8 == 0
  else if op = 2 then bits w 57 3 != 0 && bits w 48 9 == 0
  else if op = 3 then bits w 24 30 == 0
  else if op = 4 then xPath w != 3 && bits w 24 20 == 0 && !(xRsrc w && xRdst w) && !((xRsrc w || xRdst w) && xDev w == own)
  else if op = 5 then bits w 48 9 == 0
  else if op = 6 then decide (bits w 53 4 ≤ 4) && bits w 48 5 == 0
  else if op = 7 then bits w 57 3 != 0 && bits w 10 45 == 0
  else if op = 8 then bits w 57 3 == 0 && bits w 10 45 == 0
  else false
/-- STEEP_ILLEGAL of the instruction at PC. -/
def State.steepIllegal (s : State) (t st : Nat) : State := s.steepStop t st 6 (s.get (Reg.STEEP_STAT_PC t st)) false false
/-- One instruction row: the instruction at PC is this row's, or of an OP that no row has; an illegal one stops the stream. -/
def State.steepRun (s : State) (t st op : Nat) (f : Nat → State) : Host.Outcome State Fault Refusal :=
  match s.steepWord t st with
  | none => .next s
  | some w =>
    if bits w 60 4 = op ∨ 9 ≤ bits w 60 4 then .next (if steepLegal s.ensId w then f w else s.steepIllegal t st) else .next s
/-- SETB (R353). -/
def execSetb (t : Fin 192) (st : Fin 2) (s : State) : Host.Outcome State Fault Refusal :=
  s.steepRun t.val st.val 1 (fun w =>
    (s.setBreg t.val st.val (bits w 57 3) ((bits w 0 48 + (if bit w 56 then (s.sx t.val st.val).param else 0)) % 2 ^ 48)).steepNext t.val st.val)
/-- ADDB (R353). -/
def execAddb (t : Fin 192) (st : Fin 2) (s : State) : Host.Outcome State Fault Refusal :=
  s.steepRun t.val st.val 2 (fun w =>
    (s.setBreg t.val st.val (bits w 57 3) ((s.breg t.val st.val (bits w 57 3) + bits w 0 48) % 2 ^ 48)).steepNext t.val st.val)
/-- LOOP's effect: a level opens, or STEEP_NEST. -/
def State.steepLoop (s : State) (t st w : Nat) : State :=
  let x := s.sx t st
  let pc := s.get (Reg.STEEP_STAT_PC t st)
  let e := bits w 54 6
  let fits := match x.loops.getLast? with | some l => decide (e ≤ l.last) | none => true
  if e ≤ pc ∨ !fits ∨ 6 ≤ x.loops.length then s.steepStop t st 7 pc false false
  else
    ((s.setSx t st { x with loops := x.loops ++ [{ first := pc + 1, last := e, left := bits w 0 24 }] }).put (Reg.STEEP_STAT_PC t st)
      (pc + 1)).put (Reg.STEEP_STAT_LEVEL t st) (x.loops.length + 1)
/-- LOOP (R353). -/
def execLoop (t : Fin 192) (st : Fin 2) (s : State) : Host.Outcome State Fault Refusal :=
  s.steepRun t.val st.val 3 (fun w => s.steepLoop t.val st.val w)
/-- A descriptor read from a store row, with its window record where WIN is set. -/
def State.readDesc (s : State) (t row : Nat) : State × Desc × Bool :=
  let a := s.bytesAt (storeAddr t (row * 64)) 64
  let n := if Desc.win a then 2 else 1
  let r := s.rowPoison t row n
  let b := if n = 2 then s.bytesAt (storeAddr t ((row + 1) % 4096 * 64)) 32 else []
  (r.1, a ++ b, r.2)
/-- XFER's effect: both descriptors copied with their effective bases, both walks checked, and the first access issued. -/
def State.startWalk (s : State) (t st w : Nat) : State :=
  let a := s.readDesc t (xSrow w)
  let b := a.1.readDesc t (xDrow w)
  let s1 := b.1
  if a.2.2 then (s1.put (Reg.STEEP_FADDR_ADDR t st) (storeAddr t (xSrow w * 64))).steepStop t st 0xB 0 false false
  else if b.2.2 then (s1.put (Reg.STEEP_FADDR_ADDR t st) (storeAddr t (xDrow w * 64))).steepStop t st 0xB 0 false true
  else
    let src := a.2.1.withBase (s1.breg t st (xBs w))
    let dst := b.2.1.withBase (s1.breg t st (xBd w))
    match layoutFault src dst with
    | some f => (s1.put (Reg.STEEP_FADDR_ADDR t st) (Desc.base (if f.2.2 then dst else src))).steepStop t st f.1 f.2.1 (if f.2.2 then xRdst w else xRsrc w) f.2.2
    | none =>
      let k : Walk := { word := w, src := src, dst := dst, n := 0, total := src.count, srcPa := 0, dstPa := 0, xferPath := 0,
                        xferSrc := none, xferDst := none, xferLen := 0, joined := false, ueBlock := none, phase := .idle }
      (s1.setSx t st { s1.sx t st with walk := some k }).steepIssue t st
/-- XFER (R353). -/
def execXfer (t : Fin 192) (st : Fin 2) (s : State) : Host.Outcome State Fault Refusal :=
  s.steepRun t.val st.val 4 (fun w => s.startWalk t.val st.val w)
/-- The operation that the instruction at PC keeps for reissue (R386). -/
def SteepX.keptFor (x : SteepX) (pc : Nat) : Option HeldOp := match x.kept with | some h => if h.pc = pc then some h else none | none => none
/-- A sync operation issued, for which the steeper waits. -/
def State.steepSync (s : State) (t st w : Nat) (wait : Bool) (fn : Nat) : State :=
  let b := s.breg t st (bits w 57 3)
  let x := s.sx t st
  if 2 ^ 23 ≤ b then s.steepStop t st 9 0xFF false false
  else
    let r := s.issueSync (.steeper t st) b wait fn (bits w 0 48) (x.keptFor (s.get (Reg.STEEP_STAT_PC t st)))
    r.1.setSx t st { r.1.sx t st with wait := some (r.2, true) }
/-- STEEP_SWAIT (R353). -/
def execSteepSwait (t : Fin 192) (st : Fin 2) (s : State) : Host.Outcome State Fault Refusal :=
  s.steepRun t.val st.val 5 (fun w => s.steepSync t.val st.val w true 0)
/-- STEEP_SSIG (R353). -/
def execSteepSsig (t : Fin 192) (st : Fin 2) (s : State) : Host.Outcome State Fault Refusal :=
  s.steepRun t.val st.val 6 (fun w => s.steepSync t.val st.val w false (bits w 53 4))
/-- STEEP_HPOP (R353): STEEP_ILLEGAL with an HPOOL.SHIFT outside 6 to 30. -/
def execSteepHpop (t : Fin 192) (st : Fin 2) (s : State) : Host.Outcome State Fault Refusal :=
  s.steepRun t.val st.val 7 (fun w =>
    let sh := s.get (Reg.HPOOL_SHIFT t.val st.val)
    if sh < 6 ∨ 30 < sh then s.steepIllegal t.val st.val
    else
      let r := s.issueHq (.steeper t.val st.val (bits w 57 3) (bits w 55 2)) (bits w 0 10) none
      r.1.setSx t.val st.val { r.1.sx t.val st.val with wait := some (r.2, false) })
/-- STEEP_HPUSH (R353). -/
def execSteepHpush (t : Fin 192) (st : Fin 2) (s : State) : Host.Outcome State Fault Refusal :=
  s.steepRun t.val st.val 8 (fun w =>
    let r := s.issueHq (.steeper t.val st.val 0 (bits w 55 2)) (bits w 0 10) (some (s.get (Reg.STEEP_H_HANDLE t.val st.val (bits w 55 2))))
    r.1.setSx t.val st.val { r.1.sx t.val st.val with wait := some (r.2, false) })
/-- END's effect (R351): the completion signal where enabled, else idle at once. -/
def State.steepEnd (s : State) (t st : Nat) : State :=
  if s.flag (Reg.STEEP_DONE_EN t st) then
    let x := s.sx t st
    let r := s.issueSync (.done t st) (s.get (Reg.STEEP_DONE_OBJ t st)) false 0 1 (x.keptFor (s.get (Reg.STEEP_STAT_PC t st)))
    r.1.setSx t st { r.1.sx t st with wait := some (r.2, true) }
  else ((s.setSx t st SteepX.idle).put (Reg.STEEP_STAT_DONE t st) 1).put (Reg.STEEP_STAT_STATE t st) 0
/-- STEEP_END (R351). -/
def execSteepEnd (t : Fin 192) (st : Fin 2) (s : State) : Host.Outcome State Fault Refusal :=
  s.steepRun t.val st.val 0 (fun _ => s.steepEnd t.val st.val)

/-! ### Halting, holding, resuming, abandoning (R367, R373) -/

/-- A running stream asked to halt with a STOPPED DETAIL, or (0) to be held: at once between instructions and before an access has
issued; an issued access completes first; a wait is withdrawn. A hold does not replace a halt asked for. -/
def State.steepHalt (s : State) (t st d : Nat) : State :=
  if s.steepState t st ≠ 1 then s
  else
    let x := s.sx t st
    let s1 := s.setSx t st { x with haltReq := some (if d = 0 then x.haltReq.getD 0 else d) }
    match x.wait with
    | some (k, true) => (match s1.op k with | some o => if o.wait then s1.withdrawSync k else s1 | none => s1)
    | some (k, false) => s1.withdrawHq k
    | none =>
      match x.walk with
      | none => s1.steepHaltNow t st
      | some w =>
        match w.phase with
        | .idle | .walk _ | .tag =>
          ((s1.mapWalk t st (fun w => { w with phase := .idle, xferLen := 0 })).steepHaltNow t st).xlatOver (2 * t + st)
        | _ => s1
/-- A stopped or held stream goes on: the access at hand is issued again first. -/
def State.steepGo (s : State) (t st : Nat) : State :=
  let s1 := s.put (Reg.STEEP_STAT_STATE t st) 1
  if s.steepState t st = 2 ∧ s.get (Reg.STEEP_FAULT_CODE t st) = 6 ∧ s.get (Reg.STEEP_FAULT_DETAIL t st) = 64 then
    s1.steepStop t st 6 64 false false
  else s1.steepIssue t st
/-- A held stream released (R83, R210). -/
def State.steepRelease (s : State) (t st : Nat) : State := if s.steepState t st = 3 then s.steepGo t st else s
/-- A halted stream resumed; a frozen region holds it again. -/
def State.steepResume (s : State) (t st : Nat) : State :=
  if s.steepState t st ≠ 2 then s
  else if s.frozen (tileRegion t) || s.quiescing then s.put (Reg.STEEP_STAT_STATE t st) 3
  else s.steepGo t st
/-- A write of STEEP_CTRL: RW fields while STATE is 0 or 2, then CLR_FAULT, HALT and RESUME in that order; a HALT
leaves a running stream halting (R367, R371). -/
def State.steepCtrl (s : State) (t st w : Nat) : State :=
  let s1 := if s.steepState t st = 0 ∨ s.steepState t st = 2 then
      (s.put (Reg.STEEP_CTRL_PBASE t st) (bits w 6 12)).put (Reg.STEEP_CTRL_IRQ_EN t st) (bits w 3 1)
    else s
  let s2 := if bit w 0 && s1.steepState t st == 2 then s1.steepAbandon t st else s1
  let s3 := if bit w 1 then
      (if s2.steepState t st = 3 then s2.steepStop t st 0xC 1 false false else s2.steepHalt t st 1)
    else s2
  if bit w 2 && !(bit w 1 && s2.steepState t st == 1) then s3.steepResume t st else s3
/-- STEEP_START: a write of ENTRY while the steeper is idle (R349). -/
def execSteepStart (t : Fin 192) (st : Fin 2) (w : Word) (s : State) : Host.Outcome State Fault Refusal :=
  .next (if s.fabricPowered && s.steepState t.val st.val == 0 then
    s.startStream t.val st.val (bits w.toNat 0 6) (s.get (Reg.STEEP_PARAM_PARAM t.val st.val)) else s)
/-- STEEP_RESUME: a write of STEEP_CTRL with RESUME set (R367). -/
def execSteepResume (t : Fin 192) (st : Fin 2) (w : Word) (s : State) : Host.Outcome State Fault Refusal :=
  .next (if s.fabricPowered && bit w.toNat 2 then s.steepCtrl t.val st.val w.toNat else s)
/-- STEEP_HALT: a write of STEEP_CTRL with HALT set. -/
def execSteepHalt (t : Fin 192) (st : Fin 2) (w : Word) (s : State) : Host.Outcome State Fault Refusal :=
  .next (if s.fabricPowered && bit w.toNat 1 then s.steepCtrl t.val st.val w.toNat else s)
/-- STEEP_CLR_FAULT: a write of STEEP_CTRL with CLR_FAULT set. -/
def execSteepClrFault (t : Fin 192) (st : Fin 2) (w : Word) (s : State) : Host.Outcome State Fault Refusal :=
  .next (if s.fabricPowered && bit w.toNat 0 then s.steepCtrl t.val st.val w.toNat else s)

/-! ### The stream commands (Table STRM-8) -/

/-- STEEP_STAT as it reads. -/
def State.steepStat (s : State) (t st : Nat) : Nat := s.word (wordsSteep t st 4)
/-- STREAM_START's effect. -/
def streamStartRun (s : State) (c : Ctx) : State × Ans :=
  let t := c.at 0 1
  let st := c.at 1 1
  if s.steepState t st ≠ 0 then (s, Ans.code 0xE 4)
  else
    let s1 := s.startStream t st (c.at 2 1) (c.at 4 4)
    (s1, Ans.ok (leBytes 4 (s1.steepStat t st)))
def streamStartOp : OpSpec := { plainOp 0x0510 8 streamStartRun with
  range := fun _ c => firstBad [(0, c.at 0 1 < 192), (1, c.at 1 1 < 2), (2, c.at 2 1 < 64)] }
/-- STREAM_START (R349). -/
def execStreamStart (p : Packet) (s : State) : Host.Outcome State Fault Refusal := serve streamStartOp p s
/-- STREAM_STATUS's effect. -/
def streamStatusRun (s : State) (c : Ctx) : State × Ans :=
  let t := c.at 0 1
  let st := c.at 1 1
  (s, Ans.ok (leBytes 4 (s.steepStat t st) ++ leBytes 4 (s.word (wordsSteep t st 8)) ++ leBytes 8 (s.get (Reg.STEEP_FADDR_ADDR t st)) ++
    (List.range 6).flatMap (fun k => leBytes 4 (s.get (Reg.STREAM_POS_IDX t st k))) ++
    (List.range 6).flatMap (fun k => leBytes 4 (s.get (Reg.STREAM_POS_REM_REM t st k))) ++
    leBytes 8 (s.get (Reg.STEEP_XFERS_COUNT t st))))
def streamStatusOp : OpSpec := { plainOp 0x0511 4 streamStatusRun with
  range := fun _ c => firstBad [(0, c.at 0 1 < 192), (1, c.at 1 1 < 2)] }
/-- STREAM_STATUS (R375). -/
def execStreamStatus (p : Packet) (s : State) : Host.Outcome State Fault Refusal := serve streamStatusOp p s
/-- The steepers that TILE and ST name, 0xFF for all. -/
def steepersOf (tile st : Nat) : List (Nat × Nat) :=
  let ts := if tile = 0xFF then List.range 192 else [tile]
  let ss := if st = 0xFF then [0, 1] else [st]
  ts.flatMap (fun t => ss.map (fun k => (t, k)))
/-- An operation on every named steeper that it suits: how many it acted on and how many it skipped. One steeper named alone that it does
not suit gives a STATE code where the command has one. -/
def steepEach (suits : State → Nat → Nat → Bool) (act : State → Nat → Nat → State) (alone : Option Nat) (s : State) (c : Ctx) : State × Ans :=
  let l := steepersOf (c.at 0 1) (c.at 1 1)
  let good := l.filter (fun p => suits s p.1 p.2)
  match alone, l, good with
  | some d, [_], [] => (s, Ans.code 0xE d)
  | _, _, _ => (good.foldl (fun s p => act s p.1 p.2) s, Ans.ok (leBytes 4 good.length ++ leBytes 4 (l.length - good.length)))
/-- TILE and ST in range. -/
def steepRange (_ : State) (c : Ctx) : Option Nat :=
  firstBad [(0, c.at 0 1 < 192 || c.at 0 1 == 0xFF), (1, c.at 1 1 < 2 || c.at 1 1 == 0xFF)]
def streamResumeOp : OpSpec := { plainOp 0x0512 4 (steepEach (fun s t st => s.steepState t st == 2) (fun s t st => s.steepResume t st) (some 5)) with
  range := steepRange }
/-- STREAM_RESUME (R367). -/
def execStreamResume (p : Packet) (s : State) : Host.Outcome State Fault Refusal := serve streamResumeOp p s
def streamHaltOp : OpSpec := { plainOp 0x0513 4 (steepEach (fun s t st => s.steepState t st == 1 || s.steepState t st == 3)
    (fun s t st => if s.steepState t st = 3 then s.steepStop t st 0xC 1 false false else s.steepHalt t st 1) none) with range := steepRange }
/-- STREAM_HALT (R367). -/
def execStreamHalt (p : Packet) (s : State) : Host.Outcome State Fault Refusal := serve streamHaltOp p s
def streamAbortOp : OpSpec := { plainOp 0x0514 4 (steepEach (fun s t st => s.steepState t st == 2) (fun s t st => s.steepAbandon t st) (some 5)) with
  range := steepRange }
/-- STREAM_ABORT (R367). -/
def execStreamAbort (p : Packet) (s : State) : Host.Outcome State Fault Refusal := serve streamAbortOp p s

end Sys2Proof.Machine
end

