-- ==== Sys2Proof/Machine/TileIsa.lean ====
section
/-! DEFINITION. The tile instruction set (chapter 11): issue and the checks of R299, rows, and what each instruction does. -/

namespace Sys2Proof.Machine

/-! ### Encoding (R300, Table TISA-1) -/

/-- The OPs of Table TISA-1. -/
def tileOps : List Nat :=
  [0, 1, 2, 3, 4, 5, 6, 7, 8, 9, 0x10, 0x11, 0x12, 0x13, 0x14, 0x18, 0x19, 0x1A, 0x20, 0x21, 0x22, 0x23, 0x24]
/-- The fields marked 0 of an OP: lowest bit and width. -/
def opZeros (op : Nat) : List (Nat × Nat) :=
  match op with
  | 0x00 | 0x1A => [(0, 58)]
  | 0x01 => [(0, 39)]
  | 0x04 | 0x09 => [(0, 46)]
  | 0x05 => [(0, 35)]
  | 0x06 => [(0, 45)]
  | 0x07 => [(0, 43)]
  | 0x08 => [(0, 42)]
  | 0x10 => [(0, 39)]
  | 0x11 => [(43, 5), (32, 7)]
  | 0x12 | 0x13 => [(18, 30)]
  | 0x14 => [(53, 1), (0, 43)]
  | 0x18 => [(53, 2), (12, 31)]
  | 0x19 => [(12, 46)]
  | 0x20 => [(53, 5), (0, 43)]
  | 0x21 => [(53, 1), (0, 43)]
  | 0x22 => [(10, 43)]
  | 0x23 => [(53, 5), (10, 38)]
  | 0x24 => [(53, 3), (6, 37)]
  | _ => []
/-- A field that must be 0 is not: marked in the table, or by the instruction's own rule (R302, R303, R307, R310, R316). -/
def zeroBroken (op w : Nat) : Bool :=
  (opZeros op).any (fun f => bits w f.1 f.2 != 0) ||
  (if op = 2 ∨ op = 3 then
    (op == 2 && bits w 29 3 != 0) || ((op == 3 || bits w 56 2 != 0) && bits w 18 11 != 0)
  else if op = 5 then (bits w 40 4 != 5 && bits w 35 3 != 0) || (bits w 40 4 == 9 && (bits w 45 4 != 0 || bit w 44))
  else if op = 8 then decide (bits w 56 2 ≤ 1) && bits w 43 4 != 0
  else if op = 0x24 then bit w 56 && (bits w 48 5 != 0 || bits w 0 6 != 0)
  else false)
/-- A reserved field value. -/
def reservedValue (op w : Nat) : Bool :=
  if op = 2 ∨ op = 3 then bits w 56 2 == 3
  else if op = 4 then decide (2 ≤ bits w 48 2)
  else if op = 5 then decide (10 ≤ bits w 40 4)
  else if op = 6 then bits w 46 2 == 3
  else if op = 0x10 ∨ op = 0x11 then decide (13 ≤ bits w 39 4)
  else if op = 0x18 then decide (6 ≤ bits w 55 3)
  else if op = 0x21 then decide (5 ≤ bits w 54 4)
  else false
/-- Registers of a class: 8 tile registers, 4 accumulators. -/
def classTop (cls : Bool) : Nat := if cls then 4 else 8
/-- A register number outside its file. -/
def regBeyond (op w : Nat) : Bool :=
  if op = 1 then decide (classTop (bit w 57) ≤ bits w 53 4)
  else if op = 2 ∨ op = 3 then
    decide ((if bits w 56 2 = 0 then 8 else if bits w 56 2 = 1 then 4 else 16) ≤ bits w 52 4)
  else if op = 5 then
    let m := classTop (bit w 57)
    decide (m ≤ bits w 53 4 ∨ m ≤ bits w 49 4) || (!bit w 44 && bits w 40 4 != 9 && decide (m ≤ bits w 45 4))
  else if op = 6 ∨ op = 7 then decide (classTop (bit w 57) ≤ bits w 53 4)
  else if op = 8 then
    let m := classTop (bit w 55)
    decide (m ≤ bits w 51 4 ∨ m ≤ bits w 47 4) || (decide (2 ≤ bits w 56 2) && decide (m ≤ bits w 43 4))
  else false
/-- PAIR misused (R304): an odd TREG, another class than RC 0, or an SB without PAIR. -/
def pairMisused (op w : Nat) : Bool :=
  (op == 2 || op == 3) && (if bit w 51 then bits w 56 2 != 0 || bits w 52 1 != 0 else bits w 36 5 != 0)
/-- A TCFG or TLOAD type or COLB that R301 or R302 does not allow. -/
def typeBroken (op w : Nat) : Bool :=
  if op = 1 then
    let ty := bits w 49 4
    if bit w 57 then !(ty == 7 || ty == 8 || ty == 9) || bits w 39 10 != 0
    else ty == 0 || decide (9 < ty) || !wholeElems ty (bits w 39 6 + 1)
  else if op = 2 ∨ op = 3 then
    let ty := bits w 32 4
    if bits w 56 2 = 1 then !(ty == 7 || ty == 8 || ty == 9) else ty != 0
  else false
/-- The DETAIL of ILLEGAL that an encoding gives (R300, Table TISA-5), none where it is legal. Of several causes the first in the order
of R300's list is told, then PAIR, type, SV (log entry 40). -/
def tileIllegal (w : Nat) : Option Nat :=
  let op := bits w 58 6
  if op ∉ tileOps then some 1
  else if (op = 2 ∨ op = 3) ∧ bits w 56 2 = 3 then some 2
  else if zeroBroken op w then some 3
  else if reservedValue op w then some 2
  else if regBeyond op w then some 4
  else if pairMisused op w then some 7
  else if typeBroken op w then some 5
  else if (op = 0x20 ∨ op = 0x21) ∧ bit w 43 then some 6
  else none

/-! ### Issue (R298, R299) -/

/-- The instruction of a tile at an address. -/
def State.tileWord (s : State) (t pc : Nat) : Nat := s.wget (tileWin t + 8 * pc) + s.wget (tileWin t + 8 * pc + 4) * 2 ^ 32
/-- The tile can issue now: it runs, does not stall, and its clock runs. -/
def State.tileIssues (s : State) (t : Nat) : Bool := s.coresRun && s.tileRuns t && (s.tx t).stall.isNone && (s.tx t).ctx.isNone
/-- One instruction row: the instruction at PC is this row's, or of an OP that no row has; an illegal one faults without effect. -/
def State.tileRun (s : State) (t op : Nat) (f : Nat → Nat → State) : Host.Outcome State Fault Refusal :=
  let pc := s.get (Reg.TSTAT_PC t)
  let w := s.tileWord t pc
  if s.tileIssues t && (bits w 58 6 == op || !(tileOps.contains (bits w 58 6))) then
    match tileIllegal w with
    | some d => .next ((s.put (Reg.TSTART_ROW t) 0).tileFault t 2 pc d)
    | none => .next (f pc w)
  else .next s
/-- An instruction is done and the next stands at `pc`: TSTART clears, and a single step halts with CAUSE 0. -/
def State.tileGoto (s : State) (t pc cycles : Nat) : State :=
  let s1 := ((s.put (Reg.TSTART_ROW t) 0).put (Reg.TSTAT_PC t) (pc % 4096)).tileCycles t cycles
  if (s1.tx t).step then s1.tileHalted t 0 else s1
/-- A SHAPE_FAULT of the instruction at PC (R299, R318): no effect, TSTART 0, the operands destination first. -/
def State.shapeFault (s : State) (t pc d : Nat) (os : List Opnd) : State :=
  (s.put (Reg.TSTART_ROW t) 0).tileFaultOps t 1 pc d (os.map (fun o => s.oWord t o))

/-! ### Rows (R288, R289) -/

/-- Rows executed in ascending order while they are clean: the state, the first row not done, whether that row met poison. -/
def rowsFrom (row : State → Nat → State × Bool) (total : Nat) : Nat → State → Nat → State × Nat × Bool
  | 0, s, r => (s, r, false)
  | n + 1, s, r =>
    if total ≤ r then (s, r, false)
    else
      let q := row s r
      if q.2 then (q.1, r, true) else rowsFrom row total n q.1 (r + 1)
/-- A multi-row operation from TSTART.ROW: `n` rows of it, one where the tile steps. Rows left stay in TSTART with the tile at the
instruction; a poisoned row is MEM_UE with TSTART at it. -/
def State.tileRows (s : State) (t pc n total : Nat) (cyc : Nat → Nat) (row : State → Nat → State × Bool) : State :=
  let r0 := s.get (Reg.TSTART_ROW t)
  let q := rowsFrom row total (if (s.tx t).step then 1 else max 1 n) s r0
  let s1 := q.1
  let r := q.2.1
  if q.2.2 then ((s1.put (Reg.TSTART_ROW t) r).tileCycles t (cyc r - cyc r0)).tileFault t 4 pc r
  else if total ≤ r then s1.tileGoto t (pc + 1) (cyc (max r r0) - cyc r0)
  else
    let s2 := (s1.put (Reg.TSTART_ROW t) r).tileCycles t (cyc r - cyc r0)
    if (s2.tx t).step then s2.tileHalted t 0 else s2
/-- Cycles of the first r rows at an overhead and a cost per row: none before the first. -/
def rowCycles (base per r : Nat) : Nat := if r = 0 then 0 else base + per * r
/-- A row that meets no memory. -/
def cleanRow (f : State → Nat → State) (s : State) (r : Nat) : State × Bool := (f s r, false)
/-- A tile register's shape set: what lies outside the shape reads as zero from then on (R278). -/
def State.reshape (s : State) (t k rows colb : Nat) : State :=
  let o : Opnd := ⟨false, k⟩
  let s1 := s.setShape t k rows colb
  (List.range 16).foldl (fun s r => s.putRow t o r (if rows ≤ r then 0 else cut (8 * colb) (tget 0 s.tu.rows (o.key t r)))) s1
/-- The destination of a result takes its shape or type. -/
def State.takeShape (s : State) (t : Nat) (o : Opnd) (ty rows colb : Nat) : State :=
  if o.acc then s.giveType t o ty
  else if s.oRows t o = rows ∧ s.oColb t o = colb then s
  else s.reshape t o.k rows colb

/-! ### TCFG, TREL (R301, R311) -/

/-- TCFG's effect. -/
def State.tcfg (s : State) (t w : Nat) : State :=
  let k := bits w 53 4
  if bit w 57 then
    let o : Opnd := ⟨true, k⟩
    ((s.zeroRows t o).setAtype t k (aOfTy (bits w 49 4))).setEmpty t o false
  else
    let o : Opnd := ⟨false, k⟩
    ((((s.zeroRows t o).put (Reg.TSHAPE_TYPE t k) (bits w 49 4)).setShape t k (bits w 45 4 + 1) (bits w 39 6 + 1)).setEmpty t o true)
/-- TCFG (R301). -/
def execTcfg (t : Fin 192) (s : State) : Host.Outcome State Fault Refusal :=
  s.tileRun t.val 1 (fun pc w => (s.tcfg t.val w).tileGoto t.val (pc + 1) 1)
/-- The registers that a MASK names. -/
def maskOpnds (m : Nat) : List Opnd := (setBitsOf 12 m).map (fun b => if b < 8 then ⟨false, b⟩ else ⟨true, b - 8⟩)
/-- TREL (R311). -/
def execTrel (t : Fin 192) (s : State) : Host.Outcome State Fault Refusal :=
  s.tileRun t.val 9 (fun pc w =>
    ((maskOpnds (bits w 46 12)).foldl (fun s o => s.release t.val o) s).tileGoto t.val (pc + 1) 1)

/-! ### TLOAD, TSTORE (R302–R304) -/

/-- What a row of a TLOAD or TSTORE moves: an operand or a vector register, its base, its rows. -/
structure RowPart where
  vec : Bool
  o : Opnd
  base : Nat
  rows : Nat
  colb : Nat
deriving DecidableEq, Repr
/-- The parts of the instruction, with the shape that SETSH gives. -/
def State.ldstParts (s : State) (t w : Nat) : List RowPart :=
  let k := bits w 52 4
  let sa := s.sreg t (bits w 46 5)
  if bits w 56 2 = 0 then
    let part (k base : Nat) : RowPart :=
      let o : Opnd := ⟨false, k⟩
      if bit w 28 then ⟨false, o, base, bits w 24 4 + 1, bits w 18 6 + 1⟩ else ⟨false, o, base, s.oRows t o, s.oColb t o⟩
    part k sa :: (if bit w 51 then [part (k + 1) (s.sreg t (bits w 36 5))] else [])
  else if bits w 56 2 = 1 then [⟨false, ⟨true, k⟩, sa, 16, 64⟩]
  else [⟨true, ⟨false, k⟩, sa, 1, 64⟩]
/-- The rows of the operation: the most that any part has. -/
def partRows (ps : List RowPart) : Nat := ps.foldl (fun n p => max n p.rows) 0
/-- The stride of R302. -/
def State.ldstStride (s : State) (t w : Nat) : Nat := if bits w 41 5 = 0 then 64 else s.sreg t (bits w 41 5) / 64 * 64
/-- The store address of row r of a part. -/
def State.partAddr (s : State) (t w : Nat) (p : RowPart) (r : Nat) : Nat := rowAddr p.base (bits w 0 18) (s.ldstStride t w) r
/-- The lowest row whose address lies beyond the store. -/
def State.ldstBeyond (s : State) (t w : Nat) (ps : List RowPart) : Option Nat :=
  (List.range (partRows ps)).find? (fun r => ps.any (fun p => decide (r < p.rows) && decide (0x40000 ≤ s.partAddr t w p r)))
/-- Cycles of the first r rows (Table TISA-6). -/
def ldstCycles (w r : Nat) : Nat :=
  if r = 0 then 0
  else if bits w 56 2 = 0 then 4 + (if bit w 51 then ceilDiv r 2 else ceilDiv r 4)
  else if bits w 56 2 = 1 then 4 + ceilDiv r 4 else 5
/-- The banks that the collectors ask for in one cycle: four rows of a single register, or two of each of a pair (R304). -/
def State.groupBanks (s : State) (t w : Nat) (ps : List RowPart) (lo hi : Nat) : List Nat :=
  (List.range (hi - lo)).flatMap (fun i => (ps.filter (fun p => decide (lo + i < p.rows))).map (fun p => s.partAddr t w p (lo + i) / 64 % 32))
/-- Cycles that the first r rows lose to conflicts among their own collectors: of a cycle's rows in one bank all but one wait (R280). -/
def State.ownDelays (s : State) (t w : Nat) (ps : List RowPart) (r : Nat) : Nat :=
  let g := if bit w 51 then 2 else 4
  ((List.range (ceilDiv r g)).map (fun i =>
    let bs := s.groupBanks t w ps (g * i) (min (g * i + g) r)
    bs.foldl (fun m b => max m (bs.count b)) 1 - 1)).sum
/-- Cycles that other requesters of the store cost `n` rows: a free value of at most 14 a row (R280, R319, log entry 41). -/
def State.refused (s : State) (t n : Nat) : State := s.draw.tileCycles t (s.drawn 32 % (14 * n + 1))
/-- One row read into one part. -/
def State.loadPart (s : State) (t w : Nat) (p : RowPart) (v : Nat) (r : Nat) : State :=
  if p.vec then s.setVreg t p.o.k v
  else if p.o.acc then (s.giveType t p.o (bits w 32 4)).setRow t p.o r v
  else s.setRow t p.o r v
/-- The rows of all parts read before any is written. -/
def State.loadRows (s : State) (t w : Nat) (r : Nat) : List RowPart → State × List (RowPart × Nat) × Bool
  | [] => (s, [], false)
  | p :: ps =>
    if p.rows ≤ r then s.loadRows t w r ps
    else
      let q := s.loadRow t (s.partAddr t w p r)
      if q.2.2 then (q.1, [], true)
      else
        let z := q.1.loadRows t w r ps
        (z.1, (p, q.2.1) :: z.2.1, z.2.2)
/-- Row r of a TLOAD. -/
def State.tloadRow (t w : Nat) (ps : List RowPart) (s : State) (r : Nat) : State × Bool :=
  let q := s.loadRows t w r ps
  if q.2.2 then (q.1, true) else (q.2.1.foldl (fun s e => s.loadPart t w e.1 e.2 r) q.1, false)
/-- Row r of a TSTORE. -/
def State.tstoreRow (t w : Nat) (ps : List RowPart) (s : State) (r : Nat) : State × Bool :=
  let pm := s.preg t (bits w 29 3)
  ((ps.filter (fun p => decide (r < p.rows))).foldl (fun s p =>
    let v := if p.vec then s.vreg t p.o.k else s.oRow t p.o r
    s.storeRow t (s.partAddr t w p r) v (cut p.colb pm)) s, false)
/-- TLOAD and TSTORE: the checks of R299 in order, then the rows. An accumulator of another type than TY faults a TLOAD alone (R303). -/
def State.ldst (s : State) (t pc w n : Nat) (row : Nat → Nat → List RowPart → State → Nat → State × Bool) : State :=
  let ps := s.ldstParts t w
  let os := (ps.filter (fun p => !p.vec)).map (fun p => p.o)
  let regs := os.filter (fun o => !o.acc)
  if bit w 28 && regs.any (fun o => s.oType t o != 0 && !wholeElems (s.oType t o) (bits w 18 6 + 1)) then
    (s.put (Reg.TSTART_ROW t) 0).tileFault t 2 pc 5
  else if regs.any (fun o => s.oType t o == 0) then s.shapeFault t pc 1 os
  else if bits w 58 6 == 2 && os.any (fun o => o.acc && !s.oEmpty t o && s.oType t o != bits w 32 4) then s.shapeFault t pc 5 os
  else match s.ldstBeyond t w ps with
    | some r => (s.put (Reg.TSTART_ROW t) 0).tileFault t 3 pc (r % 256)
    | none =>
      let s1 := if bit w 28 then ps.foldl (fun s p => s.takeShape t p.o 0 p.rows p.colb) s else s
      let k := min (if (s.tx t).step then 1 else max 1 n) (partRows ps - s.get (Reg.TSTART_ROW t))
      (s1.refused t k).tileRows t pc n (partRows ps) (fun r => ldstCycles w r + s.ownDelays t w ps r) (row t w ps)
/-- TLOAD (R302, R303, R304). -/
def execTload (t : Fin 192) (rows : Nat) (s : State) : Host.Outcome State Fault Refusal :=
  s.tileRun t.val 2 (fun pc w => s.ldst t.val pc w rows State.tloadRow)
/-- TSTORE (R302, R303, R304). -/
def execTstore (t : Fin 192) (rows : Nat) (s : State) : Host.Outcome State Fault Refusal :=
  s.tileRun t.val 3 (fun pc w => s.ldst t.val pc w rows State.tstoreRow)

/-! ### TMMA (R305, R306, R330) -/

/-- Table TISA-2: the accumulator's type code and the cycles per row. -/
def tmmaType (a b acc : Nat) : Option (Nat × Nat) :=
  let fp8 (x : Nat) : Bool := x == 3 || x == 4
  if fp8 a && fp8 b then (if acc = 0 then some (7, 8) else none)
  else if a ≠ b then none
  else if acc = 0 then
    (if a = 1 ∨ a = 2 then some (9, 4) else if a = 5 ∨ a = 6 then some (7, 8) else if a = 7 then some (7, 16) else none)
  else if a = 5 then some (8, 32) else if a = 8 then some (8, 16) else none
/-- The exact products of two elements: four partial products of two finite pairs (Table NUM-5). -/
def products (ta tb a b : Nat) : List Fv :=
  let va := elemVal ta a
  let vb := elemVal tb b
  let finite (x : Fv) : Bool := match x with | .fin _ _ _ => true | _ => false
  if ta = 8 && finite va && finite vb then
    let h (x : Nat) : Fv := bf16.decode (bits x 16 16)
    let l (x : Nat) : Fv := bf16.decode (bits x 0 16)
    [Fv.mul (h a) (h b), Fv.mul (h a) (l b), Fv.mul (l a) (h b), Fv.mul (l a) (l b)]
  else [Fv.mul va vb]
/-- One element of the accumulator. -/
def tmmaElem (ta tb ty : Nat) (ieee z : Bool) (old : Nat) (a b : List Nat) : Nat :=
  let terms := (a.zip b).flatMap (fun e => products ta tb e.1 e.2)
  if ty = 9 then
    let sum := ((a.zip b).map (fun e => sgn (elemBits ta) e.1 * sgn (elemBits tb) e.2)).sum
    unsgn 32 (sum + (if z then 0 else sgn 32 old))
  else
    let e := Fv.sum (if z then terms else elemVal ty old :: terms)
    if ty = 7 then fp32.encode ieee e else pairBits ieee e
/-- Row i of a TMMA: elements at or beyond N keep their values. -/
def State.tmmaRow (t w ty : Nat) (s : State) (i : Nat) : State :=
  let a : Opnd := ⟨false, bits w 53 3⟩
  let b : Opnd := ⟨false, bits w 50 3⟩
  let d : Opnd := ⟨true, bits w 56 2⟩
  let ta := s.oType t a
  let tb := s.oType t b
  let k := s.oElems t a
  let ra := rowElems ta k (s.oRow t a i)
  let old := rowElems ty 16 (s.oRow t d i)
  let new := (List.range 16).map (fun j =>
    if j < s.oRows t b then tmmaElem ta tb ty (bit w 46) (bit w 47) (old.getD j 0) ra (rowElems tb k (s.oRow t b j)) else old.getD j 0)
  (s.giveType t d ty).setRow t d i (packElems ty new)
/-- TMMA (R305, R306). -/
def execTmma (t : Fin 192) (rows : Nat) (s : State) : Host.Outcome State Fault Refusal :=
  s.tileRun t.val 4 (fun pc w =>
    let a : Opnd := ⟨false, bits w 53 3⟩
    let b : Opnd := ⟨false, bits w 50 3⟩
    let d : Opnd := ⟨true, bits w 56 2⟩
    let os := [d, a, b]
    let t := t.val
    if s.oType t a = 0 ∨ s.oType t b = 0 then s.shapeFault t pc 1 os
    else match tmmaType (s.oType t a) (s.oType t b) (bits w 48 2) with
      | none => s.shapeFault t pc 2 os
      | some (ty, per) =>
        if s.oElems t a ≠ s.oElems t b then s.shapeFault t pc 3 os
        else if !s.oEmpty t d && s.oType t d != ty then s.shapeFault t pc 5 os
        else s.tileRows t pc rows (s.oRows t a) (rowCycles 2 per) (cleanRow (State.tmmaRow t w ty)))

/-! ### TEW (R307) -/

/-- An integer result fitted to its width: clamped with SAT, else wrapped. -/
def fitInt (w : Nat) (sat : Bool) (x : Int) : Nat := unsgn w (if sat then satS w x else x)
/-- One element of TEW other than SEL. -/
def tewElem (ty fn : Nat) (sat ieee : Bool) (a b : Nat) : Nat :=
  let w := elemBits ty
  if isIntTy ty then
    let x := sgn w a
    let y := sgn w b
    if fn = 0 then fitInt w sat (x + y)
    else if fn = 1 then fitInt w sat (x - y)
    else if fn = 2 then fitInt w sat (x * y)
    else if fn = 3 then unsgn w (max x y)
    else if fn = 4 then unsgn w (min x y)
    else if fn = 6 then a &&& b
    else if fn = 7 then a ||| b
    else if fn = 8 then a ^^^ b
    else unsgn w (max x 0)
  else
    let f := fmtOf ty
    let x := f.decode a
    let y := f.decode b
    if fn = 0 then f.encode ieee (Fv.add x y)
    else if fn = 1 then f.encode ieee (Fv.sub x y)
    else if fn = 2 then f.encode ieee (Fv.mul x y)
    else if fn = 3 then f.code (fmax ieee x y)
    else if fn = 4 then f.code (fmin ieee x y)
    else f.code (fmax ieee x (.fin false 0 0))
/-- One row of TEW: `sel` is p[PS], read for SEL alone. -/
def tewRow (ty fn n : Nat) (sat ieee : Bool) (sel ra rb : Nat) : Nat :=
  let a := rowElems ty n ra
  let b := rowElems ty n rb
  packElems ty ((List.range n).map (fun i =>
    let x := a.getD i 0
    let y := b.getD i 0
    if fn = 5 then (if bit sel (i * elemBits ty / 8) then x else y) else tewElem ty fn sat ieee x y))
/-- The operands of a TEW: RD, RA, and RB where it names a register. -/
def tewOpnds (w : Nat) : List Opnd :=
  let c := bit w 57
  [⟨c, bits w 53 4⟩, ⟨c, bits w 49 4⟩] ++ (if bit w 44 || bits w 40 4 == 9 then [] else [⟨c, bits w 45 4⟩])
/-- The type of a TEW, or the DETAIL of its SHAPE_FAULT (Tables TISA-4, TISA-5). -/
def State.tewShape (s : State) (t w : Nat) : Nat ⊕ Nat :=
  let os := tewOpnds w
  let d := os.getD 0 ⟨false, 0⟩
  let a := os.getD 1 ⟨false, 0⟩
  let b := os.getD 2 a
  let live := ((os.drop 1) ++ [d]).filter (fun o => !s.oEmpty t o)
  let ty := if bit w 57 then (match live with | o :: _ => s.oType t o | [] => 0) else s.oType t a
  let bad : Nat :=
    if bit w 57 then (if live = [] then 7 else if live.any (fun o => s.oType t o != ty) then 5 else 0)
    else if os.any (fun o => s.oType t o == 0) then 1
    else if s.oType t b ≠ ty then 2
    else if s.oRows t b ≠ s.oRows t a then 4
    else if s.oColb t b ≠ s.oColb t a then 3
    else if s.oType t d ≠ ty then 2
    else 0
  if bad ≠ 0 then .inr bad
  else if ty = 8 ∨ (6 ≤ bits w 40 4 ∧ bits w 40 4 ≤ 8 ∧ !isIntTy ty) then .inr 2
  else .inl ty
/-- Row r of a TEW. -/
def State.tewDo (t w ty : Nat) (s : State) (r : Nat) : State :=
  let os := tewOpnds w
  let d := os.getD 0 ⟨false, 0⟩
  let a := os.getD 1 ⟨false, 0⟩
  let rb := if bit w 44 then s.vreg t (bits w 45 4) else match os[2]? with | some b => s.oRow t b r | none => 0
  let n := s.oColb t a * 8 / elemBits ty
  let v := tewRow ty (bits w 40 4) n (bit w 39) (bit w 38) (s.preg t (bits w 35 3)) (s.oRow t a r) rb
  (s.takeShape t d ty (s.oRows t a) (s.oColb t a)).setRow t d r v
/-- TEW (R307). -/
def execTew (t : Fin 192) (rows : Nat) (s : State) : Host.Outcome State Fault Refusal :=
  s.tileRun t.val 5 (fun pc w =>
    match s.tewShape t.val w with
    | .inr d => s.shapeFault t.val pc d (tewOpnds w)
    | .inl ty =>
      s.tileRows t.val pc rows (s.oRows t.val ((tewOpnds w).getD 1 ⟨false, 0⟩)) (rowCycles 2 1) (cleanRow (State.tewDo t.val w ty)))

/-! ### TRED (R308) -/

/-- The value of an element in a reduction: a pair rounded once. -/
def tredIn (ty : Nat) (ieee : Bool) (b : Nat) : Fv := if ty = 8 then fp32.rne ieee (pairOf b) else elemVal ty b
/-- The first value of a floating-point reduction (log entry 40). -/
def tredFirst (fn : Nat) (ieee : Bool) (x : Fv) : Fv := if fn = 0 then fp32.rne ieee x else x
/-- One step, the running value as the first operand. -/
def tredStep (fn : Nat) (ieee : Bool) (a x : Fv) : Fv :=
  if fn = 0 then fp32.rne ieee (Fv.add a x) else if fn = 1 then fmax ieee a x else fmin ieee a x
def tredStepI (fn : Nat) (a x : Int) : Int :=
  if fn = 0 then sgn 32 (unsgn 32 (a + x)) else if fn = 1 then max a x else min a x
/-- The reduction of a row. -/
def tredLine (ty fn : Nat) (ieee : Bool) (l : List Nat) : Nat :=
  if isIntTy ty then
    match l.map (sgn (elemBits ty)) with
    | [] => 0
    | x :: xs => unsgn 32 (xs.foldl (tredStepI fn) x)
  else
    match l.map (tredIn ty ieee) with
    | [] => 0
    | x :: xs => fp32.code (xs.foldl (tredStep fn ieee) (tredFirst fn ieee x))
/-- One element of the running result of AXIS 1 combined with the next row. -/
def tredJoin (ty fn : Nat) (ieee : Bool) (old b : Nat) : Nat :=
  if isIntTy ty then unsgn 32 (tredStepI fn (sgn 32 old) (sgn (elemBits ty) b))
  else fp32.code (tredStep fn ieee (fp32.decode old) (tredIn ty ieee b))
/-- VD after row r. -/
def tredRow (ty fn n rows r : Nat) (axis ieee : Bool) (row vd : Nat) : Nat :=
  let e := rowElems ty n row
  let old := rowElems 9 16 vd
  packElems 9 ((List.range 16).map (fun i =>
    if axis then
      (if n ≤ i then (if r = 0 then 0 else old.getD i 0)
       else if r = 0 then tredLine ty fn ieee [e.getD i 0] else tredJoin ty fn ieee (old.getD i 0) (e.getD i 0))
    else if i = r then tredLine ty fn ieee e else if r = 0 ∧ rows ≤ i then 0 else old.getD i 0))
/-- TRED (R308). -/
def execTred (t : Fin 192) (rows : Nat) (s : State) : Host.Outcome State Fault Refusal :=
  s.tileRun t.val 6 (fun pc w =>
    let t := t.val
    let a : Opnd := ⟨bit w 57, bits w 53 4⟩
    let ty := s.oType t a
    let n := s.oElems t a
    if ty = 0 then s.shapeFault t pc (if a.acc then 7 else 1) [a]
    else if bit w 48 && decide (16 < n) then s.shapeFault t pc 6 [a]
    else
      s.tileRows t pc rows (s.oRows t a) (rowCycles 2 1) (cleanRow (fun s r =>
        s.setVreg t (bits w 49 4)
          (tredRow ty (bits w 46 2) n (s.oRows t a) r (bit w 48) (bit w 45) (s.oRow t a r) (s.vreg t (bits w 49 4))))))

/-! ### TCVT (R309, R326, R327) -/

/-- One element converted. -/
def tcvtElem (src dst sh : Nat) (sat ieee : Bool) (b : Nat) : Nat :=
  if isIntTy dst then
    (if isIntTy src then fitInt (elemBits dst) sat (sgn (elemBits src) b / 2 ^ sh) else unsgn (elemBits dst) (fvToInt (elemBits dst) (elemVal src b)))
  else (fmtOf dst).encode ieee (elemVal src b)
/-- The bytes that a result row takes. -/
def tcvtColb (dst n : Nat) : Nat := ceilDiv (n * elemBits dst) 8
/-- TCVT (R309). -/
def execTcvt (t : Fin 192) (rows : Nat) (s : State) : Host.Outcome State Fault Refusal :=
  s.tileRun t.val 7 (fun pc w =>
    let t := t.val
    let a : Opnd := ⟨bit w 57, bits w 53 4⟩
    let d : Opnd := ⟨false, bits w 50 3⟩
    let src := s.oType t a
    let dst := s.oType t d
    let n := s.oElems t a
    let os := [d, a]
    if dst = 0 ∨ (src = 0 ∧ !a.acc) then s.shapeFault t pc 1 os
    else if src = 0 then s.shapeFault t pc 7 os
    else if src = 8 ∨ dst = 8 then s.shapeFault t pc 2 os
    else if 64 < tcvtColb dst n then s.shapeFault t pc 6 os
    else
      let m := s.oRows t a
      s.tileRows t pc rows m (rowCycles 2 1) (cleanRow (fun s r =>
        let v := packElems dst ((rowElems src n (s.oRow t a r)).map (tcvtElem src dst (bits w 45 5) (bit w 44) (bit w 43)))
        (s.takeShape t d dst m (tcvtColb dst n)).setRow t d r v)))

/-! ### TPAIR (R310, R330) -/

/-- Table TISA-3: the types of RA, RB and RD. -/
def tpairTypes (fn : Nat) : Nat × Nat × Nat :=
  if fn = 0 then (7, 0, 8) else if fn = 1 then (8, 0, 7) else if fn = 2 then (8, 8, 8) else (8, 7, 8)
/-- One element. -/
def tpairElem (fn : Nat) (ieee : Bool) (a b : Nat) : Nat :=
  if fn = 0 then pairBits ieee (fp32.decode a)
  else if fn = 1 then fp32.encode ieee (pairOf a)
  else if fn = 2 then pairBits ieee (Fv.sum [pairOf a, pairOf b])
  else pairBits ieee (Fv.sum [pairOf a, fp32.decode b])
/-- The operands: RD, RA, and RB for ADD and ADDF. -/
def tpairOpnds (w : Nat) : List Opnd :=
  let c := bit w 55
  [⟨c, bits w 51 4⟩, ⟨c, bits w 47 4⟩] ++ (if bits w 56 2 < 2 then [] else [⟨c, bits w 43 4⟩])
/-- The DETAIL of a TPAIR's SHAPE_FAULT, 0 where it has none. -/
def State.tpairShape (s : State) (t w : Nat) : Nat :=
  let os := tpairOpnds w
  let d := os.getD 0 ⟨false, 0⟩
  let a := os.getD 1 ⟨false, 0⟩
  let ty := tpairTypes (bits w 56 2)
  let srcBad := s.oType t a != ty.1 || (match os[2]? with | some b => s.oType t b != ty.2.1 | none => false)
  if bit w 55 then (if srcBad then 2 else if !s.oEmpty t d && s.oType t d != ty.2.2 then 5 else 0)
  else if os.any (fun o => s.oType t o == 0) then 1
  else if srcBad || s.oType t d != ty.2.2 then 2
  else match os[2]? with
    | some b => if s.oRows t b ≠ s.oRows t a then 4 else if s.oColb t b ≠ s.oColb t a then 3 else 0
    | none => 0
/-- Row r of a TPAIR. -/
def State.tpairDo (t w : Nat) (s : State) (r : Nat) : State :=
  let os := tpairOpnds w
  let d := os.getD 0 ⟨false, 0⟩
  let a := os.getD 1 ⟨false, 0⟩
  let ty := tpairTypes (bits w 56 2)
  let n := s.oColb t a / 4
  let ea := rowElems 9 n (s.oRow t a r)
  let eb := match os[2]? with | some b => rowElems 9 n (s.oRow t b r) | none => []
  let v := packElems 9 ((List.range n).map (fun i => tpairElem (bits w 56 2) (bit w 42) (ea.getD i 0) (eb.getD i 0)))
  (s.takeShape t d ty.2.2 (s.oRows t a) (s.oColb t a)).setRow t d r v
/-- TPAIR (R310). -/
def execTpair (t : Fin 192) (rows : Nat) (s : State) : Host.Outcome State Fault Refusal :=
  s.tileRun t.val 8 (fun pc w =>
    let e := s.tpairShape t.val w
    if e ≠ 0 then s.shapeFault t.val pc e (tpairOpnds w)
    else
      s.tileRows t.val pc rows (s.oRows t.val ((tpairOpnds w).getD 1 ⟨false, 0⟩)) (rowCycles 2 2) (cleanRow (State.tpairDo t.val w)))

/-! ### Scalars, predicates, control (R312, R313) -/

/-- SALU and SALUI's functions on two 32-bit operands. -/
def salu (fn a b : Nat) : Nat :=
  let x := sgn 32 a
  let y := sgn 32 b
  let sh := b % 32
  if fn = 0 then (a + b) % 2 ^ 32
  else if fn = 1 then (a + 2 ^ 32 - b) % 2 ^ 32
  else if fn = 2 then a * b % 2 ^ 32
  else if fn = 3 then a &&& b
  else if fn = 4 then a ||| b
  else if fn = 5 then a ^^^ b
  else if fn = 6 then a * 2 ^ sh % 2 ^ 32
  else if fn = 7 then a / 2 ^ sh
  else if fn = 8 then unsgn 32 (x / 2 ^ sh)
  else if fn = 9 then b2n (decide (x < y))
  else if fn = 10 then b2n (decide (a < b))
  else if fn = 11 then unsgn 32 (min x y)
  else unsgn 32 (max x y)
/-- SALU (R312). -/
def execSalu (t : Fin 192) (s : State) : Host.Outcome State Fault Refusal :=
  s.tileRun t.val 0x10 (fun pc w =>
    (s.setSreg t.val (bits w 53 5) (salu (bits w 39 4) (s.sreg t.val (bits w 48 5)) (s.sreg t.val (bits w 43 5)))).tileGoto t.val (pc + 1) 1)
/-- SALUI (R312). -/
def execSalui (t : Fin 192) (s : State) : Host.Outcome State Fault Refusal :=
  s.tileRun t.val 0x11 (fun pc w =>
    (s.setSreg t.val (bits w 53 5) (salu (bits w 39 4) (s.sreg t.val (bits w 48 5)) (bits w 0 32))).tileGoto t.val (pc + 1) 1)
/-- The address of SLD and SST. -/
def State.scalarAddr (s : State) (t w : Nat) : Nat := (s.sreg t (bits w 48 5) + bits w 0 18) % 2 ^ 32 / 4 * 4
/-- SLD (R312). -/
def execSld (t : Fin 192) (s : State) : Host.Outcome State Fault Refusal :=
  s.tileRun t.val 0x12 (fun pc w =>
    let a := s.scalarAddr t.val w
    if 0x40000 ≤ a then (s.put (Reg.TSTART_ROW t.val) 0).tileFault t.val 3 pc 0
    else
      let r := s.readMem 1 (storeAddr t.val a) 4
      if r.2.2 then (r.1.put (Reg.TSTART_ROW t.val) 0).tileFault t.val 4 pc 0
      else ((r.1.setSreg t.val (bits w 53 5) (leNat r.2.1)).refused t.val 1).tileGoto t.val (pc + 1) 4)
/-- SST (R312): bits 57:53 name the source. -/
def execSst (t : Fin 192) (s : State) : Host.Outcome State Fault Refusal :=
  s.tileRun t.val 0x13 (fun pc w =>
    let a := s.scalarAddr t.val w
    if 0x40000 ≤ a then (s.put (Reg.TSTART_ROW t.val) 0).tileFault t.val 3 pc 0
    else
      let o := a % 8
      ((s.storeWord 1 t.val (a - o) (s.sreg t.val (bits w 53 5) * 2 ^ (8 * o)) (0xF * 2 ^ o)).refused t.val 1).tileGoto t.val (pc + 1) 4)
/-- PSET (R312): GEN sets the first lanes, MOV takes two scalars. -/
def execPset (t : Fin 192) (s : State) : Host.Outcome State Fault Refusal :=
  s.tileRun t.val 0x14 (fun pc w =>
    let a := s.sreg t.val (bits w 48 5)
    let v := if bit w 54 then a + s.sreg t.val (bits w 43 5) * 2 ^ 32 else 2 ^ min a 64 - 1
    (s.setPreg t.val (bits w 55 3) v).tileGoto t.val (pc + 1) 1)
/-- BR's conditions. -/
def brHolds (c a b : Nat) : Bool :=
  let x := sgn 32 a
  let y := sgn 32 b
  if c = 0 then a == b else if c = 1 then a != b else if c = 2 then decide (x < y) else if c = 3 then decide (y ≤ x)
  else if c = 4 then decide (a < b) else decide (b ≤ a)
/-- BR (R313). -/
def execBr (t : Fin 192) (s : State) : Host.Outcome State Fault Refusal :=
  s.tileRun t.val 0x18 (fun pc w =>
    if brHolds (bits w 55 3) (s.sreg t.val (bits w 48 5)) (s.sreg t.val (bits w 43 5)) then s.tileGoto t.val (bits w 0 12) 2
    else s.tileGoto t.val (pc + 1) 1)
/-- JMP (R313). -/
def execTileJmp (t : Fin 192) (s : State) : Host.Outcome State Fault Refusal :=
  s.tileRun t.val 0x19 (fun _ w => s.tileGoto t.val (bits w 0 12) 2)
/-- NOP (R300). -/
def execTileNop (t : Fin 192) (s : State) : Host.Outcome State Fault Refusal :=
  s.tileRun t.val 0 (fun pc _ => s.tileGoto t.val (pc + 1) 1)
/-- STOP halts with CAUSE 1 and PC at the next instruction (R290). -/
def execTileStop (t : Fin 192) (s : State) : Host.Outcome State Fault Refusal :=
  s.tileRun t.val 0x1A (fun pc _ =>
    (((s.put (Reg.TSTART_ROW t.val) 0).put (Reg.TSTAT_PC t.val) ((pc + 1) % 4096)).tileCycles t.val 1).tileHalted t.val 1)

/-! ### Sync objects, handles, streams (R314–R317) -/

/-- The operation that the instruction at PC keeps for reissue (R386). -/
def TileX.keptFor (x : TileX) (pc : Nat) : Option HeldOp := match x.kept with | some h => if h.pc = pc then some h else none | none => none
/-- The tile stalls on an operation. -/
def State.tileStalls (s : State) (t : Nat) (e : Nat × Bool) : State :=
  (s.setTx t { s.tx t with stall := some e }).put (Reg.TSTAT_STALL t) 1
/-- The value operand s[SV + 1] ‖ s[SV]. -/
def State.svValue (s : State) (t w : Nat) : Nat := s.sreg t (bits w 43 5) + s.sreg t (bits w 43 5 + 1) * 2 ^ 32
/-- SWAIT (R314): bits 31:23 of the object's register must be 0. -/
def execTileSwait (t : Fin 192) (s : State) : Host.Outcome State Fault Refusal :=
  s.tileRun t.val 0x20 (fun pc w =>
    let o := s.sreg t.val (bits w 48 5)
    let s0 := s.put (Reg.TSTART_ROW t.val) 0
    if 2 ^ 23 ≤ o then s0.tileFault t.val 6 pc 0xFF
    else
      let r := s0.issueSync (.tile t.val pc) o true 0 (s.svValue t.val w) ((s.tx t.val).keptFor pc)
      r.1.tileStalls t.val (r.2, true))
/-- SSIG (R314, R317): it does not wait for its answer. -/
def execTileSsig (t : Fin 192) (s : State) : Host.Outcome State Fault Refusal :=
  s.tileRun t.val 0x21 (fun pc w =>
    let o := s.sreg t.val (bits w 48 5)
    if 2 ^ 23 ≤ o then (s.put (Reg.TSTART_ROW t.val) 0).tileFault t.val 6 pc 0xFF
    else
      let x := s.tx t.val
      let s0 := (s.setTx t.val { x with kept := none }).tileGoto t.val (pc + 1) 1
      (s0.issueSync (.tile t.val pc) o false (bits w 54 4) (s.svValue t.val w) (x.keptFor pc)).1)
/-- HPOP (R315). -/
def execTileHpop (t : Fin 192) (s : State) : Host.Outcome State Fault Refusal :=
  s.tileRun t.val 0x22 (fun pc w =>
    let r := (s.put (Reg.TSTART_ROW t.val) 0).issueHq (.tile t.val pc (bits w 53 5)) (bits w 0 10) none
    r.1.tileStalls t.val (r.2, false))
/-- HPUSH (R315). -/
def execTileHpush (t : Fin 192) (s : State) : Host.Outcome State Fault Refusal :=
  s.tileRun t.val 0x23 (fun pc w =>
    let r := (s.put (Reg.TSTART_ROW t.val) 0).issueHq (.tile t.val pc 0) (bits w 0 10) (some (s.sreg t.val (bits w 48 5)))
    r.1.tileStalls t.val (r.2, false))
/-- SRUN (R316): START runs an idle steeper and answers 1, a busy one is unaffected and gives 0; STAT gives 0 idle, 1 running or held,
2 halted. -/
def execSrun (t : Fin 192) (s : State) : Host.Outcome State Fault Refusal :=
  s.tileRun t.val 0x24 (fun pc w =>
    let st := bits w 57 1
    let k := s.steepState t.val st
    let sd := bits w 43 5
    let s1 :=
      if bit w 56 then s.setSreg t.val sd (if k = 3 then 1 else k)
      else if k = 0 then (s.startStream t.val st (bits w 0 6) (s.sreg t.val (bits w 48 5))).setSreg t.val sd 1
      else s.setSreg t.val sd 0
    s1.tileGoto t.val (pc + 1) 1)

end Sys2Proof.Machine
end

