-- ==== Sys2Proof/Machine/Tiles.lean ====
section
/-! DEFINITION. Matrix tiles: their window, starting and halting, initialisation, context records, and the tile commands
(chapter 10). -/

namespace Sys2Proof.Machine

/-! ### Starting and halting (R286, R290) -/

/-- The tile's region is frozen, or has no cast (R297). -/
def State.tileShut (s : State) (t : Nat) : Bool :=
  s.frozen (tileRegion t) || !bit (s.get Reg.CAST_REGIONS_LOADED) (tileRegion t)
/-- A halted, unfaulted tile starts, or issues one step. In a frozen region, or in one without a cast, it does not; while the device
quiesces it halts again at once with CAUSE 3, to go on with the others. -/
def State.tileGo (s : State) (t : Nat) (step : Bool) : State :=
  if !s.fabricPowered || s.tileShut t || s.tileRuns t || s.flag (Reg.TSTAT_FAULTED t) then s
  else
    let s1 := if s.flag (Reg.TCTRL_FROM_PC t) && !step then
        (s.put (Reg.TSTAT_PC t) (s.get (Reg.TCTRL_PC t))).put (Reg.TSTART_ROW t) 0
      else s
    let s2 := (s1.setTx t { s1.tx t with step := step, haltReq := none }).put (Reg.TSTAT_RUN t) 1
    if s2.quiescing then
      let s3 := s2.tileHalted t 3
      { s3 with pwr := { s3.pwr with halted := s3.pwr.halted.filter (· != t) ++ [t] } }
    else s2
/-- START or STEP: during a context save or restore it waits, behind those that wait already (R293). -/
def State.tileStart (s : State) (t : Nat) (step : Bool) : State :=
  let x := s.tx t
  if x.ctx.isSome then s.setTx t { x with startWait := x.startWait ++ [step] } else s.tileGo t step
/-- A halt asked for with its CAUSE: at the present row or instruction boundary, or when the answer to the withdrawal of a stalled
request returns (R290). A halt that a command or the cast has asked for stands when the device quiesces or freezes meanwhile. -/
def State.tileHalt (s : State) (t cause : Nat) : State :=
  let x := s.tx t
  if !s.tileRuns t then s
  else match x.stall with
    | none => s.tileHalted t cause
    | some (k, sync) =>
      let s1 := s.setTx t { x with haltReq := some (min cause (x.haltReq.getD 3)) }
      if sync then s1.withdrawSync k else s1.withdrawHq k
/-- CLR_FAULT: TFAULT and FAULTED cleared. -/
def State.tileClear (s : State) (t : Nat) : State :=
  (s.clearRegs (tileWin t + 0x8010) (tileWin t + 0x8020)).put (Reg.TSTAT_FAULTED t) 0
/-- A write of TCTRL: the RW fields, then CLR_FAULT, HALT, START, STEP; a HALT leaves a running tile halting (R286). -/
def State.tctrlWrite (s : State) (t w : Nat) : State :=
  let s1 := (((s.put (Reg.TCTRL_ASID t) (bits w 24 8)).put (Reg.TCTRL_PC t) (bits w 8 12)).put (Reg.TCTRL_CTX t) (bits w 5 1)).put
    (Reg.TCTRL_FROM_PC t) (bits w 4 1)
  let s2 := if bit w 3 then s1.tileClear t else s1
  let s3 := if bit w 1 then s2.tileHalt t 0 else s2
  if bit w 1 && s2.tileRuns t then s3
  else if bit w 0 then s3.tileStart t false else if bit w 2 then s3.tileStart t true else s3
/-- TCTRL_START: a write of TCTRL with START set (R286). -/
def execTctrlStart (t : Fin 192) (w : Word) (s : State) : Host.Outcome State Fault Refusal :=
  .next (if s.fabricPowered && bit w.toNat 0 then s.tctrlWrite t.val w.toNat else s)
/-- TCTRL_STEP: a write of TCTRL with STEP set (R286). -/
def execTctrlStep (t : Fin 192) (w : Word) (s : State) : Host.Outcome State Fault Refusal :=
  .next (if s.fabricPowered && bit w.toNat 2 then s.tctrlWrite t.val w.toNat else s)
/-- TCTRL_HALT: a write of TCTRL with HALT set (R290). -/
def execTctrlHalt (t : Fin 192) (w : Word) (s : State) : Host.Outcome State Fault Refusal :=
  .next (if s.fabricPowered && bit w.toNat 1 then s.tctrlWrite t.val w.toNat else s)
/-- TCTRL_CLR_FAULT: a write of TCTRL with CLR_FAULT set (R286). -/
def execTctrlClrFault (t : Fin 192) (w : Word) (s : State) : Host.Outcome State Fault Refusal :=
  .next (if s.fabricPowered && bit w.toNat 3 then s.tctrlWrite t.val w.toNat else s)

/-! ### The window's memories (R285, R295) -/

/-- A window write while the tile runs: discarded, a held low word with it, and WERR sets. -/
def State.windowRefused (s : State) (req : Requester) (t lo hi : Nat) : State := ((s.takeHeld req lo hi).1).put (Reg.TSTAT_WERR t) 1
/-- An instruction's low word is held until its high word comes; the high word changes the instruction. -/
def State.instrWrite (s : State) (req : Requester) (t k : Nat) (high : Bool) (w : Nat) : State :=
  let a := tileWin t + 8 * k
  if s.tileRuns t then s.windowRefused req t a (a + 4)
  else if high then
    let r := s.takeHeld req a (a + 4)
    match r.2 with
    | [some lo] => (r.1.wput a lo).wput (a + 4) w
    | _ => r.1.wput (a + 4) w
  else s.hold req a w
/-- TILE_INSTR_WRITE (R285). -/
def execTileInstrWrite (req : Requester) (t : Fin 192) (k : Fin 4096) (high : Bool) (w : Word) (s : State) :
    Host.Outcome State Fault Refusal :=
  .next (if s.fabricPowered then s.instrWrite req t.val k.val high w.toNat else s)

/-! ### Initialisation (R176, R287) -/

/-- Whatever a tile waits for is taken back, and it no longer runs. -/
def State.tileKill (s : State) (t : Nat) : State :=
  let x := s.tx t
  let s1 := match x.stall with
    | some (k, true) => (s.withdrawSync k).dropOp k
    | some (k, false) => s.cancelHq k
    | none => s
  (((s1.setTx t { x with stall := none, haltReq := none, kept := none, step := false }).put (Reg.TSTAT_RUN t) 0).put
    (Reg.TSTAT_STALL t) 0).settleHalts
/-- A tile's initial state: registers and accumulators zeroed and empty, the fault cleared, halted at 0. TCTRL, TIRQ_EN, TEVT, CE, WERR
and TCYC stay. -/
def State.tileInit (s : State) (t : Nat) : State :=
  let w := tileWin t
  let s1 := s.tileKill t
  let s2 := { s1 with win := tclear s1.win (w + 0x9000) (w + 0x9540),
                      tu := { s1.tu with rows := tclear s1.tu.rows (t * 256) (t * 256 + 256) } }
  (((s2.clearRegs (w + 0x8040) (w + 0x8064)).tileClear t).put (Reg.TSTAT_PC t) 0).put (Reg.TSTAT_CAUSE t) 0 |>.put (Reg.TSTART_ROW t) 0

/-! ### Context records (R291–R294) -/

/-- The operands of a SAVED mask, in the record's order. -/
def savedOpnds (m : Nat) : List Opnd := maskOpnds m
/-- The SAVED mask of a save: all in FULL, the non-empty ones in LEAN. -/
def State.savedMask (s : State) (t : Nat) (full : Bool) : Nat :=
  if full then 0xFFF
  else ((maskOpnds 0xFFF).filter (fun o => !s.oEmpty t o)).foldl (fun m o => m + 2 ^ o.num) 0
/-- A record's length. -/
def ctxLen (saved : Nat) : Nat := 1280 + 1024 * popcount 12 saved
/-- The 1 KiB of an operand: its 16 rows as they read. -/
def State.opndBytes (s : State) (t : Nat) (o : Opnd) : List Byte := (List.range 16).flatMap (fun r => leBytes 64 (s.oRow t o r))
/-- The first eight bytes of the running cast's digest. -/
def State.cdig8 (s : State) : List Byte := s.cdig.take 8
/-- A context record (Table TILE-7). -/
def State.ctxRecord (s : State) (t : Nat) (full : Bool) : List Byte :=
  let m := s.savedMask t full
  [0x54, 0x58, 0x01, if full then 1 else 0] ++ leBytes 2 m ++ leBytes 2 (s.get (Reg.TSTAT_PC t)) ++ leBytes 1 (s.get (Reg.TSTART_ROW t)) ++
    leBytes 1 (s.get (Reg.TACC_ATYPE t)) ++ zeros 2 ++
    (List.range 8).flatMap (fun k => leBytes 4 (s.word (wordsTile t (0x8040 + 4 * k)))) ++
    leBytes 4 (s.word (wordsTile t 0x8060)) ++ s.cdig8 ++ zeros 8 ++
    (List.range 32).flatMap (fun k => leBytes 4 (s.sreg t k)) ++ (List.range 8).flatMap (fun k => leBytes 8 (s.preg t k)) ++
    (List.range 16).flatMap (fun k => leBytes 64 (s.vreg t k)) ++ (savedOpnds m).flatMap (s.opndBytes t)
/-- A recorded TSHAPE word is out of range. -/
def shapeBad (w : Nat) : Bool :=
  let ty := bits w 24 4
  let r := bits w 16 5
  let c := bits w 0 7
  decide (9 < ty ∨ r = 0 ∨ 16 < r ∨ c = 0 ∨ 64 < c) || bits w 28 3 != 0 || bits w 21 3 != 0 || bits w 7 9 != 0 ||
    (ty != 0 && !wholeElems ty c)
/-- An ATYPE byte with a 3 in it. -/
def atypeBad (a : Nat) : Bool := (List.range 4).any (fun k => bits a (2 * k) 2 == 3)
/-- The recorded shape words. -/
def ctxShape (h : List Byte) (k : Nat) : Nat := leAt h (0xC + 4 * k) 4
/-- The DETAIL of CTX_BAD that a record's header gives, none where it is accepted (R294, Table TISA-5), in the order of R294's list. -/
def State.ctxBad (s : State) (h : List Byte) : Option Nat :=
  let saved := leAt h 4 2
  let tacc := leAt h 0x2C 4
  let lean := (List.range 8).foldl (fun m k => m + (if bit (ctxShape h k) 31 then 0 else 2 ^ k)) 0 +
    (List.range 4).foldl (fun m k => m + (if bit tacc (8 + k) then 0 else 2 ^ (8 + k))) 0
  if leAt h 0 2 ≠ 0x5854 ∨ leAt h 2 1 ≠ 1 then some 1
  else if !(leAt h 3 1 == 0 && saved == lean) && !(leAt h 3 1 == 1 && saved == 0xFFF) then some 2
  else if (List.range 8).any (fun k => shapeBad (ctxShape h k)) || bits tacc 12 20 != 0 || atypeBad tacc || atypeBad (leAt h 9 1) ||
      decide (0xFFF < leAt h 6 2 ∨ 15 < leAt h 8 1) then some 5
  else if slice h 0x30 8 ≠ s.cdig8 then some 3
  else none
/-- A register or accumulator loaded from its 1 KiB of the record, or zeroed and empty; its shape and TYPE, or its ATYPE, are the record's
either way (R294). -/
def State.ctxOpnd (s : State) (t : Nat) (h body : List Byte) (o : Opnd) : State :=
  let saved := leAt h 4 2
  let empty := if o.acc then bit (leAt h 0x2C 4) (8 + o.k) else bit (ctxShape h o.k) 31
  let s1 := if o.acc then s.setAtype t o.k (bits (leAt h 9 1) (2 * o.k) 2)
    else ((s.put (Reg.TSHAPE_TYPE t o.k) (bits (ctxShape h o.k) 24 4)).setShape t o.k (bits (ctxShape h o.k) 16 5) (bits (ctxShape h o.k) 0 7))
  if bit saved o.num && !empty then
    let off := 1024 * popcount o.num saved
    let s2 := (List.range 16).foldl (fun s r =>
      s.putRow t o r (if s.oRows t o ≤ r then 0 else cut (8 * s.oColb t o) (leAt body (off + 64 * r) 64))) s1
    s2.setEmpty t o false
  else (s1.zeroRows t o).setEmpty t o true
/-- A restored record loaded (R294). -/
def State.ctxLoad (s : State) (t : Nat) (h body : List Byte) : State :=
  let s1 := (List.range 32).foldl (fun s k => s.setSreg t k (leAt h (0x40 + 4 * k) 4)) s
  let s2 := (List.range 8).foldl (fun s k => s.setPreg t k (leAt h (0xC0 + 8 * k) 8)) s1
  let s3 := (List.range 16).foldl (fun s k => s.setVreg t k (leAt h (0x100 + 64 * k) 64)) s2
  let s4 := (s3.put (Reg.TSTAT_PC t) (leAt h 6 2)).put (Reg.TSTART_ROW t) (leAt h 8 1)
  (maskOpnds 0xFFF).foldl (fun s o => s.ctxOpnd t h body o) s4
/-- A record's place breaks R293: unaligned, outside memory, or in a DOZE save area. -/
def State.ctxAddrBad (s : State) (a n : Nat) : Bool :=
  a % 64 != 0 || !s.allMem a n || (blocks64 a n).any (fun b => s.inSave b)

/-! ### The commands (Table TILE-8) -/

/-- The TSTAT word. -/
def State.tstat (s : State) (t : Nat) : Nat := s.word (wordsTile t 0x8004)
/-- Why a START does not suit a tile: its STATE DETAIL. -/
def State.startRefused (s : State) (t : Nat) : Option Nat :=
  if s.tileShut t then some 3 else if s.tileRuns t then some 1 else if s.flag (Reg.TSTAT_FAULTED t) then some 2 else none
/-- TILE_START acts: on every tile that it suits. -/
def State.tileStartDo (s : State) (d : List Byte) : State × Ans :=
  let n := leAt d 0 1
  let good := (tilesOf n).filter (fun t => (s.startRefused t).isNone)
  match if n = 0xFF then none else s.startRefused n with
  | some e => (s, Ans.code 0xE e)
  | none =>
    let s1 := good.foldl (fun s t =>
      ((s.put (Reg.TCTRL_FROM_PC t) (leAt d 1 1)).put (Reg.TCTRL_PC t) (leAt d 2 2)).tileGo t false) s
    (s1, Ans.ok (leBytes 4 (s1.tstat (if n = 0xFF then 0 else n)) ++ leBytes 4 ((tilesOf n).length - good.length)))
/-- A tile that TILE names has a context save or restore running. -/
def State.ctxRuns (s : State) (n : Nat) : Bool := (tilesOf n).any (fun t => (s.tx t).ctx.isSome)
/-- TILE_START's effect: it waits while a save or restore of a tile it names runs (R293). -/
def tileStartRun (s : State) (c : Ctx) : State × Ans :=
  if s.ctxRuns (c.at 0 1) then (s, Ans.late) else s.tileStartDo c.data
/-- TILE in range. -/
def tileOk (n : Nat) : Bool := decide (n < 192) || n == 0xFF
def tileStartOp : OpSpec := { plainOp 0x0500 4 tileStartRun with
  range := fun _ c => firstBad [(0, tileOk (c.at 0 1)), (1, c.at 1 1 ≤ 1), (2, c.at 2 2 ≤ 0xFFF)] }
/-- TILE_START (R297). -/
def execTileStart (p : Packet) (s : State) : Host.Outcome State Fault Refusal := serve tileStartOp p s
/-- TILE_HALT's effect: the reply comes when every tile has halted. -/
def tileHaltRun (s : State) (c : Ctx) : State × Ans :=
  let n := c.at 0 1
  if n ≠ 0xFF ∧ s.tileShut n then (s, Ans.code 0xE 3)
  else
    let go := (tilesOf n).filter (fun t => s.tileRuns t)
    let refused := if n = 0xFF then 192 - go.length else 0
    let s1 := go.foldl (fun s t => s.tileHalt t 0) s
    if s1.haltSettled c.p then (s1, s1.haltReply n refused)
    else ({ s1 with tu := { s1.tu with halts := s1.tu.halts ++ [(c.p, refused)] } }, Ans.late)
def tileHaltOp : OpSpec := { plainOp 0x0501 4 tileHaltRun with range := fun _ c => firstBad [(0, tileOk (c.at 0 1))] }
/-- TILE_HALT (R297). -/
def execTileHalt (p : Packet) (s : State) : Host.Outcome State Fault Refusal := serve tileHaltOp p s
/-- TILE_STATUS's effect. -/
def tileStatusRun (s : State) (c : Ctx) : State × Ans :=
  let t := c.at 0 1
  let w (off : Nat) : List Byte := leBytes 4 (s.word (wordsTile t off))
  (s, Ans.ok (w 0x8004 ++ w 0x8008 ++ w 0x8010 ++ w 0x8014 ++ w 0x8018 ++ w 0x801C ++ leBytes 8 (s.get (Reg.TCYC_CYCLES t)) ++ w 0x8060 ++
    (List.range 8).flatMap (fun k => w (0x8040 + 4 * k))))
def tileStatusOp : OpSpec := { plainOp 0x0502 4 tileStatusRun with range := fun _ c => firstBad [(0, c.at 0 1 < 192)] }
/-- TILE_STATUS (R297). -/
def execTileStatus (p : Packet) (s : State) : Host.Outcome State Fault Refusal := serve tileStatusOp p s
/-- Why a context operation does not suit a tile. -/
def State.ctxRefused (s : State) (t : Nat) : Option Nat :=
  if s.tileShut t then some 3 else if s.tileRuns t || (s.tx t).ctx.isSome then some 1 else none
/-- FULL is asked for: by MODE, or by TCTRL.CTX. -/
def State.ctxFull (s : State) (t mode : Nat) : Bool := mode == 2 || (mode == 0 && s.flag (Reg.TCTRL_CTX t))
/-- TILE_CTX_SAVE's effect: the save starts; its reply comes with TILE_CTX_COMPLETE. -/
def tileCtxSaveRun (s : State) (c : Ctx) : State × Ans :=
  let t := c.at 0 1
  match s.ctxRefused t with
  | some e => (s, Ans.code 0xE e)
  | none =>
    let k : CtxRun := { save := true, addr := c.at 4 8, mode := b2n (s.ctxFull t (c.at 1 1)), req := c.p }
    (s.setTx t { s.tx t with ctx := some k }, Ans.late)
def tileCtxSaveOp : OpSpec := { plainOp 0x0503 12 tileCtxSaveRun with
  range := fun s c => firstBad [(0, c.at 0 1 < 192), (1, c.at 1 1 ≤ 2),
    (4, !s.ctxAddrBad (c.at 4 8) (ctxLen (s.savedMask (c.at 0 1) (s.ctxFull (c.at 0 1) (c.at 1 1)))))] }
/-- TILE_CTX_SAVE (R293). -/
def execTileCtxSave (p : Packet) (s : State) : Host.Outcome State Fault Refusal := serve tileCtxSaveOp p s
/-- TILE_CTX_RESTORE's effect: the restore starts. -/
def tileCtxRestoreRun (s : State) (c : Ctx) : State × Ans :=
  let t := c.at 0 1
  match s.ctxRefused t with
  | some e => (s, Ans.code 0xE e)
  | none =>
    let k : CtxRun := { save := false, addr := c.at 4 8, mode := 0, req := c.p }
    (s.setTx t { s.tx t with ctx := some k }, Ans.late)
def tileCtxRestoreOp : OpSpec := { plainOp 0x0504 12 tileCtxRestoreRun with
  range := fun s c => firstBad [(0, c.at 0 1 < 192), (4, !s.ctxAddrBad (c.at 4 8) 1280)] }
/-- TILE_CTX_RESTORE (R294). -/
def execTileCtxRestore (p : Packet) (s : State) : Host.Outcome State Fault Refusal := serve tileCtxRestoreOp p s
/-- The save or restore is over: what waited for it acts in turn on the tile as it then stands (R293). -/
def State.ctxEnd (s : State) (t : Nat) (req : Packet) (a : Ans) : State :=
  let x := s.tx t
  let s1 := (s.setTx t { x with ctx := none, startWait := [] }).completeReq req a
  let s2 := x.startWait.foldl (fun s step => s.tileGo t step) s1
  let waits := s2.cmd.longOps.filter (fun o => o.late && o.req.opcode.toNat == 0x0500)
  waits.foldl (fun s o => if s.ctxRuns (leAt o.req.payload 0 1) then s
    else
      let r := s.tileStartDo o.req.payload
      r.1.completeReq o.req r.2) s2
/-- A refused restore: CTX_BAD on the halted tile, and the reply FAULT that names its entry (R287, R294). -/
def State.ctxRefuse (s : State) (t d : Nat) (req : Packet) : State :=
  let s1 := s.tileFaultMark t 7 (s.get (Reg.TSTAT_PC t)) d []
  let s2 := s1.logNow 0x0501 t (s1.tileFaultData t)
  s2.ctxEnd t req s2.faultAns
/-- A restore: the header is read and checked, then the saved registers (R294). -/
def State.ctxRestore (s : State) (t : Nat) (k : CtxRun) : State :=
  let r := (s.netAccess t k.addr 1280 false).readMem 2 k.addr 1280
  if r.2.2 then r.1.ctxRefuse t 4 k.req
  else match r.1.ctxBad r.2.1 with
    | some d => r.1.ctxRefuse t d k.req
    | none =>
      let saved := leAt r.2.1 4 2
      let n := 1024 * popcount 12 saved
      if r.1.ctxAddrBad k.addr (1280 + n) then r.1.ctxEnd t k.req (Ans.code 7 4)
      else
        let q := (r.1.netAccess t (k.addr + 1280) n false).readMem 2 (k.addr + 1280) n
        if q.2.2 then q.1.ctxRefuse t 4 k.req
        else ((q.1.ctxLoad t r.2.1 q.2.1).tileEvent t 2).ctxEnd t k.req (Ans.ok (leBytes 4 saved))
/-- TILE_CTX_COMPLETE: a save has written its record, or a restore has read it (R293, R294). A transfer that memory holds up is not over. -/
def execTileCtxComplete (t : Fin 192) (s : State) : Host.Outcome State Fault Refusal :=
  match (s.tx t.val).ctx with
  | none => .next s
  | some k =>
    let data := s.ctxRecord t.val (k.mode == 1)
    if !s.coresRun || s.mustWait k.addr (if k.save then data.length else 1280) then .next s
    else if k.save then
      .next ((((s.netAccess t.val k.addr data.length true).writeMem 2 k.addr data).tileEvent t.val 2).ctxEnd t.val k.req (Ans.ok (leBytes 4 data.length)))
    else .next (s.ctxRestore t.val k)
/-- TILE_FAULT_CLEAR's effect: it suits faulted tiles. For TILE 0xFF the reply carries tile 0's word and the count of the others (R297,
log entry 92). -/
def tileFaultClearRun (s : State) (c : Ctx) : State × Ans :=
  let n := c.at 0 1
  let go := (tilesOf n).filter (fun t => s.flag (Reg.TSTAT_FAULTED t))
  let old := s.tileFaultData (if n = 0xFF then 0 else n)
  (go.foldl (fun s t => s.tileClear t) s, Ans.ok (old ++ (if n = 0xFF then leBytes 4 (192 - go.length) else [])))
def tileFaultClearOp : OpSpec := { plainOp 0x0505 4 tileFaultClearRun with range := fun _ c => firstBad [(0, tileOk (c.at 0 1))] }
/-- TILE_FAULT_CLEAR (R297). -/
def execTileFaultClear (p : Packet) (s : State) : Host.Outcome State Fault Refusal := serve tileFaultClearOp p s

end Sys2Proof.Machine
end

