-- ==== Sys2Proof/Machine/CastImage.lean ====
section
/-! DEFINITION. Cast images: frame addresses (R159–R161), header, table and signature (R162–R168), the cast command stream (R169–R172),
segments, and what the resources of a region hold at initialisation (R175, R176). -/

namespace Sys2Proof.Machine

/-! ### The run at hand -/

/-- A run with nothing in it. -/
def CastRun.blank : CastRun :=
  { req := none, recast := false, hold := false, relayOut := false, tilesOnly := false, pass := 0, src := 0, addr := 0, len := 0, image := [],
    buf := [], pos := 0, header := [], table := [], sig := [], seg := 0, cwall := false, ended := 0, part := [], touched := 0, tiles := [],
    engines := [], lastFrames := 0xFFFF, carry := [], clocks := [], ioset := [], pers := Personality.blank, rollback := 0, timeout := 0,
    snap := none, halted := [], startAt := 0, roseAt := 0, holdAt := none, second := false }
/-- The run, and the run replaced. -/
def State.cr (s : State) : CastRun := s.cast.run.getD CastRun.blank
def State.setCr (s : State) (r : CastRun) : State := { s with cast := { s.cast with run := some r } }
/-- Fields of the header (Table CAST-2). -/
def CastRun.flags (r : CastRun) : Nat := leAt r.header 6 2
def CastRun.signed (r : CastRun) : Bool := bit r.flags 0
def CastRun.partImage (r : CastRun) : Bool := bit r.flags 2
def CastRun.segCount (r : CastRun) : Nat := leAt r.header 14 2
def CastRun.imageLen (r : CastRun) : Nat := leAt r.header 16 8
def CastRun.mask (r : CastRun) : Nat := leAt r.header 24 4
def CastRun.keysel (r : CastRun) : Nat := leAt r.header 28 1
def CastRun.castId (r : CastRun) : List Byte := slice r.header 32 32
/-- CDIG of the image (R164). -/
def CastRun.digest (r : CastRun) : List Byte := sha256 (r.header ++ r.table.flatten)

/-! ### Frame addresses (R159–R161) -/

/-- Table CAST-1: the first frame of a column within its region, and its minors. -/
def colBase (c : Nat) : Nat :=
  if c < 24 then 64 * c else if c < 27 then 1536 + 116 * (c - 24) else if c = 27 then 1884 else if c = 28 then 1959 else if c = 29 then 2157 else 2161
def colMinors (c : Nat) : Nat :=
  if c < 24 then 64 else if c < 27 then 116 else if c = 27 then 75 else if c = 28 then 198 else if c = 29 then 4 else 8
/-- The frames of a region. -/
def regionFrames : Nat := 2169
/-- Fields of a FAR; the region as its bit of a region mask. -/
def farRegion (v : Nat) : Nat := bits v 20 5
def farCol (v : Nat) : Nat := bits v 8 5
def farMinor (v : Nat) : Nat := bits v 0 8
/-- The reserved bits are 0. -/
def farClean (v : Nat) : Bool := v >>> 25 == 0 && bits v 13 7 == 0
/-- A valid FAR. -/
def farOk (v : Nat) : Bool := farClean v && farCol v ≤ 30 && decide (farMinor v < colMinors (farCol v))
/-- The place of a frame in FAR order. -/
def farIndex (v : Nat) : Nat := farRegion v * regionFrames + colBase (farCol v) + farMinor v
/-- The next valid FAR: past the last one, an invalid one. -/
def farNext (v : Nat) : Nat :=
  if farMinor v + 1 < colMinors (farCol v) then v + 1
  else if farCol v + 1 ≤ 30 then farRegion v * 2 ^ 20 + (farCol v + 1) * 256
  else (farRegion v + 1) * 2 ^ 20
/-- The part [lo, hi) of a table replaced. -/
def tsplice (t : Tab Nat) (lo hi : Nat) (new : Tab Nat) : Tab Nat :=
  t.filter (fun e => decide (e.1 < lo)) ++ new ++ t.filter (fun e => decide (hi ≤ e.1))
/-- The listed part [lo, hi) of a table, its keys counted from `at_`. -/
def tpart (t : Tab Nat) (lo hi at_ : Nat) : Tab Nat :=
  (t.filter (fun e => decide (lo ≤ e.1 ∧ e.1 < hi))).map (fun e => (e.1 - lo + at_, e.2))
/-- Values as a table from a key on, zeros unlisted. -/
def tlist : Nat → List Nat → Tab Nat
  | _, [] => []
  | k, v :: vs => if v = 0 then tlist (k + 1) vs else (k, v) :: tlist (k + 1) vs
/-- A frame's words written. -/
def State.putFrame (s : State) (idx : Nat) (ws : List Nat) : State :=
  { s with fab := { s.fab with frames := tsplice s.fab.frames (idx * 256) (idx * 256 + 256) (tlist (idx * 256) ws) } }
/-- Every frame of a region zeroed. -/
def State.zeroRegion (s : State) (r : Nat) : State :=
  { s with fab := { s.fab with frames := tclear s.fab.frames (r * regionFrames * 256) ((r + 1) * regionFrames * 256) } }
/-- The words of the frames of a region from a column's minor on: where they start. -/
def frameKey (r c m : Nat) : Nat := (r * regionFrames + colBase c + m) * 256

/-! ### The cast command stream (R169–R172) -/

/-- A frame of the stream committed at CFA (R161, R171, R193, R197, R211): the state after it, and its CAST_ERR code, 0 for none. In a
verify pass nothing is written. -/
def State.castCommit (s : State) (ws : List Nat) : State × Nat :=
  let r := s.cr
  let v := s.get Reg.CFA_FAR
  if r.recast && !r.tilesOnly && !r.cwall then (s, 0xA)
  else if !farOk v || !bit r.mask (farRegion v) || (r.tilesOnly && farCol v != 28) then (s, 0xB)
  else
    let s1 := s.put Reg.CFA_FAR (farNext v)
    if r.pass = 1 then (s1, 0)
    else
      let t := farRegion v * 6 + farMinor v / 33
      let e := farRegion v * 3 + farMinor v / 25
      let r1 := { r with
        touched := r.touched ||| 2 ^ farRegion v
        tiles := if farCol v = 28 then r.tiles.filter (· != t) ++ [t] else r.tiles
        engines := if farCol v = 27 then r.engines.filter (· != e) ++ [e] else r.engines }
      (((s1.setCr r1).putFrame (farIndex v) ws).bumpWrap Reg.CAST_FRAMES_COUNT 1, 0)
/-- CLEAR_REGION (Table CAST-8). -/
def State.castClearRegion (s : State) : State × Nat :=
  let r := s.cr
  let v := s.get Reg.CFA_FAR
  let k := farRegion v
  if r.recast && !r.tilesOnly && !r.cwall then (s, 0xA)
  else if !farClean v || !bit r.mask k || r.tilesOnly then (s, 0xB)
  else if r.pass = 1 then (s, 0)
  else
    let ts := (List.range 6).map (fun i => k * 6 + i)
    let es := (List.range 3).map (fun i => k * 3 + i)
    let r1 := { r with
      touched := r.touched ||| 2 ^ k
      tiles := r.tiles.filter (fun t => t ∉ ts) ++ ts
      engines := r.engines.filter (fun e => e ∉ es) ++ es }
    ((s.setCr r1).zeroRegion k, 0)
/-- One word into the frame being filled. -/
def State.castFill (s : State) (w : Nat) : State × Nat :=
  let r := s.cr
  let p := r.part ++ [w]
  if p.length = 256 then (s.setCr { r with part := [] }).castCommit p else (s.setCr { r with part := p }, 0)
/-- A command of CCMD (Table CAST-8). -/
def State.castCommand (s : State) (v : Nat) : State × Nat :=
  if v = 0 then (s, 0)
  else if v = 1 then s.castClearRegion
  else if v = 2 ∨ v = 3 then (s.setCr { s.cr with ended := v - 1 }, 0)
  else (s, 0xA)
/-- A write of CWALL: 0 in a load; in a recast the mask, once, before the first frame (R197), and never with TILES_ONLY (R211). -/
def State.castWall (s : State) (v : Nat) : State × Nat :=
  let r := s.cr
  if !r.recast then (s, if v = 0 then 0 else 0xA)
  else if r.tilesOnly || r.cwall || r.part != [] || v != r.mask then (s, 0xA)
  else (s.setCr { r with cwall := true }, 0)
/-- A word written to a register by WRITE. -/
def State.castReg (s : State) (reg v : Nat) : State × Nat :=
  let r := s.cr
  if r.ended ≠ 0 then (s, 0xA)
  else if reg = 1 then s.castFill v
  else if reg = 3 then s.castWall v
  else if r.part ≠ [] then (s, 0xA)
  else if reg = 0 then (s.put Reg.CFA_FAR v, 0)
  else s.castCommand v
/-- A word written `n` times to CFD. -/
def State.castRepeat : Nat → Nat → State → State × Nat
  | 0, _, s => (s, 0)
  | n + 1, w, s =>
    let x := s.castFill w
    if x.2 = 0 then State.castRepeat n w x.1 else x
/-- `n` zero frames. -/
def State.castZero : Nat → State → State × Nat
  | 0, s => (s, 0)
  | n + 1, s =>
    let x := s.castCommit (List.replicate 256 0)
    if x.2 = 0 then State.castZero n x.1 else x
/-- The words of a stream (Table CAST-7): `op` 1 while a WRITE to `reg` has `left` words to come, 3 while REPEAT waits for its word. A
segment ends with no instruction and no frame half done (R171). -/
def State.castWords (op reg left : Nat) : List Nat → State → State × Nat
  | [], s => (s, if op = 0 ∧ s.cr.part = [] then 0 else 0xA)
  | w :: ws, s =>
    if op = 1 then
      let x := s.castReg reg w
      if x.2 ≠ 0 then x else State.castWords (if left = 1 then 0 else 1) reg (left - 1) ws x.1
    else if op = 3 then
      let x := State.castRepeat left w s
      if x.2 ≠ 0 then x else State.castWords 0 0 0 ws x.1
    else
      let o := bits w 28 4
      let g := bits w 24 4
      let n := bits w 0 24
      if s.cr.ended ≠ 0 then (s, 0xA)
      else if o = 0 then (if w = 0 then State.castWords 0 0 0 ws s else (s, 0xA))
      else if n = 0 ∨ 3 < g then (s, 0xA)
      else if o = 1 then State.castWords 1 g n ws s
      else if o = 3 ∧ g = 1 then State.castWords 3 1 n ws s
      else if o = 4 ∧ g = 0 ∧ s.cr.part = [] then
        let x := State.castZero n s
        if x.2 ≠ 0 then x else State.castWords 0 0 0 ws x.1
      else (s, 0xA)
/-- A FRAMES segment (R170). -/
def State.castStream (s : State) (data : List Byte) : State × Nat :=
  if s.cr.ended ≠ 0 ∨ data.length % 4 ≠ 0 ∨ data.length = 0 ∨ leAt data 0 4 ≠ 0xC4574D37 then (s, 0xA)
  else State.castWords 0 0 0 ((bytesWords (data.length / 4) data).drop 1) s

/-! ### Header, table, signature (R162–R166, R173) -/

/-- Why a header is refused (R173 step 1, R166), 0 where it is not. A header that Table CAST-2 does not allow is BAD_MAGIC. -/
def State.headerBad (s : State) (r : CastRun) : Nat :=
  let h := r.header
  let fw := Config.fwVersion
  if leAt h 0 4 ≠ 0x54534143 ∨ leAt h 4 2 ≠ 1 then 1
  else if leAt h 8 4 ≠ 0x4D3700B1 then 2
  else if fw.1 < leAt h 12 1 ∨ (fw.1 = leAt h 12 1 ∧ fw.2.1 < leAt h 13 1) then 3
  else if 16 ≤ r.flags ∨ r.segCount = 0 ∨ 1024 < r.segCount ∨ 1 < r.keysel ∨ (!r.partImage && r.mask != 0xFFFFFFFF) ∨
      (r.recast && !r.partImage) ∨ !allZero (slice h 29 3) ∨ !allZero (slice h 64 192) then 1
  else if r.keysel = 1 ∧ s.cast.key = [] then 7
  else 0
/-- Fields of a segment table entry (Table CAST-3). -/
def segType (e : List Byte) : Nat := leAt e 0 1
def segDev (e : List Byte) : Nat := leAt e 1 1
def segFlags (e : List Byte) : Nat := leAt e 2 2
def segOff (e : List Byte) : Nat := leAt e 8 8
def segLen (e : List Byte) : Nat := leAt e 16 8
def segRaw (e : List Byte) : Nat := leAt e 24 8
/-- The entries are well formed, in order, without overlap, inside the image. -/
def tableOk : List (List Byte) → Nat → Nat → Bool
  | [], _, _ => true
  | e :: es, pos, len =>
    (decide (segDev e < 64) || segDev e == 0xFF) && decide (segFlags e < 4) && allZero (slice e 4 4) &&
      decide (pos ≤ segOff e ∧ segOff e + segLen e ≤ len) && tableOk es (segOff e + segLen e) len
/-- Why table and signature are refused (Table CAST-5, R165, R196), 0 where they are not. -/
def State.tableBad (s : State) (r : CastRun) : Nat :=
  if !tableOk r.table (384 + 64 * r.segCount) r.imageLen then 1
  else if r.signed then
    let pub := r.sig.take 64
    if s.cast.signers.contains (sha256 pub) && ecdsaOk pub r.digest (r.sig.drop 64) then
      (if r.recast ∧ r.mask &&& s.get Reg.RCST_READY_MASK ≠ r.mask then 0x12 else 0)
    else 4
  else if s.flag Reg.CAST_POLICY_REQUIRE_SIGNED then 5
  else if r.recast ∧ r.mask &&& s.get Reg.RCST_READY_MASK ≠ r.mask then 0x12
  else 0

/-! ### Segments -/

/-- A set of clocks that one user PLL can make (R231), 0 kHz left out. -/
def pllOk (fs : List Nat) : Bool :=
  let g := fs.filter (· != 0)
  (List.range 73).any (fun k => g.all (fun f => 25000 * (72 + k) % f == 0 && decide (4 ≤ 25000 * (72 + k) / f ∧ 25000 * (72 + k) / f ≤ 255)))
/-- CLOCKS frequencies the M7 can run (R163, R231). -/
def clocksOk (fs : List Nat) : Bool :=
  (fs.take 8).all (fun f => decide (f ≤ 450000)) && decide (fs.getD 8 0 ≤ 500000) && pllOk (fs.take 4) && pllOk ((fs.drop 4).take 4)
/-- The entries of a CARRY segment (Table RCST-3). -/
def carryOf : Nat → List Byte → List CarryEnt
  | 0, _ => []
  | n + 1, b => { cell := leAt b 0 4, kind := leAt b 4 1, digest := leAt b 8 8 } :: carryOf n (b.drop 16)
/-- The region of a CARRY cell. -/
def CarryEnt.region (c : CarryEnt) : Nat := bits c.cell 20 5
/-- A CARRY segment that R204 allows. -/
def carryOk (mask : Nat) (data : List Byte) : Bool :=
  let es := carryOf (data.length / 16) data
  data.length % 16 == 0 && (es.zip (es.drop 1)).all (fun p => decide (p.1.cell < p.2.cell)) &&
    es.all (fun c => c.cell >>> 25 == 0 && bits c.cell 14 6 == 0 && decide (bits c.cell 4 10 < 768) && bit mask c.region && decide (c.kind < 8)) &&
    (List.range (data.length / 16)).all (fun i => allZero (slice data (16 * i + 5) 3)) &&
    (List.range 32).all (fun k => decide ((es.filter (fun c => c.region == k)).length ≤ 4096))
/-- The content of a segment after digest and tag (R163, R197, R204, R211, R235, R236): its code, 0 for none. -/
def State.castSegData (s : State) (i : Nat) (e data : List Byte) : State × Nat :=
  let r := s.cr
  if segType e = 1 then (s.setCr { r with lastFrames := i }).castStream data
  else if segType e = 2 then
    let fs := bytesWords 9 data
    if data.length ≠ 36 ∨ !clocksOk fs ∨ (r.recast ∧ fs ≠ s.fab.clocks) then (s, 0x10)
    else (s.setCr { r with clocks := fs }, 0)
  else if segType e = 3 then
    let want := data.drop 72
    if data.length ≠ 88 then (s, 0x15)
    else if (List.range 16).any (fun b => leAt want b 1 != 0 && leAt want b 1 != s.fab.supply.getD b 4) then (s, 0x16)
    else (s.setCr { r with ioset := data }, 0)
  else if segType e = 4 then
    if r.tilesOnly then (s, 0)
    else if r.recast && !carryOk r.mask data then (s, 0x13)
    else (s.setCr { r with carry := carryOf (data.length / 16) data }, 0)
  else (s, 0)
/-- The segment at hand shown in CSEG (Table CAST-6). -/
def State.showSeg (s : State) (i : Nat) (e : List Byte) : State := s.put Reg.CSEG_SEG (segType e * 2 ^ 24 + segDev e * 2 ^ 16 + i)
/-- A segment of this device processed (R163, R166, R173 step 3). A recast's verify pass leaves the running cast's ENCRYPTED as it is (R212). The tag's additional data is the entry; a tag
made over the entry with DIGEST zero is taken too, since DIGEST covers the tag (DEDUCED, log entry 44). A RAW_LEN that does not fit is reported as the tag or the digest. -/
def State.castSegment (s : State) (i : Nat) (e stored : List Byte) : State × Nat :=
  let r := s.cr
  let s1 := s.showSeg i e
  let enc := bit (segFlags e) 0
  if segType e = 0 ∨ 4 < segType e then (s1, if bit (segFlags e) 1 then 0 else 0xF)
  else if segType e = 1 ∧ !enc ∧ s.flag Reg.CAST_POLICY_REQUIRE_ENCRYPTED then (s1, 6)
  else if sha256 stored ≠ e.drop 32 then (s1, 8)
  else if enc then
    let iv := r.castId.take 8 ++ leBytes 2 i ++ zeros 2
    let opened (aad : List Byte) : Option (List Byte) := gcmOpen s.cast.ckey iv aad stored
    match if r.keysel = 1 then (opened e).orElse (fun _ => opened (e.take 32 ++ zeros 32)) else none with
    | none => (s1, 9)
    | some d => if d.length ≠ segRaw e then (s1, 9) else (if r.pass = 1 then s1 else s1.put Reg.CAST_STATUS_ENCRYPTED 1).castSegData i e d
  else if stored.length ≠ segRaw e then (s1, 8)
  else s1.castSegData i e stored

/-! ### The image as it arrives -/

/-- The relay stream leaves out what devices before this one kept: the segments marked for a lower ID, since the chain runs in ID order (R183,
R508). -/
def State.segCarried (s : State) (r : CastRun) (e : List Byte) : Bool :=
  r.src != 4 || segDev e == 0xFF || decide (s.ensId ≤ segDev e)
/-- A segment of this device. -/
def State.segMine (s : State) (e : List Byte) : Bool := segDev e == 0xFF || segDev e == s.ensId
/-- The 34 words of a relay block on the lane (R453). -/
def relayWords (x : Nat × List Byte × Nat) : List Nat :=
  (0xC4574D37 * 2 ^ 32 + x.1) :: ((List.range 32).map (fun k => leAt x.2.1 (8 * k) 8) ++ [x.2.2])
/-- Whole blocks of 256 bytes sent, `n` at most, each with its CRC-32C (R184). -/
def CastUnit.relayBlocks : Nat → CastUnit → CastUnit
  | 0, c => c
  | n + 1, c =>
    if c.relayPend.length < 256 then c
    else
      let b := c.relayPend.take 256
      CastUnit.relayBlocks n { c with
        relayPend := c.relayPend.drop 256, relayTx := c.relayTx + 1, relayOut := c.relayOut ++ [(c.relayTx, b, crc32c b)] }
/-- Bytes forwarded on H0. -/
def State.relaySend (s : State) (b : List Byte) : State :=
  if s.cr.relayOut then
    { s with cast := { s.cast with relayPend := s.cast.relayPend ++ b }.relayBlocks ((s.cast.relayPend.length + b.length) / 256) }
  else s
/-- The stream forwarded ends: what fills no block goes out followed by zeros (DEDUCED, log entry 65). -/
def State.relayFlush (s : State) : State :=
  if s.cast.relayPend = [] then s else s.relaySend (zeros (256 - s.cast.relayPend.length))
/-- The header taken: CAST_ERR's code, 0 for none. -/
def State.takeHeader (s : State) : State × Nat :=
  let r := s.cr
  let r1 := { r with header := r.buf.take 256, buf := r.buf.drop 256, pos := 256 }
  let code := s.headerBad r1
  let s1 := s.setCr r1
  if r.pass = 3 ∨ code ≠ 0 then (s1, code)
  else
    let s2 := if r1.keysel = 1 then { s1 with cast := { s1.cast with ckey := s1.cast.key } } else s1
    (if r.recast then s2 else s2.put Reg.CKEY_STAT_KEYSEL r1.keysel, 0)
/-- Table and signature block taken; something is forwarded only where a segment is (R183). -/
def State.takeTable (s : State) : State × Nat :=
  let r := s.cr
  let n := 64 * r.segCount
  let r1 := { r with table := (List.range r.segCount).map (fun i => slice r.buf (64 * i) 64), sig := slice r.buf n 128,
                     buf := r.buf.drop (n + 128), pos := r.pos + n + 128 }
  let fwd := r1.relayOut && r1.table.any (fun e => s.segCarried r1 e && (segDev e == 0xFF || segDev e != s.ensId))
  let code := s.tableBad r1
  let s1 := (s.setCr { r1 with relayOut := fwd }).relaySend (r1.header ++ r1.table.flatten ++ r1.sig)
  if r.pass = 3 then (s1, if r1.digest = s.cdig then 0 else 1)
  else if code = 0 && !r.recast then (s1.put Reg.CAST_STATUS_SIGNED (b2n r1.signed), 0) else (s1, code)
/-- The bytes received so far advance the image: header, table, segments in order. The step's CAST_ERR code and segment, 0 for none. -/
def State.castAdvance : Nat → State → State × Nat × Nat
  | 0, s => (s, 0, 0)
  | n + 1, s =>
    let r := s.cr
    if r.header = [] then
      if r.buf.length < 256 then (s, 0, 0)
      else
        let x := s.takeHeader
        if x.2 ≠ 0 then (x.1, x.2, 0xFFFF) else State.castAdvance n x.1
    else if r.table = [] then
      if r.buf.length < 64 * r.segCount + 128 then (s, 0, 0)
      else
        let x := s.takeTable
        if x.2 ≠ 0 then (x.1, x.2, 0xFFFF) else State.castAdvance n x.1
    else match r.table[r.seg]? with
      | none => (s, 0, 0)
      | some e =>
        if !s.segCarried r e then State.castAdvance n (s.setCr { r with seg := r.seg + 1 })
        else
          let skip := if r.src = 4 then 0 else segOff e - r.pos
          if r.buf.length < skip + segLen e then (if s.segMine e && r.pass != 3 then s.showSeg r.seg e else s, 0, 0)
          else
            let data := slice r.buf skip (segLen e)
            let s1 := s.setCr { r with seg := r.seg + 1, buf := r.buf.drop (skip + segLen e), pos := r.pos + skip + segLen e }
            let s2 := if segDev e = 0xFF ∨ segDev e ≠ s.ensId then s1.relaySend data else s1
            if !s.segMine e || r.pass == 3 then State.castAdvance n s2
            else
              let x := s2.castSegment r.seg e data
              if x.2 ≠ 0 then (x.1, x.2, r.seg) else State.castAdvance n x.1
/-- The whole image has been read and every segment processed. -/
def CastRun.complete (r : CastRun) : Bool :=
  r.header != [] && r.table != [] && r.seg == r.segCount && (r.src == 4 || decide (r.imageLen ≤ r.pos + r.buf.length))

/-! ### Initialisation (R175, R176) -/

/-- The CSR window of an engine. -/
def engWin (e : Nat) : Nat := 0x1C00000 + e * 0x8000
/-- An engine's initial state: memories from its frames, waiting at address 0, every register of its window at reset. A handle queue
operation that it waits for is taken back with its stall (R264, R273). -/
def State.engInit (s : State) (e : Nat) : State :=
  let s := match (tget EngX.fresh s.eng e).stall with
    | some (.hq key) => s.cancelHq key
    | _ => s
  let k := frameKey (e / 3) 27 (25 * (e % 3))
  let w := engWin e
  -- words are keyed by byte address, four apart
  let new := (tpart s.fab.frames k (k + 24 * 256) 0).map (fun x => (w + 4 * x.1, x.2))
  let s1 := { s with win := tsplice s.win w (w + 0x6000) new, eng := tput EngX.fresh s.eng e EngX.fresh }
  s1.clearRegs (w + 0x6000) (w + 0x8000)
/-- A tile's instruction memory from its frames. -/
def State.tileImem (s : State) (t : Nat) : State :=
  let k := frameKey (tileRegion t) 28 (33 * (t % 6))
  let w := tileWin t
  let new := (tpart s.fab.frames k (k + 32 * 256) 0).map (fun x => (w + 4 * x.1, x.2))
  { s with win := tsplice s.win w (w + 0x8000) new }
/-- A tile's instruction memory from its frames, and its initial state. -/
def State.tileFromFrames (s : State) (t : Nat) : State := (s.tileInit t).tileImem t
/-- A queue block's RAM contents: the 4,608 bytes of its frames, byte k of the block under key k. -/
def State.qbContents (s : State) (b : Nat) : Tab Nat :=
  let j := b % 72
  let lo := frameKey (b / 72) (24 + j / 24) 8 + 1152 * (j % 24)
  (tpart s.fab.frames lo (lo + 1152) 0).flatMap (fun e =>
    tlist (4 * e.1) [e.2 % 256, e.2 / 256 % 256, e.2 / 65536 % 256, e.2 / 16777216 % 256])
/-- A queue block's initial state. -/
def State.qbInit (s : State) (c : QbCfg) : State :=
  s.setQb c.qb (if c.mode = .ram ∨ c.mode = .ramWide then { QbX.fresh with ram := s.qbContents c.qb } else QbX.fresh)
/-- The regions of a mask. -/
def maskRegions (m : Nat) : List Nat := setBitsOf 32 m
/-- The fabric resources of a mask that two personalities describe: the new one inside the mask, the old one outside. -/
def mergePers (old new : Personality) (m : Nat) : Personality :=
  let inn (r : Nat) : Bool := bit m r
  let gate (k : Nat) : Bool := inn (new.lgateRegion.getD k 0) || inn (old.lgateRegion.getD k 0)
  { plbs := old.plbs.filter (fun b => !inn (b.plb / 768)) ++ new.plbs.filter (fun b => inn (b.plb / 768))
    ios := old.ios.filter (fun c => !inn (c.io / 18)) ++ new.ios.filter (fun c => inn (c.io / 18))
    crossings := old.crossings.filter (fun c => !inn c.region) ++ new.crossings.filter (fun c => inn c.region)
    qbs := old.qbs.filter (fun c => !inn (c.qb / 72)) ++ new.qbs.filter (fun c => inn (c.qb / 72))
    inQb := old.inQb.filter (fun e => !inn (e.1 / 3)) ++ new.inQb.filter (fun e => inn (e.1 / 3))
    outQb := old.outQb.filter (fun e => !inn (e.1 / 3)) ++ new.outQb.filter (fun e => inn (e.1 / 3))
    recastable := (old.recastable ^^^ (old.recastable &&& m)) ||| (new.recastable &&& m)
    matchRegion := old.matchRegion.filter (fun r => !inn r) ++ new.matchRegion.filter inn
    cmdPort := old.cmdPort.filter (fun c => !inn c.1) ++ new.cmdPort.filter (fun c => inn c.1)
    lgate := (List.range 8).foldl (fun x k => x + b2n (bit (if gate k then new.lgate else old.lgate) k) * 2 ^ k) 0
    lgateRegion := (List.range 8).map (fun k => if gate k then new.lgateRegion.getD k 0 else old.lgateRegion.getD k 0) }
/-- The user I/O of a mask as a set of bits. -/
def ioMask (m : Nat) : Nat := (maskRegions m).foldl (fun x r => x ||| ((2 ^ 18 - 1) <<< (18 * r))) 0
end Sys2Proof.Machine

namespace Sys2Proof

open Sys2Proof.Machine

/-- The handle queues that the blocks of a mask hold under a personality. -/
def Personality.hqns (p : Personality) (m : Nat) : List Nat :=
  (p.qbs.filter (fun c => c.mode == .handle && bit m (c.qb / 72))).map (fun c => c.hqn)
/-- A fabric command port with both its blocks, credit FIFOs of 32-bit words (R57). -/
def Personality.portLegal (p : Personality) (c : Nat × Nat × Nat) : Bool :=
  let ok (b : Nat) : Bool := p.qbs.any (fun q => q.qb == b && q.mode == .credit && q.width == 32)
  decide (c.1 < 32) && ok c.2.1 && ok c.2.2 && c.2.1 != c.2.2
/-- An illegal setting (R235, R237, R241, R246, R249): of a PLB, of a user I/O given the relay-capable mask of IOSET, of a crossing, a queue
block or a command port, or one HQN named twice. -/
def Personality.bad (p : Personality) (relay : Nat) : Bool :=
  let hs := (p.qbs.filter (fun c => c.mode == .handle)).map (fun c => c.hqn)
  p.plbs.any (fun b => !b.legal) || p.ios.any (fun c => !c.legal (bit relay c.io)) || p.crossings.any (fun c => !c.legal) ||
    p.qbs.any (fun c => !c.legal) || p.cmdPort.any (fun c => !p.portLegal c) || hs.eraseDups.length != hs.length

end Sys2Proof
end

