-- ==== Sys2Proof/Machine/Vault.lean ====
section
/-! DEFINITION. The vault and the sealed match engine: the NVM store, commits and reclaim, the match buffer, enrolment and erasure, the
sealed ports, matching, wrapped export and import, tamper, and the vault commands (chapter 5). -/

namespace Sys2Proof.Machine

/-! ### The store (R123–R131) -/

/-- The sectors of a descriptor position and a vector block (Table VLT-2). -/
def descSector (d : Nat) : Nat := 4 + d / 32
def blockSector (b : Nat) : Nat := 132 + b / 4
/-- NVM offsets. -/
def descOffset (d : Nat) : Nat := 0x404000 + d * 0x80
def blockOffset (b : Nat) : Nat := 0x484000 + b * 0x400
/-- The lowest number from `i` on, `n` of them, that passes. -/
def lowestFrom (ok : Nat → Bool) : Nat → Nat → Option Nat
  | 0, _ => none
  | n + 1, i => if ok i then some i else lowestFrom ok n (i + 1)
/-- A number put into a rising list without repeats. -/
def natInsert (x : Nat) : List Nat → List Nat
  | [] => [x]
  | y :: ys => if x < y then x :: y :: ys else if x = y then y :: ys else y :: natInsert x ys
/-- The erase counts that occur, lowest first; a sector that is not listed has none. -/
def VaultUnit.levels (v : VaultUnit) : List Nat := v.erases.foldl (fun l e => natInsert e.2 l) [0]
/-- The first place from those of the least erased sectors on (R128: wear levelling; log entry 89). -/
def VaultUnit.freePlace (v : VaultUnit) (sector : Nat → Nat) (free : Nat → Bool) (n : Nat) : Option Nat :=
  v.levels.foldl (fun b e => match b with
    | some k => some k
    | none => lowestFrom (fun k => free k && tget 0 v.erases (sector k) == e) n 0) none
/-- A free descriptor position or vector block outside a sector. -/
def VaultUnit.freeDesc (v : VaultUnit) (excl : Nat) : Option Nat :=
  v.freePlace descSector (fun d => (tfind v.descs d).isNone && !v.retD.contains d && descSector d != excl) 4096
def VaultUnit.freeBlock (v : VaultUnit) (excl : Nat) : Option Nat :=
  v.freePlace blockSector (fun b => (tfind v.blocks b).isNone && !v.retB.contains b && blockSector b != excl) 3568
/-- How many are free. -/
def VaultUnit.descsFree (v : VaultUnit) : Nat := 4096 - v.descs.length - v.retD.length
def VaultUnit.blocksFree (v : VaultUnit) : Nat := 3568 - v.blocks.length - v.retB.length
/-- The vault key (R130). -/
def VaultUnit.key (v : VaultUnit) : List Byte :=
  hmac (leBytes 32 Config.vaultRoot) ([0x4D, 0x37, 0x56, 0x4B] ++ v.seed ++ leBytes 4 v.vgen)
/-- Descriptor bytes 0–13, the additional data of the encryption (Table VLT-3). -/
def VDesc.head (d : VDesc) : List Byte :=
  [0x44, 0x56] ++ leBytes 2 d.slot ++ leBytes 4 d.seq ++ leBytes 2 d.block ++ leBytes 1 d.kind ++ zeros 3
/-- The IV (R131). -/
def VDesc.iv (d : VDesc) : List Byte := leBytes 2 d.slot ++ leBytes 4 d.seq ++ zeros 5 ++ [0x01]
/-- The vector whose ciphertext stands in a descriptor's block, where it was sealed under that descriptor's SLOT and SEQ: otherwise the
tag does not verify. A tombstone encrypts zeros (log entry 42). -/
def VaultUnit.vecOf (v : VaultUnit) (d : VDesc) : Option (List Byte) :=
  if d.kind ≠ 1 then some (zeros 1024)
  else match tfind v.blocks d.block with
    | some b => if b.slot = d.slot ∧ b.seq = d.seq then some b.vec else none
    | none => none
/-- The ciphertext of a template: 1,024 bytes of vector, 64 of metadata, the tag. -/
def VaultUnit.sealed (v : VaultUnit) (d : VDesc) (vec : List Byte) : List Byte := gcmSeal v.key d.iv d.head (vec ++ d.mdata)
/-- The 128 bytes of a descriptor of the present key as NVM holds them (Table VLT-3). -/
def VaultUnit.descBytes (v : VaultUnit) (d : VDesc) : List Byte :=
  let b := d.head ++ List.replicate 30 0xFF ++ (v.sealed d ((v.vecOf d).getD (zeros 1024))).drop 1024
  b ++ leBytes 4 (crc32c b)
/-- A descriptor that counts at boot: its CRC passes, its tag verifies under the present key, its KIND is 1 or 2 (R127). -/
def VaultUnit.valid (v : VaultUnit) (d : VDesc) : Bool :=
  d.good && d.gen == v.vgen && (d.kind == 1 || d.kind == 2) && (v.vecOf d).isSome
/-- VLT_STATUS.LIVE, VLT_FREE, VLT_WEAR, VLT_PORT follow the unit (Table VLT-8). -/
def State.showVault (s : State) : State :=
  let v := s.vault
  let q (i : Nat) : Nat := match v.ports[i]? with | some p => p.queue.length | none => 0
  let s1 := (((s.put Reg.VLT_STATUS_LIVE v.slots.length).put Reg.VLT_FREE_DESC v.descsFree).put Reg.VLT_FREE_BLOCKS v.blocksFree).put
    Reg.VLT_WEAR_MAX_ERASE (v.erases.foldl (fun m e => max m e.2) 0)
  (s1.put Reg.VLT_PORT_Q0 (q 0)).put Reg.VLT_PORT_Q1 (q 1)
/-- A sector erased once more. -/
def VaultUnit.wear (v : VaultUnit) (sec : Nat) : VaultUnit := { v with erases := tput 0 v.erases sec (tget 0 v.erases sec + 1) }
/-- The header (sectors 0 and 1) or the policy record (2 and 3) written: the sector that takes it is erased once more (R122, R123). -/
def State.persistVault (s : State) (r : Rec) : State :=
  let sec := (if r = .vaultHeader then 0 else 2) + (s.recPair r).target
  let s1 := s.persist r
  (s1.setVault (s1.vault.wear sec)).showVault
/-- No further SEQ, or no space that could be retired: held read-only, the entry that FAULT replies name logged (R131, R155). -/
def State.vaultFail (s : State) : State :=
  if s.vault.faulty then s
  else
    let s1 := s.logNow 0x0703 0 (leBytes 4 0)
    let s2 := s1.setVault { s1.vault with faulty := true, faultSeq := s1.logDetail }
    if s2.vaultState = 1 then s2.put Reg.VLT_STATUS_STATE 3 else s2
/-- The FAULT that a command needing a SEQ receives. -/
def State.vaultFaultAns (s : State) : Ans := Ans.code 0xA (s.vault.faultSeq % 65536)
/-- The last SEQ that is assigned. -/
def seqLimit : Nat := 0xFFFFFF00
/-- The next SEQ taken, FAULT entered with the last; none where there is no further one. -/
def State.takeSeq (s : State) : Option (State × Nat) :=
  let n := s.vault.seq + 1
  if seqLimit < n then none
  else
    let s1 := s.setVault { s.vault with seq := n }
    some (if n = seqLimit then s1.vaultFail else s1, n)

/-! ### Reclaim (R128) -/

/-- Live and released entries of a descriptor sector or of a sector of vector blocks. -/
def VaultUnit.sectorCount (v : VaultUnit) (sec : Nat) (live : Bool) : Nat :=
  if sec < 132 then (v.descs.filter (fun e => descSector e.1 == sec && e.2.live == live)).length
  else (v.blocks.filter (fun e => blockSector e.1 == sec && e.2.live == live)).length
/-- The sectors of an area. -/
def areaSectors (blocks : Bool) : List Nat := if blocks then (List.range 892).map (· + 132) else (List.range 128).map (· + 4)
/-- The sector with the fewest live entries among those that hold a released one; of equal ones the least erased, then the lowest. -/
def VaultUnit.victim (v : VaultUnit) (blocks : Bool) : Option Nat :=
  (areaSectors blocks).foldl (fun (b : Option Nat) sec =>
    if v.sectorCount sec false = 0 then b
    else match b with
      | none => some sec
      | some o =>
        let x := v.sectorCount sec true
        let y := v.sectorCount o true
        if x < y ∨ (x = y ∧ tget 0 v.erases sec < tget 0 v.erases o) then some sec else b) none
/-- Entries of a slot released. -/
def VaultUnit.releaseSlot (v : VaultUnit) (slot : Nat) : VaultUnit :=
  { v with descs := v.descs.map (fun e => if e.2.slot = slot then (e.1, { e.2 with live := false }) else e),
           blocks := v.blocks.map (fun e => if e.2.slot = slot then (e.1, { e.2 with live := false }) else e) }
/-- A slot's live descriptor with its vector. -/
def VaultUnit.liveOf (v : VaultUnit) (slot : Nat) : Option (VDesc × List Byte) :=
  match v.descs.find? (fun e => e.2.slot == slot && e.2.live) with
  | some (_, d) => (v.vecOf d).map (fun x => (d, x))
  | none => none
/-- A descriptor programmed at a place, and for a template its vector block, which releases what the slot held before. -/
def VaultUnit.program (v : VaultUnit) (d : VDesc) (vec : List Byte) (nd nb : Nat) : VaultUnit :=
  let w := v.releaseSlot d.slot
  let e : VDesc := { d with block := if d.kind = 1 then nb else 0xFFFF, live := true, good := true, gen := v.vgen }
  { w with descs := tinsert w.descs nd e
           blocks := if d.kind = 1 then tinsert w.blocks nb { slot := d.slot, seq := d.seq, vec := vec, live := true } else w.blocks
           slots := if d.kind = 1 then tinsert w.slots d.slot { mdata := d.mdata, vec := vec, desc := nd, block := nb }
             else terase w.slots d.slot }
/-- A live entry written anew under a new SEQ outside a sector: a template's descriptor and block move together, since both are
re-encrypted. -/
def State.rewrite (s : State) (d : VDesc) (vec : List Byte) (excl : Nat) : Option State :=
  match s.vault.freeDesc excl, (if d.kind = 1 then s.vault.freeBlock excl else some 0), s.takeSeq with
  | some nd, some nb, some (s1, q) => some (s1.setVault (s1.vault.program { d with seq := q } vec nd nb))
  | _, _, _ => none
/-- A slot's live entry moved out of a sector. -/
def State.moveSlot (s : State) (slot excl : Nat) : Option State :=
  match s.vault.liveOf slot with
  | some (d, vec) => s.rewrite d vec excl
  | none => none
/-- The slots that hold a live entry in a sector. -/
def VaultUnit.sectorSlots (v : VaultUnit) (sec : Nat) : List Nat :=
  (if sec < 132 then (v.descs.filter (fun e => descSector e.1 == sec && e.2.live)).map (fun e => e.2.slot)
   else (v.blocks.filter (fun e => blockSector e.1 == sec && e.2.live)).map (fun e => e.2.slot)).eraseDups
/-- Every live entry of a sector moved. -/
def State.moveSlots (s : State) (excl : Nat) : List Nat → Option State
  | [] => some s
  | k :: ks =>
    match s.moveSlot k excl with
    | some s1 => s1.moveSlots excl ks
    | none => none
/-- A sector erased: its entries are gone, and a tombstone with no older descriptor of its slot anywhere is released. -/
def VaultUnit.eraseSector (v : VaultUnit) (sec : Nat) : VaultUnit :=
  let ds := v.descs.filter (fun e => descSector e.1 != sec)
  let bs := v.blocks.filter (fun e => blockSector e.1 != sec)
  let v1 := if sec < 132 then { v with descs := ds } else { v with blocks := bs }
  let older (d : VDesc) : Bool := v1.descs.any (fun e => e.2.slot == d.slot && decide (e.2.seq < d.seq))
  let release (e : Nat × VDesc) : Nat × VDesc := if e.2.kind = 2 ∧ e.2.live ∧ !older e.2 then (e.1, { e.2 with live := false }) else e
  { v1 with descs := v1.descs.map release }.wear sec
/-- Entries written anew wherever there is room. -/
def State.rewriteAll (s : State) : List (VDesc × List Byte) → Option State
  | [] => some s
  | e :: es =>
    match s.rewrite e.1 e.2 1024 with
    | some s1 => s1.rewriteAll es
    | none => none
/-- A sector reclaimed: its live entries move out of it and it is erased; where there is no room outside it, the kettle holds them, erases the
sector and writes them back (log entry 89). None where even that has no room or no further SEQ. -/
def State.reclaim (s : State) (sec : Nat) : Option State :=
  let l := s.vault.sectorSlots sec
  match s.moveSlots sec l with
  | some s1 => some (s1.setVault (s1.vault.eraseSector sec)).showVault
  | none => ((s.setVault (s.vault.eraseSector sec)).rewriteAll (l.filterMap s.vault.liveOf)).map State.showVault
/-- The least erased sector of an area, where the erase counts lie more than 5 % of the highest apart, and more than one erasure: wear
levelling moves what stands in it (R128, log entry 89). -/
def VaultUnit.uneven (v : VaultUnit) (blocks : Bool) : Option Nat :=
  let l := areaSectors blocks
  let mx := v.erases.foldl (fun m e => if (decide (132 ≤ e.1)) == blocks && decide (4 ≤ e.1) then max m e.2 else m) 0
  if mx ≤ 1 then none
  else
    let least := l.foldl (fun b k => if tget 0 v.erases k < tget 0 v.erases b then k else b) (if blocks then 132 else 4)
    let gap := mx - tget 0 v.erases least
    if 1 < gap ∧ mx < 20 * gap then some least else none
/-- A reclaim inside a commit where none is free. -/
def State.forceReclaim (s : State) (blocks : Bool) : State :=
  match if blocks then s.vault.freeBlock 1024 else s.vault.freeDesc 1024 with
  | some _ => s
  | none =>
    match s.vault.victim blocks with
    | some sec => (s.reclaim sec).getD s
    | none => s
/-- VAULT_RECLAIM: the background reclaim of a sector, while fewer than 64 blocks or 256 descriptors are free, of an old sector after a
wipe, or to level the wear (R128, R150). -/
def execVaultReclaim (sector : Nat) (s : State) : Host.Outcome State Fault Refusal :=
  let v := s.vault
  let isB : Bool := decide (132 ≤ sector)
  let low := if isB then decide (v.blocksFree < 64) else decide (v.descsFree < 256)
  let due := (v.eraseAll && (decide (4 ≤ sector ∧ sector < 1024)) && decide (0 < v.sectorCount sector true + v.sectorCount sector false)) ||
    (low && v.victim isB == some sector) || v.uneven isB == some sector
  if s.kettleOn && v.keyed && !v.faulty && due then .next ((s.reclaim sector).getD s.vaultFail) else .next s

/-! ### The match buffer (R132) -/

/-- VAULT_FILL_DONE: the buffer holds every live template, and matching begins (R132, R153). -/
def execVaultFillDone (s : State) : Host.Outcome State Fault Refusal :=
  if s.kettleOn && s.vault.keyed && s.vaultState == 0 then
    .next (((s.setVault { s.vault with filled := true }).put Reg.VLT_STATUS_STATE (if s.vault.faulty then 3 else 1)).showVault)
  else .next s
/-- The volatile part of the vault lost: OFF, or a supply that failed. -/
def State.vaultOff (s : State) : State :=
  s.setVault { s.vault with keyed := false, filled := false, commits := [], capture := none, erasing := [], exps := [],
                            wipeAt := none, ports := [{ bufs := [], queue := [] }, { bufs := [], queue := [] }] }
/-- A wipe completed: sectors 0 and 1 erased, the seed with them (R150). -/
def State.wipe (s : State) : State :=
  let v := { s.vault with seed := [], wipeAt := none }
  (((s.putRec .vaultHeader RecPair.blank).setVault ((v.wear 0).wear 1))).showVault
/-- A wipe intent programmed (R150). -/
def State.wipeIntend (s : State) : State := (s.setVault { s.vault with intent := true }).persist .wipeIntent
/-- A wipe that tamper began goes on as time passes: the intent is programmed within 100 µs of the detection, the sectors are erased within
6 ms (Table VLT-7). -/
def State.wipeStep (s : State) : State :=
  match s.vault.wipeAt with
  | none => s
  | some t =>
    let s1 := if !s.vault.intent && decide (t + 100000 * unitNs ≤ s.time.up) then s.wipeIntend else s
    if t + 6000000 * unitNs ≤ s1.time.up then s1.wipe else s1
/-- A wipe that has begun brought to its end. -/
def State.wipeFinish (s : State) : State :=
  if s.vault.wipeAt.isSome then (if s.vault.intent then s else s.wipeIntend).wipe else s
/-- The descriptor in force of each slot with one: the valid one of the highest SEQ (R127). -/
def VaultUnit.current (v : VaultUnit) : Tab (Nat × VDesc) :=
  (v.descs.filter (fun e => v.valid e.2)).foldl (fun t e =>
    match tfind t e.2.slot with
    | some o => if o.2.seq < e.2.seq then tinsert t e.2.slot e else t
    | none => tinsert t e.2.slot e) []
/-- The slots as the store gives them at boot, and which entries are live: a tombstone only while an older descriptor of its slot remains
(R127, R128). -/
def VaultUnit.rebuild (v : VaultUnit) : VaultUnit :=
  let cur := v.current
  let older (d : VDesc) : Bool := v.descs.any (fun e => e.2.slot == d.slot && decide (e.2.seq < d.seq))
  let inForce (k : Nat) (d : VDesc) : Bool := (tfind cur d.slot).any (fun c => c.1 == k) && (d.kind == 1 || older d)
  let held (k : Nat) : Bool := cur.any (fun c => c.2.2.kind == 1 && c.2.2.block == k)
  { v with descs := v.descs.map (fun e => (e.1, { e.2 with live := inForce e.1 e.2 }))
           blocks := v.blocks.map (fun e => (e.1, { e.2 with live := held e.1 }))
           slots := cur.filterMap (fun c => if c.2.2.kind = 1 then
             some (c.1, { mdata := c.2.2.mdata, vec := (v.vecOf c.2.2).getD [], desc := c.2.1, block := c.2.2.block }) else none) }
/-- The vault at boot: a wipe intent is completed before anything else; a wiped vault stays sealed until TAMPER_CLEAR, of any other the
slots are found (R127) and the buffer is filled. -/
def State.vaultBoot (s : State) : State :=
  let s1 := s.vaultOff
  let s2 := if s1.vault.intent && s1.vault.seed != [] then s1.wipe else s1
  if s2.vault.seed = [] then ((s2.setVault { s2.vault with slots := [] }).put Reg.VLT_STATUS_STATE 2).showVault
  else (s2.setVault s2.vault.rebuild).vaultFill.showVault
/-- Assembly buffers not yet submitted discarded (R156). -/
def State.vaultDropBufs (s : State) : State := s.setVault { s.vault with ports := s.vault.ports.map (fun p => { p with bufs := [] }) }
/-- A submitted query has not finished (R156). -/
def State.vaultBusy (s : State) : Bool := s.vault.ports.any (fun p => p.queue != [])
/-- Entry to SLEEP: the buffer is overwritten and powered down. -/
def State.vaultSleep (s : State) : State :=
  let s1 := s.vaultDropBufs
  let s2 := s1.setVault { s1.vault with filled := false, capture := none }
  if s2.vaultState = 2 then s2 else s2.put Reg.VLT_STATUS_STATE 4

/-! ### The sealed ports (R138–R141) -/

/-- What a write to a port does. -/
inductive PortRes where
  /-- Applied. -/
  | ok (s : State)
  /-- Refused and logged (VAULT_PORT_DENY). -/
  | denied (s : State)
  /-- It waits for network credits. -/
  | wait
/-- A refused access logged; a requester that is no tile is 0xFFFF. -/
def State.portDeny (s : State) (port req : Nat) : State := s.logEvent 0x0701 port (leBytes 2 req)
def State.vport (s : State) (port : Nat) : VPort := (s.vault.ports[port]?).getD { bufs := [], queue := [] }
def State.setVport (s : State) (port : Nat) (p : VPort) : State :=
  (s.setVault { s.vault with ports := s.vault.ports.set port p }).showVault
/-- A 64-byte row at a window offset written by a tile: a vector row, or the descriptor row, which submits. -/
def State.portWrite (s : State) (port tile off : Nat) (data : List Byte) : PortRes :=
  let p := s.vport port
  if tile / 96 ≠ port ∨ off % 64 ≠ 0 ∨ 0x400 < off ∨ data.length ≠ 64 then .denied (s.portDeny port tile)
  else
    let buf := tfind p.bufs tile
    if buf.isNone ∧ 8 ≤ p.bufs.length then .wait
    else if off < 0x400 then
      .ok (s.setVport port { p with bufs := tinsert p.bufs tile (tinsert (buf.getD []) (off / 64) data) })
    else if 4 ≤ p.queue.length then .wait
    else
      let rows := buf.getD []
      let q : Query := { tile := tile, desc := data, order := s.vault.order,
                         vec := if rows.length = 16 then some (rows.flatMap (fun e => e.2)) else none }
      let s1 := s.setVault { s.vault with order := s.vault.order + 1 }
      .ok (s1.setVport port { bufs := terase p.bufs tile, queue := p.queue ++ [q] })
/-- A port row as a command: a write that waits leaves everything as it is. -/
def State.portRow (s : State) (port tile off : Nat) (data : List Byte) : State :=
  if !s.fabricPowered then s
  else match s.portWrite port tile off data with
    | .ok s1 => s1
    | .denied s1 => s1
    | .wait => s
/-- QUERY_ROW_WRITE (R139). -/
def execQueryRowWrite (port : Fin 2) (tile : Fin 192) (row : Fin 16) (data : List Byte) (s : State) :
    Host.Outcome State Fault Refusal := .next (s.portRow port.val tile.val (64 * row.val) data)
/-- QUERY_SUBMIT (R139). -/
def execQuerySubmit (port : Fin 2) (tile : Fin 192) (desc : List Byte) (s : State) : Host.Outcome State Fault Refusal :=
  .next (s.portRow port.val tile.val 0x400 desc)
/-- VAULT_PORT_STALE: an assembly buffer not submitted within 1 ms is freed (R139). -/
def execVaultPortStale (port : Fin 2) (tile : Fin 192) (s : State) : Host.Outcome State Fault Refusal :=
  let p := s.vport port.val
  if (tfind p.bufs tile.val).isSome then
    .next ((s.setVport port.val { p with bufs := terase p.bufs tile.val }).logEvent 0x0702 port.val (leBytes 2 tile.val))
  else .next s

/-! ### Matching (R134, R140–R144) -/

/-- Fields of a descriptor row (Table VLT-5). -/
def Query.tag (q : Query) : Nat := leAt q.desc 0 4
def Query.metric (q : Query) : Nat := leAt q.desc 4 1
def Query.k (q : Query) : Nat := leAt q.desc 5 1
def Query.flags (q : Query) : Nat := leAt q.desc 6 1
def Query.thresh (q : Query) : Fv := fp32.decode (leAt q.desc 8 4)
def Query.groups (q : Query) : Nat := leAt q.desc 12 2
def Query.dest (q : Query) : Nat := leAt q.desc 16 8
def Query.obj (q : Query) : Nat := leAt q.desc 24 4
/-- METRIC, K or a reserved byte is wrong (R139). -/
def Query.bad (q : Query) : Bool :=
  decide (1 < q.metric ∨ q.k = 0 ∨ 8 < q.k) || leAt q.desc 7 1 != 0 || leAt q.desc 14 2 != 0 || !allZero (slice q.desc 28 36)
/-- NORM of a vector as FP32 bits, none where it is refused: an element not finite, or a NORM of zero (R136). -/
def vecNormBits (v : List Byte) : Option Nat :=
  let e := vecElems 512 v
  if !vecFinite e then none
  else
    let n := fp32.code (vecNorm e)
    if n % 2 ^ 31 = 0 then none else some n
/-- A candidate: identity and score. -/
abbrev Cand := Nat × Fv
/-- `a` ranks before `b`: the better score, of equal ones the lower IDENT. -/
def ranks (metric : Nat) (a b : Cand) : Bool :=
  let better := if metric = 0 then b.2.lt a.2 else a.2.lt b.2
  let worse := if metric = 0 then a.2.lt b.2 else b.2.lt a.2
  better || (!worse && decide (a.1 < b.1))
/-- A candidate put into a ranked list. -/
def rankInsert (metric : Nat) (c : Cand) : List Cand → List Cand
  | [] => [c]
  | x :: xs => if ranks metric c x then c :: x :: xs else x :: rankInsert metric c xs
/-- One identity's best slot kept. -/
def keepBest (metric : Nat) (l : List Cand) (c : Cand) : List Cand :=
  match l.find? (fun x => x.1 == c.1) with
  | none => l ++ [c]
  | some x => if ranks metric c x then l.map (fun y => if y.1 = c.1 then c else y) else l
/-- The pairs of a query against the match buffer (R144). -/
def VaultUnit.ranked (v : VaultUnit) (q : Query) (vec : List Byte) : List Cand :=
  let e := vecElems 512 vec
  let live := v.slots.filter (fun t => q.groups == 0 || (q.groups &&& leAt t.2.mdata 4 2) != 0)
  let scored := live.map (fun t => (leAt t.2.mdata 0 4, vecScore q.metric e (vecElems 512 t.2.vec) (fp32.decode (leAt t.2.mdata 8 4))))
  let pass := scored.filter (fun c => !q.thresh.isNan && (if q.metric = 0 then !c.2.lt q.thresh else !q.thresh.lt c.2))
  ((pass.foldl (keepBest q.metric) []).foldl (fun l c => rankInsert q.metric c l) []).take q.k
/-- A result record (Table VLT-6). -/
def resultRecord (tag status : Nat) (cs : List Cand) : List Byte :=
  padTo 80 (leBytes 4 tag ++ leBytes 2 status ++ leBytes 1 cs.length ++ zeros 9 ++
    cs.flatMap (fun c => leBytes 4 c.1 ++ leBytes 4 (fp32.code c.2)))
/-- A record presented at the match result interface of a die; behind a freeze wall it waits at the boundary (R25, R203). -/
def State.presentResult (s : State) (die : Nat) (r80 : List Byte) : State :=
  if s.fab.pers.matchRegion.any (fun r => r / 16 == die && s.frozen r) then { s with fab := { s.fab with results := s.fab.results ++ [(die, r80)] } }
  else if s.fabricPowered then s.emit [.matchResult die r80] else s
/-- A query's result: presented, written to DEST_ADDR, then signalled, and logged where MATCH_EN is 1 (R140, R609). A DEST_ADDR that is
unaligned or no memory is not written, a SYNC_OBJ that names no object is not signalled. -/
def State.giveResult (s : State) (port : Nat) (q : Query) (status : Nat) (cs : List Cand) : State :=
  let r80 := resultRecord q.tag status cs
  let s1 := s.presentResult port r80
  let s2 := if bit q.flags 0 && q.dest % 128 == 0 && s1.allMem q.dest 80 then (s1.draw.netAccess plinthPlace q.dest 80 true).writeMem (s1.drawn 8) q.dest r80 else s1
  let s3 := if bit q.flags 1 && decide (q.obj < 2 ^ 23) then (s2.issueSync (.matcher port) q.obj false 0 1 none).1 else s2
  if s3.flag Reg.LOG_CFG_MATCH_EN then
    s3.logEvent 0x0704 port (leBytes 1 status ++ leBytes 1 cs.length ++ slice r80 16 8)
  else s3
/-- The query that is next in submission order: its port. -/
def VaultUnit.headPort (v : VaultUnit) : Option Nat :=
  let h (i : Nat) : Option Nat := match v.ports[i]? with | some p => p.queue.head?.map (fun q => q.order) | none => none
  match h 0, h 1 with
  | some a, some b => some (if a < b then 0 else 1)
  | some _, none => some 0
  | none, some _ => some 1
  | none, none => none
/-- A query served: its STATUS and pairs; a capture query that suits becomes the template (R134, R136, R157). -/
def State.serveQuery (s : State) (port : Nat) (q : Query) : State :=
  let v := s.vault
  match q.vec with
  | none => s.giveResult port q (if q.bad then 1 else 2) []
  | some vec =>
    if q.bad then s.giveResult port q 1 []
    else match if bit q.flags 2 then (match v.capture with | some c => if c.tag = q.tag then some c else none | none => none) else none with
      | some c =>
        match vecNormBits vec with
        | none => s.giveResult port q 1 []
        | some n =>
          let k : VCommit := { slot := c.slot, kind := 1, replace := some c.replace, head := c.head ++ leBytes 4 n, user := c.user,
                               vec := vec, who := .enrol c.req }
          (s.setVault { v with capture := none, commits := v.commits ++ [k] }).giveResult port q 4 []
      | none =>
        let e := vecElems 512 vec
        if !vecFinite e || (q.metric == 0 && e.all Fv.isZero) then s.giveResult port q 1 []
        else s.giveResult port q 0 (v.ranked q vec)
/-- The head query taken from its port. -/
def State.takeQuery (s : State) (port : Nat) : State :=
  let p := s.vport port
  s.setVport port { p with queue := p.queue.drop 1 }
/-- MATCH: the engine completes the query that is next (R141, R144). It waits while the buffer fills and while a commit runs, which
completes first (R24, R153); in a sealed vault the result is SEALED. -/
def execMatch (s : State) : Host.Outcome State Fault Refusal :=
  match s.vault.headPort with
  | none => .next s
  | some port =>
    match (s.vport port).queue with
    | [] => .next s
    | q :: _ =>
      let st := s.vaultState
      if !s.kettleOn || (bit q.flags 0 && s.mustWait q.dest 80) then .next s
      else if st = 2 ∨ s.bist.isSome ∨ (st = 3 ∧ !s.vault.filled) then .next ((s.takeQuery port).giveResult port q 3 [])
      else if !s.vault.filled || s.vault.commits != [] then .next s
      else .next ((s.takeQuery port).serveQuery port q)

/-! ### Commits (R126) -/

/-- The request a commit answers. -/
def VCommit.req (c : VCommit) : Packet :=
  match c.who with
  | .enrol p => p
  | .erase p => p
  | .imp p _ _ => p
/-- An erasure whose tombstones have all been committed, without SCRUB, completes. -/
def State.eraseSettle (s : State) (p : Packet) : State :=
  match s.vault.erasing.find? (fun e => e.req == p) with
  | none => s
  | some e =>
    if e.left = 0 ∧ !e.scrub then
      (s.setVault { s.vault with erasing := s.vault.erasing.filter (fun x => x.req != p) }).completeReq p (Ans.ok (leBytes 2 e.done ++ zeros 2))
    else s
/-- One tombstone of an erasure is done, or skipped because its slot was emptied meanwhile. -/
def State.eraseOne (s : State) (p : Packet) (n : Nat) : State :=
  (s.setVault { s.vault with erasing := s.vault.erasing.map (fun e =>
    if e.req = p then { e with done := e.done + n, left := e.left - 1 } else e) }).eraseSettle p
/-- A commit ends without effect: its requester is answered. -/
def State.commitEnds (s : State) (c : VCommit) (a : Ans) : State :=
  let s1 := s.setVault { s.vault with commits := s.vault.commits.drop 1 }
  match c.who with
  | .enrol p => s1.completeReq p a
  | .imp p src n => (s1.clearMark src n).completeReq p a
  | .erase p =>
    let v := s1.vault
    let keep := v.commits.filter (fun x => x.who != .erase p)
    (s1.setVault { v with commits := keep, erasing := v.erasing.filter (fun x => x.req != p) }).completeReq p a
/-- The descriptor of a commit (Tables VLT-3, VLT-4). -/
def VCommit.desc (c : VCommit) (seq sec : Nat) : VDesc :=
  { slot := c.slot, seq := seq, kind := c.kind, block := 0xFFFF, gen := 0, good := true, live := true
    mdata := if c.kind = 1 then padTo 32 (c.head ++ leBytes 6 sec) ++ padTo 32 c.user else zeros 64 }
/-- The commit being programmed is cut off (power lost, tamper): what it had programmed by then stays behind, its vector block, or that and a
descriptor whose CRC does not pass; how far it came is a free value (R126, log entry 89). -/
def State.tornCommit (s : State) : State :=
  match s.vault.commits with
  | [] => s
  | c :: _ =>
    let far := s.drawn 2 % 3
    let s0 := s.draw
    match s0.vault.freeDesc 1024, (if c.kind = 1 then s0.vault.freeBlock 1024 else some 0), s0.takeSeq with
    | some d, some b, some (s1, q) =>
      if !s.vault.keyed || far = 0 then s0
      else
        let v := s1.vault
        let bs := if c.kind = 1 then tinsert v.blocks b { slot := c.slot, seq := q, vec := c.vec, live := false } else v.blocks
        let e : VDesc := { c.desc q (todSec s.time.tod) with block := if c.kind = 1 then b else 0xFFFF, gen := v.vgen, good := false, live := false }
        (s1.setVault { v with blocks := bs, descs := if far = 2 then tinsert v.descs d e else v.descs }).showVault
    | _, _, _ => s0
/-- The commit's effect once its descriptor has verified: the slot changes and its previous copy is released. -/
def State.commitApply (s : State) (c : VCommit) (d b : Nat) : State :=
  match s.takeSeq with
  | none => s.vaultFail.commitEnds c s.vaultFail.vaultFaultAns
  | some (s1, q) =>
    let w := s1.vault.program (c.desc q (todSec s1.time.tod)) c.vec d b
    let s2 := ((s1.setVault { w with commits := w.commits.drop 1 }).showVault).logEvent 0x0705 c.slot (leBytes 1 c.kind ++ leBytes 4 q)
    match c.who with
    | .enrol p => s2.completeReq p (Ans.ok (leBytes 4 q))
    | .imp p _ _ => s2.completeReq p (Ans.ok [])
    | .erase p => s2.eraseOne p 1
/-- A page program that failed its verify (R155): the position is retired and logged, and the commit goes on elsewhere. -/
def State.retire (s : State) (block : Bool) (k : Nat) : State :=
  let v := s.vault
  let s1 := if block then s.setVault { v with retB := v.retB ++ [k] } else s.setVault { v with retD := v.retD ++ [k] }
  (s1.showVault).logEvent 0x0703 0 (leBytes 4 (if block then blockOffset k else descOffset k))
/-- VAULT_COMMIT: the commit being programmed meets its verifies: `res` 0 both pass, 1 the vector block fails, 2 the descriptor (R126). -/
def execVaultCommit (res : Fin 3) (s : State) : Host.Outcome State Fault Refusal :=
  match s.vault.commits with
  | [] => .next s
  | c :: _ =>
    let occ := (tfind s.vault.slots c.slot).isSome
    if !s.kettleOn || !s.vault.keyed then .next s
    else if c.kind = 2 ∧ !occ then .next ((s.setVault { s.vault with commits := s.vault.commits.drop 1 }).eraseOne c.req 0)
    else if c.replace = some true ∧ !occ then .next (s.commitEnds c (Ans.code 0xE 2))
    else if c.replace = some false ∧ occ then .next (s.commitEnds c (Ans.code 0xE 1))
    else if s.vault.faulty then .next (s.commitEnds c s.vaultFaultAns)
    else
      let s1 := (if c.kind = 1 then s.forceReclaim true else s).forceReclaim false
      match s1.vault.freeDesc 1024, (if c.kind = 1 then s1.vault.freeBlock 1024 else some 0) with
      | some d, some b =>
        if res.val = 1 ∧ c.kind = 1 then .next (s1.retire true b)
        else if res.val ≠ 0 then .next (s1.retire false d)
        else .next (s1.commitApply c d b)
      | _, _ => .next (s1.vaultFail.commitEnds c s1.vaultFail.vaultFaultAns)

/-! ### Enrolment and erasure (R133–R137) -/

/-- The vault answers commands (R149, R158): ready, or held read-only. -/
def State.vaultOpen (s : State) : Bool := s.vaultState == 1 || s.vaultState == 3
/-- The roles of ENROL_ROLES. -/
def State.enrolRoles (s : State) : List Nat := (List.range 2).filter (fun r => bit (s.get Reg.VLT_POLICY_ENROL_ROLES) r)
/-- VAULT_ENROL's effect. -/
def vaultEnrolRun (s : State) (c : Ctx) : State × Ans :=
  let slot := c.at 0 2
  let rep := bit (c.at 3 1) 0
  let occ := (tfind s.vault.slots slot).isSome
  let head (src : Nat) : List Byte := slice c.data 4 6 ++ leBytes 1 src ++ leBytes 1 s.ensId
  let user := slice c.data 20 32
  let check : Option Ans :=
    if !s.vaultOpen then some (Ans.code 0xE 3)
    else if rep && !occ then some (Ans.code 0xE 2)
    else if !rep && occ then some (Ans.code 0xE 1)
    else if s.vault.faulty then some s.vaultFaultAns
    else none
  if c.at 2 1 = 1 then
    match c.unseal (slice c.data 52 1040) with
    | none => (s, Ans.code 5 4)
    | some vec =>
      match vecNormBits vec with
      | none => (s, Ans.code 7 52)
      | some n =>
        match check with
        | some a => (s, a)
        | none =>
          let k : VCommit := { slot := slot, kind := 1, replace := some rep, head := head 1 ++ leBytes 4 n, user := user, vec := vec,
                               who := .enrol c.p }
          (s.setVault { s.vault with commits := s.vault.commits ++ [k] }, Ans.late)
  else
    match check with
    | some a => (s, a)
    | none =>
      if s.vault.capture.isSome then (s, Ans.code 0xE 4)
      else
        let k : VCapture := { req := c.p, tag := c.at 12 4, slot := slot, replace := rep, head := head 0, user := user }
        pend (s.setVault { s.vault with capture := some k })
def vaultEnrolOp (s : State) : OpSpec := { plainOp 0x0701 0xFFFF vaultEnrolRun with
  roles := s.enrolRoles
  auth := fun _ _ => true
  lenOk := fun b => if leAt b 2 1 = 1 then b.length == 1092 else b.length == 52
  range := fun _ c => firstBad [(0, c.at 0 2 < 3072), (2, c.at 2 1 ≤ 1), (3, c.at 3 1 ≤ 1),
    (16, 1 ≤ c.at 16 2 && c.at 16 2 ≤ 60000)]
  long := fun _ c => c.at 2 1 == 0 }
/-- VAULT_ENROL (R133). -/
def execVaultEnrol (p : Packet) (s : State) : Host.Outcome State Fault Refusal := serve (vaultEnrolOp s) p s
/-- ENROL_CAPTURE_TIMEOUT: an armed capture ends, and nothing changes (R134). -/
def execEnrolCaptureTimeout (s : State) : Host.Outcome State Fault Refusal :=
  match s.vault.capture with
  | none => .next s
  | some c => .next ((s.setVault { s.vault with capture := none }).completeReq c.req (Ans.code 0xC 0))
/-- The slots that VAULT_ERASE names: those of an identity, all occupied ones, or one. -/
def State.eraseSlots (s : State) (c : Ctx) : List Nat :=
  if bit (c.at 2 1) 0 then (s.vault.slots.filter (fun t => leAt t.2.mdata 0 4 == c.at 4 4)).map Prod.fst
  else if c.at 0 2 = 0xFFFF then s.vault.slots.map Prod.fst
  else [c.at 0 2]
/-- The erasure is long: SCRUB, or more than one slot. -/
def eraseLong (s : State) (c : Ctx) : Bool := bit (c.at 2 1) 1 || decide (1 < (s.eraseSlots c).length)
/-- VAULT_ERASE's effect: a tombstone is committed for each slot. -/
def vaultEraseRun (s : State) (c : Ctx) : State × Ans :=
  let l := s.eraseSlots c
  if !s.vaultOpen then (s, Ans.code 0xE 3)
  else if !bit (c.at 2 1) 0 && c.at 0 2 != 0xFFFF && (tfind s.vault.slots (c.at 0 2)).isNone then (s, Ans.code 0xE 2)
  else if s.vault.faulty && l != [] then (s, s.vaultFaultAns)
  else if l = [] then (s, Ans.ok (zeros 4))
  else
    let ks := l.map (fun k => ({ slot := k, kind := 2, replace := none, head := [], user := [], vec := [], who := .erase c.p } : VCommit))
    let e : VErase := { req := c.p, slots := l, done := 0, left := l.length, scrub := bit (c.at 2 1) 1 }
    let s1 := s.setVault { s.vault with commits := s.vault.commits ++ ks, erasing := s.vault.erasing ++ [e] }
    if eraseLong s c then pend s1 else (s1, Ans.late)
def vaultEraseOp (s : State) : OpSpec := { plainOp 0x0702 8 vaultEraseRun with
  roles := s.enrolRoles
  auth := fun _ _ => true
  range := fun _ c => firstBad [(0, bit (c.at 2 1) 0 || c.at 0 2 < 3072 || c.at 0 2 == 0xFFFF), (2, c.at 2 1 ≤ 3)]
  long := eraseLong }
/-- VAULT_ERASE (R137). -/
def execVaultErase (p : Packet) (s : State) : Host.Outcome State Fault Refusal := serve (vaultEraseOp s) p s
/-- The sectors that hold a copy of a template of the slots. -/
def VaultUnit.copySectors (v : VaultUnit) (l : List Nat) : List Nat :=
  ((v.descs.filter (fun e => l.contains e.2.slot && e.2.kind == 1)).map (fun e => descSector e.1) ++
    (v.blocks.filter (fun e => l.contains e.2.slot)).map (fun e => blockSector e.1)).eraseDups
/-- Sectors reclaimed one after another. -/
def State.reclaimAll (s : State) : List Nat → Option State
  | [] => some s
  | k :: ks =>
    match s.reclaim k with
    | some s1 => s1.reclaimAll ks
    | none => none
/-- VAULT_SCRUB_DONE: every sector that held a copy of the erased templates has been reclaimed and erased (R137). -/
def execVaultScrubDone (s : State) : Host.Outcome State Fault Refusal :=
  match s.vault.erasing.find? (fun e => e.scrub && e.left == 0) with
  | none => .next s
  | some e =>
    if !s.kettleOn || !s.vault.keyed then .next s
    else
      let drop (s : State) : State := s.setVault { s.vault with erasing := s.vault.erasing.filter (fun x => x.req != e.req) }
      match if s.vault.faulty then none else s.reclaimAll (s.vault.copySectors e.slots) with
      | some s1 => .next ((drop s1).completeReq e.req (Ans.ok (leBytes 2 e.done ++ zeros 2)))
      | none => .next ((drop s.vaultFail).completeReq e.req s.vaultFail.vaultFaultAns)

/-! ### Tamper (R148–R150) -/

/-- The vault's part of a tamper event: keys gone, the buffer unreadable, queries answered SEALED, commits and imports abandoned, and
with TAMPER_WIPE the wipe of the seed begun (Table VLT-7). -/
def State.vaultTamper (s : State) : State :=
  let v := s.tornCommit.vault
  let qs := ((List.range 2).flatMap (fun i => (s.vport i).queue.map (fun q => (i, q)))).foldl
    (fun (l : List (Nat × Query)) q => (l.filter (fun x => decide (x.2.order < q.2.order))) ++ [q] ++
      l.filter (fun x => decide (q.2.order < x.2.order))) []
  let v1 := { v with keyed := false, filled := false, capture := none, commits := [], erasing := [], exps := [],
                     wipeAt := if s.flag Reg.VLT_POLICY_TAMPER_WIPE && v.seed != [] && v.wipeAt.isNone then some s.time.up else v.wipeAt
                     ports := v.ports.map (fun p => { p with queue := [] }) }
  let s1 := (s.tornCommit.setVault v1).put Reg.VLT_STATUS_STATE 2
  let s2 := qs.foldl (fun s e => s.giveResult e.1 e.2 3 []) s1.showVault
  let reqs := (v.commits.map VCommit.req ++ v.erasing.map (fun e => e.req) ++ v.exps.map (fun e => e.1) ++
    (match v.capture with | some c => [c.req] | none => [])).eraseDups
  reqs.foldl (fun s p => s.completeReq p (Ans.code 0xE 3)) s2
/-- A successful TAMPER_CLEAR: the key is derived again; after a wipe with a new seed, the next VGEN and an empty vault. -/
def State.vaultClear (s : State) : State :=
  if s.vaultState ≠ 2 then s
  else
    let s0 := s.wipeFinish
    if s0.vault.seed ≠ [] then s0.vaultFill
    else
      let v := s0.vault
      let gone (e : Nat × VBlock) : Nat × VBlock := (e.1, { e.2 with live := false })
      let dead (e : Nat × VDesc) : Nat × VDesc := (e.1, { e.2 with live := false })
      let v1 := { v with seed := s0.drawnBytes 32, vgen := (v.vgen + 1) % 2 ^ 32, slots := [], eraseAll := true, intent := false
                         descs := v.descs.map dead, blocks := v.blocks.map gone }
      let s1 := ((s0.draw.setVault v1).put Reg.VLT_STATUS_WIPED 1).persistVault .vaultHeader
      ((s1.persist .wipeIntent).vaultFill).showVault

/-! ### Status, list, policy (Table VLT-9) -/

/-- VAULT_STATUS's effect: CLEAR_WIPED is the manager's. -/
def vaultStatusRun (s : State) (c : Ctx) : State × Ans :=
  let w (off : Nat) : List Byte := leBytes 4 (s.word (wordsVault off))
  let r := w 0 ++ w 4 ++ w 8 ++ w 0x10
  if bit (c.at 0 1) 0 then
    if c.role ≠ 1 then (s, Ans.code 5 1)
    else if s.flag Reg.VLT_STATUS_WIPED then
      ((s.put Reg.VLT_STATUS_WIPED 0).persistVault .vaultHeader, Ans.ok r)
    else (s, Ans.ok r)
  else (s, Ans.ok r)
def vaultStatusOp : OpSpec := { plainOp 0x0700 4 vaultStatusRun with auth := fun _ c => bit (c.at 0 1) 0 && c.role == 1 }
/-- VAULT_STATUS (R158). -/
def execVaultStatus (p : Packet) (s : State) : Host.Outcome State Fault Refusal := serve vaultStatusOp p s
/-- Metadata as VAULT_LIST gives it: NORM zeroed; zeros for an empty slot (R151). -/
def State.listSlot (s : State) (k : Nat) : List Byte :=
  match tfind s.vault.slots k with
  | none => zeros 64
  | some t => t.mdata.take 8 ++ zeros 4 ++ t.mdata.drop 12
/-- VAULT_LIST's effect. -/
def vaultListRun (s : State) (c : Ctx) : State × Ans :=
  if !s.vaultOpen then (s, Ans.code 0xE 3)
  else (s, Ans.ok ((List.range (c.at 2 2)).flatMap (fun k => s.listSlot (c.at 0 2 + k))))
def vaultListOp : OpSpec := { plainOp 0x0703 4 vaultListRun with
  auth := fun _ _ => true
  range := fun _ c => firstBad [(0, c.at 0 2 < 3072), (2, 1 ≤ c.at 2 2 && c.at 2 2 ≤ 60 && c.at 0 2 + c.at 2 2 ≤ 3072)] }
/-- VAULT_LIST (R151). -/
def execVaultList (p : Packet) (s : State) : Host.Outcome State Fault Refusal := serve vaultListOp p s
/-- VAULT_POLICY's effect. -/
def vaultPolicyRun (s : State) (c : Ctx) : State × Ans :=
  if s.vaultState = 2 then (s, Ans.code 0xE 3)
  else
    (((s.put Reg.VLT_POLICY_TAMPER_WIPE (c.at 0 1)).put Reg.VLT_POLICY_ENROL_ROLES (c.at 1 1)).persistVault .vaultPolicy,
      Ans.ok (leBytes 4 (s.word (wordsVault 0x10))))
def vaultPolicyOp : OpSpec := { plainOp 0x0704 4 vaultPolicyRun with
  roles := [1]
  auth := fun _ _ => true
  range := fun _ c => firstBad [(0, c.at 0 1 ≤ 1), (1, c.at 1 1 ≤ 3)] }
/-- VAULT_POLICY (R158). -/
def execVaultPolicy (p : Packet) (s : State) : Host.Outcome State Fault Refusal := serve vaultPolicyOp p s

/-! ### Wrapped export (R146, R147) -/

/-- The wrap key from a source to a destination under a state epoch. -/
def State.wrapKey (s : State) (src dst epoch : Nat) : List Byte :=
  hmac s.cmd.ensKey ([0x4D, 0x37, 0x57, 0x58] ++ leBytes 1 src ++ leBytes 1 dst ++ leBytes 8 epoch)
/-- The wrap IV. -/
def wrapIv (slot seq src dst : Nat) : List Byte := leBytes 2 slot ++ leBytes 4 seq ++ leBytes 1 src ++ leBytes 1 dst ++ zeros 4
/-- A destination of R146: both devices active, with one firmware major version, cast digest and state epoch. -/
def State.exportOk (s : State) (d : Nat) : Bool :=
  let r := tget [] s.ens.recs d
  d != s.ensId && s.ensActive && s.inActive d && leAt r 4 1 == Config.fwVersion.1 % 256 && leAt r 8 8 == s.get Reg.ENS_EPOCH_EPOCH &&
    slice r 32 32 == s.cdig
/-- The payload of one VAULT_IMPORT. -/
def State.importPayload (s : State) (d slot flags opid : Nat) (t : Template) : List Byte :=
  let ep := s.get Reg.ENS_EPOCH_EPOCH
  let q := s.vault.expSeq
  leBytes 4 opid ++ leBytes 1 s.ensId ++ leBytes 1 flags ++ leBytes 2 slot ++ leBytes 8 ep ++ leBytes 4 q ++ zeros 4 ++
    gcmSeal (s.wrapKey s.ensId d ep) (wrapIv slot q s.ensId d) [] (t.vec ++ t.mdata)
/-- The OP_ID of an import: that of the slot's import that ended in LINK_LOST, if one did, which is then sent again (R147, R386). -/
def State.importOp (s : State) (d slot : Nat) : Nat × Bool :=
  match s.vault.expLost.find? (fun e => e.1 == d && e.2.1 == slot) with
  | some e => (e.2.2, false)
  | none => (tget 0 s.sync.opids d, true)
/-- One slot exported: the import is sent as a peer command with AUTH, in a session of this device at the destination that the manual does
not describe (its number and tag are free values, log entry 43). -/
def State.exportSlot (s : State) (d flags : Nat) (e : Nat × Template) : State :=
  let (id, fresh) := s.importOp d e.1
  let q := tget 0 s.link.seqs d
  let body := s.importPayload d e.1 flags id e.2
  let h : Packet := { via := .holwell 0, magic := 0x4D37, ver := 1, flags := 4, opcode := 0x0706, seq := BitVec.ofNat 16 q, role := 2,
                      session := BitVec.ofNat 8 (s.drawn 8), len := BitVec.ofNat 16 body.length, crc := 0, body := body }
  let c := crc32c (h.header 0 ++ body)
  let s1 := { s.draw.draw with link := { s.link with seqs := tput 0 s.link.seqs d ((q + 1) % 65536) },
                               sync := { s.sync with opids := if fresh then tput 0 s.sync.opids d ((id + 1) % 2 ^ 32) else s.sync.opids } }
  (s1.setVault { s1.vault with expSeq := (s1.vault.expSeq + 1) % 2 ^ 32 }).sendCmd d (h.header c ++ body ++ s.draw.drawnBytes 16)
/-- VAULT_EXPORT's effect: one import per occupied slot named. -/
def vaultExportRun (s : State) (c : Ctx) : State × Ans :=
  let d := c.at 0 1
  let l := s.vault.slots.filter (fun t => decide (c.at 2 2 ≤ t.1 ∧ t.1 < c.at 2 2 + c.at 4 2))
  if !s.vaultOpen then (s, Ans.code 0xE 3)
  else if !s.exportOk d then (s, Ans.code 0xE 5)
  else match s.routePort d with
    | none => (s, Ans.code 0xE 5)
    | some p =>
      if !s.isUp p then (s, Ans.code 8 p)
      else
        let s1 := l.foldl (fun s t => s.exportSlot d (c.at 1 1) t) s
        let sent := (l.foldl (fun (x : State × List (Nat × Nat)) t => (x.1.exportSlot d (c.at 1 1) t, x.2 ++ [(t.1, (x.1.importOp d t.1).1)])) (s, [])).2
        pend (s1.setVault { s1.vault with exps := s1.vault.exps ++ [(c.p, d, sent)] })
def vaultExportOp : OpSpec := { plainOp 0x0705 8 vaultExportRun with
  auth := fun _ _ => true
  range := fun _ c => firstBad [(0, c.at 0 1 < 64), (1, c.at 1 1 ≤ 1), (2, c.at 2 2 < 3072), (4, 1 ≤ c.at 4 2 && c.at 2 2 + c.at 4 2 ≤ 3072)]
  long := fun _ _ => true }
/-- VAULT_EXPORT (R146). -/
def execVaultExport (p : Packet) (s : State) : Host.Outcome State Fault Refusal := serve vaultExportOp p s
/-- VAULT_EXPORT_DONE: the imports of the oldest export are answered, in the order they were sent; a slot that ended in LINK_LOST or an
error is counted as refused (R147). An import answered STALE_EPOCH ends the export so. -/
def execVaultExportDone (answers : List (BitVec 16)) (s : State) : Host.Outcome State Fault Refusal :=
  match s.vault.exps with
  | [] => .next s
  | (p, d, sent) :: r =>
    let n := sent.length
    if answers.length ≠ n then .next s
    else
      let lost := (sent.zip answers).filterMap (fun x => if x.2 == 8 then some (d, x.1.1, x.1.2) else none)
      let before := s.vault.expLost.filter (fun e => !(e.1 == d && sent.any (fun x => x.1 == e.2.1)))
      let good := (answers.filter (fun a => a == 0)).length
      let a := if answers.any (fun x => x == 0xD) then Ans.code 0xD (s.get Reg.ENS_EPOCH_EPOCH % 65536)
        else Ans.ok (leBytes 2 good ++ leBytes 2 (n - good))
      .next ((s.setVault { s.vault with exps := r, expLost := before ++ lost }).completeReq p a)
/-- VAULT_IMPORT's effect: under the current state epoch, once per OP_ID; NORM is computed here (R125, R147). -/
def vaultImportRun (s : State) (c : Ctx) : State × Ans :=
  let ep := s.get Reg.ENS_EPOCH_EPOCH
  let src := c.at 4 1
  let slot := c.at 6 2
  if c.at 8 8 ≠ ep then (s, Ans.code 0xD (ep % 65536))
  else if !s.vaultOpen then (s, Ans.code 0xE 3)
  else match s.dupCheck src (c.at 0 4) with
    | .repeated => (s, Ans.ok [])
    | .stale => (s, Ans.code 0xE 0x86)
    | .fresh =>
      match gcmOpen (s.wrapKey src s.ensId ep) (wrapIv slot (c.at 16 4) src s.ensId) [] (slice c.data 24 1104) with
      | none => (s, Ans.code 5 4)
      | some pt =>
        match vecNormBits (pt.take 1024) with
        | none => (s, Ans.code 7 24)
        | some n =>
          let m := pt.drop 1024
          if (tfind s.vault.slots slot).isSome && !bit (c.at 5 1) 0 then (s, Ans.code 0xE 1)
          else if s.vault.faulty then (s, s.vaultFaultAns)
          else
            let k : VCommit := { slot := slot, kind := 1, replace := if bit (c.at 5 1) 0 then none else some false,
                                 head := slice m 0 6 ++ [0x02] ++ slice m 7 1 ++ leBytes 4 n, user := slice m 32 32, vec := pt.take 1024,
                                 who := .imp c.p src (c.at 0 4) }
            ((s.dupMark src (c.at 0 4)).setVault { s.vault with commits := s.vault.commits ++ [k] }, Ans.late)
def vaultImportOp : OpSpec := { plainOp 0x0706 1128 vaultImportRun with
  roles := [2]
  auth := fun _ _ => true
  range := fun _ c => firstBad [(6, c.at 6 2 < 3072)] }
/-- VAULT_IMPORT (R147). -/
def execVaultImport (p : Packet) (s : State) : Host.Outcome State Fault Refusal := serve vaultImportOp p s

end Sys2Proof.Machine
end

