-- ==== Sys2Proof/Machine/Freeze.lean ====
section
/-! DEFINITION. Releasing a fabric, freeze walls, the rollback buffer, priming and release of a recast, and how a load or a recast that
fails ends (R173, R174, R198–R214). -/

namespace Sys2Proof.Machine

/-- Tiles and engines of a mask. -/
def tilesIn (m : Nat) : List Nat := (maskRegions m).flatMap (fun r => (List.range 6).map (fun i => 6 * r + i))
def enginesIn (m : Nat) : List Nat := (maskRegions m).flatMap (fun r => (List.range 3).map (fun i => 3 * r + i))
/-- Both steepers of a list of tiles. -/
def State.eachSteeper (s : State) (l : List Nat) (f : State → Nat → Nat → State) : State := l.foldl (fun s t => f (f s t 0) t 1) s
/-- A stream dropped: what it waits for is taken back, and the steeper is idle (R210). -/
def State.steepKill (s : State) (t st : Nat) : State :=
  let s1 := match (s.sx t st).wait with
    | some (k, true) => (s.withdrawSync k).dropOp k
    | some (k, false) => s.cancelHq k
    | none => s
  if s.steepState t st = 0 then s1 else (s1.steepAbandon t st).xlatOver (2 * t + st)
/-- Microseconds from an instant to now. -/
def State.usSince (s : State) (t : Nat) : Nat := (s.time.up - t) / (1000 * unitNs)

/-! ### Binding handle queues and releasing (R173, R176, R359) -/

/-- The queues bound by blocks of a mask released, before the personality changes. -/
def State.unbindAll (s : State) (m : Nat) : State := (s.fab.pers.hqns m).foldl (fun s q => s.hqUnbind q) s
/-- A personality takes effect in the regions of a mask: queue blocks and flip-flops in their initial states, but for macrocells that
`keep` their value, the gates that the mask's regions drive at their initial levels, and the handle queues its blocks hold. -/
def State.takePers (s : State) (new : Personality) (m : Nat) (keep : Nat → Bool) : State :=
  let keeps (d : Nat) : Bool := !s.fab.pers.cmdRegion.any (fun r => r / 16 == d && bit m r)
  let s1 := s.unbindAll m
  let f := { s1.fab with
    pers := new
    portIn := s1.fab.portIn.filter (fun e => keeps e.1), portOut := s1.fab.portOut.filter (fun e => keeps e.1) }
  let gates := (List.range 8).foldl (fun g k => if bit m (new.lgateRegion.getD k 0) then setBits g k 1 (bits new.lgate k 1) else g) s1.door.lgate
  let s2 := { s1 with fab := f.initLogic m keep, door := { s1.door with lgate := gates, lgateRegion := new.lgateRegion } }
  let s3 := (new.qbs.filter (fun c => bit m (c.qb / 72))).foldl State.qbInit s2
  (new.hqns m).foldl (fun s q => s.hqBind q) s3
/-- RCST_READY and CAST_TIME at release, and every lamp follows its gate again. -/
def State.fabricGo (s : State) : State :=
  ((s.put Reg.RCST_READY_MASK s.fab.pers.recastable).put Reg.CAST_STATUS_STATE 3).lampsRegate
/-- An engine runs. While the device quiesces it is halted at once, to go on with the others where the entry is aborted (R273). -/
def State.engStart (s : State) (e : Nat) : State :=
  if s.quiescing then { s with pwr := { s.pwr with haltedEng := s.pwr.haltedEng.filter (· != e) ++ [e] } } else s.put (Reg.ENG_STAT_RUN e) 1
/-- Engines that were initialised leave address 0 at release (R176). -/
def State.enginesGo (s : State) (l : List Nat) : State := l.foldl State.engStart s
/-- The eight words of a digest or a CAST_ID. -/
def State.putDigest (s : State) (f : Nat → Fld) (b : List Byte) : State := (List.range 8).foldl (fun s k => s.put (f k) (leAt b (4 * k) 4)) s

/-! ### Regions cleared (R174, R177, R214) -/

/-- The resources of a mask gone: frames zeroed, tiles and engines initialised from them, streams dropped, queues unbound, logic gone, I/O in
high impedance, the regions no longer loaded. With `walled` they stay behind their walls: marked recastable, with the interfaces at their
boundary, until a recast brings them back (R214). -/
def State.clearRegions (s : State) (m : Nat) (walled : Bool) : State :=
  let s1 := (maskRegions m).foldl State.zeroRegion s
  let s2 := (s1.eachSteeper (tilesIn m) State.steepKill).unbindAll m
  let s3 := (tilesIn m).foldl State.tileFromFrames s2
  let s4 := (enginesIn m).foldl State.engInit s3
  let old := s4.fab.pers
  let p := mergePers old { Personality.blank with lgate := old.lgate, lgateRegion := old.lgateRegion } m
  let q := if walled then { p with recastable := old.recastable, matchRegion := old.matchRegion, cmdPort := old.cmdPort } else p
  let f := { s4.fab with pers := q, qbs := s4.fab.qbs.filter (fun e => !bit m (e.1 / 72)) }
  let s5 := { s4 with fab := f.initLogic m (fun _ => false) }
  (s5.clrBits Reg.CAST_REGIONS_LOADED m).put Reg.RCST_READY_MASK q.recastable

/-! ### Freeze walls (R202, R209, R210) -/

/-- The walls of a mask rise: what leaves it is held, tiles stop with CAUSE 3, streams are held, AMUTE_N falls. An engine stops by itself at its next
instruction boundary, past an RPT in progress. -/
def State.wallsRise (s : State) (m : Nat) : State :=
  let run := (tilesIn m).filter (fun t => s.tileRuns t)
  let s1 := (s.holdSignals m).setCr { s.cr with halted := run, roseAt := s.time.up }
  let s2 := s1.orBits Reg.CWALL_MASK m
  let s3 := run.foldl (fun s t => s.tileHalt t 3) s2
  (s3.eachSteeper (tilesIn m) (fun s t st => s.steepHalt t st 0)).setUnmute false
/-- Tiles, context saves, streams and RPTs of a mask have come to rest (R209, R210, R296). -/
def State.regionsQuiet (s : State) (m : Nat) : Bool :=
  (tilesIn m).all (fun t => !s.tileRuns t && (s.tx t).ctx.isNone && s.steepState t 0 != 1 && s.steepState t 1 != 1) &&
    (enginesIn m).all (fun e => (tget EngX.fresh s.eng e).rpt == 0)
/-- Replies and match results that waited at the boundary of a region of a mask go to their port or interface where the cast still has it in
that region, and are discarded and logged otherwise (R25, R203). The manual does not give the code of the kind: a free value. -/
def State.passHeld (s : State) (old : Personality) (m : Nat) : State :=
  let where_ (l : List Nat) (d : Nat) : Option Nat := l.find? (fun r => r / 16 == d)
  let due (l : List Nat) (d : Nat) : Bool := (where_ l d).all (fun r => bit m r)
  let drop (s : State) (l : List Nat) (d : Nat) : State := s.draw.logEvent 0x0304 ((where_ l d).getD (16 * d)) (leBytes 1 (s.drawn 8))
  let kept (was now : List Nat) (d : Nat) : Bool := (where_ now d).isSome && where_ now d == where_ was d
  let die (p : Packet) : Nat := match p.via with | .fabric d => d.val | _ => 0
  let now := s.cmd.fabHeld.filter (fun p => due old.cmdRegion (die p))
  let res := s.fab.results.filter (fun e => due old.matchRegion e.1)
  let s1 := { s with cmd := { s.cmd with fabHeld := s.cmd.fabHeld.filter (fun p => !due old.cmdRegion (die p)) }
                     fab := { s.fab with results := s.fab.results.filter (fun e => !due old.matchRegion e.1) } }
  let s2 := now.foldl (fun s p => if kept old.cmdRegion s.fab.pers.cmdRegion (die p) then s.deliver p else drop s old.cmdRegion (die p)) s1
  res.foldl (fun s e => if kept old.matchRegion s.fab.pers.matchRegion e.1 then s.presentResult e.1 e.2 else drop s old.matchRegion e.1) s2
/-- What a freeze withheld of the fabric's signals goes on: held signals, and the credits of credit FIFOs (Table RCST-2, R245). -/
def State.signalsGo (s : State) (m : Nat) : State :=
  let inn (x : Net) : Bool := x.region.any (fun r => bit m r)
  let f := s.fab
  let qbs := (f.pers.qbs.filter (fun c => c.mode == .credit && bit m (c.qb / 72))).foldl (fun t c =>
    tput QbX.fresh t c.qb { tget QbX.fresh t c.qb with wlag := 0 }) f.qbs
  { s with fab := { f with held := f.held.filter (fun x => !inn x), qbs := qbs } }
/-- The walls of a mask fall: tiles that the freeze halted go on unless they were initialised, and held streams with them; while the device
quiesces they stay as they are until an abort (R77). -/
def State.wallsFall (s : State) (m : Nat) : State :=
  let r := s.cr
  let s1 := (s.clrBits Reg.CWALL_MASK m).signalsGo m
  let go := r.halted.filter (fun t => t ∉ r.tiles && s1.get (Reg.TSTAT_CAUSE t) == 3 && !s1.tileRuns t && !s1.flag (Reg.TSTAT_FAULTED t))
  let s2 := if s1.quiescing then { s1 with pwr := { s1.pwr with halted := s1.pwr.halted ++ go } } else s1.releaseTiles go
  s2.eachSteeper (tilesIn m) (fun s t st => s.steepRelease t st)

/-! ### The rollback buffer (R213) -/

/-- Bytes of a rollback record. -/
def rollbackLen (m : Nat) : Nat := 2359296 * popcount 32 m
/-- The capture: the live state kept, and the buffer holding its ciphertext. -/
def State.recastCapture (s : State) : State :=
  let r := s.cr
  let n := rollbackLen r.mask
  let snap : Snap := { regs := s.regs, win := s.win, tu := s.tu, fab := s.fab, eng := s.eng }
  let s1 := (s.setCr { r with snap := some snap }).forget r.rollback (r.rollback + n)
  let s2 := { s1 with cast := { s1.cast with cipher := s1.cast.cipher ++ [(r.rollback, n, s1.draws)] }, pwr := { s1.pwr with saveKey := true } }
  s2.draw
/-- The buffer still holds what was captured: none where a read of it is uncorrectable, false where its digest fails. -/
def State.bufferGood (s : State) : Option Bool :=
  let r := s.cr
  let n := rollbackLen r.mask
  let inn (a : Nat) : Bool := decide (r.rollback ≤ a ∧ a < r.rollback + n)
  if s.ecc.any (fun e => inn e.1 && decide (2 ≤ e.2)) then none
  else some (s.cast.cipher.any (fun c => c.1 == r.rollback && c.2.1 == n) && s.mem.all (fun e => !inn e.1 || e.2 == s.unwritten e.1) &&
    s.pwr.saveKey)
/-- The captured state back in the regions: frames, flip-flops, queue blocks, and where the tiles and engines have been initialised their state and streams. -/
def State.restoreSnap (s : State) (k : Snap) : State :=
  let r := s.cr
  let s := s.put Reg.CAST_STATUS_ENCRYPTED (({ s with regs := k.regs } : State).get Reg.CAST_STATUS_ENCRYPTED)
  let part {α : Type} (now old : Tab α) (lo hi : Nat) : Tab α :=
    now.filter (fun e => decide (e.1 < lo)) ++ old.filter (fun e => decide (lo ≤ e.1 ∧ e.1 < hi)) ++ now.filter (fun e => decide (hi ≤ e.1))
  let s1 := (maskRegions r.mask).foldl (fun s g =>
    let io := ioMask (2 ^ g)
    let mix (now old : Nat) : Nat := (now ^^^ (now &&& io)) ||| (old &&& io)
    { s with fab := { s.fab with
      frames := part s.fab.frames k.fab.frames (g * regionFrames * 256) ((g + 1) * regionFrames * 256)
      q := part s.fab.q k.fab.q (g * 2 ^ 20) ((g + 1) * 2 ^ 20)
      ioIn := mix s.fab.ioIn k.fab.ioIn, ioOut := mix s.fab.ioOut k.fab.ioOut, ioOe := mix s.fab.ioOe k.fab.ioOe
      crossA := part s.fab.crossA k.fab.crossA g (g + 1), crossB := part s.fab.crossB k.fab.crossB ((g + 16) % 32) ((g + 16) % 32 + 1)
      qbs := part s.fab.qbs k.fab.qbs (72 * g) (72 * g + 72) } }) s
  let s2 := r.tiles.foldl (fun s t =>
    let w := tileWin t
    let u := { s.tu with tiles := part s.tu.tiles k.tu.tiles t (t + 1), steepers := part s.tu.steepers k.tu.steepers (2 * t) (2 * t + 2),
                         rows := part s.tu.rows k.tu.rows (256 * t) (256 * t + 256) }
    { s with regs := part s.regs k.regs (w * 32) ((w + 0x10000) * 32), win := part s.win k.win w (w + 0x10000), tu := u }) s1
  r.engines.foldl (fun s e =>
    let w := engWin e
    { s with regs := part s.regs k.regs (w * 32) ((w + 0x8000) * 32), win := part s.win k.win w (w + 0x8000),
             eng := part s.eng k.eng e (e + 1) }) s2

/-! ### Initialisation, priming and release of a recast (R198, R205, R207) -/

/-- Tiles and engines whose frames were written take their initial state. -/
def State.recastInit (s : State) : State :=
  let r := s.cr
  let s1 := s.eachSteeper r.tiles State.steepKill
  let s2 := r.tiles.foldl State.tileFromFrames s1
  r.engines.foldl State.engInit s2
/-- Flip-flops carried: CARRY in both maps, the same cell and digest (R205). -/
def carriedCells (old new : List CarryEnt) (m : Nat) : List Nat :=
  (new.filter (fun c => bit m c.region && bit c.kind 0 && old.any (fun o => o.cell == c.cell && o.digest == c.digest && bit o.kind 0))).map
    (fun c => c.cell)
/-- Flip-flops primed: SYNC or HIST without CARRY (R207). -/
def primedCells (new : List CarryEnt) (m : Nat) : List Nat :=
  (new.filter (fun c => bit m c.region && !bit c.kind 0 && (bit c.kind 1 || bit c.kind 2))).map (fun c => c.cell)
/-- The relay-capable mask with a recast's IOSET in its regions (R197). -/
def State.relayMask (s : State) (r : CastRun) : Nat :=
  let io := ioMask r.mask
  if r.ioset = [] then s.fab.relay else (s.fab.relay ^^^ (s.fab.relay &&& io)) ||| (leAt r.ioset 0 72 &&& io)
/-- The four words of RECAST_LOAD's reply. -/
def State.recastReply (s : State) : List Byte := wordBytes [s.word (wordsCast 0), s.word (wordsCast 4), s.word (wordsCast 0x88), s.word (wordsCast 0x8C)]
/-- The run ends with an answer to its request. -/
def State.endRun (s : State) (a : State → Ans) : State :=
  let r := s.cr
  let s1 := { s with cast := { s.cast with run := none, relayPort := none } }
  match r.req with
  | some p => s1.completeReq p (a s1)
  | none => s1
/-- The freeze's length, a hold left out (Table RCST-5). -/
def State.freezeUs (s : State) : Nat :=
  let r := s.cr
  match r.holdAt with
  | some t => (t - r.roseAt) / (1000 * unitNs)
  | none => s.usSince r.roseAt
/-- The release of a recast: carried flip-flops keep their values, all others of the regions take their initial ones, priming runs while the
inbound side alone is open, and the walls fall (R205, R207). -/
def State.recastGo (s : State) : State :=
  let r := s.cr
  let m := r.mask
  let old := s.fab.pers
  let carried := if r.tilesOnly then [] else carriedCells s.fab.carry r.carry m
  let primed := if r.tilesOnly then [] else primedCells r.carry m
  let s1 := if r.tilesOnly then s else (s.takePers (mergePers old r.pers m) m carried.contains).prime primed
  let carry := if r.tilesOnly then s1.fab.carry else s1.fab.carry.filter (fun c => !bit m c.region) ++ r.carry
  let s2 := { s1 with fab := { s1.fab with relay := s.relayMask r, carry := carry } }
  let s3 := (s2.put Reg.RCST_CARRY_CARRIED (satU 16 carried.length)).put Reg.RCST_CARRY_PRIMED (satU 16 primed.length)
  let s4 := if r.tilesOnly then s3 else ((s3.put Reg.RCST_FREEZE_US s3.freezeUs).wallsFall m).enginesGo r.engines
  let s5 := (s4.putDigest Reg.CDIG_DIG (sha256 (s.cdig ++ r.digest))).putDigest Reg.CAST_ID_ID r.castId
  let s6 := ((s5.orBits Reg.CAST_REGIONS_LOADED (if r.tilesOnly then 0 else m)).fabricGo.put Reg.RCST_STATUS_PHASE 0).passHeld old m
  s6.endRun (fun s => Ans.ok s.recastReply)

/-! ### Failures -/

/-- CAST_ERR set. -/
def State.castErr (s : State) (code seg : Nat) : State := (s.put Reg.CAST_ERR_CODE code).put Reg.CAST_ERR_SEG seg
def State.castErrBytes (s : State) : List Byte := leBytes 4 (s.word (wordsCast 4))
/-- CAST_LOAD's results. -/
def State.castReply (s : State) : List Byte := leBytes 4 (s.word (wordsCast 0)) ++ s.castErrBytes
/-- The completion of a load that failed: the status of its cause with the command's results, CAST_ERR among them (log entry 77). -/
def State.failAns (s : State) (a : Option Ans) (results : List Byte) : Ans := { a.getD s.faultAns with results := results }
/-- A load fails (R174): touched regions zeroed, FAILED, CAST_FAIL logged, and the fabric stays unreleased. -/
def State.loadFails (s : State) (code seg : Nat) (a : Option Ans) : State :=
  let s0 := (((s.clearRegions s.cr.touched false).put Reg.CAST_STATUS_SIGNED 0).put Reg.CAST_STATUS_ENCRYPTED 0).put Reg.CKEY_STAT_KEYSEL 0
  let s1 := (s0.castErr code seg).put Reg.CAST_STATUS_STATE 5
  let s2 := s1.logNow 0x0301 0 s1.castErrBytes
  s2.endRun (fun s => s.failAns a s.castReply)
/-- A recast ends in its verify pass: the running cast is untouched (R212). -/
def State.verifyFails (s : State) (code seg : Nat) (a : Option Ans) : State :=
  let s1 := ((s.castErr code seg).put Reg.CAST_STATUS_STATE 3).put Reg.RCST_STATUS_PHASE 0
  let s2 := s1.logNow 0x0301 0 s1.castErrBytes
  s2.endRun (fun s => s.failAns a s.recastReply)
/-- A recast ends in its write pass or hold (R214): rolled back from an intact buffer, else its regions are cleared and stay walled. SRC
holds the low half of the mask (log entry 45). -/
def State.writeFails (s : State) (code seg : Nat) (a : Option Ans) : State :=
  let r := s.cr
  let m := r.mask
  let s1 := ((s.castErr code seg).put Reg.CAST_STATUS_STATE 3).put Reg.RCST_STATUS_PHASE 0
  match (if r.rollback ≠ 0 ∧ s.bufferGood = some true then r.snap else none) with
  | some k =>
    let s2 := ((s1.restoreSnap k).setCr { r with tiles := [], engines := [] }).wallsFall (if r.tilesOnly then 0 else m)
    let s3 := (s2.put Reg.RCST_FREEZE_US (if r.tilesOnly then s2.get Reg.RCST_FREEZE_US else s2.freezeUs)).passHeld s2.fab.pers m
    (s3.logNow 0x0305 m s3.castErrBytes).endRun (fun s => s.failAns a s.recastReply)
  | none =>
    -- before the first frame nothing has changed, so a run that ends during the capture only releases its walls
    if r.rollback ≠ 0 ∧ r.snap = none then
      let s2 := (s1.wallsFall (if r.tilesOnly then 0 else m)).passHeld s1.fab.pers m
      (s2.logNow 0x0305 m s2.castErrBytes).endRun (fun s => s.failAns a s.recastReply)
    else
      let s2 := s1.clearRegions m true
      (s2.logNow 0x0306 m s2.castErrBytes).endRun (fun s => s.failAns a s.recastReply)
/-- The run at hand fails. -/
def State.castFails (s : State) (code seg : Nat) (a : Option Ans) : State :=
  let r := s.cr
  if r.pass = 3 then s.endRun (fun _ => Ans.ok [])
  else if !r.recast then s.loadFails code seg a
  else if r.pass = 1 then s.verifyFails code seg a
  else s.writeFails code seg a

end Sys2Proof.Machine
end

