-- ==== Sys2Proof/Machine/Cast.lean ====
section
/-! DEFINITION. Loading a cast: its sources, the relay stream, release, and the cast commands (chapter 6). -/

namespace Sys2Proof.Machine

/-! ### Starting, ending -/

/-- The fabric emptied for a load: no frames, no loaded region, the registers of Table CAST-12 cleared; STATE and SRC set. -/
def State.castOpens (s : State) (st src : Nat) : State :=
  let s1 := if s.get Reg.CAST_STATUS_STATE = 2 then s.clearRegions 0xFFFFFFFF false else s
  let s2 := { s1 with fab := { s1.fab with frames := [] }, cast := { s1.cast with run := none, relayPort := none, relayDup := false, relayPend := [], relayTx := 0 } }
  let s3 := ((s2.clearRegs 0x20000 0x20014).clearRegs 0x20018 0x20064).put Reg.CKEY_STAT_KEYSEL 0
  ((s3.put Reg.CAST_STATUS_STATE st).put Reg.CAST_STATUS_SRC src).setUnmute false
/-- A load starts. -/
def State.castStart (s : State) (r : CastRun) : State := (s.castOpens 1 r.src).setCr { r with startAt := s.time.up }
/-- PREFER of the boot pointer record in force, none where neither copy is valid (R179). -/
def State.prefer (s : State) : Option Nat := (s.recBody .bootPtr).map (fun b => bits (leAt b 16 1) 0 1)
/-- The cast that the CFG_MODE straps ask for at a wake (R178, R179): an exit without one is done. Without a valid boot pointer the
load fails with SOURCE_READ, as if both slots had (DESIGN CHOICE, log entry 46). -/
def State.castFromMode (s : State) : State :=
  let m := s.get Reg.SYS_STRAP_CFG_MODE
  if m = 3 then s.exitDone
  else if m = 2 then (s.castOpens 6 4).exitDone
  else match s.prefer with
    | some k => s.castStart { CastRun.blank with src := k, relayOut := m == 1 }
    | none => ((s.castStart { CastRun.blank with second := true }).castFails 0xC 0xFFFF none).exitDone
/-- What follows a load that failed without a request: at a wake the other flash slot, once, then an empty fabric in RUN (R179). -/
def State.afterFail (s : State) (r : CastRun) : State :=
  if r.recast || r.req.isSome || r.pass = 3 || 1 < r.src || s.cast.run.isSome then s
  else if r.second then s.exitDone
  else (s.logEvent 0x0302 r.src s.castErrBytes).castStart { CastRun.blank with src := 1 - r.src, relayOut := s.get Reg.SYS_STRAP_CFG_MODE == 1, second := true }
/-- The run fails, and what follows. -/
def State.castStops (s : State) (code seg : Nat) (a : Option Ans) : State := (s.castFails code seg a).afterFail s.cr
/-- The segment at hand, for CAST_ERR. -/
def CastRun.segAt (r : CastRun) : Nat := if r.table = [] ∨ r.segCount ≤ r.seg then 0xFFFF else r.seg

/-! ### Bytes arrive (R170–R174, R180, R181, R188) -/

/-- Received bytes processed as far as they reach; the end of the image without END or HOLD is TRUNCATED (R172). -/
def State.castFeed (s : State) (b : List Byte) : State :=
  let r := s.cr
  let r1 := { r with buf := r.buf ++ b, startAt := if r.pos + r.buf.length = 0 then s.time.up else r.startAt }
  let x := (s.setCr r1).castAdvance (r1.segCount + 1027)
  let s1 := if x.2.1 = 0 && x.1.cr.complete then x.1.relayFlush else x.1
  let q := s1.cr
  if x.2.1 ≠ 0 then s1.castStops x.2.1 x.2.2 none
  else if !q.complete then s1
  else if q.pass = 3 then s1.endRun (fun _ => Ans.ok [])
  else if q.ended = 0 then s1.castStops 0xE q.lastFrames none
  else if q.pass = 2 then
    let s2 := s1.recastInit
    if q.hold || q.ended = 2 then (s2.setCr { s2.cr with holdAt := some s2.time.up }).put Reg.RCST_STATUS_PHASE 4 else s2
  else s1
/-- The run takes bytes now: not complete, not held, and in the write pass of a recast only once its regions are quiet and captured. -/
def State.castReads (s : State) : Bool :=
  let r := s.cr
  s.cast.run.isSome && s.fabricPowered && !r.complete && r.holdAt.isNone && r.src != 4 &&
    (r.pass != 2 || (s.get Reg.RCST_STATUS_PHASE == 3 && (r.tilesOnly || s.regionsQuiet r.mask)))
/-- A read of `n` image bytes from device memory (R181): one that meets no memory or an uncorrectable error fails the run (R188). -/
def State.castReadMem (s : State) (n : Nat) : State :=
  let r := s.cr
  let off := r.pos + r.buf.length
  let k := min n (r.len - off)
  let a := r.addr + off
  if n = 0 then s
  else if k = 0 ∨ !s.allDram a k then s.castStops 0xC r.segAt none
  else if s.mustWait a k then s
  else
    let x := (s.netAccess plinthPlace a k false).readMem 5 a k
    if x.2.2 then x.1.castStops 0xC r.segAt (some (Ans.code 0xB x.1.logDetail)) else x.1.castFeed x.2.1
/-- CAST_SOURCE_READ: image bytes arrive. Flash supplies them; from device memory and from the image of a chain the M7 takes as many as
the row brings (R180, R181). -/
def execCastSourceRead (bytes : List Byte) (src : SourceResult) (s : State) : Host.Outcome State Fault Refusal :=
  let r := s.cr
  if !s.castReads then .next s
  else if r.src = 2 then .next (s.castReadMem bytes.length)
  else if r.src = 3 then
    let b := slice r.image (r.pos + r.buf.length) bytes.length
    .next (if bytes = [] then s else if b = [] then s.castStops 0xE r.segAt none else s.castFeed b)
  else if src = .ok then .next (s.castFeed bytes)
  else .next (s.castStops 0xC r.segAt none)

/-! ### Release (R173, R198) -/

/-- The release of a loaded cast: PLLs and clocks, I/O, handle queues, and CAST_TIME. -/
def State.castGo (s : State) : State :=
  let r := s.cr
  let s1 := (s.takePers r.pers r.mask (fun _ => false)).fabricGo.enginesGo (enginesIn r.mask)
  s1.put Reg.CAST_TIME_US (s1.usSince r.startAt)
/-- A load has passed every check: resources initialised, CDIG and CAST_ID set; then the release, or the hold. -/
def State.castLoaded (s : State) (p : Personality) : State :=
  let r := s.cr
  let m := r.mask
  let s1 := (tilesIn m).foldl State.tileFromFrames s
  let s2 := (enginesIn m).foldl State.engInit s1
  let s3 := (s2.putDigest Reg.CDIG_DIG r.digest).putDigest Reg.CAST_ID_ID r.castId
  let s4 := s3.put Reg.CAST_REGIONS_LOADED m
  let f := { s4.fab with carry := r.carry, clocks := if r.clocks = [] then List.replicate 9 0 else r.clocks, relay := leAt r.ioset 0 72 }
  let s5 := { s4 with fab := f }.put Reg.PWR_STATE_RESTORE (if r.req.isSome then 2 else if s4.pwr.failedRestore then 3 else 0)
  let s6 := s5.setCr { r with pers := mergePers Personality.blank p m }
  if r.hold || r.ended = 2 then
    let s7 := s6.put Reg.CAST_STATUS_STATE 2
    let s8 := match r.req with
      | some q => s7.completeReq q (Ans.ok s7.castReply)
      | none => s7
    (s8.setCr { s8.cr with req := none, holdAt := some s8.time.up }).exitDone
  else (s6.castGo.endRun (fun s => Ans.ok s.castReply)).exitDone
/-- CAST_LOAD_COMPLETE: END or HOLD has come and every byte has been read (R173 steps 4 and 5). An illegal setting fails the load with
FABRIC_CFG (R235, R241, R246, R249). -/
def execCastLoadComplete (pers : Personality) (s : State) : Host.Outcome State Fault Refusal :=
  let r := s.cr
  if s.cast.run.isNone || r.pass ≠ 0 || !r.complete || r.ended = 0 || r.holdAt.isSome || !s.fabricPowered then .next s
  else if pers.bad (leAt r.ioset 0 72) then .next (s.castStops 0x15 0xFFFF none)
  else .next (s.castLoaded pers)

/-! ### Relay (R183–R185, R191, R508) -/

/-- A relay block's bytes join the stream. -/
def State.relayTake (s : State) (port : Nat) (data : List Byte) : State :=
  { s with cast := { s.cast with relayPort := some port, relayNo := s.cast.relayNo + 1 } }.castFeed data
/-- RELAY_BLOCK: members alone take one (R508), on the first port that brings a valid one (R191). A block in error fails the load
(R185); a released member forwards a stream of its own CDIG without recasting. -/
def execRelayBlock (port : Fin 7) (no : Word) (data : List Byte) (crc : Word) (s : State) : Host.Outcome State Fault Refusal :=
  let good := decide (data.length = 256 ∧ crc32c data = crc.toNat)
  let st := s.get Reg.CAST_STATUS_STATE
  if !s.fabricPowered || s.get Reg.SYS_STRAP_CFG_MODE ≠ 2 then .next s
  else match s.cast.relayPort with
    | some p =>
      if p ≠ port.val then
        (if s.cast.relayDup then .next s
         else .next ({ s with cast := { s.cast with relayDup := true } }.logEvent 0x0303 port.val []))
      else if good && no.toNat == s.cast.relayNo then .next (s.relayTake port.val data)
      else .next (s.castStops 0xD s.cr.segAt none)
    | none =>
      if !good || no.toNat ≠ 0 || s.cast.run.isSome then .next s
      else if st = 6 ∨ st = 5 ∨ st = 0 then
        let s1 := s.castStart { CastRun.blank with src := 4, relayOut := true }
        .next ({ s1 with cast := { s1.cast with relayNo := 0 } }.relayTake port.val data)
      else if st = 3 then
        let s1 := (s.setCr { CastRun.blank with src := 4, relayOut := true, pass := 3 })
        .next ({ s1 with cast := { s1.cast with relayNo := 0, relayDup := false, relayPend := [], relayTx := 0 } }.relayTake port.val data)
      else .next s
/-- RELAY_TIMEOUT: a relay stream has stopped for 10 ms (R185). -/
def execRelayTimeout (s : State) : Host.Outcome State Fault Refusal :=
  .next (if s.cast.relayPort.isSome && !s.cr.complete then s.castStops 0xD s.cr.segAt none else s)

/-! ### The cast commands (Table CAST-13) -/

/-- The header of the image in a flash slot: what the flash holds is outside the model, so its bytes are free values (log entry 65). -/
def State.flashHeader (s : State) : List Byte := leBytes 4 0x54534143 ++ s.drawnBytes 252
/-- The image header that a CAST_LOAD brings or names. -/
def State.loadHeader (s : State) (c : Ctx) : List Byte :=
  if c.at 0 1 = 3 then s.bytesAt (c.at 4 8) 256 else if c.at 0 1 = 4 then slice c.data 24 256 else s.flashHeader
/-- A header with the MAGIC of an image. -/
def isImage (h : List Byte) : Bool := leAt h 0 4 == 0x54534143
/-- A range of device memory an image or a buffer may lie in (R181). -/
def State.imageRange (s : State) (a n : Nat) : Bool := s.allDram a n && !(blocks64 a n).any (fun b => s.inSave b)
/-- A chain opened on this stream by the same command. -/
def State.ownChain (s : State) (c : Ctx) (re : Bool) : Bool := s.cast.chain == some (c.p.stream, re)
/-- Why CAST_LOAD is refused now (R177, R190, R195, R217), with the state after the refusal. -/
def State.loadRefused (s : State) (c : Ctx) : Option (State × Ans) :=
  let st := s.get Reg.CAST_STATUS_STATE
  if st = 4 ∨ (st = 1 ∧ !s.ownChain c false) then some (busy s)
  else if st = 3 then
    let h := s.loadHeader c
    some (if c.at 0 1 < 3 then s.draw else s, Ans.code 0xE (if isImage h && bit (leAt h 6 2) 2 then 4 else 1))
  else none
/-- CAST_LOAD's effect: the load starts. -/
def castLoadRun (s : State) (c : Ctx) : State × Ans :=
  match s.loadRefused c with
  | some x => x
  | none =>
    let k := c.at 0 1
    let src := if k = 0 then s.prefer.getD 0 else if k = 1 then 0 else if k = 2 then 1 else k - 1
    let s1 := { s with cast := { s.cast with chain := none } }
    pend (s1.castStart { CastRun.blank with
      req := some c.p, hold := bit (c.at 1 1) 0, relayOut := bit (c.at 1 1) 1, src := src, addr := c.at 4 8, len := c.at 12 8
      image := c.data.drop 24 })
/-- The first packet of a CAST_LOAD chain opens the load. -/
def castLoadFirst (s : State) (c : Ctx) : State × Ans :=
  match s.loadRefused c with
  | some x => x
  | none =>
    let s1 := s.castOpens 1 3
    ({ s1 with cast := { s1.cast with chain := some (c.p.stream, false) } }, Ans.ok [])
/-- A peer needs AUTH in a session of the ensemble key (R194). -/
def peerAuth (_ : State) (c : Ctx) : Bool := c.role == 2
def castLoadOp : OpSpec := { plainOp 0x0300 0xFFFF castLoadRun with
  auth := peerAuth
  chain := fun c => c.at 0 1 == 4
  lenOk := fun b => if leAt b 0 1 = 4 then decide (24 ≤ b.length) else b.length == 24
  range := fun s c =>
    let k := c.at 0 1
    firstBad [(0, k ≤ 4), (1, c.at 1 1 ≤ 3), (4, if k = 3 then s.imageRange (c.at 4 8) (max 1 (c.at 12 8)) else c.at 4 8 == 0),
      (12, if k = 3 then decide (256 ≤ c.at 12 8) &&
        (!isImage (s.loadHeader c) || decide (leAt (s.loadHeader c) 16 8 ≤ c.at 12 8)) else c.at 12 8 == 0)]
  long := fun _ _ => true
  cont := fun b => b.drop 24
  first := castLoadFirst }
/-- CAST_LOAD (R173, R194). -/
def execCastLoad (p : Packet) (s : State) : Host.Outcome State Fault Refusal := serve castLoadOp p s
def castStatusGetOp : OpSpec := plainOp 0x0301 0 (fun s _ =>
  (s, Ans.ok (wordBytes ([0, 4, 0x60, 0x18, 0x1C].map (fun a => s.word (wordsCast a))) ++ s.cdig ++
    (List.range 8).flatMap (fun k => leBytes 4 (s.get (Reg.CAST_ID_ID k))))))
/-- CAST_STATUS_GET (R194). -/
def execCastStatusGet (p : Packet) (s : State) : Host.Outcome State Fault Refusal := serve castStatusGetOp p s
/-- CAST_RELEASE's effect: a held cast, or a held recast (R200). -/
def castReleaseRun (s : State) (_ : Ctx) : State × Ans :=
  if s.get Reg.CAST_STATUS_STATE = 2 ∧ s.cast.run.isSome then (s.castGo.endRun (fun _ => Ans.ok []), Ans.ok [])
  else if s.get Reg.RCST_STATUS_PHASE = 4 then (s.recastGo, Ans.ok [])
  else (s, Ans.code 0xE 2)
def castReleaseOp : OpSpec := { plainOp 0x0302 0 castReleaseRun with auth := peerAuth }
/-- CAST_RELEASE (R194, R200). -/
def execCastRelease (p : Packet) (s : State) : Host.Outcome State Fault Refusal := serve castReleaseOp p s
/-- An unload: streams and tiles stop as under FORCE, user I/O go to high impedance, the fabric is zeroed, the tiles' instruction
memory with it (R177). -/
def State.castUnload (s : State) : State :=
  let s1 := s.eachSteeper (List.range 192) (fun s t st => s.steepHalt t st 2)
  let s2 := (s.runningTiles).foldl (fun s t => s.tileHalt t 3) s1
  let s3 := (List.range 32).foldl (fun s r => s.zeroRegion r) s2
  let s4 := (List.range 192).foldl State.tileImem ((List.range 96).foldl State.engInit (s3.unbindAll 0xFFFFFFFF))
  let f := { FabUnit.blank with supply := s4.fab.supply, results := s4.fab.results }
  let s5 := { s4 with fab := f, cast := { s4.cast with run := none } }.passHeld s.fab.pers 0xFFFFFFFF
  ((((s5.clearRegs 0x20000 0x20014).clearRegs 0x20018 0x20064).clearRegs 0x20080 0x20088).put Reg.CKEY_STAT_KEYSEL 0).setUnmute false |>.lampsRegate
/-- CAST_UNLOAD's effect (R177, R190, R217). -/
def castUnloadRun (s : State) (_ : Ctx) : State × Ans :=
  let st := s.get Reg.CAST_STATUS_STATE
  if st = 1 ∨ st = 4 then busy s
  else if st = 2 ∨ st = 3 then (s.castUnload, Ans.ok [])
  else (s, Ans.code 0xE 3)
def castUnloadOp : OpSpec := { plainOp 0x0303 0 castUnloadRun with auth := peerAuth }
/-- CAST_UNLOAD (R177). -/
def execCastUnload (p : Packet) (s : State) : Host.Outcome State Fault Refusal := serve castUnloadOp p s
/-- CAST_KEY_SET's effect: the sealed key opened and stored (R48). -/
def castKeySetRun (s : State) (c : Ctx) : State × Ans :=
  match c.unseal c.data with
  | some k => ({ s with cast := { s.cast with key := k } }.put Reg.CKEY_STAT_PRESENT 1 |>.persist .castKey, Ans.ok [])
  | none => (s, Ans.code 5 4)
def castKeySetOp : OpSpec := { plainOp 0x0304 48 castKeySetRun with roles := [0, 1], auth := fun _ _ => true }
/-- CAST_KEY_SET (R194). -/
def execCastKeySet (p : Packet) (s : State) : Host.Outcome State Fault Refusal := serve castKeySetOp p s
/-- CAST_SIGNER_SET's effect: a signer slot set or cleared; the reply gives the mask before it. -/
def castSignerSetRun (s : State) (c : Ctx) : State × Ans :=
  let k := c.at 0 1
  let on_ := !bit (c.at 1 1) 0
  let s1 := { s with cast := { s.cast with signers := s.cast.signers.set k (if on_ then slice c.data 4 32 else []) } }
  ((s1.put Reg.CAST_POLICY_SIGNERS (setBits (s.get Reg.CAST_POLICY_SIGNERS) k 1 (b2n on_))).persist .castPolicy, Ans.ok (leBytes 4 (s.get Reg.CAST_POLICY_SIGNERS)))
def castSignerSetOp : OpSpec := { plainOp 0x0305 36 castSignerSetRun with
  roles := [1]
  auth := fun _ _ => true
  range := fun _ c => firstBad [(0, c.at 0 1 ≤ 3), (1, c.at 1 1 ≤ 1)] }
/-- CAST_SIGNER_SET (R165, R194). -/
def execCastSignerSet (p : Packet) (s : State) : Host.Outcome State Fault Refusal := serve castSignerSetOp p s
/-- CAST_POLICY_SET's effect; the reply gives CAST_POLICY before it. -/
def castPolicySetRun (s : State) (c : Ctx) : State × Ans :=
  (((s.put Reg.CAST_POLICY_REQUIRE_SIGNED (c.at 0 1)).put Reg.CAST_POLICY_REQUIRE_ENCRYPTED (c.at 1 1)).persist .castPolicy,
    Ans.ok (leBytes 4 (s.word (wordsCast 0x64))))
def castPolicySetOp : OpSpec := { plainOp 0x0306 4 castPolicySetRun with
  roles := [1]
  auth := fun _ _ => true
  range := fun s c => firstBad [(0, c.at 0 1 ≤ 1 && (c.at 0 1 == 0 || s.get Reg.CAST_POLICY_SIGNERS != 0)), (1, c.at 1 1 ≤ 1)] }
/-- CAST_POLICY_SET (R194). -/
def execCastPolicySet (p : Packet) (s : State) : Host.Outcome State Fault Refusal := serve castPolicySetOp p s
/-- CAST_FLASH_PREFER's effect: the copy that is not in force is erased and takes the record with the new PREFER. Where no copy is valid, or
the flash fails to take it (a free value), FAULT names the entry logged, and the copy in force stays (log entry 46). -/
def castFlashPreferRun (s : State) (c : Ctx) : State × Ans :=
  let fails (s : State) : State × Ans :=
    let s1 := s.logNow 0x0301 0 (leBytes 4 (0xFFFF * 65536 + 0xC))
    (s1, s1.faultAns)
  match s.recBody .bootPtr with
  | none => fails s
  | some b =>
    let s1 := s.draw.recWrite .bootPtr (bootBody (leAt b 0 8) (leAt b 8 8) (c.at 0 1))
    if s.drawn 1 = 1 then fails (s1.putRec .bootPtr (s1.recPair .bootPtr).tear) else (s1, Ans.ok [])
def castFlashPreferOp : OpSpec := { plainOp 0x0307 4 castFlashPreferRun with
  roles := [0, 1]
  auth := fun _ _ => true
  range := fun _ c => firstBad [(0, c.at 0 1 ≤ 1)] }
/-- CAST_FLASH_PREFER: a new boot pointer record in flash (R179, R194). -/
def execCastFlashPrefer (p : Packet) (s : State) : Host.Outcome State Fault Refusal := serve castFlashPreferOp p s

end Sys2Proof.Machine
end

