-- ==== Sys2Proof/Machine/Recast.lean ====
section
/-! DEFINITION. Live recast: the verify and write passes, capture, hold, release, timeout, abort, and the recast commands (chapter 7). -/

namespace Sys2Proof.Machine

/-- Why RECAST_LOAD is refused now (R217, R220). -/
def State.recastRefused (s : State) (c : Ctx) : Option (State × Ans) :=
  let st := s.get Reg.CAST_STATUS_STATE
  if st = 4 then (if s.ownChain c true then none else some (busy s))
  else if st ≠ 3 then some (s, Ans.code 0xE 6)
  else none
/-- The verify pass opens: STATE 4, PHASE 1. -/
def State.recastOpens (s : State) : State :=
  ((s.castErr 0 0).put Reg.CAST_STATUS_STATE 4).put Reg.RCST_STATUS_PHASE 1
/-- RECAST_LOAD's effect. -/
def recastLoadRun (s : State) (c : Ctx) : State × Ans :=
  match s.recastRefused c with
  | some x => x
  | none =>
    let s1 := { s with cast := { s.cast with chain := none } }.recastOpens
    let r := { CastRun.blank with
      req := some c.p, recast := true, pass := 1, hold := bit (c.at 1 1) 0, tilesOnly := bit (c.at 1 1) 1, src := c.at 0 1 - 1, addr := c.at 4 8
      len := c.at 12 8, rollback := c.at 20 8, timeout := c.at 28 2, image := c.data.drop 32, startAt := s.time.up }
    pend (s1.setCr r)
/-- The first packet of a RECAST_LOAD chain opens the recast. -/
def recastLoadFirst (s : State) (c : Ctx) : State × Ans :=
  match s.recastRefused c with
  | some x => x
  | none => ({ s with cast := { s.cast with chain := some (c.p.stream, true) } }.recastOpens, Ans.ok [])
/-- The image header that a RECAST_LOAD brings or names. -/
def State.recastHeader (s : State) (c : Ctx) : List Byte :=
  if c.at 0 1 = 3 then s.bytesAt (c.at 4 8) 256 else slice c.data 32 256
/-- The rollback buffer that an image needs: of one region where its header is none. -/
def bufferLen (h : List Byte) : Nat := if isImage h then rollbackLen (leAt h 24 4) else 2359296
def recastLoadOp : OpSpec := { plainOp 0x0308 0xFFFF recastLoadRun with
  auth := peerAuth
  chain := fun c => c.at 0 1 == 4
  lenOk := fun b => if leAt b 0 1 = 4 then decide (32 ≤ b.length) else b.length == 32
  range := fun s c =>
    let k := c.at 0 1
    let h := s.recastHeader c
    let rb := c.at 20 8
    firstBad [(0, k == 3 || k == 4), (1, c.at 1 1 ≤ 3), (4, if k = 3 then s.imageRange (c.at 4 8) (max 1 (c.at 12 8)) else c.at 4 8 == 0),
      (12, if k = 3 then decide (256 ≤ c.at 12 8) && (!isImage h || decide (leAt h 16 8 ≤ c.at 12 8)) else c.at 12 8 == 0),
      (20, rb == 0 || (rb % 64 == 0 && s.imageRange rb (bufferLen h))), (28, decide (1 ≤ c.at 28 2 ∧ c.at 28 2 ≤ 10000))]
  long := fun _ _ => true
  cont := fun b => b.drop 32
  first := recastLoadFirst }
/-- RECAST_LOAD (R195, R199, R220). -/
def execRecastLoad (p : Packet) (s : State) : Host.Outcome State Fault Refusal := serve recastLoadOp p s

/-- A recast runs in a pass. -/
def State.recastIn (s : State) (pass : Nat) : Bool := s.cast.run.isSome && s.cr.recast && s.cr.pass == pass && s.fabricPowered
/-- The write pass begins: the source is read again from its start, and without TILES_ONLY the walls rise (R199, R202). -/
def State.writePass (s : State) (p : Personality) : State :=
  let r := s.cr
  let r1 := { r with pass := 2, buf := [], pos := 0, seg := 0, ended := 0, part := [], cwall := false, pers := p, roseAt := s.time.up }
  let s1 := (s.setCr r1).put Reg.CAST_FRAMES_COUNT 0
  let s2 := if r.tilesOnly then s1 else s1.wallsRise r.mask
  s2.put Reg.RCST_STATUS_PHASE (if r.rollback = 0 then 3 else 2)
/-- RECAST_VERIFY_DONE: every check of the first pass has passed (R199). The stream must have written CWALL (R197). -/
def execRecastVerifyDone (pers : Personality) (s : State) : Host.Outcome State Fault Refusal :=
  let r := s.cr
  if !s.recastIn 1 || !r.complete || r.ended = 0 then .next s
  else if !r.tilesOnly && !r.cwall then .next (s.castFails 0xA r.lastFrames none)
  else if pers.bad (s.relayMask r) then .next (s.castFails 0x15 0xFFFF none)
  else .next (s.writePass pers)
/-- ROLLBACK_CAPTURE_DONE: the buffer holds the regions' live state, and the frames are written from here on (R213). -/
def execRollbackCaptureDone (s : State) : Host.Outcome State Fault Refusal :=
  let r := s.cr
  if !s.recastIn 2 || s.get Reg.RCST_STATUS_PHASE ≠ 2 then .next s
  else if !r.tilesOnly && !s.regionsQuiet r.mask then .next s
  else .next (s.recastCapture.put Reg.RCST_STATUS_PHASE 3)
/-- RECAST_RELEASE: the regions have been initialised and no hold is asked for (R207). -/
def execRecastRelease (s : State) : Host.Outcome State Fault Refusal :=
  let r := s.cr
  if !s.recastIn 2 || s.get Reg.RCST_STATUS_PHASE ≠ 3 || !r.complete || r.ended = 0 then .next s
  else .next s.recastGo
/-- RECAST_TIMEOUT: TIMEOUT has passed since the walls rose (R201). -/
def execRecastTimeout (s : State) : Host.Outcome State Fault Refusal :=
  if s.recastIn 2 && !s.cr.tilesOnly && s.get Reg.RCST_STATUS_PHASE ≠ 4 then .next (s.castFails 0x14 s.cr.segAt (some (Ans.code 0xC 0)))
  else .next s
/-- RECAST_ABORT's effect: a chain that has opened a recast is abandoned with it. -/
def recastAbortRun (s : State) (_ : Ctx) : State × Ans :=
  let w := leBytes 4 (s.word (wordsCast 0x80))
  match s.cast.chain with
  | some (i, true) =>
    let t := s.stream i
    let t1 := match t.chain with
      | some ch => { t with chain := some { ch with dead := true } }
      | none => t
    (s.putStream t1, Ans.ok w)
  | _ => if s.recastIn 1 || s.recastIn 2 then (s.castFails 0x11 s.cr.segAt none, Ans.ok w) else (s, Ans.code 0xE 5)
def recastAbortOp : OpSpec := { plainOp 0x0309 0 recastAbortRun with auth := peerAuth }
/-- RECAST_ABORT (R212, R214). -/
def execRecastAbort (p : Packet) (s : State) : Host.Outcome State Fault Refusal := serve recastAbortOp p s
def recastStatusOp : OpSpec := { plainOp 0x030A 0 (fun s _ =>
  (s, Ans.ok (wordBytes ([0x80, 0x84, 0x88, 0x8C, 0x10].map (fun a => s.word (wordsCast a)))))) with auth := peerAuth }
/-- RECAST_STATUS (R220). -/
def execRecastStatus (p : Packet) (s : State) : Host.Outcome State Fault Refusal := serve recastStatusOp p s

end Sys2Proof.Machine
end

