-- ==== Sys2Proof/Machine/Domains.lean ====
section
/-! DEFINITION. What the M7 loses and keeps as its domains power down and up: pending operations, links and lanes, the fabric dies, the
plinth, the caddy, and the fall to SLEEP of a failed supply or clock (R37, R50, R63, R68, R76, R78, R465, R498, R637). -/

namespace Sys2Proof.Machine

/-! ### Operations and streams -/

/-- The operations still pending, but for those kept, end with an answer and an entry each (R63). -/
def State.abandonOps (s : State) (keep : Packet → Bool) (a : Ans) : State :=
  ((s.cmd.longOps.map (fun o => o.req)).filter (fun p => !keep p)).foldl (fun s p =>
    (s.completeReq p a).logEvent 0x0101 (transportCode p.via) (leBytes 2 p.opcode.toNat ++ leBytes 2 p.seq.toNat)) s
/-- A stream whose records live in the kettle (R37). -/
def kettleStream (i : StreamId) : Bool := i.via == .smbus || i.via == .i3c
/-- The plinth leaves RUN or IDLE: the steward stops answering, sessions other than the manager's close, the records of its streams and
the replies that no transport can carry any more are gone, and AMUTE_N falls (R37, R50, R63, R118). -/
def State.plinthLeaves (s : State) : State :=
  let s1 := (s.cmd.sessions.filter (fun x => x.role != 1)).foldl (fun s x => s.closeSession x.num) s
  let c := { s1.cmd with streams := s1.cmd.streams.filter (fun t => kettleStream t.id), peerOut := [], peerIn := [], fabOut := [], fabHeld := [] }
  (({ s1 with cmd := c, fab := { s1.fab with portIn := [], portOut := [] } }).setFlag Reg.MBX_STATUS_READY false).setUnmute false

/-! ### Links and lanes (R465, R498) -/

/-- A port that is UP tells its partner with 8 CTRL flits and goes down with reason PARK. -/
def State.parkPort (s : State) (p : Nat) : State :=
  if s.isUp p then ((List.range 8).foldl (fun s _ => s.sendCtrl p false true) s).linkDrop p 5 else s
/-- Lanes power down with their ports (Table LANE-5); the PCIe link stays in L1. -/
def State.lanesDown (s : State) : State :=
  let s1 := (List.range 7).foldl (fun s p => if s.owner p = 1 then s else s.put (Reg.HL_STAT_STATE p) 0) s
  (List.range 8).foldl (fun s q => if s.owner q = 1 then s else (quadLanes q).foldl State.laneOff s) s1
/-- Lanes train anew (R465). -/
def State.quadUp (s : State) (q : Nat) : State :=
  if s.owner q = 1 ∨ s.owner q = 4 then s
  else if q < 7 ∧ s.owner q = 0 then
    let s1 := s.setPort q { s.port q with lastUp := none, attempts := 0 }
    if s1.linkMay q then s1.attempt q else (s1.quadTrain q false).put (Reg.HL_STAT_STATE q) 5
  else s.quadTrain q false

/-! ### The fabric dies (R76, R368) -/

/-- A CSR address in the windows of tiles, steepers and engines. -/
def inFabric (a : Nat) : Bool := decide (0x1000000 ≤ a ∧ a < 0x2000000)
/-- The register fields and window words of the fabric dies gone, but for those whose key is kept. -/
def State.dropFabric (s : State) (keep : Nat → Bool) : State :=
  { s with regs := s.regs.filter (fun e => !inFabric (e.1 / 32) || keep e.1), win := s.win.filter (fun e => !inFabric e.1 || keep (e.1 * 32)),
           eng := [] }
/-- What the save area holds of a tile: the registers of its context record and its steeper records. -/
def savedKey (k : Nat) : Bool :=
  let a := k / 32
  let off := a % 0x10000
  let t := (a - 0x1000000) / 0x10000
  decide (a < 0x1C00000) && (decide (0x8040 ≤ off ∧ off < 0x8064) || decide (0x9000 ≤ off ∧ off < 0x9540) ||
    decide (0xA000 ≤ off ∧ off < 0xC000) || k == (Reg.TSTAT_PC t).key || k == (Reg.TSTART_ROW t).key)
/-- EN_F falls. -/
def State.fabricOff (s : State) : State :=
  let a := { s.addr with caches := [], walkQ := [], invals := [] }
  ({ s with addr := a, mesh := NetUnit.empty, pwr := { s.pwr with enF := false, upF := false } }.setFlag Reg.PWR_CLK_STATUS_FAB_LOCK false).lampsRegate
/-- What the fabric dies hold is lost: frames, tiles, engines, queue blocks, stores. -/
def State.fabricLost (s : State) : State :=
  let s1 := (s.dropFabric (fun _ => false)).loseStores
  let f := { FabUnit.blank with supply := s1.fab.supply }
  let c := { s1.cast with run := none, chain := none, relayPort := none }
  let d := { s1.door with lgate := 0, lgateRegion := List.replicate 8 0 }
  ({ s1 with tu := TileUnit.empty, fab := f, cast := c, door := d }).vaultDropBufs
/-- Entry to DOZE: the save area takes frames, flip-flops and, as PWR_DOZE_CFG selects, queue blocks, stores, contexts and steeper
records; what it does not take is lost (R76, R273, R368). -/
def State.fabricSaved (s : State) : State :=
  let kt := s.dozeKeepTile
  let u : TileUnit := if kt then { TileUnit.empty with steepers := s.tu.steepers, rows := s.tu.rows } else TileUnit.empty
  let s1 := { s.dropFabric (fun k => kt && savedKey k) with tu := u, pwr := { s.pwr with halted := if kt then s.pwr.halted else [], haltedEng := [] } }
  let s2 := if kt then s1 else s1.loseStores
  let s3 := if s2.dozeKeepQb then s2 else s2.fab.pers.qbs.foldl State.qbInit s2
  (List.range 192).foldl State.tileImem s3

/-! ### The plinth and the caddy -/

/-- Register fields that the kettle holds: its blocks, the straps, the state epoch, and what its NVM keeps (R519, Table KET-2). -/
def kettleKey (k : Nat) : Bool :=
  let a := k / 32
  decide (0x10000 ≤ a ∧ a < 0x20000) || decide (0x90000 ≤ a ∧ a < 0xE0000) ||
    k ∈ (nvmFields ++ [Reg.SYS_STRAP_CFG_MODE, Reg.SYS_STRAP_ENS_ID, Reg.SYS_STRAP_Q6_SEL, Reg.SYS_STRAP_UNSTABLE, Reg.ENS_EPOCH_EPOCH]).map Fld.key
/-- What the plinth holds is lost: its registers, rings and buffers, objects, queues, links, lanes, the accord, translation, training. -/
def State.losePlinth (s : State) : State :=
  let c := { s.cmd with mbxReq := [], mbxRing := [], mbxWait := [], spiReq := [], spiRpl := [], spiWait := [], spiErr := false, served := [], spiOut := [] }
  let t := { s.time with macStamps := [] }
  let e := { EnsUnit.alone with desc := s.ens.desc, out := s.ens.out, hold := s.ens.hold, hostTray := s.ens.hostTray, mgrTray := s.ens.mgrTray }
  let m := { s.mu with training := .none, store := false, results := [], rows := [], rowAt := [], owed := [], segs := [], acts := [], waits := [], live := 0, bad := [] }
  let k := { s.cast with ckey := [], cipher := [] }
  { s with regs := s.regs.filter (fun r => kettleKey r.1), cmd := c, sync := SyncUnit.empty, hq := HqUnit.empty,
           lanes := List.replicate 32 LaneX.fresh, link := LinkUnit.off, addr := AddrUnit.empty, ens := e, mu := m, cast := k, time := t }
/-- The save area gone with its key. -/
def State.loseSave (s : State) : State := { s with pwr := { s.pwr with saveKey := false, saveGen := none } }
/-- The enables and rails of the plinth, the caddy and the lanes low, REFCLK_REQ low, and no clock but the kettle's. -/
def State.enablesFall (s : State) : State :=
  let p := { s.pwr with refLow := none, enB := false, enC := false, enL := false, enF := false, upB := false, upC := false, upL := false, upF := false }
  let s1 := ({ s with pwr := p }.setFlag Reg.PWR_CLK_STATUS_REF_REQ false).setFlag Reg.PWR_CLK_STATUS_REF_OK false
  (((s1.setFlag Reg.PWR_CLK_STATUS_NCLK_LOCK false).setFlag Reg.PWR_CLK_STATUS_CCLK_LOCK false).setFlag Reg.PWR_CLK_STATUS_FAB_LOCK false).retick
/-- A self-test run that a failed supply or clock ends, without a record. -/
def State.dropBist (s : State) : State :=
  ({ s with bist := none }.put Reg.BIST_STAT_STATE 0).put Reg.BIST_STAT_TEST 0xF
/-- The domains beyond the kettle fail at once (R72, R637): pending operations end, and what they held is lost. -/
def State.domainsFail (s : State) (keep : Packet → Bool) : State :=
  let s1 := (s.plinthLeaves.abandonOps keep (Ans.code 0xE (0x100 + 3))).enterHoldover
  let s2 := s1.fabricLost.fabricOff.losePlinth.loseCaddy.loseSave.dropBist
  { s2 with pwr := { s2.pwr with halted := [], haltedEng := [], req := none, fromDoze := false, castAfter := false, wakeAfter := none },
            time := { s2.time with pps := false } }
/-- The kettle drops every enable and stays in SLEEP until the next wake. -/
def State.fallToSleep (s : State) : State :=
  let s1 := (s.domainsFail (fun _ => false)).vaultSleep
  let s2 := ({ s1 with pwr := { s1.pwr with stage := .none } }.put Reg.PWR_STATE_CUR 3).put Reg.PWR_STATE_TGT 0
  (s2.setFlag Reg.PWR_STATE_MOVING false).enablesFall

/-! ### The plinth starts (R15, R449, R505) -/

/-- The quads' owners, rates and references as the plinth starts (Table LANE-1). -/
def State.quadStart (s : State) (q : Nat) : State :=
  if q = 7 then s.setQuad q 2 0 1
  else if q = 6 ∧ s.nativeOwner 6 = 1 then s.setQuad q 1 1 0
  else s.setQuad q 0 8 1
/-- What ENS_RESOLVE decided and an open hold outlive SLEEP: EXCLUDE until an ENS_JOIN or a start from OFF, HELD until an ENS_RESOLVE (R523). -/
def State.stillOut (s : State) : State :=
  if s.ens.out then (s.put Reg.ENS_STAT_STATE 4).put Reg.ENS_REASON_REASON 7
  else if s.ens.hold then (s.put Reg.ENS_STAT_STATE 5).put Reg.ENS_REASON_REASON 6
  else s
/-- The steward starts: straps, quads, the stored join descriptor, the PTP settings in force, and the mailbox answers. -/
def State.plinthStart (s : State) : State :=
  let s1 := (s.put Reg.LANE_REF_Q6_SEL (s.get Reg.SYS_STRAP_Q6_SEL)).put Reg.ENS_STAT_ID (s.get Reg.SYS_STRAP_ENS_ID)
  let s2 := (List.range 8).foldl State.quadStart s1
  let d := s2.ens.desc
  let s3 := if d = [] ∨ leAt d 5 1 * leAt d 6 1 * leAt d 7 1 ≤ s2.ensId then s2 else s2.applyDesc.forming.stillOut
  let s4 := { s3 with time := { s3.time with ptpLive := s3.time.cfg, firstDone := false } }.setSrcAct
  (s4.setFlag Reg.MBX_STATUS_READY true).put Reg.PWR_STATE_CUR 0

end Sys2Proof.Machine
end

