-- ==== Sys2Proof/Machine/Flags.lean ====
section
/-! DEFINITION. Limits, rounding and the sticky overflow flags of the signal engines (R254, R255, Table SIG-2). -/

namespace Sys2Proof.Machine

/-- An accumulation's result and whether it overflowed (R254): with SAT clamped to 32 bits, without it wrapped at 40 bits. -/
def accLimit (sat : Bool) (i : Int) : Int × Bool :=
  let r := if sat then satS 32 i else sgn 40 (unsgn 40 i)
  (r, decide (r ≠ i))
/-- An extraction's element and whether it overflowed (R255): half rounded up, shifted, then clamped or cut to 16 bits. -/
def extract (sat : Bool) (sh : Nat) (acc : Int) : Int × Bool :=
  let v := if sh = 0 then acc else (acc + 2 ^ (sh - 1)) / 2 ^ sh
  let r := if sat then satS 16 v else sgn 16 (unsgn 16 v)
  (r, decide (r ≠ v))
/-- The sticky OVF bits after slices overflowed: bit s for slice s. -/
def ovfBits (old : Nat) (l : List (Nat × Bool)) : Nat := l.foldl (fun v e => if e.2 then v ||| 2 ^ e.1 else v) old

end Sys2Proof.Machine
end

