-- ==== Sys2Proof/Machine/Engines.lean ====
section
/-! DEFINITION. Signal engines (chapter 9): address generators, instructions, repeats, interrupts, stalls, the window. -/

namespace Sys2Proof.Machine

/-! ### An engine's parts -/

/-- An engine's record beside its registers. -/
def State.ex (s : State) (e : Nat) : EngX := tget EngX.fresh s.eng e
def State.setEx (s : State) (e : Nat) (x : EngX) : State := { s with eng := tput EngX.fresh s.eng e x }
/-- The region of an engine, as its bit of a region mask. -/
def engRegion (e : Nat) : Nat := e / 3
/-- The instruction at an address. -/
def State.engWord (s : State) (e pc : Nat) : Nat := s.wget (engWin e + 4 * pc)
/-- Element k of a bank (0 X, 1 Y): two to a word of the window (R253). -/
def elemAddr (e bank k : Nat) : Nat := engWin e + 0x2000 + 0x2000 * bank + 4 * (k / 2)
def State.elem (s : State) (e bank k : Nat) : Int := sgn 16 (s.wget (elemAddr e bank k) / 2 ^ (16 * (k % 2)))
/-- An element as an instruction reads it: one that either of the last two instructions wrote reads old (R259). -/
def State.elemOld (s : State) (e bank k : Nat) : Int :=
  match ((s.ex e).recent.reverse.flatten).find? (fun r => r.1 == bank && r.2.1 == k) with
  | some r => r.2.2
  | none => s.elem e bank k
def State.setElem (s : State) (e bank k : Nat) (v : Int) : State :=
  s.wput (elemAddr e bank k) (setBits (s.wget (elemAddr e bank k)) (16 * (k % 2)) 16 (unsgn 16 v))

/-! ### Address generators (R257) -/

/-- The address of element i of an access. -/
def Ag.addr (g : Ag) (i : Nat) : Nat := (g.b + (((g.p : Int) - g.b + i) % g.l).toNat) % 4096
/-- P moved by a signed step, within the buffer. -/
def Ag.step (g : Ag) (m : Int) : Ag := { g with p := (g.b + (((g.p : Int) - g.b + m) % g.l).toNat) % 4096 }
/-- The generator of a bank. -/
def EngX.ag (x : EngX) (k : Nat) : Ag := if k = 0 then x.ag0 else x.ag1
def EngX.setAg (x : EngX) (k : Nat) (g : Ag) : EngX := if k = 0 then { x with ag0 := g } else { x with ag1 := g }
/-- A post-modify where asked for. -/
def State.agPost (s : State) (e k : Nat) (u : Bool) : State :=
  let x := s.ex e
  if u then s.setEx e (x.setAg k ((x.ag k).step (x.ag k).m)) else s
/-- n elements of a bank as read. -/
def State.readVec (s : State) (e bank n : Nat) : List Int :=
  (List.range n).map (fun i => s.elemOld e bank (((s.ex e).ag bank).addr i))
/-- Elements written to a bank, the old values kept for R259. -/
def State.writeVec (s : State) (e bank : Nat) (vs : List Int) : State :=
  let g := (s.ex e).ag bank
  let ks := (List.range vs.length).map g.addr
  let olds := ks.map (fun k => (bank, k, s.elem e bank k))
  let s1 := (ks.zip vs).foldl (fun s p => s.setElem e bank p.1 p.2) s
  let x := s1.ex e
  s1.setEx e { x with recent := match x.recent with | [] => [olds] | r :: rs => (r ++ olds) :: rs }

/-! ### Ports (R268) -/

/-- The queue block of a port. -/
def State.portBlock (s : State) (l : List (Nat × Nat)) (e : Nat) : Option QbCfg :=
  match l.find? (fun p => p.1 == e) with
  | some p => (match s.qbCfg p.2 with | some c => if c.isFifo then some c else none | none => none)
  | none => none
/-- IN holds an entry that the engine sees; OUT takes one. -/
def State.inReady (s : State) (e : Nat) : Bool := match s.portBlock s.fab.pers.inQb e with | some c => !s.qbEmpty c | none => false
def State.outReady (s : State) (e : Nat) : Bool := match s.portBlock s.fab.pers.outQb e with | some c => !s.qbFull c | none => false
/-- One entry taken from IN as its four elements. -/
def State.takeIn (s : State) (e : Nat) : State × List Int :=
  match s.portBlock s.fab.pers.inQb e with
  | some c =>
    let v := (s.qb c.qb).entries.headD 0
    (s.fifoPop c, (List.range 4).map (fun k => sgn 16 (v / 2 ^ (16 * k))))
  | none => (s, [0, 0, 0, 0])
/-- Elements put to OUT; those the instruction does not give are free values. -/
def State.putOut (s : State) (e : Nat) (vs : List Int) : State :=
  match s.portBlock s.fab.pers.outQb e with
  | some c =>
    let n := (List.range 4).foldl (fun x k => x + (match vs[k]? with | some v => unsgn 16 v | none => bits (s.drawn 64) (16 * k) 16) * 2 ^ (16 * k)) 0
    (if vs.length < 4 then s.draw else s).fifoPush c n
  | none => s

/-! ### Encodings (R258, Table SIG-3) -/

/-- The OPs of Table SIG-3. -/
def engOps : List Nat := [0, 1, 2, 3, 4, 5, 6, 7, 0x10, 0x11, 0x12, 0x13, 0x14, 0x15, 0x16, 0x18, 0x19]
/-- The OP of a word. -/
def engOp (w : Nat) : Nat := bits w 27 5
/-- An ILLEGAL word. -/
def engIllegal (w : Nat) : Bool :=
  let op := engOp w
  let z (lo n : Nat) : Bool := bits w lo n != 0
  if op = 0 ∨ op = 0x15 ∨ op = 0x16 then z 0 27
  else if op = 1 ∨ op = 2 ∨ op = 3 then
    let mode := bits w 24 2
    let xs := bits w 22 2
    let ys := bits w 20 2
    mode == 3 || z 0 18 || (mode != 0 && (xs == 1 || ys == 1 || ys == 3)) || (xs == 3 && ys == 3)
  else if op = 4 then bits w 24 2 == 3 || bits w 17 2 == 3 || z 0 16
  else if op = 5 then decide (24 < bits w 21 5) || bits w 19 2 == 3 || z 0 18
  else if op = 6 then bits w 24 2 == 3 || bits w 22 2 == 3 || (bits w 24 2 == bits w 22 2 && bits w 24 2 != 2) || z 0 20
  else if op = 7 then decide (5 ≤ bits w 23 3) || z 12 11
  else if op = 0x10 then z 10 17
  else if op = 0x11 then false
  else if op = 0x12 then decide (5 ≤ bits w 24 3) || z 11 10
  else if op = 0x13 then z 8 19
  else if op = 0x14 then z 4 23
  else if op = 0x18 then z 0 16
  else if op = 0x19 then z 0 16 || bit w 26
  else true
/-- The word reads IN or writes OUT. -/
def usesIn (w : Nat) : Bool :=
  let op := engOp w
  ((op == 1 || op == 2 || op == 3) && (bits w 22 2 == 3 || bits w 20 2 == 3)) || (op == 4 && bits w 24 2 == 2 && bits w 17 2 == 2) ||
    (op == 6 && bits w 24 2 == 2)
def usesOut (w : Nat) : Bool := (engOp w == 5 && bits w 19 2 == 2) || (engOp w == 6 && bits w 22 2 == 2)
/-- The word may follow an RPT (R260). -/
def repeatable (w : Nat) : Bool := decide (engOp w ≤ 7) && !engIllegal w && !usesIn w && !usesOut w

/-! ### Data instructions (R254–R258) -/

/-- OVF bits added. -/
def State.addOvf (s : State) (e : Nat) (l : List (Nat × Bool)) : State := s.put (Reg.ENG_STAT_OVF e) (ovfBits (s.get (Reg.ENG_STAT_OVF e)) l)
/-- The four X operands of MPY, MAC and MSU: vector (in complex mode real and imaginary part twice), broadcast, hold, IN. -/
def xOperands (cx : Bool) (src : Nat) (vec hold inp : List Int) : List Int :=
  let v := if src = 3 then inp else vec
  if src = 2 then hold
  else if cx then [v.getD 0 0, v.getD 1 0, v.getD 0 0, v.getD 1 0]
  else if src = 1 then List.replicate 4 (v.getD 0 0)
  else v
/-- The four Y operands: IN broadcasts its element 0. -/
def yOperands (cx : Bool) (src : Nat) (vec hold inp : List Int) : List Int :=
  if src = 2 then hold
  else if src = 3 then List.replicate 4 (inp.getD 0 0)
  else if cx then [vec.getD 0 0, vec.getD 1 0, vec.getD 1 0, vec.getD 0 0]
  else if src = 1 then List.replicate 4 (vec.getD 0 0)
  else vec
/-- What the slices form: the products, or the two exact sums of complex mode for ACC0 and ACC2 (R256). -/
def sliceTerms (mode : Nat) (x y : List Int) : List (Nat × Int) :=
  let p (k : Nat) : Int := x.getD k 0 * y.getD k 0
  if mode = 0 then [(0, p 0), (1, p 1), (2, p 2), (3, p 3)]
  else if mode = 1 then [(0, p 0 - p 1), (2, p 2 + p 3)]
  else [(0, p 0 + p 1), (2, p 3 - p 2)]
/-- MPY, MAC, MSU: fn 0 stores, 1 adds, 2 subtracts. -/
def State.engMul (s : State) (e w fn : Nat) : State :=
  let mode := bits w 24 2
  let xs := bits w 22 2
  let ys := bits w 20 2
  let x := s.ex e
  let r := if usesIn w then s.takeIn e else (s, [0, 0, 0, 0])
  let xv := xOperands (mode != 0) xs (s.readVec e 0 4) x.xr r.2
  let yv := yOperands (mode != 0) ys (s.readVec e 1 4) x.yr r.2
  let outs := (sliceTerms mode xv yv).map (fun t =>
    let a := x.acc.getD t.1 0
    (t.1, accLimit (bit w 26) (if fn = 0 then t.2 else if fn = 1 then a + t.2 else a - t.2)))
  let acc := outs.foldl (fun l o => l.set o.1 o.2.1) x.acc
  let s1 := r.1.setEx e { r.1.ex e with acc := acc, xr := xv, yr := yv, mode := mode }
  ((s1.addOvf e (outs.map (fun o => (o.1, o.2.2)))).agPost e 0 (bit w 19)).agPost e 1 (bit w 18)
/-- ACC: ZERO, SUM, LDA. -/
def State.engAccDo (s : State) (e w : Nat) : State :=
  let x := s.ex e
  let fn := bits w 24 2
  let sat := bit w 26
  if fn = 0 then s.setEx e { x with acc := [0, 0, 0, 0] }
  else if fn = 1 then
    let r := accLimit sat x.acc.sum
    (s.setEx e { x with acc := x.acc.set 0 r.1 }).addOvf e [(0, r.2)]
  else
    let src := bits w 17 2
    let r := if src = 2 then s.takeIn e else (s, s.readVec e src 4)
    let outs := r.2.map (fun v => accLimit sat (v * 2 ^ bits w 19 5))
    let s1 := (r.1.setEx e { r.1.ex e with acc := outs.map Prod.fst }).addOvf e (outs.zipIdx.map (fun o => (o.2, o.1.2)))
    if src = 2 then s1 else s1.agPost e src (bit w 16)
/-- EXT: in complex mode two elements, ACC0 and ACC2 (R256). -/
def State.engExtDo (s : State) (e w : Nat) : State :=
  let x := s.ex e
  let ks := if x.mode = 0 then [0, 1, 2, 3] else [0, 2]
  let outs := ks.map (fun k => (k, extract (bit w 26) (bits w 21 5) (x.acc.getD k 0)))
  let s1 := s.addOvf e (outs.map (fun o => (o.1, o.2.2)))
  let vs := outs.map (fun o => o.2.1)
  let dst := bits w 19 2
  if dst = 2 then s1.putOut e vs else (s1.writeVec e dst vs).agPost e dst (bit w 18)
/-- MOV. -/
def State.engMovDo (s : State) (e w : Nat) : State :=
  let n := if bit w 26 then 1 else 4
  let src := bits w 24 2
  let dst := bits w 22 2
  let r := if src = 2 then s.takeIn e else (s, s.readVec e src n)
  let vs := r.2.take n
  let s1 := if dst = 2 then r.1.putOut e vs else r.1.writeVec e dst vs
  let s2 := if src = 2 then s1 else s1.agPost e src (bit w 21)
  if dst = 2 then s2 else s2.agPost e dst (bit w 20)
/-- SETAG. -/
def State.setagDo (s : State) (e w : Nat) : State :=
  let x := s.ex e
  let k := bits w 26 1
  let g := x.ag k
  let v := bits w 0 12
  let reg := bits w 23 3
  let g1 : Ag := if reg = 0 then { g with p := v } else if reg = 1 then { g with m := sgn 12 v } else if reg = 2 then { g with b := v }
    else if reg = 3 then { g with l := v + 1 } else g.step (sgn 12 v)
  s.setEx e (x.setAg k g1)
/-- A data instruction, none where it stalls on a port. -/
def State.engData (s : State) (e w : Nat) : Option State :=
  if (usesIn w && !s.inReady e) || (usesOut w && !s.outReady e) then none
  else
    let x := s.ex e
    let s1 := s.setEx e { x with recent := [] :: x.recent.take 2 }
    let op := engOp w
    some (if op = 1 then s1.engMul e w 0 else if op = 2 then s1.engMul e w 1 else if op = 3 then s1.engMul e w 2 else if op = 4 then s1.engAccDo e w
      else if op = 5 then s1.engExtDo e w else if op = 6 then s1.engMovDo e w else if op = 7 then s1.setagDo e w else s1)

/-! ### Sequencing (R259–R262) -/

/-- The cycle counter advanced (Table SIG-4). -/
def State.engCycles (s : State) (e n : Nat) : State := s.put (Reg.ENG_CYC_CYCLES e) (s.get (Reg.ENG_CYC_CYCLES e) + n)
/-- Where a program goes after the instruction at `pc`, open levels innermost first (R261). -/
def blkNext : List EngBlk → Nat → List EngBlk × Nat
  | [], pc => ([], (pc + 1) % 2048)
  | l :: ls, pc =>
    if l.last = pc then (if l.left ≤ 1 then blkNext ls pc else ({ l with left := l.left - 1 } :: ls, l.first))
    else (l :: ls, (pc + 1) % 2048)
/-- The open levels stored, outermost first; BDEPTH follows. -/
def State.setBlocks (s : State) (e : Nat) (l : List EngBlk) : State :=
  (s.setEx e { s.ex e with blocks := l }).put (Reg.ENG_STAT_BDEPTH e) l.length
/-- PC moved past the instruction at it. -/
def State.engStep (s : State) (e : Nat) : State :=
  let r := blkNext (s.ex e).blocks.reverse (s.get (Reg.ENG_STAT_PC e))
  (s.setBlocks e r.1.reverse).put (Reg.ENG_STAT_PC e) r.2
/-- An engine fault (R272): the instruction is not executed. -/
def State.engFault (s : State) (e code : Nat) : State :=
  let s1 := s.setEx e { s.ex e with rpt := 0, stall := none, haltReq := false }
  let s2 := ((s1.put (Reg.ENG_STAT_RPT e) 0).put (Reg.ENG_STAT_RUN e) 0).put (Reg.ENG_STAT_FAULT e) code
  s2.logEvent 0x0505 e (leBytes 1 code ++ leBytes 2 (s2.get (Reg.ENG_STAT_PC e)))

/-! ### Boundaries: halts and interrupts (R264–R267) -/

/-- The events that are pending and enabled. -/
def State.engDue (s : State) (e : Nat) : Nat := s.get (Reg.ENG_EVT_PEND e) &&& s.get (Reg.ENG_EVT_IEN e)
/-- The lowest bit set of eight. -/
def lowBit (m : Nat) : Nat := ((List.range 8).find? (fun k => bit m k)).getD 0
/-- A stall that has its answer, or a WAIT whose event has come, proceeds before anything else happens at the boundary. -/
def State.stallWins (s : State) (e : Nat) : Bool :=
  match (s.ex e).stall with
  | some .event => bits (s.engWord e (s.get (Reg.ENG_STAT_PC e))) 0 8 &&& s.get (Reg.ENG_EVT_PEND e) != 0
  | some (.hq key) => (match s.hqOp key with | some o => (match o.phase with | .resp _ _ => true | _ => false) | none => false)
  | _ => false
/-- A stall abandoned without effect. -/
def State.engUnstall (s : State) (e : Nat) : State :=
  let x := s.ex e
  let s1 := match x.stall with
    | some (.hq key) => s.cancelHq key
    | _ => s
  if x.stall = none then s1 else s1.draw.setEx e { s1.ex e with stall := none } |>.engCycles e (1 + s.drawn 32)
/-- An instruction boundary outside an RPT: a halt asked for takes effect, else the lowest enabled pending event interrupts. -/
def State.engBoundary (s : State) (e : Nat) : State :=
  let x := s.ex e
  if !s.flag (Reg.ENG_STAT_RUN e) || x.rpt != 0 || s.stallWins e then s
  else if x.haltReq then ((s.engUnstall e).setEx e { (s.engUnstall e).ex e with haltReq := false }).put (Reg.ENG_STAT_RUN e) 0
  else if s.engDue e = 0 ∨ s.flag (Reg.ENG_STAT_INTR e) then s
  else
    let k := lowBit (s.engDue e)
    let s1 := s.engUnstall e
    let s2 := (((s1.clrBits (Reg.ENG_EVT_PEND e) (2 ^ k)).put (Reg.ENG_IPC_IPC e) (s1.get (Reg.ENG_STAT_PC e))).put (Reg.ENG_STAT_PC e) (0x7F8 + k)).put
      (Reg.ENG_STAT_INTR e) 1
    (s2.setEx e { s2.ex e with entryDepth := x.blocks.length }).engCycles e 4
/-- An instruction is done after `n` cycles, its successor standing at PC. -/
def State.engDone (s : State) (e n : Nat) : State := (s.engCycles e n).engBoundary e
/-- A data instruction is done: under RPT it is issued again until the count runs out (R260). -/
def State.engDataDone (s : State) (e : Nat) : State :=
  let x := s.ex e
  if x.rpt = 0 then (s.engStep e).engDone e 1
  else
    let s1 := (s.setEx e { x with rpt := x.rpt - 1 }).put (Reg.ENG_STAT_RPT e) (b2n (x.rpt != 1))
    if x.rpt = 1 then (s1.engStep e).engDone e 1 else s1.engCycles e 1
/-- The engine can issue: its clock runs, and at a boundary neither a freeze nor quiescing holds it; an RPT, and an instruction whose stall
has its answer, finish first (R209, R252, R273). -/
def State.engRuns (s : State) (e : Nat) : Bool :=
  s.coresRun && s.castRuns && s.flag (Reg.ENG_STAT_RUN e) &&
    ((s.ex e).rpt != 0 || (!s.frozen (engRegion e) && (!s.quiescing || s.stallWins e)))
/-- The repeat in progress runs to its end, at most `n` issues (R260). -/
def State.rptRun : Nat → State → Nat → State
  | 0, s, _ => s
  | n + 1, s, e =>
    if (s.ex e).rpt = 0 || !s.engRuns e then s
    else match s.engData e (s.engWord e (s.get (Reg.ENG_STAT_PC e))) with
      | some s1 => State.rptRun n (s1.engDataDone e) e
      | none => s
/-- A CSR access to a word of a bank is served: it waits until an RPT that runs has ended (R260), and where the engine goes on issuing it
has cost it one cycle or none, a free value, for the manual does not say when the port is free (R271). -/
def State.bankServe (s : State) (a : Nat) : State :=
  let e := (a - 0x1C00000) / 0x8000
  if 0x1C00000 ≤ a ∧ a < 0x1F00000 ∧ 0x2000 ≤ a % 0x8000 ∧ a % 0x8000 < 0x6000 then
    let s1 := s.rptRun (s.ex e).rpt e
    if s1.engRuns e && (s1.ex e).stall.isNone then s1.draw.engCycles e (s1.drawn 1) else s1
  else s
/-- One instruction row: the instruction at PC is this row's, or of an OP that no row has; an ILLEGAL one faults. -/
def State.engRow (s : State) (e op : Nat) (f : State → Nat → State) : Host.Outcome State Fault Refusal :=
  if !s.engRuns e || (s.ex e).stall.isSome then .next s
  else
    let s1 := s.engBoundary e
    let w := s1.engWord e (s1.get (Reg.ENG_STAT_PC e))
    if !s1.flag (Reg.ENG_STAT_RUN e) then .next s1
    else if engOp w != op && engOps.contains (engOp w) then .next s
    else if engIllegal w then .next (s1.engFault e 1)
    else .next (f s1 w)
/-- A data instruction's row. -/
def State.engDataRow (s : State) (e op : Nat) : Host.Outcome State Fault Refusal :=
  s.engRow e op (fun s w =>
    match s.engData e w with
    | some s1 => s1.engDataDone e
    | none => s.setEx e { s.ex e with stall := some .port })

/-- NOP (Table SIG-3). -/
def execEngNop (e : Fin 96) (s : State) : Host.Outcome State Fault Refusal := s.engDataRow e.val 0
/-- MPY (R254). -/
def execMpy (e : Fin 96) (s : State) : Host.Outcome State Fault Refusal := s.engDataRow e.val 1
/-- MAC (R254). -/
def execMac (e : Fin 96) (s : State) : Host.Outcome State Fault Refusal := s.engDataRow e.val 2
/-- MSU (R254). -/
def execMsu (e : Fin 96) (s : State) : Host.Outcome State Fault Refusal := s.engDataRow e.val 3
/-- ACC (Table SIG-3). -/
def execEngAcc (e : Fin 96) (s : State) : Host.Outcome State Fault Refusal := s.engDataRow e.val 4
/-- EXT (R255). -/
def execExt (e : Fin 96) (s : State) : Host.Outcome State Fault Refusal := s.engDataRow e.val 5
/-- MOV (Table SIG-3). -/
def execMov (e : Fin 96) (s : State) : Host.Outcome State Fault Refusal := s.engDataRow e.val 6
/-- SETAG (R257). -/
def execSetag (e : Fin 96) (s : State) : Host.Outcome State Fault Refusal := s.engDataRow e.val 7

/-- RPT's effect: the instruction to repeat is the next one, and the engine faults here where it may not be repeated. -/
def State.rptDo (s : State) (e w : Nat) : State :=
  let s1 := s.engStep e
  if !repeatable (s.engWord e (s1.get (Reg.ENG_STAT_PC e))) then s.engFault e 1
  else
    let x := s1.ex e
    ((s1.setEx e { x with rpt := bits w 0 10 + 1, recent := [] :: x.recent.take 2 }).put (Reg.ENG_STAT_RPT e) 1).engCycles e 1
/-- RPT (R260). -/
def execRpt (e : Fin 96) (s : State) : Host.Outcome State Fault Refusal := s.engRow e.val 0x10 (fun s w => s.rptDo e.val w)
/-- Instructions that write no element leave an empty entry for R259. -/
def State.engAge (s : State) (e : Nat) : State := s.setEx e { s.ex e with recent := [] :: (s.ex e).recent.take 2 }
/-- BLK's effect. A level that a handler opens nests in those the handler has opened, not in the interrupted program's (R261, R266). -/
def State.blkDo (s : State) (e w : Nat) : State :=
  let x := s.ex e
  let open_ := if s.flag (Reg.ENG_STAT_INTR e) then x.blocks.drop x.entryDepth else x.blocks
  let first := (s.get (Reg.ENG_STAT_PC e) + 1) % 2048
  let last := bits w 16 11
  let inside := match open_.getLast? with
    | some o => decide (o.first ≤ first ∧ last ≤ o.last)
    | none => true
  if x.blocks.length = 3 then s.engFault e 3
  else if !inside || decide (last < first) then s.engFault e 2
  else
    let l : EngBlk := { first := first, last := last, left := bits w 0 16 + 1 }
    (((s.engAge e).setBlocks e (x.blocks ++ [l])).put (Reg.ENG_STAT_PC e) first).engDone e 1
/-- BLK (R261). -/
def execBlk (e : Fin 96) (s : State) : Host.Outcome State Fault Refusal := s.engRow e.val 0x11 (fun s w => s.blkDo e.val w)
/-- Levels closed by a jump, innermost first (R262). -/
def blkLeave (target : Nat) : List EngBlk → List EngBlk
  | [] => []
  | l :: ls => if l.first ≤ target ∧ target ≤ l.last then l :: ls else blkLeave target ls
/-- JMP's condition. -/
def State.jmpTaken (s : State) (e w : Nat) : Bool :=
  let c := bits w 24 3
  if c = 0 then true
  else if c = 1 then bit (s.get (Reg.ENG_EVT_PEND e)) (bits w 21 3)
  else if c = 2 then s.inReady e
  else if c = 3 then s.outReady e
  else s.get (Reg.ENG_STAT_OVF e) != 0
/-- JMP's effect. -/
def State.jmpDo (s : State) (e w : Nat) : State :=
  let t := bits w 0 11
  if s.jmpTaken e w then
    let s1 := if bits w 24 3 = 1 then s.clrBits (Reg.ENG_EVT_PEND e) (2 ^ bits w 21 3) else s
    (((s1.engAge e).setBlocks e (blkLeave t (s1.ex e).blocks.reverse).reverse).put (Reg.ENG_STAT_PC e) t).engDone e 3
  else ((s.engAge e).engStep e).engDone e 1
/-- JMP (R262). -/
def execEngJmp (e : Fin 96) (s : State) : Host.Outcome State Fault Refusal := s.engRow e.val 0x12 (fun s w => s.jmpDo e.val w)
/-- WAIT's effect: the lowest pending bit of MASK cleared, or a stall. -/
def State.waitDo (s : State) (e w : Nat) : State :=
  let m := bits w 0 8 &&& s.get (Reg.ENG_EVT_PEND e)
  if m = 0 then s.setEx e { s.ex e with stall := some .event }
  else (((s.clrBits (Reg.ENG_EVT_PEND e) (2 ^ lowBit m)).engAge e).engStep e).engDone e 1
/-- WAIT (R267). -/
def execWait (e : Fin 96) (s : State) : Host.Outcome State Fault Refusal := s.engRow e.val 0x13 (fun s w => s.waitDo e.val w)
/-- SIGO (R267). -/
def execSigo (e : Fin 96) (s : State) : Host.Outcome State Fault Refusal :=
  s.engRow e.val 0x14 (fun s w =>
    let s1 := s.engAge e.val
    ((s1.setEx e.val { s1.ex e.val with eo := (s1.ex e.val).eo ^^^ bits w 0 4 }).engStep e.val).engDone e.val 1)
/-- RETI's effect. -/
def State.retiDo (s : State) (e : Nat) : State :=
  let x := s.ex e
  if s.flag (Reg.ENG_STAT_INTR e) && decide (x.entryDepth < x.blocks.length) then s.engFault e 2
  else (((s.engAge e).put (Reg.ENG_STAT_INTR e) 0).put (Reg.ENG_STAT_PC e) (s.get (Reg.ENG_IPC_IPC e))).engDone e 3
/-- RETI (R264, R266). -/
def execReti (e : Fin 96) (s : State) : Host.Outcome State Fault Refusal := s.engRow e.val 0x15 (fun s _ => s.retiDo e.val)
/-- STOP (R267). -/
def execEngStop (e : Fin 96) (s : State) : Host.Outcome State Fault Refusal :=
  s.engRow e.val 0x16 (fun s _ => (((s.engAge e.val).engStep e.val).engCycles e.val 1).put (Reg.ENG_STAT_RUN e.val) 0)
/-- HPOP and HPUSH issue their operation and stall until its answer. -/
def State.engHqIssue (s : State) (e w : Nat) (push : Option Nat) : State :=
  let r := s.issueHq (.engine e) (bits w 16 10) push
  r.1.setEx e { r.1.ex e with stall := some (.hq r.2) }
/-- HPOP (R269). -/
def execEngHpop (e : Fin 96) (s : State) : Host.Outcome State Fault Refusal := s.engRow e.val 0x18 (fun s w => s.engHqIssue e.val w none)
/-- HPUSH (R269). -/
def execEngHpush (e : Fin 96) (s : State) : Host.Outcome State Fault Refusal :=
  s.engRow e.val 0x19 (fun s w => s.engHqIssue e.val w (some (s.ex e.val).hr))
/-- A handle popped: HR, and B and P of the named generator from the buffer number. -/
def State.engPopped (s : State) (e w h : Nat) : State :=
  let x := s.ex e
  let k := bits w 26 1
  let g := x.ag k
  let v := bits h 12 12
  s.setEx e { x.setAg k { g with b := v, p := v } with hr := h }
/-- A handle queue operation answered; a refusal faults HQ_ERR (R272). -/
def State.engHqEnd (s : State) (e w key : Nat) : State :=
  match s.hqOp key with
  | none => s
  | some o =>
    match o.phase with
    | .resp code value =>
      let s1 := (s.hqDrop key).draw.setEx e { (s.hqDrop key).ex e with stall := none }
      if code ≠ 0 then s1.engFault e 4
      else
        let s2 := if o.push.isSome then s1 else s1.engPopped e w value
        ((s2.engAge e).engStep e).engDone e (1 + s.drawn 32)
    | _ => s
/-- ENG_STALL_RELEASE: what the instruction stalls on has come, and it proceeds (Table SIG-4). The cycles of the stall are a free value. -/
def execEngStallRelease (e : Fin 96) (s : State) : Host.Outcome State Fault Refusal :=
  let e := e.val
  let w := s.engWord e (s.get (Reg.ENG_STAT_PC e))
  let free := s.draw.setEx e { s.ex e with stall := none } |>.engCycles e (s.drawn 32)
  if !s.engRuns e then .next s
  else match (s.ex e).stall with
    | none => .next s
    | some .port => (match free.engData e w with | some s1 => .next (s1.engDataDone e) | none => .next s)
    | some .event => .next (if s.stallWins e then free.waitDo e w else s)
    | some (.hq key) => .next (s.engHqEnd e w key)

/-! ### Events and the window (R263, R267, R271, R274) -/

/-- ENG_EVENT_EDGE: PEND bit k sets; no edge is seen in IDLE or behind a freeze wall (R202, R252). -/
def execEngEventEdge (e : Fin 96) (k : Fin 8) (s : State) : Host.Outcome State Fault Refusal :=
  if s.coresRun && s.castRuns && !s.frozen (engRegion e.val) then
    .next ((s.orBits (Reg.ENG_EVT_PEND e.val) (2 ^ k.val)).engBoundary e.val)
  else .next s
/-- A halted engine starts at PC. -/
def State.engGo (s : State) (e : Nat) : State := (s.engStart e).engBoundary e
/-- GO_EDGE: a halted engine without a fault goes on at PC (R267, R272). -/
def execGoEdge (e : Fin 96) (s : State) : Host.Outcome State Fault Refusal :=
  if s.coresRun && s.castRuns && !s.frozen (engRegion e.val) && s.get (Reg.ENG_STAT_FAULT e.val) == 0 && !s.flag (Reg.ENG_STAT_RUN e.val) then
    .next (s.engGo e.val)
  else .next s
/-- A halt asked for (R264): at once at a boundary or in a stall, after an RPT in progress or a handle that has come. -/
def State.engHalt (s : State) (e : Nat) : State :=
  if s.flag (Reg.ENG_STAT_RUN e) then (s.setEx e { s.ex e with haltReq := true }).engBoundary e else s
/-- HALT: the engine halts, and does not go on where an entry that has halted it is aborted. -/
def State.engHaltAsk (s : State) (e : Nat) : State :=
  ({ s with pwr := { s.pwr with haltedEng := s.pwr.haltedEng.filter (· != e) } }).engHalt e
/-- Quiescing halts every running engine at an instruction boundary (R273); an engine that a HALT has asked to halt stays halted. -/
def State.quiesceEngines (s : State) : State :=
  let run := (List.range 96).filter (fun e => s.flag (Reg.ENG_STAT_RUN e))
  let s1 := { s with pwr := { s.pwr with haltedEng := run.filter (fun e => !(s.ex e).haltReq) } }
  run.foldl State.engHalt s1
/-- A write of ENG_CTRL: PC, then CLR_FAULT, HALT, START (Table SIG-6). -/
def State.engCtrlWrite (s : State) (e w : Nat) : State :=
  let s1 := s.put (Reg.ENG_CTRL_PC e) (bits w 16 11)
  let s2 := if bit w 2 then s1.put (Reg.ENG_STAT_FAULT e) 0 else s1
  let s3 := if bit w 0 then s2.engHaltAsk e else s2
  if bit w 1 && !s3.flag (Reg.ENG_STAT_RUN e) && s3.get (Reg.ENG_STAT_FAULT e) == 0 then
    (s3.put (Reg.ENG_STAT_PC e) (s3.get (Reg.ENG_CTRL_PC e))).engGo e
  else s3
/-- ENG_START: a write of ENG_CTRL with START set (R267). -/
def execEngStart (e : Fin 96) (w : Word) (s : State) : Host.Outcome State Fault Refusal :=
  .next (if s.fabricPowered && bit w.toNat 1 then s.engCtrlWrite e.val w.toNat else s)
/-- ENG_HALT: a write of ENG_CTRL with HALT set (R264). -/
def execEngHalt (e : Fin 96) (w : Word) (s : State) : Host.Outcome State Fault Refusal :=
  .next (if s.fabricPowered && bit w.toNat 0 then s.engCtrlWrite e.val w.toNat else s)
/-- ENG_CLR_FAULT: a write of ENG_CTRL with CLR_FAULT set (R272). -/
def execEngClrFault (e : Fin 96) (w : Word) (s : State) : Host.Outcome State Fault Refusal :=
  .next (if s.fabricPowered && bit w.toNat 2 then s.engCtrlWrite e.val w.toNat else s)
/-- A word of an engine's memories as a CSR read shows it: zero after an encrypted cast (R186). -/
def State.engMemWord (s : State) (a : Nat) : Nat := if s.flag Reg.CAST_STATUS_ENCRYPTED then 0 else s.wget a
/-- ENG_MEMORY_ACCESS (R271): bank accesses wait while an RPT runs; an instruction memory write while RUN is 1 is discarded with WERR. -/
def execEngMemoryAccess (e : Fin 96) (off : Fin 24576) (wr : Option Word) (s : State) : Host.Outcome State Fault Refusal :=
  let o := off.val / 4 * 4
  let a := engWin e.val + o
  if !s.fabricPowered then .next s
  else match wr with
    | none =>
      let s1 := s.bankServe a
      .next { s1 with addr := { s1.addr with readData := s1.engMemWord a } }
    | some w =>
      if o < 0x2000 ∧ s.flag (Reg.ENG_STAT_RUN e.val) then .next (s.put (Reg.ENG_STAT_WERR e.val) 1)
      else .next ((s.bankServe a).wput a w.toNat)

end Sys2Proof.Machine
end

