-- ==== Sys2Proof/Machine/Power.lean ====
section
/-! DEFINITION. Power states: entries to IDLE, DOZE and SLEEP, exits to RUN, rails, clocks, wake sources, and the power-state commands
(chapter 3). -/

namespace Sys2Proof.Machine

/-! ### Quiescing (R77, R156, R189, R210, R273) -/

/-- A chain that has opened a load or a recast is abandoned; an abandoned load leaves no cast to restore (R189). -/
def State.dropCastChain (s : State) : State :=
  match s.cast.chain with
  | none => s
  | some (i, re) =>
    let t := s.stream i
    let t1 := match t.chain with
      | some ch => { t with chain := some { ch with dead := true } }
      | none => t
    let s1 := (s.putStream t1).settleCastChain
    { s1 with pwr := { s1.pwr with castAfter := s1.pwr.castAfter || !re } }
/-- A load or a recast runs. -/
def State.casting (s : State) : Bool := s.get Reg.CAST_STATUS_STATE == 1 || s.get Reg.CAST_STATUS_STATE == 4
/-- FORCE ends a load or a recast with ABORTED; a recast is answered THERMAL, whose DETAIL the manual does not state: a free value (R189,
R214, R218). -/
def State.forceCast (s : State) : State :=
  let s1 := s.dropCastChain
  if !s1.casting then s1
  else
    let s2 := { s1.draw with pwr := { s1.pwr with castAfter := s1.pwr.castAfter || s1.get Reg.CAST_STATUS_STATE == 1 } }
    s2.castStops 0x11 s2.cr.segAt (if s1.get Reg.CAST_STATUS_STATE = 4 then some (Ans.code 9 (s1.drawn 16)) else none)
/-- Tiles and engines halt at an instruction boundary, streams are held, or under FORCE stopped, and assembly buffers are discarded. -/
def State.quiesce (s : State) (force : Bool) : State :=
  let run := s.runningTiles
  let s1 := { s with pwr := { s.pwr with halted := run } }
  let s2 := (run.foldl (fun s t => s.tileHalt t 3) s1).quiesceEngines
  (s2.eachSteeper (List.range 192) (fun s t st => s.steepHalt t st (if force then 2 else 0))).vaultDropBufs
/-- Nothing moves any more: in frozen regions the clocks stand still. -/
def State.isQuiet (s : State) : Bool :=
  s.regionsQuiet 0xFFFFFFFF && (List.range 96).all (fun e => !s.flag (Reg.ENG_STAT_RUN e) || s.frozen (engRegion e)) && !s.vaultBusy &&
    !s.casting
/-- The move to a state begins, with quiescing; an entry to DOZE takes PWR_DOZE_CFG as it stands (R85). -/
def State.beginEntry (s : State) (target : Nat) (force : Bool) (p : Packet) : State :=
  let s1 := ((s.setFlag Reg.PWR_STATE_MOVING true).put Reg.PWR_STATE_TGT target).setFlag Reg.PWR_CLK_STATUS_RC_ON true
  let cfg := if target = 2 then s1.word (wordsPwr 0x18) else s1.pwr.doze
  let s2 := { s1 with pwr := { s1.pwr with stage := .quiesce, fromDoze := false, force := force, req := some p, entryAuto := false,
                                           castAfter := false, wakeAfter := none, doze := cfg } }
  (if force then s2.forceCast else s2).quiesce force
/-- The move from DOZE to SLEEP begins (R74, R90). -/
def State.dozeToSleep (s : State) (p : Option Packet) : State :=
  let s1 := ((s.setFlag Reg.PWR_STATE_MOVING true).put Reg.PWR_STATE_TGT 3).setFlag Reg.PWR_CLK_STATUS_RC_ON true
  { s1 with pwr := { s1.pwr with stage := .prepare, fromDoze := true, req := p, entryAuto := p.isNone, wakeAfter := none } }

/-! ### PWR_SET_STATE and the other commands (Table KET-7) -/

/-- PWR_SET_STATE's effect (R74, R75, R77, R80, R91, R93, R218, R662). -/
def pwrSetStateRun (s : State) (c : Ctx) : State × Ans :=
  let t := c.at 0 1
  let force := bit (c.at 1 1) 0
  let no := (s, Ans.code 0xE (0x100 + s.cur))
  if s.moving then busy s
  else if s.cur ≤ 1 then
    if t = 0 then (if s.cur = 0 then (s, Ans.ok []) else no)
    else if t = 1 then (if s.cur = 0 then (s.put Reg.PWR_STATE_CUR 1, Ans.ok []) else no)
    else if t = 2 ∧ !s.flag Reg.PWR_DOZE_CFG_ENABLE then (s, Ans.code 0xE 0x11)
    else if s.get Reg.RCST_STATUS_PHASE = 4 ∧ !force then (s, Ans.code 0xE 0x12)
    else pend (s.beginEntry t force c.p)
  else if t = 0 then
    if c.role = 1 ∧ bit (s.get Reg.PWR_WAKE_EN_EN) 8 then (s.latchWake 8, Ans.ok []) else no
  else if t = 3 ∧ s.cur = 2 then (if c.role = 1 then pend (s.dozeToSleep (some c.p)) else (s, Ans.code 5 1))
  else no
def pwrSetStateOp : OpSpec := { plainOp 0x0200 4 pwrSetStateRun with
  range := fun _ c => firstBad [(0, c.at 0 1 ≤ 3), (1, c.at 1 1 ≤ 1), (2, 1 ≤ c.at 2 2 && c.at 2 2 ≤ 10000)]
  long := fun s c => 2 ≤ c.at 0 1 && !(s.cur == 3) }
/-- PWR_SET_STATE (R77). -/
def execPwrSetState (p : Packet) (s : State) : Host.Outcome State Fault Refusal := serve pwrSetStateOp p s
def pwrGetStateOp : OpSpec := plainOp 0x0201 0 (fun s _ =>
  (s, Ans.ok (leBytes 4 (s.word (wordsPwr 0)) ++ leBytes 4 (s.word (wordsPwr 0xC)) ++ leBytes 1 (s.get Reg.PWR_WAKE_FIRST_FIRST) ++ zeros 3 ++
    leBytes 4 (s.get Reg.PWR_EXIT_TIME_US))))
/-- PWR_GET_STATE (R92). -/
def execPwrGetState (p : Packet) (s : State) : Host.Outcome State Fault Refusal := serve pwrGetStateOp p s
/-- PWR_WAKE_CONFIG's effect: bit 3 stays 1. -/
def pwrWakeConfigRun (s : State) (c : Ctx) : State × Ans :=
  let s1 := s.put Reg.PWR_WAKE_EN_EN (c.at 0 4 ||| 8)
  ((s1.put Reg.PWR_WAKE_POL_EDGE (bits (c.at 4 4) 4 4)).put Reg.PWR_WAKE_POL_HIGH (bits (c.at 4 4) 0 4),
    Ans.ok (leBytes 4 (s.word (wordsPwr 8)) ++ leBytes 4 (s.word (wordsPwr 0x20))))
def pwrWakeConfigOp : OpSpec := { plainOp 0x0202 8 pwrWakeConfigRun with
  range := fun _ c => firstBad [(0, decide (c.at 0 4 < 2 ^ 17)), (4, decide (c.at 4 4 < 256))] }
/-- PWR_WAKE_CONFIG (R92). -/
def execPwrWakeConfig (p : Packet) (s : State) : Host.Outcome State Fault Refusal := serve pwrWakeConfigOp p s
/-- The fields of PWR_DOZE_CFG written from a word. -/
def State.putDozeCfg (s : State) (w : Nat) : State :=
  let s1 := ((s.put Reg.PWR_DOZE_CFG_DOZE_LIMIT (bits w 16 16)).put Reg.PWR_DOZE_CFG_CAM_XCH (bits w 6 2)).put Reg.PWR_DOZE_CFG_CAM (bits w 4 2)
  (((s1.put Reg.PWR_DOZE_CFG_CAM_EN (bits w 3 1)).put Reg.PWR_DOZE_CFG_KEEP_TILE (bits w 2 1)).put Reg.PWR_DOZE_CFG_KEEP_QB (bits w 1 1)).put
    Reg.PWR_DOZE_CFG_ENABLE (bits w 0 1)
/-- PWR_DOZE_CONFIG's effect (R85). -/
def pwrDozeConfigRun (s : State) (c : Ctx) : State × Ans :=
  if s.cur = 2 ∧ !bit (c.at 0 4) 0 then (s, Ans.code 0xE 0x13)
  else ((s.putDozeCfg (c.at 0 4)).put Reg.PWR_SLEEP_CFG_REFCLK_TO (c.at 4 1), Ans.ok [])
def pwrDozeConfigOp : OpSpec := { plainOp 0x0203 8 pwrDozeConfigRun with
  range := fun _ c => firstBad [(0, bits (c.at 0 4) 8 8 == 0), (4, decide (1 ≤ c.at 4 1))] }
/-- PWR_DOZE_CONFIG (R85). -/
def execPwrDozeConfig (p : Packet) (s : State) : Host.Outcome State Fault Refusal := serve pwrDozeConfigOp p s
def pwrWakeClearOp : OpSpec := plainOp 0x0204 4 (fun s c =>
  (s.clrBits Reg.PWR_WAKE_SRC_SRC (c.at 0 4), Ans.ok (leBytes 4 (s.word (wordsPwr 0xC)))))
/-- PWR_WAKE_CLEAR (R92). -/
def execPwrWakeClear (p : Packet) (s : State) : Host.Outcome State Fault Refusal := serve pwrWakeClearOp p s
/-- A write of PWR_CTRL: IDLE_DELAY, of 1 to 65,535, AUTO_IDLE and IDLE_UCLK, and WAKE, which ends IDLE (Table KET-6). A write of 0 to
IDLE_DELAY leaves it. -/
def State.pwrCtrlWrite (s : State) (w : Nat) : State :=
  let s1 := if bits w 16 16 = 0 then s else s.put Reg.PWR_CTRL_IDLE_DELAY (bits w 16 16)
  let s2 := (s1.put Reg.PWR_CTRL_AUTO_IDLE (bits w 9 1)).put Reg.PWR_CTRL_IDLE_UCLK (bits w 0 8)
  if bit w 8 then s2.leaveIdle else s2
/-- PWR_WAKE: a write of PWR_CTRL in RUN or IDLE, a 1 to WAKE returning the M7 to RUN (R74, R85). -/
def execPwrWake (w : Word) (s : State) : Host.Outcome State Fault Refusal :=
  .next (if s.stewardUp then s.pwrCtrlWrite w.toNat else s)

/-! ### Entry (R77, R78, R80, R90) -/

/-- PWR_QUIESCE_TIMEOUT: without FORCE the command completes with BUSY and nothing has changed. -/
def execPwrQuiesceTimeout (s : State) : Host.Outcome State Fault Refusal :=
  if s.pwr.stage ≠ .quiesce ∨ s.pwr.force ∨ s.isQuiet then .next s
  else match s.pwr.req with
    | some p => .next (s.abortEntry.completeReq p (Ans.code 6 0))
    | none => .next s
/-- The save: its generation names the ciphertext that every byte of the save areas holds from now on (R76). -/
def State.dozeSave (s : State) : State :=
  let s1 := (List.range 192).foldl (fun s n => s.forget (n * 0x4000000 + 0x3F00000) ((n + 1) * 0x4000000)) s
  ({ s1 with pwr := { s1.pwr with saveKey := true, saveGen := some s1.draws } }).draw
/-- PWR_QUIESCE_DONE: streams and tiles are quiet, and the save or the SLEEP preparation runs. -/
def execPwrQuiesceDone (s : State) : Host.Outcome State Fault Refusal :=
  if s.pwr.stage ≠ .quiesce ∨ !s.isQuiet then .next s
  else
    let s1 := { s with pwr := { s.pwr with stage := .prepare } }
    .next (if s1.get Reg.PWR_STATE_TGT = 2 then s1.dozeSave else s1)
/-- Training results stored if they have changed (R78, R432). -/
def State.storeChanged (s : State) : State := if s.mu.results = [] ∨ s.mu.results = s.mu.stored then s else s.storeResults
/-- What the crystal's offset has been learned as while LOCKED is stored: a free value within the servo's limit (R544). -/
def State.learn (s : State) : State :=
  if s.time.fresh then ({ s with time := { s.time with learned := clipRate (sgn 32 (s.drawn 32)), fresh := false } }.persist .crystal).draw else s
/-- The steps from the completion reply to the target state, from RUN or IDLE: links parked, the counter in holdover, the plinth out. -/
def State.plinthOut (s : State) : State :=
  (((List.range 7).foldl State.parkPort s).lanesDown.enterHoldover).plinthLeaves
/-- DOZE is reached: the save taken, caddy and external DRAM in self-refresh but for a wake camera's channel (R427, R436), fabric off. The plinth PLL stays locked (DESIGN CHOICE, log entry 83). -/
def State.enterDoze (s : State) : State :=
  let s1 := s.fabricSaved.fabricOff.caddySleep.xdramSleep
    (if s.dozeCam.isSome then some s.dozeChannel else none)
  { s1 with mu := { s1.mu with dozeDrop := false } }.setFlag Reg.PWR_CLK_STATUS_CCLK_LOCK false
/-- SLEEP is reached: only the kettle is powered. -/
def State.enterSleep (s : State) : State :=
  let s1 := (s.storeChanged.fabricLost.fabricOff.losePlinth.loseCaddy.loseSave.vaultSleep).learn
  ({ s1 with pwr := { s1.pwr with halted := [], haltedEng := [], castAfter := false }, time := { s1.time with pps := false } }).enablesFall
/-- The completion of an entry's request with its transport: replies to peers have left on their links. -/
def State.entryReply (s : State) : State :=
  match s.pwr.req with
  | some p => (s.completeReq p (Ans.ok [])).flushPeers
  | none => s
/-- A reply waits for a slot of the mailbox ring, for a buffer of the SPI target, or to go out on the link to its peer. -/
def State.repliesWait (s : State) (v : Transport) : Bool :=
  match v with
  | .pcie => s.cmd.mbxWait != []
  | .spi => s.cmd.spiWait != []
  | .fabric d => tget [] s.fab.portOut d.val != []
  | .holwell d => (match s.routePort d.val with | some k => s.isUp k && (s.port k).txq != [] | none => false)
  | _ => false
/-- PWR_ENTRY_COMMIT: the completion reply is committed to its transport, where it waits for a place there (R65), then the target state is
reached; a wake latched meanwhile is served (R78, R79, R86, R90). A vault commit in progress finishes first. -/
def execPwrEntryCommit (s : State) : Host.Outcome State Fault Refusal :=
  let s1 := s.entryReply
  if s.pwr.stage ≠ .prepare ∨ s.vault.commits ≠ [] ∨ (s.pwr.req.any (fun p => s1.repliesWait p.via)) then .next s
  else
    let t := s.get Reg.PWR_STATE_TGT
    let s2 := s1.abandonOps (fun _ => false) (Ans.code 0xE (0x100 + t)) |>.flushPeers
    let s3 := if s.pwr.fromDoze then s2 else s2.plinthOut
    let s4 := if t = 2 then s3.enterDoze else s3.enterSleep
    let s5 := ((s4.put Reg.PWR_STATE_CUR t).setFlag Reg.PWR_STATE_MOVING false).put Reg.PWR_STATE_TGT 0
    let s6 := { s5 with pwr := { s5.pwr with stage := .none, req := none, fromDoze := false } }.retick
    .next (match s6.pwr.wakeAfter with
      | some b => s6.beginExit b
      | none => s6)
/-- AUTO_IDLE_EXPIRE: IDLE entered after IDLE_DELAY without activity (R80), but not while a recast runs (R189) or a self-test. -/
def execAutoIdleExpire (s : State) : Host.Outcome State Fault Refusal :=
  if s.stewardUp && s.cur == 0 && !s.moving && s.flag Reg.PWR_CTRL_AUTO_IDLE && s.get Reg.CAST_STATUS_STATE != 4 && s.bist.isNone then
    .next (s.put Reg.PWR_STATE_CUR 1)
  else .next s
/-- DOZE_LIMIT_EXPIRE: the move to SLEEP begins, unless a wake has begun the exit (R90). -/
def execDozeLimitExpire (s : State) : Host.Outcome State Fault Refusal :=
  if s.kettleOn && s.cur == 2 && s.pwr.stage == .none && s.dozeLimit != 0 then .next (s.dozeToSleep none)
  else .next s

/-! ### Wake sources (R81) -/

/-- WAKE_PIN: an enabled level or edge on WAKEn, which is bit 4 + n of PWR_WAKE_EN. -/
def execWakePin (n : Fin 4) (s : State) : Host.Outcome State Fault Refusal := .next (s.latchWake (4 + n.val))
/-- HLINK_WAKE_BURST: a squelch detector sees a wake burst, bit 10 + port. -/
def execHlinkWakeBurst (port : Fin 7) (s : State) : Host.Outcome State Fault Refusal := .next (s.latchWake (10 + port.val))

/-! ### Exit: rails and clocks (R68, R71, R72, R82, R83, R87) -/

/-- A stage set. -/
def State.setStage (s : State) (g : Stage) : State := { s with pwr := { s.pwr with stage := g } }
/-- After DOZE the links and Ethernet lanes train anew, and the stored PTP settings take effect (R465, R663). -/
def State.plinthAgain (s : State) : State :=
  let s1 := (List.range 8).foldl State.quadUp s
  { s1 with time := { s1.time with ptpLive := s1.time.cfg, firstDone := false } }
/-- The exit moves on where the rails it waits for are up. -/
def State.railsStep (s : State) : State :=
  match s.pwr.stage with
  | .railsBL => if s.pwr.upB && s.pwr.upL then s.setStage .pllN else s
  | .railsFC => if s.pwr.upF && s.pwr.upC then (if s.pwr.fromDoze then s.plinthAgain else s).setStage .pllC else s
  | _ => s
/-- REFCLK_VALID: EN_B, and EN_L, which a recovery from CLK_LOSS has kept (R71, R72). -/
def execRefclkValid (s : State) : Host.Outcome State Fault Refusal :=
  if !s.kettleOn || s.pwr.stage != .ref || !s.flag Reg.PWR_CLK_STATUS_REF_REQ then .next s
  else
    let again := s.pwr.enL
    let s1 := if again then s.put Reg.PWR_WAKE_FIRST_FIRST 0x12 else s
    let p := { s1.pwr with enB := true, enL := true, retried := false, stage := .railsBL, wakeAt := if again then s1.time.up else s1.pwr.wakeAt }
    .next (({ s1 with pwr := p }.setFlag Reg.PWR_CLK_STATUS_REF_OK true).retick)
/-- RAIL_UP. -/
def execRailUp (r : Rail) (s : State) : Host.Outcome State Fault Refusal :=
  let p := s.pwr
  let q := match r with
    | .b => { p with upB := p.enB }
    | .f => { p with upF := p.enF }
    | .c => { p with upC := p.enC }
    | .l => { p with upL := p.enL }
  .next ({ s with pwr := q }.railsStep)
/-- An enable, and whether its rail is up. -/
def PwrUnit.rail (p : PwrUnit) (r : Rail) : Bool × Bool :=
  match r with
  | .b => (p.enB, p.upB)
  | .f => (p.enF, p.upF)
  | .c => (p.enC, p.upC)
  | .l => (p.enL, p.upL)
/-- PWR_RAIL_FAIL's SRC (Table FLT-7). -/
def railCode (r : Rail) : Nat :=
  match r with
  | .b => 0
  | .f => 1
  | .c => 2
  | .l => 3
/-- RAIL_UP_TIMEOUT: a rail not up within 5 ms of its enable (R68). -/
def execRailUpTimeout (r : Rail) (s : State) : Host.Outcome State Fault Refusal :=
  if s.kettleOn && (s.pwr.rail r).1 && !(s.pwr.rail r).2 then .next ((s.logEvent 0x0201 (railCode r) []).fallToSleep) else .next s
/-- PG_FALL: a rail in use fails (R637). -/
def execPgFall (r : Rail) (s : State) : Host.Outcome State Fault Refusal :=
  if s.kettleOn && (s.pwr.rail r).1 && (s.pwr.rail r).2 then .next ((s.logEvent 0x0201 (railCode r) []).fallToSleep) else .next s
/-- A PLL that fails to lock is retried once; a second failure is REFCLK_FAIL, and the M7 falls back to SLEEP (R71, R87). -/
def State.pllFails (s : State) : State :=
  if s.pwr.retried then (s.logEvent 0x0203 0 []).fallToSleep else { s with pwr := { s.pwr with retried := true } }
/-- The fabric empty before a cast that does not follow SLEEP: its contents, CAST_STATUS and the other registers of Table CAST-12. -/
def State.fabricEmpty (s : State) : State :=
  (((s.fabricLost.clearRegs 0x20000 0x20014).clearRegs 0x20018 0x20064).clearRegs 0x20080 0x20088).put Reg.CKEY_STAT_KEYSEL 0
/-- What follows the lock of the fabric PLLs: the restore of DOZE, or the cast (R82, R83, R189). -/
def State.fabricReady (s : State) : State :=
  if s.pwr.fromDoze && !s.pwr.castAfter then s.setStage .restore
  else (if s.pwr.fromDoze then s.fabricLost else s).setStage .cast |>.castFromMode
/-- PLL_LOCK: the next step of the start order, or a retry. `calFail` names the micro-channels that fail calibration once CCLK runs after
SLEEP (R424). -/
def execPllLock (pll : Pll) (ok : Bool) (calFail : List (Fin 192)) (s : State) : Host.Outcome State Fault Refusal :=
  let due := match pll with
    | .nclk => s.pwr.stage == .pllN
    | .cclk => s.pwr.stage == .pllC
    | .fab => s.pwr.stage == .pllF
  if !s.kettleOn || !due then .next s
  else if !ok then .next s.pllFails
  else
    let s1 := { s with pwr := { s.pwr with retried := false } }
    match pll with
    | .nclk =>
      let s2 := (s1.setFlag Reg.PWR_CLK_STATUS_NCLK_LOCK true).plinthStart
      .next ({ s2 with pwr := { s2.pwr with enF := true, enC := true, stage := .railsFC } }.railsStep)
    | .cclk =>
      let s2 := (s1.setFlag Reg.PWR_CLK_STATUS_CCLK_LOCK true).setStage .pllF
      .next (if s2.pwr.fromDoze then (if s2.get Reg.CADDY_STAT_STATE = 2 then s2.put Reg.CADDY_STAT_STATE 3 else s2) else (s2.calibrated (calFail.map (fun n => n.val))).wakeTraining)
    | .fab => .next ((s1.setFlag Reg.PWR_CLK_STATUS_FAB_LOCK true).fabricReady)
/-- REFCLK_FAIL: the reference has not passed within REFCLK_TO: REFCLK_REQ falls for 10 ms; after the second time the M7 stays in SLEEP
until the next wake (R87). A recovery from CLK_LOSS waits on (R72). -/
def execRefclkFail (s : State) : Host.Outcome State Fault Refusal :=
  if !s.kettleOn || s.pwr.stage != .ref || s.pwr.enL || !s.flag Reg.PWR_CLK_STATUS_REF_REQ then .next s
  else if !s.pwr.retried then
    .next ({ s with pwr := { s.pwr with retried := true, refLow := some s.time.up } }.setFlag Reg.PWR_CLK_STATUS_REF_REQ false)
  else
    let s1 := (s.logEvent 0x0203 0 []).setStage .none
    .next (((s1.setFlag Reg.PWR_STATE_MOVING false).setFlag Reg.PWR_CLK_STATUS_REF_REQ false).retick)
/-- CLK_LOSS: EN_F, EN_C and EN_B fall at once, and the exit from SLEEP follows once the reference is back (R72). -/
def execClkLoss (s : State) : Host.Outcome State Fault Refusal :=
  if !s.kettleOn || !s.flag Reg.PWR_CLK_STATUS_REF_OK then .next s
  else
    let was := s.cur
    let keep := s.pwr.enL
    let upL := s.pwr.upL
    let s1 := (s.domainsFail (fun _ => false)).enablesFall
    let s2 := { s1 with pwr := { s1.pwr with enL := keep, upL := upL, stage := .ref, retried := false } }
    let s3 := ((s2.setFlag Reg.PWR_CLK_STATUS_REF_REQ true).put Reg.PWR_STATE_CUR 3).setFlag Reg.PWR_STATE_MOVING true
    .next ((s3.put Reg.PWR_STATE_TGT 0).retick.logEvent 0x0202 0 (leBytes 1 was))

/-! ### The restore from DOZE (R83, R88, R436) -/

/-- CADDY_SR_EXIT_DONE: the caddy has left self-refresh and calibrated, which shows as STATE 3 from the lock of CCLK (log entry 36). -/
def execCaddySrExitDone (calFail : List (Fin 192)) (s : State) : Host.Outcome State Fault Refusal :=
  if s.kettleOn && s.flag Reg.PWR_CLK_STATUS_CCLK_LOCK && (s.get Reg.CADDY_STAT_STATE == 2 || s.get Reg.CADDY_STAT_STATE == 3) && s.bist.isNone then
    .next (s.calibrated (calFail.map (fun n => n.val)))
  else .next s
/-- The restore fails (R88): logged with its cause, and the cast comes from the CFG_MODE source. -/
def State.restoreFails (s : State) (cause : Nat) : State :=
  let s1 := (s.logEvent 0x0204 0 (leBytes 1 cause)).fabricEmpty
  let s2 := { s1 with pwr := { s1.pwr with failedRestore := true, halted := [], stage := .cast } }
  (s2.put Reg.PWR_STATE_RESTORE 3).castFromMode
/-- The restore ends: lanes are up, engines start from their frames, tiles go on where they were halted, held streams with them. -/
def State.restored (s : State) : State :=
  let m := s.get Reg.CWALL_MASK
  let cast := s.get Reg.CAST_STATUS_STATE
  let live := (List.range 96).filter (fun e => bit (s.get Reg.CAST_REGIONS_LOADED) (e / 3))
  let s1 := live.foldl State.engInit s
  let s2 := if cast = 3 then s1.enginesGo (live.filter (fun e => !bit m (e / 3))) else s1
  let s3 := (s2.releaseTiles (s2.pwr.halted.filter (fun t => !bit m (tileRegion t)))).releaseHeld m
  (if cast = 2 ∨ cast = 3 then (s3.put Reg.PWR_STATE_RESTORE 1).put Reg.CAST_STATUS_SRC 5 else s3).lampsRegate.exitDone
/-- DOZE_RESTORE_DONE. -/
def execDozeRestoreDone (o : RestoreOutcome) (s : State) : Host.Outcome State Fault Refusal :=
  if !s.kettleOn || s.pwr.stage != .restore || s.get Reg.CADDY_STAT_STATE != 1 then .next s
  else if !s.pwr.saveKey then .next (s.restoreFails 4)
  else match o with
    | .ok => .next s.restored
    | .digest => .next (s.restoreFails 1)
    | .caddyUe => .next (s.restoreFails 2)
    | .supplyC => .next (s.restoreFails 3)

end Sys2Proof.Machine
end

