-- ==== Sys2Proof/Machine/Boot.lean ====
section
/-! DEFINITION. OFF and the kettle's boot (R69, R115, R116, R602, R607, R636, R648, R655, R664), tamper (R64, R89, R114–R116, R148,
R219), thermal shutdown and thermal-off (R570–R575). -/

namespace Sys2Proof.Machine

/-! ### Losing power -/

/-- The log in NVM: its sectors (the reservation and an erase intent are records). A slot cut off while it was programmed is torn: whether one was is a free
value (R607). -/
def State.logNvm (s : State) (cut : Bool) : LogUnit :=
  let l := { LogUnit.blank with sectors := s.log.sectors, spare := s.log.spare, slotFails := s.log.slotFails }
  if cut && s.log.toPersist != [] && s.drawn 1 == 1 then l.program none else l
/-- The vault in NVM: descriptors, vector blocks, erase counts, retired positions; the header and the policy are records. -/
def State.vaultNvm (s : State) : VaultUnit :=
  { VaultUnit.blank with seed := [], vgen := s.vault.vgen, seq := s.vault.seq, descs := s.vault.descs, blocks := s.vault.blocks, retD := s.vault.retD
                         retB := s.vault.retB, erases := s.vault.erases, faulty := s.vault.faulty, faultSeq := s.vault.faultSeq
                         eraseAll := s.vault.eraseAll }
/-- The fields that no record holds: the vault's wear and the persistent log's bounds, which the kettle knows from the sectors. -/
def sectorFields : List Fld := [Reg.VLT_WEAR_MAX_ERASE, Reg.LOG_HEAD_SEQ, Reg.LOG_TAIL_SEQ, Reg.LOG_PHEAD_SEQ, Reg.LOG_PTAIL_SEQ]
/-- What is left without power: the NVM and the flash, the levels at the pins, and the commands and signals outside. Memories
lose their contents. -/
def State.lost (s : State) (cut : Bool) : State :=
  let r := State.reset
  let keep := sectorFields.map Fld.key
  let m := { MemUnit.start with caddyGen := (s.draws + 3, s.draws + 3), xdramGen := s.draws + 3, storeGen := s.draws + 3 }
  { r with
    pending := s.pending, regs := s.regs.filter (fun e => e.1 ∈ keep), log := s.logNvm cut
    pwr := { r.pwr with resetLow := s.pwr.resetLow, supplyTrip := s.pwr.supplyTrip }
    mu := m, fab := { r.fab with supply := s.fab.supply }
    vault := s.vaultNvm, nvm := s.nvm, out := s.out, draws := s.draws + 2 }
/-- Power lost: a record, a commit or a log slot that was being programmed may be torn. -/
def State.powerLost (s : State) : State := s.tornCommit.recTear.lost true
/-- RESET_N_FALL: OFF (R69, R622). -/
def execResetNFall (s : State) : Host.Outcome State Fault Refusal :=
  .next { s.powerLost with pwr := { s.powerLost.pwr with resetLow := true } }
/-- SUPPLY_MONITOR_TRIP: as if RESET_N had fallen (R636). -/
def execSupplyMonitorTrip (s : State) : Host.Outcome State Fault Refusal :=
  .next { s.powerLost with pwr := { s.powerLost.pwr with supplyTrip := true } }

/-! ### Tamper (R64, R115) -/

/-- A reply of a session that has not been sent goes out without AUTH as DENIED, DETAIL 0x0005 (R64). -/
def cutReply (r : Packet) : Packet :=
  if r.session = 0 then r else replyTo r false [] (if r.fAsync then 2 else 1) (Ans.code 5 5)
/-- The replies that wait to be sent, on every transport. -/
def State.unsent (s : State) : List Packet := s.cmd.mbxWait ++ s.cmd.spiRpl ++ s.cmd.spiWait ++ s.cmd.peerOut
/-- CMD_TAMPER_CUT: a command of a session whose reply tamper has cut, and whether it had completed. -/
def State.logCut (s : State) (p : Packet) (completed : Bool) : State :=
  s.logEvent 0x0103 (transportCode p.via) (leBytes 2 p.opcode.toNat ++ leBytes 2 p.seq.toNat ++ leBytes 1 (b2n completed))
/-- The replies that wait are cut, and each is logged: completed unless it says PENDING. -/
def State.cutReplies (s : State) : State :=
  let c := { s.cmd with mbxWait := s.cmd.mbxWait.map cutReply, spiRpl := s.cmd.spiRpl.map cutReply, spiWait := s.cmd.spiWait.map cutReply
                        peerOut := s.cmd.peerOut.map cutReply }
  (s.unsent.filter (fun r => r.session != 0)).foldl (fun s r => s.logCut r (leAt r.body 0 2 != 1)) { s with cmd := c }
/-- Every session closes; the operations of theirs that still run end with DENIED, DETAIL 0x0005, without AUTH, and each is logged as not
completed; replies not yet sent are cut (R64). -/
def State.tamperSessions (s : State) : State :=
  let ops := (s.cmd.longOps.map (fun o => o.req)).filter (fun p => p.session != 0)
  let s1 := s.cmd.sessions.foldl (fun s x => s.closeSession x.num) s.cutReplies
  ops.foldl (fun s p => (s.completeReq p (Ans.code 5 5)).logCut p false) s1
/-- A recast in its write pass or hold ends without rollback (R219). -/
def State.tamperRecast (s : State) : State :=
  if s.recastIn 2 then ((s.setCr { s.cr with rollback := 0 }).castFails 0x11 s.cr.segAt none) else s
/-- A tamper event (R115): it wakes the M7 as every wake source does. -/
def State.tamperEvent (s : State) (boot : Bool) : State :=
  let s1 := s.tamperSessions
  let s2 := { s1 with pwr := { s1.pwr with saveKey := false } }
  let s3 := (((s2.put Reg.TMP_STAT_LATCH 1).bumpSat Reg.TMP_STAT_COUNT 1).persist .tamperCount).setFlag Reg.TMP_STAT_BOOT (boot || s2.flag Reg.TMP_STAT_BOOT)
  let s4 := (s3.hmi Reg.HMI_EVT_TAMPER 1 15).vaultTamper
  ((s4.logEvent 0x0804 0 (leBytes 4 s4.tmpStatWord)).tamperRecast).latchWake 3
/-- TAMPER: two consecutive high samples (R114). In thermal-off the event is latched and handled at restart (R572). -/
def execTamper (s : State) : Host.Outcome State Fault Refusal :=
  match s.pwr.kettle with
  | .on => .next ((s.put Reg.TMP_STAT_INPUT 1).tamperEvent false)
  | .thermalOff => .next { s.put Reg.TMP_STAT_INPUT 1 with pwr := { s.pwr with tampered := true } }
  | _ => .next s
/-- TAMPER_CLEAR's effect: while the loop is closed LATCH clears, and the vault key is derived again (R116, R149, R150). -/
def tamperClearRun (s : State) (_ : Ctx) : State × Ans :=
  if s.flag Reg.TMP_STAT_INPUT then (s, Ans.code 0xE 1)
  else
    let s1 := (s.put Reg.TMP_STAT_LATCH 0).vaultClear
    (s1, Ans.ok (leBytes 4 s1.tmpStatWord))
def tamperClearOp : OpSpec := { plainOp 0x0808 0 tamperClearRun with
  roles := [1]
  auth := fun _ _ => true }
/-- TAMPER_CLEAR, with the level of TAMPER at that instant (R116). -/
def execTamperClear (p : Packet) (loopOpen : Bool) (s : State) : Host.Outcome State Fault Refusal :=
  serve tamperClearOp p (if s.kettleOn then s.setFlag Reg.TMP_STAT_INPUT loopOpen else s)

/-! ### Boot (R69, R648) -/

/-- The persistent log found at boot (R602, R607, R664): the first entry will take the reserved SEQ, and a new reservation is written at once;
an erase intent is carried out before any entry is written, and torn slots are counted and told of in one entry. -/
def State.logBoot (s : State) : State :=
  let s0 := s.put Reg.LOG_HEAD_SEQ (s.log.reserved + 2 ^ 32 - 1)
  let s1 := { s0 with log := { s0.log with reserved := wrapAdd 32 s0.log.reserved 65536 } }.persist .logReserve
  let s2 := match s1.log.eraseIntent with
    | some r => (s1.logEraseNow r).1
    | none => s1
  let n := (s2.log.sectors.flatMap (fun x => x.slots)).countP (fun e => e.isNone)
  let s3 := (s2.put Reg.LOG_TORN_COUNT n).setFlag Reg.LOG_STAT_PFAULT (s2.log.inService < 16)
  if n = 0 then s3 else s3.logEvent 0x0C02 0 (leBytes 4 n)
/-- Two of three samples. -/
def majority3 (a b c : Nat) : Nat := (a &&& b) ||| (a &&& c) ||| (b &&& c)
/-- The straps sampled: the majority of each bit, and whether any differed (R648). -/
def State.straps (s : State) (b : BootPins) : State :=
  let m := majority3 b.s0.toNat b.s1.toNat b.s2.toNat
  (((s.put Reg.SYS_STRAP_CFG_MODE (bits m 0 2)).put Reg.SYS_STRAP_ENS_ID (bits m 2 6)).put Reg.SYS_STRAP_Q6_SEL (bits m 8 1)).setFlag
    Reg.SYS_STRAP_UNSTABLE (b.s0 != b.s1 || b.s1 != b.s2)
/-- A kettle boot up to SLEEP: every record is taken from its newest valid copy (R122). A TEST ball that reads high keeps the kettle from booting (R655). -/
def State.kettleBoots (s : State) (b : BootPins) : State :=
  if b.test then { s with pwr := { s.pwr with kettle := .noBoot } }
  else
    let s1 := ({ s with pwr := { s.pwr with kettle := .on, vio33 := b.vio33 } }.loadRecs).straps b
    let s2 := ((s1.logBoot.put Reg.PWR_STATE_CUR 3).retick.vaultBoot.capRecalc).applyRate
    let s3 := s2.setFlag Reg.TMP_STAT_INPUT b.tamper
    if b.tamper || s3.pwr.tampered then { s3 with pwr := { s3.pwr with tampered := false } }.tamperEvent true else s3
/-- A boot from OFF, which runs the exit from SLEEP with the wake source POWER_ON (R69). -/
def State.bootOn (s : State) (b : BootPins) : State :=
  let s1 := s.kettleBoots b
  if !s1.kettleOn then s1
  else if s1.pwr.stage = .none then s1.beginExit 0x11
  else s1.put Reg.PWR_WAKE_FIRST_FIRST 0x11
/-- RESET_N_RISE: the kettle boots, where the supplies are valid (R69). -/
def execResetNRise (b : BootPins) (s : State) : Host.Outcome State Fault Refusal :=
  if !s.pwr.resetLow then .next s
  else
    let s1 := { s with pwr := { s.pwr with resetLow := false } }
    .next (if s1.pwr.supplyTrip then s1 else s1.bootOn b)
/-- SUPPLY_MONITOR_RELEASE: 1 ms after both rails return the kettle boots, unless RESET_N holds it (R636). -/
def execSupplyMonitorRelease (b : BootPins) (s : State) : Host.Outcome State Fault Refusal :=
  if !s.pwr.supplyTrip then .next s
  else
    let s1 := { s with pwr := { s.pwr with supplyTrip := false } }
    .next (if s1.pwr.resetLow then s1 else s1.bootOn b)

/-! ### Thermal shutdown (R570–R575) -/

/-- Lamps off, at once. -/
def State.lampsOff (s : State) : State := (List.range 8).foldl (fun s n => (s.putLamp n Lamp.off).lampPhase n 0) s
/-- The vault's commits that wait for the NVM, and erasures, captures and exports with them, are answered THERMAL; the one being
programmed may end (R154, R570, R571). -/
def State.vaultTrip (s : State) : State :=
  let v := s.vault
  let busyReq := (v.commits.take 1).map VCommit.req
  let reqs := ((v.commits.drop 1).map VCommit.req ++ v.erasing.map (fun e => e.req) ++ v.exps.map (fun e => e.1) ++
    (match v.capture with | some c => [c.req] | none => [])).eraseDups.filter (fun p => p ∉ busyReq)
  let er := v.erasing.filter (fun e => e.req ∈ busyReq)
  reqs.foldl (fun s p => s.completeReq p (Ans.code 9 1)) (s.setVault { v with commits := v.commits.take 1, capture := none, exps := [], erasing := er })
/-- THERMAL_SHUTDOWN: the trip of a sensor at 125 °C or more (500 quarter degrees); in SLEEP only sensor 0 is powered. -/
def execThermalShutdown (sensor : Fin 24) (reading : Int) (s : State) : Host.Outcome State Fault Refusal :=
  if !s.kettleOn || s.bud.trip.isSome || decide (reading < 500) || (s.cur == 3 && !s.moving && sensor.val != 0) then .next s
  else
    let b := { s.bud with trip := some (sensor.val, reading, s.time.up), deferral := 0 }
    let s1 := { s with bud := b }.plinthLeaves
    let s2 := ((s1.complete 0x0200 (Ans.code 9 3)).complete 0x0A00 (Ans.code 9 3)).complete 0x0C04 (Ans.code 9 1)
    let s3 := s2.vaultTrip
    let run := s3.bist
    let going := (s3.vault.commits.map VCommit.req)
    let s4 := (s3.domainsFail (fun p => p ∈ going)).lampsOff
    let s5 := ({ s4 with bist := run, pwr := { s4.pwr with stage := .none } }.put Reg.PWR_STATE_CUR 3).put Reg.PWR_STATE_TGT 0
    .next ((s5.setFlag Reg.PWR_STATE_MOVING false).enablesFall)
/-- Thermal-off: only the crystal, the counter in holdover, the thermal supervisor and the tamper latch go on (R571, R572). -/
def State.thermalOff (s : State) (deferral : Nat) : State :=
  let x := s.lost false
  let latch := s.get Reg.TMP_STAT_LATCH
  let t := { s.time with slew := 0, servo := 0, comp := 0, good := 0, firstDone := false, alarmBase := 0, uncertFrac := 0, pps := false, syncResp := [] }
  let b := { BudUnit.start with trip := s.bud.trip, deferral := deferral }
  let y := { x with time := t, bud := b, bist := s.bist, pwr := { x.pwr with kettle := .thermalOff } }
  let y1 := ((y.put Reg.TMP_STAT_LATCH latch).put Reg.TMP_STAT_INPUT (s.get Reg.TMP_STAT_INPUT)).put Reg.TIME_RATE_RATE (s.get Reg.TIME_RATE_RATE)
  let y2 := ((y1.put Reg.TIME_STAT_SET (s.get Reg.TIME_STAT_SET)).put Reg.TIME_UNCERT_US (s.get Reg.TIME_UNCERT_US)).put Reg.TIME_UTC_UTC
    (s.get Reg.TIME_UTC_UTC)
  let y3 := (List.range 16).foldl (fun y k => y.put (Reg.BIST_REC_REC k) (s.get (Reg.BIST_REC_REC k))) y2
  (y3.put Reg.PWR_CLK_STATUS_XTAL_OK (s.get Reg.PWR_CLK_STATUS_XTAL_OK)).retick
/-- THERMAL_OFF_ENTRY: after the page program in progress, or at once; a commit cut off then, and an erasure whose later
tombstones the trip dropped, is answered THERMAL if it can be (R154). -/
def execThermalOffEntry (deferral : BitVec 16) (s : State) : Host.Outcome State Fault Refusal :=
  if !s.kettleOn || s.bud.trip.isNone then .next s
  else
    let s1 := ((s.vault.commits.map VCommit.req ++ s.vault.erasing.map (fun e => e.req)).eraseDups).foldl (fun s p => s.completeReq p (Ans.code 9 3)) s
    .next (s1.thermalOff deferral.toNat)
/-- The result record of a run (Table BIST-3). -/
def BistRun.record (r : BistRun) (seq ms : Nat) : List Byte :=
  leBytes 2 0x5442 ++ zeros 2 ++ leBytes 4 seq ++ leBytes 2 r.sel ++ leBytes 1 r.quads ++ leBytes 1 r.cause ++ leBytes 2 r.ran ++ leBytes 2 r.failed ++
    leBytes 1 r.first ++ leBytes 1 (unsgn 8 r.tj) ++ zeros 2 ++ padTo 12 r.place ++ leBytes 4 (todNs r.start) ++ leBytes 6 (todSec r.start) ++
    leBytes 4 ms ++ zeros 18
/-- The record in BIST_REC0–15 and the persistent log, as BIST_END and BIST_WHERE (R591, R665); and the DETAIL that names BIST_END. -/
def State.bistRecord (s : State) (r : BistRun) (ms : Nat) : State × Nat :=
  let seq := s.get Reg.BIST_RUNS_COUNT
  let b := r.record seq ms
  let s1 := (List.range 16).foldl (fun s k => s.put (Reg.BIST_REC_REC k) (leAt b (4 * k) 4)) s
  let s2 := s1.logNow 0x0A02 (unsgn 16 r.tj) (leBytes 4 seq ++ leBytes 2 r.ran ++ leBytes 2 r.failed ++ leBytes 1 r.first ++ leBytes 1 r.cause)
  (s2.logNow 0x0A03 (leAt b 20 2) (slice b 22 10), s2.logDetail)
/-- THERMAL_OFF_EXIT: 10 s after the trip and with sensor 0 at 95 °C or less (380 quarter degrees) the kettle boots; the shutdown is logged
and counted, a self-test run that it ended is recorded, and AUTO_RESTART decides whether the exit from SLEEP follows (R573). -/
def execThermalOffExit (b : BootPins) (reading : Int) (s : State) : Host.Outcome State Fault Refusal :=
  match s.pwr.kettle, s.bud.trip with
  | .thermalOff, some (n, t, at_) =>
    if s.time.up < at_ + 10 * unitSec ∨ 380 < reading then .next s
    else
      let s1 := s.kettleBoots b
      if !s1.kettleOn then .next s1
      else
        let d := s1.bud.deferral
        let s2 := { s1 with bud := { s1.bud with trip := none, deferral := 0 } }.logNow 0x0209 n (leBytes 2 (unsgn 16 t) ++ leBytes 2 d)
        let s3 := (s2.bumpSat Reg.THERM_TRIPS_COUNT 1).persist .trips
        let s4 := match s3.bist with
          | some r => { s3 with bist := none }.bistRecord { r with cause := 2 } ((s3.time.tod - r.start) / (1000000 * unitNs)) |>.1
          | none => s3
        let s5 := s4.put Reg.PWR_WAKE_FIRST_FIRST 0x13
        .next (if s5.flag Reg.BUD_CFG_AUTO_RESTART || s5.flag Reg.PWR_WAKE_SRC_SRC then s5.beginExit 0x13 else s5)
  | _, _ => .next s

end Sys2Proof.Machine
end

