-- ==== Sys2Proof/Machine/Bist.lean ====
section
/-! DEFINITION. Built-in self-test: the run's entry, its tests, its end and record, and the self-test commands (chapter 23). -/

namespace Sys2Proof.Machine

/-! ### Entry (R582–R584) -/

/-- The tests of a selection in the order of Table BIST-1. -/
def bistOrder (sel : Nat) : List Nat := [0, 1, 3, 4, 5, 6, 8, 7, 2].filter (fun k => bit sel k)
/-- SEL includes a test of the plinth; with LANES, one that parks the links. -/
def bistPlinth (sel : Nat) : Bool := bit sel 2 || bit sel 7
def bistParks (sel : Nat) : Bool := bistPlinth sel || bit sel 8
/-- Everything that Table BIST-2 clears before scan, but for the links and external DRAM: streams, tiles and engines stop, the fabric is
unloaded, sessions close, key copies go, tile stores are zeroed. -/
def State.bistClears (s : State) : State :=
  let s1 := (s.setUnmute false).forceCast
  let s2 := (s1.quiesce true).castUnload
  let s3 := s2.cmd.sessions.foldl (fun s x => s.closeSession x.num) s2
  let s4 := ({ s3 with cast := { s3.cast with ckey := [] }, pwr := { s3.pwr with halted := [], haltedEng := [] } }.loseSave).zeroStores
  { s4 with mu := { s4.mu with waits := [] } }
/-- BIST_RUN's effect. -/
def bistRunRun (s : State) (c : Ctx) : State × Ans :=
  let sel := c.at 0 2
  if c.role = 0 ∧ bistParks sel then (s, Ans.code 5 1)
  else if s.bist.isSome ∨ s.moving then busy s
  else
    let s1 := ((s.bumpWrap Reg.BIST_RUNS_COUNT 1).persist .bistRuns).put Reg.BIST_STAT_STATE 1
    let r : BistRun :=
      { req := c.p, sel := sel, quads := c.at 2 1, flags := c.at 3 1, left := bistOrder sel, cur := [], ran := 0, failed := 0, first := 0xFF
        place := [], tj := sgn 12 (s.get Reg.THERM_MAX_T) / 4, start := s.time.tod, cause := 0, begun := 0, owners := [] }
    let s2 := { s1 with bist := some r }.logNow 0x0A01 0 (leBytes 2 sel ++ leBytes 1 r.quads ++ leBytes 4 (s1.get Reg.BIST_RUNS_COUNT))
    pend ((s2.put Reg.BIST_STAT_PCT 0).bistClears)
def bistRunOp : OpSpec := { plainOp 0x0A00 4 bistRunRun with
  auth := fun _ _ => true
  range := fun _ c => firstBad [(0, decide (1 ≤ c.at 0 2 ∧ c.at 0 2 ≤ 0x1FF)), (2, (c.at 2 1 == 0) != bit (c.at 0 2) 8), (3, c.at 3 1 ≤ 1)]
  long := fun _ _ => true }
/-- BIST_RUN (R584). -/
def execBistRun (p : Packet) (s : State) : Host.Outcome State Fault Refusal := serve bistRunOp p s

/-! ### Tests (R578–R582) -/

/-- A lane under test: near-end serial loopback with PRBS31 (R581), or as it is out of it. -/
def State.bistLane (s : State) (on_ : Bool) (l : Nat) : State :=
  let s1 := ((s.put (Reg.LN_CTRL_LB l) (b2n on_)).setFlag (Reg.LN_PRBS_GEN l) on_).setFlag (Reg.LN_PRBS_CHK l) on_
  let s2 := if on_ then (s1.put (Reg.LN_PRBS_PAT l) 3).put (Reg.LN_PRBS_ERR_COUNT l) 0 else s1
  s2.setFlag (Reg.LN_PRBS_CHK_LOCK l) false
/-- Quads under test go to the test owner; their links have been parked or are taken down. -/
def State.testQuads (s : State) (r : BistRun) : State :=
  let qs := (List.range 8).filter (fun q => bit r.quads q)
  let go (s : State) (q : Nat) : State :=
    let s1 := if q < 7 ∧ s.isUp q then s.linkDrop q 4 else s
    let s2 := if q < 7 then s1.put (Reg.HL_STAT_STATE q) 0 else s1
    (quadLanes q).foldl (fun s l => s.bistLane true l) ((s2.put (Reg.QUAD_CFG_OWNER q) 3).quadTrain q false)
  let r1 := { r with owners := qs.map (fun q => (q, s.owner q)) }
  qs.foldl go { s with bist := some r1 }
/-- The plinth goes down for its tests: the kettle answers, and what the steward had pending ends (R63, R587). -/
def State.bistPlinthDown (s : State) (r : BistRun) : State :=
  if s.flag Reg.MBX_STATUS_READY then (s.plinthLeaves.abandonOps (fun p => p == r.req) (Ans.code 0xE 0x100)).lanesDown else s
/-- What a test destroys as it starts. -/
def State.testStarts (s : State) (t : Nat) : State :=
  if t = 0 ∨ t = 5 then s.caddyDie 0 false else if t = 1 ∨ t = 6 then s.caddyDie 1 false else s
/-- The quads tested return to their owners and train again (R581). -/
def State.quadsReturn (s : State) (owners : List (Nat × Nat)) : State :=
  owners.foldl (fun s e => (((quadLanes e.1).foldl (fun s l => s.bistLane false l) s).put (Reg.QUAD_CFG_OWNER e.1) e.2).quadUp e.1) s
/-- The next test starts, with its twin on the other die where the cap allows, or the run is over (R578, R582). -/
def State.bistNext (s : State) (r : BistRun) : State :=
  match r.left with
  | [] => ({ s with bist := some r }.put Reg.BIST_STAT_STATE 3).put Reg.BIST_STAT_TEST 0xF
  | t :: rest =>
    let twin := decide (t = 0 ∨ t = 3 ∨ t = 5) && rest.head? == some (t + 1) && decide (400 ≤ s.get Reg.BUD_CAP_EFF_EFF)
    let cur := if twin then [t, t + 1] else [t]
    let r1 := { r with left := if twin then rest.drop 1 else rest, cur := cur, begun := cur.foldl (fun m k => m ||| 2 ^ k) r.begun }
    let s1 := cur.foldl State.testStarts ({ s with bist := some r1 }.put Reg.BIST_STAT_TEST t)
    if t = 8 then s1.testQuads r1 else if t = 7 ∨ t = 2 then s1.bistPlinthDown r1 else s1
/-- BIST_ENTRY_DONE: links parked and external DRAM in self-refresh as SEL needs, then scan is enabled and the first test starts. -/
def execBistEntryDone (s : State) : Host.Outcome State Fault Refusal :=
  match s.bist with
  | none => .next s
  | some r =>
    if s.get Reg.BIST_STAT_STATE ≠ 1 ∨ !s.stewardUp then .next s
    else
      let s1 := { s with cmd := { s.cmd with streams := s.cmd.streams.filter (fun t => t.id.session == 0) } }
      let s2 := if bistParks r.sel then (List.range 7).foldl State.parkPort s1 else s1
      let s3 := if bistPlinth r.sel then s2.xdramSleep none else s2
      .next ((s3.put Reg.BIST_STAT_STATE 2).bistNext r)
/-- A micro-channel named by the WHERE of a failing caddy test, one that the test of its die has passed, or neither (R590). -/
def State.bistHold (s : State) (t : Nat) (failure : Option (List Byte)) : State :=
  if t ≠ 5 ∧ t ≠ 6 then s
  else
    let inDie (n : Nat) : Bool := n / 96 == t - 5
    let bad := match failure with
      | some b => let n := leAt b 0 2; if n < 192 ∧ n ∉ s.mu.bad then s.mu.bad ++ [n] else s.mu.bad
      | none => s.mu.bad.filter (fun n => !inDie n)
    let held := match failure with
      | some b => (s.mu.held ++ [leAt b 0 2]).eraseDups
      | none => s.mu.held.filter (fun n => !inDie n)
    { s with mu := { s.mu with bad := bad, held := held } }
/-- BIST_TEST_COMPLETE: a running test ends, with its WHERE bytes where it failed, and the highest Tj in it. The progress shown is a free
value. -/
def execBistTestComplete (test : Fin 9) (failure : Option (List Byte)) (tj : Int) (s : State) : Host.Outcome State Fault Refusal :=
  match s.bist with
  | none => .next s
  | some r =>
    let t := test.val
    if t ∉ r.cur ∨ s.get Reg.BIST_STAT_STATE ≠ 2 then .next s
    else
      let new := decide (r.first = 0xFF) && failure.isSome
      let r1 := { r with
        cur := r.cur.filter (fun k => k != t), ran := r.ran ||| 2 ^ t, failed := if failure.isSome then r.failed ||| 2 ^ t else r.failed
        first := if new then t else r.first, place := if new then padTo 12 (failure.getD []) else r.place, tj := max r.tj tj }
      let s1 := ((({ s with bist := some r1 }.bistHold t failure).draw).put Reg.BIST_STAT_PCT (s.drawn 16 % 101))
      let s2 := if t = 8 then s1.quadsReturn r1.owners else s1
      let r2 := if t = 8 then { r1 with owners := [] } else r1
      .next (if r2.cur = [] then s2.bistNext r2 else { s2 with bist := some r2 })

/-! ### The end of a run (R589) -/

/-- A tested fabric die reset: its tiles, steepers and engines, and what their memories held (they are zeroed). -/
def State.fabricDieReset (s : State) (d : Nat) : State :=
  let inn (a : Nat) : Bool := decide (0x1000000 + d * 0x600000 ≤ a ∧ a < 0x1000000 + (d + 1) * 0x600000) ||
    decide (0x1C00000 + d * 0x180000 ≤ a ∧ a < 0x1C00000 + (d + 1) * 0x180000)
  let u : TileUnit := { s.tu with tiles := tclear s.tu.tiles (96 * d) (96 * d + 96), steepers := tclear s.tu.steepers (192 * d) (192 * d + 192),
                                  rows := tclear s.tu.rows (24576 * d) (24576 * d + 24576) }
  { s with regs := s.regs.filter (fun e => !inn (e.1 / 32)), win := s.win.filter (fun e => !inn e.1), tu := u,
           eng := tclear s.eng (48 * d) (48 * d + 48) }
/-- The completion of BIST_RUN: without AUTH, since every session has closed (R586). -/
def State.bistReply (s : State) (p : Packet) (a : Ans) : State :=
  match s.cmd.longOps.findIdx? (fun o => o.req == p) with
  | none => s
  | some i =>
    let rep := replyTo p false [] 2 a
    let s1 := { s with cmd := { s.cmd with longOps := s.cmd.longOps.eraseIdx i } }
    let s2 := if p.session = 0 then s1.record p rep false else s1
    if p.fAsync then s2.deliver rep else s2
/-- Tested dies reset, memories zeroed, the steward and external DRAM restarted, micro-channels calibrated, quads trained. -/
def State.bistRestores (s : State) (r : BistRun) (calFail : List Nat) : State :=
  let did (k : Nat) : Bool := bit r.begun k
  let s1 := if did 0 || did 3 then s.fabricDieReset 0 else s
  let s2 := if did 1 || did 4 then s1.fabricDieReset 1 else s1
  let s3 := if did 5 || did 0 then s2.caddyDie 0 (did 5) else s2
  let s4 := if did 6 || did 1 then s3.caddyDie 1 (did 6) else s3
  let s5 := r.owners.foldl (fun s e => ((quadLanes e.1).foldl (fun s l => s.bistLane false l) s).put (Reg.QUAD_CFG_OWNER e.1) e.2) s4
  let s6 := if did 7 || did 2 then
      let held := s5.mu.bad
      let s6 := s5.losePlinth
      { s6 with mu := { s6.mu with bad := held } }.plinthStart
    else if bistParks r.sel then (List.range 8).foldl (fun s q => if s.owner q = 0 ∨ bit r.quads q then s.quadUp q else s) s5
    else s5
  let s7 := s6.calibrated calFail
  if bistPlinth r.sel then s7.wakeTraining else s7
/-- BIST_RUN_END: after `ms` milliseconds the run is over; `calFail` names the micro-channels that fail calibration. -/
def execBistRunEnd (ms : Nat) (calFail : List (Fin 192)) (s : State) : Host.Outcome State Fault Refusal :=
  match s.bist with
  | none => .next s
  | some r =>
    if s.get Reg.BIST_STAT_STATE ≠ 3 ∨ !s.kettleOn ∨ s.bud.trip.isSome then .next s
    else
      let s1 := s.bistRestores r (calFail.map (fun n => n.val))
      let x := s1.bistRecord r ms
      let s2 := { x.1 with bist := none }.put Reg.BIST_STAT_STATE 0
      let rec_ := r.record (s.get Reg.BIST_RUNS_COUNT) ms
      let a : Ans := if r.cause = 3 then ⟨9, 3, rec_⟩ else if r.failed ≠ 0 then ⟨0xA, x.2, rec_⟩ else Ans.ok rec_
      let s3 := s2.bistReply r.req a
      .next (if bit r.flags 0 then s3.castFromMode else s3)

/-! ### The other commands (Table BIST-5) -/

/-- BIST_STAT as it reads. -/
def State.bistStat (s : State) : List Byte := leBytes 4 (s.word (wordsBist 0))
def bistStatusOp : OpSpec := plainOp 0x0A01 0 (fun s _ => (s, Ans.ok (s.bistStat ++ leBytes 4 (s.get Reg.BIST_RUNS_COUNT))))
/-- BIST_STATUS (R595). -/
def execBistStatus (p : Packet) (s : State) : Host.Outcome State Fault Refusal := serve bistStatusOp p s
def bistResultOp : OpSpec := plainOp 0x0A02 0 (fun s _ =>
  (s, Ans.ok ((List.range 16).flatMap (fun k => leBytes 4 (s.get (Reg.BIST_REC_REC k))))))
/-- BIST_RESULT (R595). -/
def execBistResult (p : Packet) (s : State) : Host.Outcome State Fault Refusal := serve bistResultOp p s
/-- BIST_ABORT's effect; the reply gives BIST_STAT at the abort. -/
def bistAbortRun (s : State) (_ : Ctx) : State × Ans :=
  if s.bist.isNone then (s, Ans.code 0xE 1) else (s.bistStop 1, Ans.ok s.bistStat)
def bistAbortOp : OpSpec := { plainOp 0x0A03 0 bistAbortRun with auth := fun _ _ => true }
/-- BIST_ABORT (R593). -/
def execBistAbort (p : Packet) (s : State) : Host.Outcome State Fault Refusal := serve bistAbortOp p s

end Sys2Proof.Machine
end

