-- ==== Sys2Proof/Machine/Csr.lean ====
section
/-! DEFINITION. CSR space: what each word reads as, reads with their side effects, writes, wide values, PEEK and POKE, and host access
to memory through BAR4 (R9–R12, R67, R396–R402, Table IDX-3). -/

namespace Sys2Proof.Machine

/-! ### Wide values (R399) -/

/-- The wide value that the word at CSR address `a` belongs to: its low address and its count of words. -/
def wideOf (a : Nat) : Option (Nat × Nat) :=
  let seg (lo hi n : Nat) : Option (Nat × Nat) := if lo ≤ a ∧ a < hi then some (lo + (a - lo) / (4 * n) * (4 * n), n) else none
  if a < 0x10000 then seg 0x10 0x18 2
  else if a < 0x30000 then (seg 0x20020 0x20060 8)
  else if a < 0x60000 then
    if 0x40100 ≤ a ∧ a < 0x40180 ∧ (a % 32 = 0x10 ∨ a % 32 = 0x14) then some (a / 8 * 8, 2)
    else if 0x51000 ≤ a ∧ a < 0x52800 ∧ (a % 32 = 0x10 ∨ a % 32 = 0x14) then some (a / 8 * 8, 2)
    else none
  else if a < 0x70000 then none
  else if a < 0x80000 then (if 0x70100 ≤ a ∧ a < 0x702C0 ∧ 0x20 ≤ a % 64 ∧ a % 64 < 0x30 then some (a / 8 * 8, 2) else none)
  else if a < 0x90000 then seg 0x80010 0x80028 2
  else if a < 0xA0000 then
    (((seg 0x90000 0x90010 4).or (seg 0x90030 0x90040 4)).or (seg 0x90100 0x90200 4)).or (seg 0x90200 0x90240 4)
  else if a < 0xD0000 then none
  else if a < 0xE0000 then seg 0xD0040 0xD0060 8
  else if a < 0x1000000 then none
  else if a < 0x1C00000 then
    let o := a % 0x10000
    if o < 0x8000 then some (a / 8 * 8, 2)
    else if 0x8010 ≤ o ∧ o < 0x8020 then some (a / 16 * 16, 4)
    else if 0x8020 ≤ o ∧ o < 0x8028 then some (a / 8 * 8, 2)
    else if 0x9100 ≤ o ∧ o < 0x9500 then some (a / 64 * 64, 16)
    else if 0x9500 ≤ o ∧ o < 0x9540 then some (a / 8 * 8, 2)
    else if 0xA000 ≤ o ∧ o < 0xC000 then
      let q := o % 0x1000
      if (0x18 ≤ q ∧ q < 0x20) ∨ (0x80 ≤ q ∧ q < 0xB8) ∨ (0xC0 ≤ q ∧ q < 0xD0) then some (a / 8 * 8, 2) else none
    else none
  else if a < 0x1F00000 then (if 0x6010 ≤ a % 0x8000 ∧ a % 0x8000 < 0x6018 then some (a / 8 * 8, 2) else none)
  else if 0x2000000 ≤ a ∧ a < 0x2200000 then (if a % 16 = 4 ∨ a % 16 = 8 then some (a / 16 * 16 + 4, 2) else none)
  else none

/-! ### What a word reads as -/

/-- A CSR address lies in a sealed-port window (R138). -/
def inSealed (a : Nat) : Bool := decide (0xA8000 ≤ a ∧ a < 0xB0000)
/-- A CSR address lies in a tile or engine window. -/
def inFabricWin (a : Nat) : Bool := decide (0x1000000 ≤ a ∧ a < 0x2000000)
/-- The words of the log entry that LOG_SEL names, zero where the ring does not hold it (R611). -/
def State.logSelected (s : State) (k : Nat) : Nat :=
  match s.log.ring.find? (fun e => e.seq == s.get Reg.LOG_SEL_SEQ) with
  | some e => leAt (logBytes e) (4 * k) 4
  | none => 0
/-- A word of a tile's window memories: instruction memory reads zero after an encrypted cast; s, V and p read 0 while the tile
runs (R285). -/
def State.tileMemWord (s : State) (a : Nat) : Nat :=
  let t := (a - 0x1000000) / 0x10000
  let o := a % 0x10000
  if o < 0x8000 then (if s.flag Reg.CAST_STATUS_ENCRYPTED then 0 else s.wget a)
  else if s.tileRuns t then 0
  else if o < 0x9080 then s.sreg t ((o - 0x9000) / 4)
  else if o < 0x9500 then s.wget a
  else if o < 0x9508 then 2 ^ 32 - 1
  else s.wget a
/-- The offset lies in a tile's window memories (Table TILE-4). -/
def isTileMem (o : Nat) : Bool := decide (o < 0x8000 ∨ (0x9000 ≤ o ∧ o < 0x9080) ∨ (0x9100 ≤ o ∧ o < 0x9540))
/-- The word at an aligned CSR address, whole and without a side effect (R67, R402): 0 where nothing is defined (R396) or the die is
not powered; WO fields read 0 (R11). -/
def State.csrShow (s : State) (a : Nat) : Nat :=
  if inFabricWin a && !s.fabricPowered then 0
  else if a = 0x8 then b2n (s.addr.stale.contains .host)
  else if 0x90000 ≤ a ∧ a < 0x90010 then leAt (todBytes s.time.tod) (a - 0x90000) 4
  else if a = 0xB0308 then s.door.keyFifo.headD 0
  else if a = 0xD0000 then s.logStatWord
  else if a = 0xD0008 then s.logTail
  else if a = 0xD000C then s.logPHead
  else if a = 0xD0010 then s.logPTail
  else if 0xD0040 ≤ a ∧ a < 0xD0060 then s.logSelected ((a - 0xD0040) / 4)
  else if 0x1000000 ≤ a ∧ a < 0x1C00000 ∧ isTileMem (a % 0x10000) then s.tileMemWord a
  else if 0x1C00000 ≤ a ∧ a < 0x1F00000 ∧ a % 0x8000 < 0x6000 then s.engMemWord a
  else if 0x3000000 ≤ a ∧ a < 0x3010000 ∧ a % 0x40 = 0 then s.hqCfg ((a - 0x3000000) / 0x40)
  else if 0x3000000 ≤ a ∧ a < 0x3010000 ∧ a % 0x40 = 0xC then (s.hqHeld ((a - 0x3000000) / 0x40)).headD nullHandle
  else s.word ((csrWord a).filter (fun b => b.acc != .wo))
/-- What a read of `n` words from `a` meets that it brings about: measured values are taken anew, free values (R99, Table DOOR-4), and
engine banks are served once no RPT runs (R260). -/
def State.measured (s : State) (a n : Nat) : State :=
  let s1 := (List.range 8).foldl (fun s k =>
    if (a ≤ 0xB010C + 16 * k ∧ 0xB010C + 16 * k < a + 4 * n) ∨ (k = 0 ∧ a ≤ 0xB0008 ∧ 0xB0008 < a + 4 * n) then s.measureLamp k else s) s
  if s.fabricPowered then (List.range n).foldl (fun s k => s.bankServe (a + 4 * k)) s1 else s1

/-! ### Reads with their side effects (R11, R400) -/

/-- A CSR can be reached over the tile network or BAR2: the plinth runs. -/
def State.csrLive (s : State) : Bool := s.plinthPowered && s.kettleOn && s.cur ≤ 1
/-- A read's result kept. -/
def State.returns (s : State) (v : Nat) : State := { s with addr := { s.addr with readData := v } }
/-- STALE of a requester set. -/
def State.setStale (s : State) (req : Requester) : State :=
  { s with addr := { s.addr with stale := if s.addr.stale.contains req then s.addr.stale else s.addr.stale ++ [req] } }
/-- The RC fields of a word cleared. -/
def State.rcClear (s : State) (a : Nat) : State :=
  let s1 := (csrWord a).foldl (fun s b => if b.acc == .rc then s.put b.home (setBits (s.get b.home) b.off b.width 0) else s) s
  if a = 0x10134 then { s1 with bud := { s1.bud with peaked := false } } else s1
/-- The low word of a wide value read: every word latched in the requester's shadow, each higher one fresh, and the RC fields of the low word
cleared (R400, R550). -/
def State.wideLow (s : State) (req : Requester) (lo n : Nat) : State × Nat :=
  let ws := (List.range n).map (fun k => s.csrShow (lo + 4 * k))
  let sh : Shadow := { req := req, addr := lo, words := ws, fresh := List.replicate n true }
  let rest := s.addr.shadows.filter (fun h => !(h.req == req && h.addr == lo))
  (({ s with addr := { s.addr with shadows := rest ++ [sh] } }).rcClear lo, ws.headD 0)
/-- A higher word read: the shadow's word, no longer fresh; STALE where it was not (R400). -/
def State.wideHigh (s : State) (req : Requester) (lo k : Nat) : State × Nat :=
  match s.addr.shadows.find? (fun h => h.req == req && h.addr == lo) with
  | none => (s.setStale req, 0)
  | some h =>
    let f (x : Shadow) : Shadow := if x.req == req && x.addr == lo then { x with fresh := x.fresh.set k false } else x
    let s1 := { s with addr := { s.addr with shadows := s.addr.shadows.map f } }
    (if h.fresh.getD k false then s1 else s1.setStale req, h.words.getD k 0)
/-- SYS_STALE read: the requester's own bit, cleared. -/
def State.staleRead (s : State) (req : Requester) : State × Nat :=
  ({ s with addr := { s.addr with stale := s.addr.stale.filter (fun r => r != req) } }, b2n (s.addr.stale.contains req))
/-- KEY_FIFO read: the oldest entry, removed; 0 where it is empty (R112). -/
def State.keyFifoTake (s : State) : State × Nat := (s.keyPop 1, s.door.keyFifo.headD 0)
/-- The place of a requester in the tile network. -/
def requesterPlace (q : Requester) : Nat :=
  match q with
  | .tile t => t.val
  | .host => plinthPlace
/-- An aligned CSR word read by a requester. A read of a sealed port is refused and logged (R138). -/
def State.csrRead (s : State) (req : Requester) (a : Nat) : State × Nat :=
  let s := s.netCsr (requesterPlace req) a false
  if inSealed a then
    (s.portDeny (if a < 0xAC000 then 0 else 1) (match req with | .tile t => t.val | .host => 0xFFFF), 0)
  else match wideOf a with
  | some (lo, n) => if a = lo then s.wideLow req lo n else s.wideHigh req lo ((a - lo) / 4)
  | none =>
    if a = 0x8 then s.staleRead req
    else if a = 0xB0308 then s.keyFifoTake
    else if 0x3000000 ≤ a ∧ a < 0x3010000 ∧ a % 0x40 = 0xC then s.hqCsrPop ((a - 0x3000000) / 0x40)
    else
      let s1 := s.measured a 1
      (s1.rcClear a, s1.csrShow a)

/-! ### Writes -/

/-- The RW fields of a word set, its W1C bits cleared (R11). -/
def State.fieldsPut (s : State) (a w : Nat) : State :=
  (csrWord a).foldl (fun s b =>
    match b.acc with
    | .rw => s.put b.home (setBits (s.get b.home) b.off b.width (bits w b.lsb b.width))
    | .w1c => s.clrBits b.home (bits w b.lsb b.width * 2 ^ b.off)
    | _ => s) s
/-- The word carries a field value that its table does not allow (Tables DOOR-4, DOOR-5; R95, R106, R110, R113). -/
def hmiIllegal (o w : Nat) : Bool :=
  if 0x100 ≤ o ∧ o < 0x180 then
    (if o % 16 = 0 then !(1 ≤ bits w 18 6 && bits w 18 6 ≤ 40 && bits w 15 3 ≤ 6) else o % 16 == 4 && 256 < bits w 0 9)
  else if o = 0x200 then !(bits w 12 6 ≤ 60 && bits w 0 3 ≤ 4)
  else if 0x210 ≤ o ∧ o < 0x2D0 ∧ o % 16 = 0 then !touchCfgOk ((o - 0x210) / 16) w
  else if o = 0x300 then bits w 4 5 == 0
  else if o = 0x310 then bits w 0 8 == 0
  else false
/-- A TCHn_CFG word that sets sense mode on a channel whose partner, of MODE `mate`, is not in drive mode (R106). -/
def senseAlone (mate o w : Nat) : Bool := decide (0x210 ≤ o ∧ o < 0x2D0 ∧ o % 16 = 0) && bits w 3 2 == 2 && mate != 1
/-- The MODE of the partner of the channel whose TCHn_CFG lies at an offset. -/
def State.mateMode (s : State) (o : Nat) : Nat := s.get (Reg.TCH_CFG_MODE ((o - 0x210) / 16 - 1))
/-- A word of the HMI block written; an illegal one is discarded (log entry 61). -/
def State.hmiPut (s : State) (o w : Nat) : State :=
  if hmiIllegal o w || senseAlone (s.mateMode o) o w then s
  else
    let s1 := s.fieldsPut (0xB0000 + o) w
    if 0x100 ≤ o ∧ o < 0x180 ∧ o % 16 < 8 then s1.lampApply ((o - 0x100) / 16)
    else if 0x210 ≤ o ∧ o < 0x2D0 ∧ o % 16 = 0 then s.putTouchCfg ((o - 0x210) / 16) w
    else if o = 0x330 then (if bit w 0 && !s.mayUnmute then s else s.setUnmute (bit w 0))
    else s1
/-- LN_CTRL written: LB only on a test lane (R463); then SLIP and RESTART act. -/
def State.laneCtrl (s : State) (l w : Nat) : State :=
  let lb := s.get (Reg.LN_CTRL_LB l)
  let s1 := s.fieldsPut (0x60100 + l * 0x40) w
  let s2 := if s.owner (l / 4) = 3 ∧ bits w 24 3 ≤ 3 then s1 else s1.put (Reg.LN_CTRL_LB l) lb
  let s3 := if bit w 30 then s2.laneSlip l else s2
  if bit w 29 then s3.laneRestart l else s3
/-- A word of a lane's set written: LN_EQ only while FREEZE is 1 (Table LANE-8), LN_TXEQ with a main cursor of at least 16 and no PCIe or Ethernet
owner (R462), LN_PRBS on a test lane (R463). -/
def State.lanePut (s : State) (l o w : Nat) : State :=
  let a := 0x60100 + l * 0x40 + o
  if o = 0 then s.laneCtrl l w
  else if o = 0xC then (if s.flag (Reg.LN_CTRL_FREEZE l) then s.fieldsPut a w else s)
  else if o = 0x10 then
    (if bits w 9 4 + bits w 4 5 + 16 ≤ 63 ∧ s.owner (l / 4) ≠ 1 ∧ s.owner (l / 4) ≠ 2 then s.fieldsPut a w else s)
  else if o = 0x14 then (if s.owner (l / 4) = 3 then s.setTest l (s.get (Reg.LN_CTRL_LB l)) (bits w 1 1 + 2 * bits w 0 1 + 4 * bits w 2 2) else s)
  else s.fieldsPut a w
/-- HL_CTRL written: ADMIN where it changes, TAG_TO but 0, then RETRAIN and WAKE (Table HOL-10). -/
def State.hlCtrl (s : State) (p w : Nat) : State :=
  let s1 := if bits w 16 8 = 0 then s else s.put (Reg.HL_CTRL_TAG_TO p) (bits w 16 8)
  let s2 := if bit w 31 = s1.flag (Reg.HL_CTRL_ADMIN p) then s1 else s1.setAdmin p (bits w 31 1)
  let s3 := if bit w 30 then s2.hlRetrain p else s2
  if bit w 29 then s3.wakeBurst p else s3
/-- A control register of a tile written (Table TILE-5). -/
def State.tileCsrPut (s : State) (t o w : Nat) : State :=
  if o = 0x8000 then s.tctrlWrite t w
  else if o = 0x8008 then (if s.tileRuns t then s else s.put (Reg.TSTART_ROW t) (bits w 0 4))
  else if 0x9000 ≤ o ∧ o < 0x9080 then
    (if s.tileRuns t then s.put (Reg.TSTAT_WERR t) 1 else s.setSreg t ((o - 0x9000) / 4) w)
  else s.fieldsPut (tileWin t + o) w
/-- A register of a steeper written (Table STRM-7, R371). -/
def State.steepCsrPut (s : State) (t st o w : Nat) : State :=
  let idle := s.steepState t st == 0 || s.steepState t st == 2
  let a := tileWin t + 0xA000 + st * 0x1000 + o
  if o = 0 then s.steepCtrl t st w
  else if o = 0xC then
    (if s.steepState t st = 0 then s.startStream t st (bits w 0 6) (s.get (Reg.STEEP_PARAM_PARAM t st)) else s)
  else if o = 4 ∨ idle then s.fieldsPut a w else s
/-- A word of an engine's window written (R271, Table SIG-6). -/
def State.engCsrPut (s : State) (e o w : Nat) : State :=
  if o < 0x6000 then
    (if o < 0x2000 ∧ s.flag (Reg.ENG_STAT_RUN e) then s.put (Reg.ENG_STAT_WERR e) 1
     else (s.bankServe (engWin e + o)).wput (engWin e + o) w)
  else if o = 0x6000 then s.engCtrlWrite e w
  else if o = 0x6008 then (s.fieldsPut (engWin e + o) w).engBoundary e
  else s.fieldsPut (engWin e + o) w
/-- A word of one CSR that is no part of a wide value written: the register's own action, or its fields. -/
def State.csrPut (s : State) (a w : Nat) : State :=
  if a = 0x100 then s.mbxCtrl w
  else if a = 0x108 then s.doorbell (bits w 0 16) []
  else if a = 0x114 then s.rplHead (bits w 0 16)
  else if a = 0x10004 then s.pwrCtrlWrite w
  else if a = 0x10008 then s.put Reg.PWR_WAKE_EN_EN (w ||| 8)
  else if a = 0x10018 then s.putDozeCfg w
  else if a = 0x1001C ∧ bits w 0 8 = 0 then s
  else if 0x60100 ≤ a ∧ a < 0x60900 then s.lanePut ((a - 0x60100) / 0x40) ((a - 0x60100) % 0x40) w
  else if 0x70100 ≤ a ∧ a < 0x702C0 ∧ a % 0x40 = 0 then s.hlCtrl ((a - 0x70100) / 0x40) w
  else if 0xB0000 ≤ a ∧ a < 0xC0000 then s.hmiPut (a - 0xB0000) w
  else if inFabricWin a && !s.fabricPowered then s
  else if 0x1000000 ≤ a ∧ a < 0x1C00000 then
    let t := (a - 0x1000000) / 0x10000
    let o := a % 0x10000
    if o < 0xA000 then s.tileCsrPut t o w
    else if o < 0xC000 then s.steepCsrPut t ((o - 0xA000) / 0x1000) (o % 0x1000) w
    else s
  else if 0x1C00000 ≤ a ∧ a < 0x1F00000 then s.engCsrPut ((a - 0x1C00000) / 0x8000) (a % 0x8000) w
  else if 0x2000000 ≤ a ∧ a < 0x2200000 then
    let j := (a - 0x2000000) / 16
    if a % 16 = 0 then s.soCfg j w else s.soOp j w
  else if 0x3000000 ≤ a ∧ a < 0x3010000 then
    let q := (a - 0x3000000) / 0x40
    if a % 0x40 = 0 then s.hqWriteCfg q w
    else if a % 0x40 = 8 then s.hqCsrPush q w
    else s.fieldsPut a w
  else s.fieldsPut a w

/-- The tile whose window memory a wide value lies in, where the tile runs: a write is discarded with WERR (R285). -/
def State.runningWin (s : State) (lo : Nat) : Option Nat :=
  if 0x1000000 ≤ lo ∧ lo < 0x1C00000 ∧ isTileMem (lo % 0x10000) then
    let t := (lo - 0x1000000) / 0x10000
    if s.tileRuns t then some t else none
  else none
/-- The words of a wide value written in one cycle, those not given unchanged (R401). -/
def State.wideStore (s : State) (lo : Nat) (ws : List (Option Nat)) : State :=
  if 0x2000000 ≤ lo ∧ lo < 0x2200000 then
    let j := (lo - 0x2000000) / 16
    let old := s.soVal j
    s.soSet j (((ws.getD 0 none).getD (old % 2 ^ 32)) % 2 ^ 32 + 2 ^ 32 * (((ws.getD 1 none).getD (old / 2 ^ 32)) % 2 ^ 32))
  else
    let o := lo % 0x10000
    let tile := decide (0x1000000 ≤ lo ∧ lo < 0x1C00000)
    (List.range ws.length).foldl (fun s k =>
      match ws.getD k none with
      | none => s
      | some w =>
        if tile && isTileMem o then (if 0x9500 ≤ o ∧ o < 0x9508 then s else s.wput (lo + 4 * k) w)
        else if tile && decide (0xA000 ≤ o) then
          s.steepCsrPut ((lo - 0x1000000) / 0x10000) ((o - 0xA000) / 0x1000) (o % 0x1000 + 4 * k) (if o % 0x1000 = 0x18 ∧ k = 0 then w / 64 * 64 else w)
        else s.fieldsPut (lo + 4 * k) w) s
/-- An aligned CSR word written by a requester (R401). A write to a sealed port that is no 64-byte row is refused and logged (R138). -/
def State.csrWrite (s : State) (req : Requester) (a w : Nat) : State :=
  let s := s.netCsr (requesterPlace req) a true
  if inSealed a then s.portDeny (if a < 0xAC000 then 0 else 1) (match req with | .tile t => t.val | .host => 0xFFFF)
  else match wideOf a with
  | none => s.csrPut a w
  | some (lo, n) =>
    if inFabricWin a && !s.fabricPowered then s
    else match s.runningWin lo with
    | some t => s.windowRefused req t lo (lo + 4 * n)
    | none =>
      if a = lo + 4 * (n - 1) then
        let r := s.takeHeld req lo a
        r.1.wideStore lo (r.2 ++ [some w])
      else s.hold req a w

/-! ### The rows of CSR accesses -/

/-- A row that reads a CSR, where the address is of its kind. -/
def State.readRow (s : State) (ok : Bool) (r : State × Nat) : Host.Outcome State Fault Refusal :=
  .next (if s.csrLive && ok then r.1.returns r.2 else s)
/-- An access of 1, 2 or 4 bytes is naturally aligned. DESIGN CHOICE (log entry 82): R10 says that an access must be and states no outcome of
another, which the model gives no effect. -/
def natural (addr width : Nat) : Bool := (width == 1 || width == 2 || width == 4) && addr % width == 0
/-- The addressed bytes of the word that a narrow read reads whole (R10). -/
def narrowed (addr width w : Nat) : Nat := w / 2 ^ (8 * (addr % 4)) % 2 ^ (8 * width)
/-- A row that reads a width: the read of the whole word, with the addressed bytes returned. -/
def State.readBytes (s : State) (x : CsrRead) (ok : Bool) (r : State × Nat) : Host.Outcome State Fault Refusal :=
  s.readRow (natural x.addr x.width && ok) (r.1, narrowed x.addr x.width r.2)
/-- WIDE_VALUE_LOW_READ (R10, R400). -/
def execWideValueLowRead (req : Requester) (r : CsrRead) (s : State) : Host.Outcome State Fault Refusal :=
  let a := r.addr / 4 * 4
  let n := match wideOf a with | some (lo, n) => if lo = a then n else 0 | none => 0
  s.readBytes r (n != 0) (s.wideLow req a n)
/-- WIDE_VALUE_HIGH_READ (R10, R400). -/
def execWideValueHighRead (req : Requester) (r : CsrRead) (s : State) : Host.Outcome State Fault Refusal :=
  let a := r.addr / 4 * 4
  match wideOf a with
  | some (lo, _) => s.readBytes r (lo != a) (s.wideHigh req lo ((a - lo) / 4))
  | none => .next s
/-- WIDE_VALUE_WRITE (R401). -/
def execWideValueWrite (req : Requester) (addr : Nat) (w : Word) (s : State) : Host.Outcome State Fault Refusal :=
  .next (if s.csrLive && (wideOf addr).isSome && addr % 4 == 0 then s.csrWrite req addr w.toNat else s)
/-- SYS_STALE_READ (R400). -/
def execSysStaleRead (req : Requester) (s : State) : Host.Outcome State Fault Refusal := s.readRow true (s.staleRead req)
/-- RC_FIELD_READ: the addressed bytes returned, every RC field of the word cleared (R10, R11). -/
def execRcFieldRead (req : Requester) (r : CsrRead) (s : State) : Host.Outcome State Fault Refusal :=
  let a := r.addr / 4 * 4
  s.readBytes r ((csrWord a).any (fun b => b.acc == .rc)) (s.csrRead req a)
/-- KEY_FIFO_READ (R112). -/
def execKeyFifoRead (s : State) : Host.Outcome State Fault Refusal := s.readRow true s.keyFifoTake
/-- The low word of a capture: TCAP0–15, then CSI_FS0–3 (Table TIME-4). -/
def captureAddr (c : Nat) : Nat := if c < 16 then 0x90100 + 16 * c else 0x90200 + 16 * (c - 16)
/-- CAPTURE_READ (R550). -/
def execCaptureRead (req : Requester) (c : Fin 20) (s : State) : Host.Outcome State Fault Refusal :=
  s.readRow true (s.wideLow req (captureAddr c.val) 4)
/-- LOG_DATA_READ (R611). -/
def execLogDataRead (req : Requester) (s : State) : Host.Outcome State Fault Refusal := s.readRow true (s.wideLow req 0xD0040 8)
/-- REGISTER_WRITE (R10, R11): a write narrower than 32 bits is discarded, but in a sealed-port window, where every access that is no
64-byte row is refused and logged (R138). -/
def execRegisterWrite (req : Requester) (addr : Nat) (width : Nat) (w : Word) (s : State) : Host.Outcome State Fault Refusal :=
  .next (if !s.csrLive || decide (0x4000000 ≤ addr) then s
    else if inSealed addr || (width == 4 && natural addr 4) then s.csrWrite req addr w.toNat
    else s)

/-! ### PEEK and POKE (R67) -/

/-- A range of `n` words from `a` meets [lo, hi). -/
def meets (a n lo hi : Nat) : Bool := decide (a < hi ∧ lo < a + 4 * n)
/-- PEEK's effect. -/
def peekRun (s : State) (c : Ctx) : State × Ans :=
  let a := c.at 0 4
  let n := c.at 4 2
  if meets a n 0x30000 0x40000 || meets a n 0xA8000 0xB0000 then (s, Ans.code 5 6)
  else
    let s1 := s.measured a n
    (s1, Ans.ok ((List.range n).flatMap (fun k => leBytes 4 (s1.csrShow (a + 4 * k)))))
/-- ADDR aligned and in CSR space with all its words, COUNT in its range. DESIGN CHOICE (log entry 81): a misaligned ADDR and words beyond CSR
space are the ADDR field's fault, DETAIL 0. -/
def csrRangeBad (top a n : Nat) : Option Nat :=
  firstBad [(0, a % 4 == 0 && decide (a < 0x4000000)), (4, 1 ≤ n && n ≤ top), (0, decide (a + 4 * n ≤ 0x4000000))]
def peekOp : OpSpec := { plainOp 0x0106 8 peekRun with range := fun _ c => csrRangeBad 1015 (c.at 0 4) (c.at 4 2) }
/-- PEEK (R67). -/
def execPeek (p : Packet) (s : State) : Host.Outcome State Fault Refusal := serve peekOp p s

/-- The blocks that refuse POKE (Table IDX-3): CAST, TNET, XDRAM, CADDY, ENS, VAULT, BIST. -/
def pokeRefused (a n : Nat) : Bool :=
  meets a n 0x20000 0x60000 || meets a n 0x80000 0x90000 || meets a n 0xA0000 0xB0000 || meets a n 0xC0000 0xD0000
/-- The words of a POKE in ascending order: those of a wide value are held by the POKE itself until its highest word (R67). -/
def State.pokeWords (s : State) (held : List (Nat × Nat)) : Nat → List Nat → State
  | _, [] => s
  | a, w :: ws =>
    match wideOf a with
    | none => (s.csrPut a w).pokeWords held (a + 4) ws
    | some (lo, n) =>
      if inFabricWin a && !s.fabricPowered then s.pokeWords held (a + 4) ws
      else match s.runningWin lo with
      | some t => (s.put (Reg.TSTAT_WERR t) 1).pokeWords (held.filter (fun h => h.1 < lo)) (a + 4) ws
      | none =>
        if a = lo + 4 * (n - 1) then
          let f (k : Nat) : Option Nat := (held.find? (fun h => h.1 == lo + 4 * k)).map (fun h => h.2)
          (s.wideStore lo ((List.range (n - 1)).map f ++ [some w])).pokeWords [] (a + 4) ws
        else s.pokeWords (held ++ [(a, w)]) (a + 4) ws
/-- POKE's words. -/
def pokeData (c : Ctx) : List Nat := bytesWords ((c.data.length - 8) / 4) (c.data.drop 8)
/-- POKE's effect. -/
def pokeRun (s : State) (c : Ctx) : State × Ans :=
  let a := c.at 0 4
  if pokeRefused a (pokeData c).length then (s, Ans.code 5 6) else (s.pokeWords [] a (pokeData c), Ans.ok [])
/-- The MODE that a POKE leaves the partner of word k's channel in: its own word for it, or the register. -/
def State.pokeMate (s : State) (a : Nat) (ws : List Nat) (k : Nat) : Nat :=
  if 4 ≤ k then bits (ws.getD (k - 4) 0) 3 2 else s.mateMode (a + 4 * k - 0xB0000)
/-- The first word with an illegal HMI field value (R106, R119), as its payload offset. -/
def State.pokeIllegal (s : State) (a : Nat) (ws : List Nat) : List (Nat × Bool) :=
  (List.range ws.length).map (fun k =>
    let o := a + 4 * k - 0xB0000
    let w := ws.getD k 0
    (8 + 4 * k, !(decide (0xB0000 ≤ a + 4 * k ∧ a + 4 * k < 0xC0000) && (hmiIllegal o w || senseAlone (s.pokeMate a ws k) o w))))
def pokeOp : OpSpec := { plainOp 0x0107 0xFFFF pokeRun with
  lenOk := fun b => decide (8 ≤ b.length) && b.length == 8 + 4 * leAt b 4 2
  range := fun s c => (csrRangeBad 1014 (c.at 0 4) (c.at 4 2)).or (firstBad (s.pokeIllegal (c.at 0 4) (pokeData c))) }
/-- POKE (R67, R85, R119). -/
def execPoke (p : Packet) (s : State) : Host.Outcome State Fault Refusal := serve pokeOp p s

/-! ### BAR4 (R398) -/

/-- What a BAR4 access completes with. -/
def State.bar4Ends (s : State) (ur : Nat) (ep : Bool) (bs : List Byte) : State := { s with addr := { s.addr with bar4 := (ur, ep, bs) } }
/-- BAR4_ACCESS (R398): memory and tile stores alone; any other range, and every access in DOZE (R467), completes with Unsupported Request. A read that meets MEM_UE has
EP set. An access to external DRAM that trains, or over the activate limit, waits (R437, R439). -/
def execBar4Access (off : Nat) (len : Nat) (wr : Option (List Byte)) (s : State) : Host.Outcome State Fault Refusal :=
  let a := s.get Reg.SYS_BAR4_BASE * 2 ^ 34 + off
  let n := match wr with | some b => b.length | none => len
  if s.plinthPowered && s.kettleOn && s.cur == 2 then .next (s.bar4Ends 1 false [])
  else if !s.csrLive || decide (2 ^ 34 < off + n) then .next s
  else if !s.allMem a n then .next (s.bar4Ends 1 false [])
  else if s.mustWait a n then .next s
  else
    let q := s.admitAll .pcie (blocks64 a n)
    if !q.2 then .next q.1
    else match wr with
      | some b => .next (((q.1.netAccess plinthPlace a n true).writeMem 3 a b).bar4Ends 0 false [])
      | none =>
        let r := (q.1.netAccess plinthPlace a n false).readMem 3 a n
        .next (r.1.bar4Ends 0 r.2.2 r.2.1)

end Sys2Proof.Machine
end

