-- ==== Sys2Proof/Machine/StreamDone.lean ====
section
/-! DEFINITION. A steeper's access completed: its source read, its destination written, poison and errors, and the next access
(R350, R364–R366, R397). -/

namespace Sys2Proof.Machine

/-- The untranslated address of a side of access `n`, for STEEP_FADDR. -/
def Desc.accessAddr (d : Desc) (n : Nat) : Nat := match d.access n with | .at a => a | .pad _ => 0
/-- The access at hand will join the transfer of the one before it. -/
def State.joins (s : State) (t : Nat) (w : Walk) : Bool :=
  let dev := xDev w.word
  match s.sideOf t w.src w.n (xRsrc w.word) dev false, s.sideOf t w.dst w.n (xRdst w.word) dev true with
  | .fault _ _ _, _ | .miss _, _ | _, .fault _ _ _ | _, .miss _ => false
  | src, dst => (w.merge t src dst).joined
/-- The access at hand is done: at a transfer boundary the stream halts where it was asked to; it goes on to the next access, or past the
XFER. -/
def State.accessDone (s : State) (t st : Nat) : State :=
  match (s.sx t st).walk with
  | none => s
  | some w =>
    if w.total ≤ w.n + 1 then
      let s1 := (s.setSx t st { s.sx t st with walk := none }).xlatOver (2 * t + st)
      (s1.steepNext t st).steepHaltNow t st
    else
      let s1 := (s.mapWalk t st (fun w => { w with n := w.n + 1, phase := .idle })).xlatOver (2 * t + st)
      if (s1.sx t st).haltReq.isSome && !s.joins t { w with n := w.n + 1 } then s1.steepHaltNow t st else s1.steepIssue t st

/-- The requester of a stream's access (R439): on the bulk path its engine's group (R356), else its tile. -/
def Walk.requester (w : Walk) (t st : Nat) : MemReq := if w.xferPath = 2 then .bulk ((2 * t + st) % 16 / 4) else .tile t
/-- How reading a local source ends: the bytes and whether they are poisoned, a refusal, or a wait. -/
inductive SrcRes where
  | data (s : State) (b : List Byte) (poison : Bool)
  | denied (s : State)
  | wait (s : State)
deriving DecidableEq, Repr
/-- A local source read: memory, or a CSR with an access width of 4 bytes (R397); a sealed port refuses reads (R138). -/
def State.readSource (s : State) (t : Nat) (r : MemReq) (a n : Nat) : SrcRes :=
  match s.place a with
  | .hole => .denied s
  | .csr c =>
    if inSealed c then .denied (s.csrRead (.tile (Fin.ofNat 192 t)) c).1
    else if n = 4 then
      let r := s.csrRead (.tile (Fin.ofNat 192 t)) c
      .data r.1 (leBytes 4 r.2) false
    else .denied s
  | _ =>
    if s.mustWait a n then .wait s
    else
      let q := s.admitAll r (blocks64 a n)
      if !q.2 then .wait q.1
      else
        let r := (q.1.netAccess t a n false).readMem 0 a n
        .data r.1 r.2.1 r.2.2
/-- A local destination can take the write now. -/
def State.destReady (s : State) (t : Nat) (r : MemReq) (a n : Nat) : State × Bool :=
  match s.place a with
  | .hole => (s, true)
  | .csr c =>
    if !inSealed c then (s, true)
    else match s.portWrite (if c < 0xAC000 then 0 else 1) t (c % 0x4000) (zeros n) with
      | .wait => (s, false)
      | _ => (s, true)
  | _ => if s.mustWait a n then (s, false) else s.admitAll r (blocks64 a n)
/-- A local destination written: none where the target refuses. -/
def State.writeDest (s : State) (t a : Nat) (b : List Byte) : State × Bool :=
  match s.place a with
  | .hole => (s, false)
  | .csr c =>
    if inSealed c then
      (match s.portWrite (if c < 0xAC000 then 0 else 1) t (c % 0x4000) b with
       | .ok s1 => (s1, true)
       | .denied s1 => (s1, false)
       | .wait => (s, false))
    else if b.length = 4 then (s.csrWrite (.tile (Fin.ofNat 192 t)) c (leNat b), true)
    else (s, false)
  | _ => ((s.netAccess t a b.length true).writeMem 0 a b, true)
/-- A local destination can hold poison: memory with error correction. -/
def State.holdsPoison (s : State) (a : Nat) : Bool := (s.place a).isMem && s.canPoison a
/-- Poisoned data delivered (R366): written poisoned, counted and logged, once for each 64-byte block that a transfer reads. -/
def State.deliverPoison (s : State) (t st : Nat) (w : Walk) (b : List Byte) : State :=
  let s1 := ((s.netAccess t w.dstPa b.length true).writeMem 0 w.dstPa b).poisonMem w.dstPa b.length
  if w.ueBlock = some (w.srcPa / 64) then s1
  else
    let s2 := (s1.mapWalk t st (fun w => { w with ueBlock := some (w.srcPa / 64) })).bumpSat (Reg.STEEP_STAT_UE t st) 1
    s2.logEvent 0x0504 t (leBytes 1 st ++ leBytes 6 w.dstPa)
/-- The data of a local source side, where it can be read without an error. -/
def State.aheadData (s : State) (t st : Nat) (w : Walk) (side : Side) : Option (State × List Byte) :=
  match side with
  | .pad b => some (s, b)
  | .here a => (match s.readSource t (w.requester t st) a (Desc.w w.src) with | .data s1 b false => some (s1, b) | _ => none)
  | _ => none
/-- Up to `k` accesses behind access `w.n` of a walk, issued before its error was found: each takes effect where both sides are local and it meets
neither a fault nor an error (R365). -/
def State.runAhead : Nat → Nat → Nat → State → Walk → State
  | 0, _, _, s, _ => s
  | k + 1, t, st, s, v =>
    let w := { v with n := v.n + 1 }
    if w.total ≤ w.n then s
    else match s.sideOf t w.src w.n (xRsrc w.word) 0 false, s.sideOf t w.dst w.n (xRdst w.word) 0 true with
      | src, .here b =>
        match s.aheadData t st w src with
        | none => s
        | some r =>
          let m := w.merge t src (.here b)
          let s1 := r.1.bumpWrap (Reg.STEEP_XFERS_COUNT t st) (if m.joined || src.padded then 0 else 1)
          State.runAhead k t st (s1.writeDest t b r.2).1 m
      | _, _ => s
/-- An error found as an access completes (R365): a free number of those issued behind it have taken effect, as many as may be outstanding (R355,
R356), and the stream stops at this one, which it issues again on resume. -/
def State.accessError (s : State) (t st : Nat) (w : Walk) (code detail : Nat) (remote write : Bool) (a : Nat) : State :=
  let k := s.drawn (if w.xferPath = 2 then 9 else 5)
  (State.runAhead k t st s.draw w).accessFault t st code detail remote write a
/-- The data of the access at hand delivered to a local destination, or the error it meets. -/
def State.deliverLocal (s : State) (t st : Nat) (w : Walk) (b : List Byte) (poison : Bool) : State :=
  let va := Desc.accessAddr w.dst w.n
  if poison then
    (if s.holdsPoison w.dstPa then (s.deliverPoison t st w b).accessDone t st
     else s.accessError t st w 0xB 0 (xRsrc w.word) false (Desc.accessAddr w.src w.n))
  else
    let r := s.writeDest t w.dstPa b
    if r.2 then r.1.accessDone t st else r.1.accessError t st w 0xA 0 false true va
/-- The access at hand carried out, both sides being ready: its source read, its destination written or the remote write sent. -/
def State.carryOut (s : State) (t st : Nat) (w : Walk) : State :=
  let src : SrcRes := match Desc.access w.src w.n with
    | .pad b => .data s b false
    | .at _ => s.readSource t (w.requester t st) w.srcPa (Desc.w w.src)
  match src with
  | .wait s1 => s1
  | .denied s1 => s1.accessError t st w 0xA 0 false false (Desc.accessAddr w.src w.n)
  | .data s1 b poison =>
    if xRdst w.word then
      (if poison then s1.accessError t st w 0xB 0 false false (Desc.accessAddr w.src w.n)
       else s1.sendAccess t st (xDev w.word) 1 w.dstPa b.length b)
    else s1.deliverLocal t st w b poison
/-- A remote write can be sent: a tag of the port is free, or the route ends it at once. -/
def State.tagFree (s : State) (dev : Nat) : Bool :=
  match s.routePort dev with
  | some p => !s.isUp p || (s.port p).freeTag.isSome
  | none => true
/-- An access of a running stream completes, where it can complete now. -/
def State.transferDone (s : State) (t st : Nat) (w : Walk) : State :=
  match w.phase with
  | .idle => s.steepIssue t st
  | .walk _ => s
  | .sent _ _ => s
  | .tag => s.sendAccess t st (xDev w.word) 0 w.srcPa (Desc.w w.src) []
  | .ready =>
    if xRdst w.word then (if s.tagFree (xDev w.word) then s.carryOut t st w else s)
    else
      let q := s.destReady t (w.requester t st) w.dstPa (Desc.w w.dst)
      if q.2 then q.1.carryOut t st w else q.1
  | .back 0 _ poison data =>
    if xRdst w.word then s.accessDone t st
    else
      let q := s.destReady t (w.requester t st) w.dstPa (Desc.w w.dst)
      if q.2 then q.1.deliverLocal t st w data poison else q.1
  | .back code d _ _ =>
    s.accessError t st w code d true (xRdst w.word) (if xRdst w.word then Desc.accessAddr w.dst w.n else Desc.accessAddr w.src w.n)
/-- The accesses that have joined the transfer complete with it (R342, R354): a transfer has at most 64. -/
def State.transferRest : Nat → Nat → Nat → State → State
  | 0, _, _, s => s
  | k + 1, t, st, s =>
    match (s.sx t st).walk with
    | none => s
    | some w =>
      if s.steepState t st = 1 ∧ w.joined ∧ w.phase = .ready ∧ !xRdst w.word ∧ !xRsrc w.word then State.transferRest k t st (s.transferDone t st w)
      else s
/-- TRANSFER_COMPLETE (R365, R366): the transfer at hand of steeper `st` of tile `t` completes, where it can complete now. -/
def execTransferComplete (t : Fin 192) (st : Fin 2) (s : State) : Host.Outcome State Fault Refusal :=
  if !s.fabricPowered || !s.plinthPowered || !(s.cur == 0 || s.moving) || s.steepState t.val st.val != 1 then .next s
  else match (s.sx t.val st.val).walk with
    | none => .next s
    | some w => .next (State.transferRest 63 t.val st.val (s.transferDone t.val st.val w))

end Sys2Proof.Machine
end

