-- ==== Sys2Proof/Machine/Dispatch.lean ====
section
/-! DEFINITION. The meaning of each command: one arm per constructor, one call per arm. -/

namespace Sys2Proof.Machine

def exec (i : Instr) (s : State) : Host.Outcome State Fault Refusal :=
  match i with
  | .echo p => Sys2Proof.Machine.execEcho p s
  | .getInfo p => Sys2Proof.Machine.execGetInfo p s
  | .sessionOpen p => Sys2Proof.Machine.execSessionOpen p s
  | .sessionClose p => Sys2Proof.Machine.execSessionClose p s
  | .cmdPoll p => Sys2Proof.Machine.execCmdPoll p s
  | .keyProvision p => Sys2Proof.Machine.execKeyProvision p s
  | .peek p => Sys2Proof.Machine.execPeek p s
  | .poke p => Sys2Proof.Machine.execPoke p s
  | .sessionIdleTimeout n => Sys2Proof.Machine.execSessionIdleTimeout n s
  | .chainTimeout st => Sys2Proof.Machine.execChainTimeout st s
  | .mctpMessageTimeout => Sys2Proof.Machine.execMctpMessageTimeout s
  | .setEndpointId eid => Sys2Proof.Machine.execSetEndpointId eid s
  | .getEndpointId => Sys2Proof.Machine.execGetEndpointId s
  | .getMctpVersionSupport msgType => Sys2Proof.Machine.execGetMctpVersionSupport msgType s
  | .getMessageTypeSupport => Sys2Proof.Machine.execGetMessageTypeSupport s
  | .entdaa addr => Sys2Proof.Machine.execEntdaa addr s
  | .writePacket bytes => Sys2Proof.Machine.execWritePacket bytes s
  | .readReply whole => Sys2Proof.Machine.execReadReply whole s
  | .readStatus => Sys2Proof.Machine.execReadStatus s
  | .mbxDoorbell tail placed => Sys2Proof.Machine.execMbxDoorbell tail placed s
  | .mbxRplHeadWrite head => Sys2Proof.Machine.execMbxRplHeadWrite head s
  | .mbxReset w => Sys2Proof.Machine.execMbxReset w s
  | .pwrSetState p => Sys2Proof.Machine.execPwrSetState p s
  | .pwrQuiesceTimeout => Sys2Proof.Machine.execPwrQuiesceTimeout s
  | .pwrQuiesceDone => Sys2Proof.Machine.execPwrQuiesceDone s
  | .pwrEntryCommit => Sys2Proof.Machine.execPwrEntryCommit s
  | .pwrGetState p => Sys2Proof.Machine.execPwrGetState p s
  | .pwrWakeConfig p => Sys2Proof.Machine.execPwrWakeConfig p s
  | .pwrDozeConfig p => Sys2Proof.Machine.execPwrDozeConfig p s
  | .pwrWakeClear p => Sys2Proof.Machine.execPwrWakeClear p s
  | .pwrWake w => Sys2Proof.Machine.execPwrWake w s
  | .autoIdleExpire => Sys2Proof.Machine.execAutoIdleExpire s
  | .dozeLimitExpire => Sys2Proof.Machine.execDozeLimitExpire s
  | .resetNFall => Sys2Proof.Machine.execResetNFall s
  | .resetNRise b => Sys2Proof.Machine.execResetNRise b s
  | .supplyMonitorTrip => Sys2Proof.Machine.execSupplyMonitorTrip s
  | .supplyMonitorRelease b => Sys2Proof.Machine.execSupplyMonitorRelease b s
  | .railUp r => Sys2Proof.Machine.execRailUp r s
  | .railUpTimeout r => Sys2Proof.Machine.execRailUpTimeout r s
  | .pgFall r => Sys2Proof.Machine.execPgFall r s
  | .refclkValid => Sys2Proof.Machine.execRefclkValid s
  | .pllLock pll ok calFail => Sys2Proof.Machine.execPllLock pll ok calFail s
  | .refclkFail => Sys2Proof.Machine.execRefclkFail s
  | .clkLoss => Sys2Proof.Machine.execClkLoss s
  | .wakePin n => Sys2Proof.Machine.execWakePin n s
  | .hlinkWakeBurst port => Sys2Proof.Machine.execHlinkWakeBurst port s
  | .caddySrExitDone calFail => Sys2Proof.Machine.execCaddySrExitDone calFail s
  | .dozeRestoreDone o => Sys2Proof.Machine.execDozeRestoreDone o s
  | .lampSet p => Sys2Proof.Machine.execLampSet p s
  | .lampGet p => Sys2Proof.Machine.execLampGet p s
  | .lampRetry p => Sys2Proof.Machine.execLampRetry p s
  | .touchConfig p => Sys2Proof.Machine.execTouchConfig p s
  | .touchGet p => Sys2Proof.Machine.execTouchGet p s
  | .keyConfig p => Sys2Proof.Machine.execKeyConfig p s
  | .keyRead p => Sys2Proof.Machine.execKeyRead p s
  | .doorStatus p => Sys2Proof.Machine.execDoorStatus p s
  | .tamperClear p loopOpen => Sys2Proof.Machine.execTamperClear p loopOpen s
  | .audioMute p => Sys2Proof.Machine.execAudioMute p s
  | .lampShort x => Sys2Proof.Machine.execLampShort x s
  | .lampAutoRetry ch => Sys2Proof.Machine.execLampAutoRetry ch s
  | .lampRetriesReset ch => Sys2Proof.Machine.execLampRetriesReset ch s
  | .lampOpen ch => Sys2Proof.Machine.execLampOpen ch s
  | .inrushWindowEnd x => Sys2Proof.Machine.execInrushWindowEnd x s
  | .rampEnd ch => Sys2Proof.Machine.execRampEnd ch s
  | .lampRailUv rail => Sys2Proof.Machine.execLampRailUv rail s
  | .railUvRelease rail => Sys2Proof.Machine.execRailUvRelease rail s
  | .railRestartWaitEnd rail => Sys2Proof.Machine.execRailRestartWaitEnd rail s
  | .lgateEdge ch level => Sys2Proof.Machine.execLgateEdge ch level s
  | .touchScan counts => Sys2Proof.Machine.execTouchScan counts s
  | .touchRecal ch => Sys2Proof.Machine.execTouchRecal ch s
  | .keyRowLow => Sys2Proof.Machine.execKeyRowLow s
  | .keyScan down ms => Sys2Proof.Machine.execKeyScan down ms s
  | .plugChange n present => Sys2Proof.Machine.execPlugChange n present s
  | .tamper => Sys2Proof.Machine.execTamper s
  | .vaultStatus p => Sys2Proof.Machine.execVaultStatus p s
  | .vaultEnrol p => Sys2Proof.Machine.execVaultEnrol p s
  | .enrolCaptureTimeout => Sys2Proof.Machine.execEnrolCaptureTimeout s
  | .vaultErase p => Sys2Proof.Machine.execVaultErase p s
  | .vaultScrubDone => Sys2Proof.Machine.execVaultScrubDone s
  | .vaultList p => Sys2Proof.Machine.execVaultList p s
  | .vaultPolicy p => Sys2Proof.Machine.execVaultPolicy p s
  | .vaultExport p => Sys2Proof.Machine.execVaultExport p s
  | .vaultExportDone answers => Sys2Proof.Machine.execVaultExportDone answers s
  | .vaultImport p => Sys2Proof.Machine.execVaultImport p s
  | .vaultCommit res => Sys2Proof.Machine.execVaultCommit res s
  | .vaultReclaim sector => Sys2Proof.Machine.execVaultReclaim sector s
  | .vaultFillDone => Sys2Proof.Machine.execVaultFillDone s
  | .queryRowWrite port tile row data => Sys2Proof.Machine.execQueryRowWrite port tile row data s
  | .querySubmit port tile desc => Sys2Proof.Machine.execQuerySubmit port tile desc s
  | .vaultPortStale port tile => Sys2Proof.Machine.execVaultPortStale port tile s
  | .match => Sys2Proof.Machine.execMatch s
  | .castLoad p => Sys2Proof.Machine.execCastLoad p s
  | .castSourceRead bytes src => Sys2Proof.Machine.execCastSourceRead bytes src s
  | .castLoadComplete pers => Sys2Proof.Machine.execCastLoadComplete pers s
  | .relayBlock port no data crc => Sys2Proof.Machine.execRelayBlock port no data crc s
  | .relayTimeout => Sys2Proof.Machine.execRelayTimeout s
  | .castStatusGet p => Sys2Proof.Machine.execCastStatusGet p s
  | .castRelease p => Sys2Proof.Machine.execCastRelease p s
  | .castUnload p => Sys2Proof.Machine.execCastUnload p s
  | .castKeySet p => Sys2Proof.Machine.execCastKeySet p s
  | .castSignerSet p => Sys2Proof.Machine.execCastSignerSet p s
  | .castPolicySet p => Sys2Proof.Machine.execCastPolicySet p s
  | .castFlashPrefer p => Sys2Proof.Machine.execCastFlashPrefer p s
  | .recastLoad p => Sys2Proof.Machine.execRecastLoad p s
  | .recastVerifyDone pers => Sys2Proof.Machine.execRecastVerifyDone pers s
  | .rollbackCaptureDone => Sys2Proof.Machine.execRollbackCaptureDone s
  | .recastRelease => Sys2Proof.Machine.execRecastRelease s
  | .recastTimeout => Sys2Proof.Machine.execRecastTimeout s
  | .recastAbort p => Sys2Proof.Machine.execRecastAbort p s
  | .recastStatus p => Sys2Proof.Machine.execRecastStatus p s
  | .fifoWrite qb data => Sys2Proof.Machine.execFifoWrite qb data s
  | .fifoRead qb => Sys2Proof.Machine.execFifoRead qb s
  | .qbRst qb => Sys2Proof.Machine.execQbRst qb s
  | .ramAccess qb a b => Sys2Proof.Machine.execRamAccess qb a b s
  | .hqFabricAccess q push pop => Sys2Proof.Machine.execHqFabricAccess q push pop s
  | .ioBankLoss bank => Sys2Proof.Machine.execIoBankLoss bank s
  | .bankSupplyReturn bank code => Sys2Proof.Machine.execBankSupplyReturn bank code s
  | .engNop e => Sys2Proof.Machine.execEngNop e s
  | .mpy e => Sys2Proof.Machine.execMpy e s
  | .mac e => Sys2Proof.Machine.execMac e s
  | .msu e => Sys2Proof.Machine.execMsu e s
  | .engAcc e => Sys2Proof.Machine.execEngAcc e s
  | .ext e => Sys2Proof.Machine.execExt e s
  | .mov e => Sys2Proof.Machine.execMov e s
  | .setag e => Sys2Proof.Machine.execSetag e s
  | .rpt e => Sys2Proof.Machine.execRpt e s
  | .blk e => Sys2Proof.Machine.execBlk e s
  | .engJmp e => Sys2Proof.Machine.execEngJmp e s
  | .wait e => Sys2Proof.Machine.execWait e s
  | .sigo e => Sys2Proof.Machine.execSigo e s
  | .reti e => Sys2Proof.Machine.execReti e s
  | .engStop e => Sys2Proof.Machine.execEngStop e s
  | .engHpop e => Sys2Proof.Machine.execEngHpop e s
  | .engHpush e => Sys2Proof.Machine.execEngHpush e s
  | .engStallRelease e => Sys2Proof.Machine.execEngStallRelease e s
  | .engEventEdge e k => Sys2Proof.Machine.execEngEventEdge e k s
  | .goEdge e => Sys2Proof.Machine.execGoEdge e s
  | .engStart e w => Sys2Proof.Machine.execEngStart e w s
  | .engHalt e w => Sys2Proof.Machine.execEngHalt e w s
  | .engClrFault e w => Sys2Proof.Machine.execEngClrFault e w s
  | .engMemoryAccess e off wr => Sys2Proof.Machine.execEngMemoryAccess e off wr s
  | .tcfg t => Sys2Proof.Machine.execTcfg t s
  | .tload t rows => Sys2Proof.Machine.execTload t rows s
  | .tstore t rows => Sys2Proof.Machine.execTstore t rows s
  | .tmma t rows => Sys2Proof.Machine.execTmma t rows s
  | .tew t rows => Sys2Proof.Machine.execTew t rows s
  | .tred t rows => Sys2Proof.Machine.execTred t rows s
  | .tcvt t rows => Sys2Proof.Machine.execTcvt t rows s
  | .tpair t rows => Sys2Proof.Machine.execTpair t rows s
  | .trel t => Sys2Proof.Machine.execTrel t s
  | .salu t => Sys2Proof.Machine.execSalu t s
  | .salui t => Sys2Proof.Machine.execSalui t s
  | .sld t => Sys2Proof.Machine.execSld t s
  | .sst t => Sys2Proof.Machine.execSst t s
  | .pset t => Sys2Proof.Machine.execPset t s
  | .br t => Sys2Proof.Machine.execBr t s
  | .tileJmp t => Sys2Proof.Machine.execTileJmp t s
  | .tileNop t => Sys2Proof.Machine.execTileNop t s
  | .tileStop t => Sys2Proof.Machine.execTileStop t s
  | .tileSwait t => Sys2Proof.Machine.execTileSwait t s
  | .tileSsig t => Sys2Proof.Machine.execTileSsig t s
  | .tileHpop t => Sys2Proof.Machine.execTileHpop t s
  | .tileHpush t => Sys2Proof.Machine.execTileHpush t s
  | .srun t => Sys2Proof.Machine.execSrun t s
  | .tctrlStart t w => Sys2Proof.Machine.execTctrlStart t w s
  | .tctrlStep t w => Sys2Proof.Machine.execTctrlStep t w s
  | .tctrlHalt t w => Sys2Proof.Machine.execTctrlHalt t w s
  | .tctrlClrFault t w => Sys2Proof.Machine.execTctrlClrFault t w s
  | .tileInstrWrite req t k high w => Sys2Proof.Machine.execTileInstrWrite req t k high w s
  | .tileStart p => Sys2Proof.Machine.execTileStart p s
  | .tileHalt p => Sys2Proof.Machine.execTileHalt p s
  | .tileStatus p => Sys2Proof.Machine.execTileStatus p s
  | .tileCtxSave p => Sys2Proof.Machine.execTileCtxSave p s
  | .tileCtxRestore p => Sys2Proof.Machine.execTileCtxRestore p s
  | .tileCtxComplete t => Sys2Proof.Machine.execTileCtxComplete t s
  | .tileFaultClear p => Sys2Proof.Machine.execTileFaultClear p s
  | .setb t st => Sys2Proof.Machine.execSetb t st s
  | .addb t st => Sys2Proof.Machine.execAddb t st s
  | .loop t st => Sys2Proof.Machine.execLoop t st s
  | .xfer t st => Sys2Proof.Machine.execXfer t st s
  | .steepSwait t st => Sys2Proof.Machine.execSteepSwait t st s
  | .steepSsig t st => Sys2Proof.Machine.execSteepSsig t st s
  | .steepHpop t st => Sys2Proof.Machine.execSteepHpop t st s
  | .steepHpush t st => Sys2Proof.Machine.execSteepHpush t st s
  | .steepEnd t st => Sys2Proof.Machine.execSteepEnd t st s
  | .transferComplete t st => Sys2Proof.Machine.execTransferComplete t st s
  | .xlatWalkDone t st => Sys2Proof.Machine.execXlatWalkDone t st s
  | .steepStart t st w => Sys2Proof.Machine.execSteepStart t st w s
  | .steepResume t st w => Sys2Proof.Machine.execSteepResume t st w s
  | .steepHalt t st w => Sys2Proof.Machine.execSteepHalt t st w s
  | .steepClrFault t st w => Sys2Proof.Machine.execSteepClrFault t st w s
  | .streamStart p => Sys2Proof.Machine.execStreamStart p s
  | .streamStatus p => Sys2Proof.Machine.execStreamStatus p s
  | .streamResume p => Sys2Proof.Machine.execStreamResume p s
  | .streamHalt p => Sys2Proof.Machine.execStreamHalt p s
  | .streamAbort p => Sys2Proof.Machine.execStreamAbort p s
  | .hqConfig p => Sys2Proof.Machine.execHqConfig p s
  | .hqStatus p => Sys2Proof.Machine.execHqStatus p s
  | .hqPush p => Sys2Proof.Machine.execHqPush p s
  | .hqPop p => Sys2Proof.Machine.execHqPop p s
  | .hqPushWrite q w => Sys2Proof.Machine.execHqPushWrite q w s
  | .hqPopRead q => Sys2Proof.Machine.execHqPopRead q s
  | .hqCfgWrite q w => Sys2Proof.Machine.execHqCfgWrite q w s
  | .hqOpArrive c0 => Sys2Proof.Machine.execHqOpArrive c0 s
  | .hqReservationExpire q push => Sys2Proof.Machine.execHqReservationExpire q push s
  | .hqRetry c0 => Sys2Proof.Machine.execHqRetry c0 s
  | .syncConfig p => Sys2Proof.Machine.execSyncConfig p s
  | .syncSignal p => Sys2Proof.Machine.execSyncSignal p s
  | .syncRead p => Sys2Proof.Machine.execSyncRead p s
  | .syncWait p => Sys2Proof.Machine.execSyncWait p s
  | .syncWaitTimeout c0 => Sys2Proof.Machine.execSyncWaitTimeout c0 s
  | .syncOpArrive c0 => Sys2Proof.Machine.execSyncOpArrive c0 s
  | .syncWaitResponse c0 => Sys2Proof.Machine.execSyncWaitResponse c0 s
  | .syncWaitRetry c0 => Sys2Proof.Machine.execSyncWaitRetry c0 s
  | .soOpWrite j w => Sys2Proof.Machine.execSoOpWrite j w s
  | .soValWrite req j hi => Sys2Proof.Machine.execSoValWrite req j hi s
  | .soCfgWrite j w => Sys2Proof.Machine.execSoCfgWrite j w s
  | .xlatSetBase p => Sys2Proof.Machine.execXlatSetBase p s
  | .xlatInvalidate p => Sys2Proof.Machine.execXlatInvalidate p s
  | .xlatStatus p => Sys2Proof.Machine.execXlatStatus p s
  | .tnetStatus p => Sys2Proof.Machine.execTnetStatus p s
  | .bar4Access off len wr => Sys2Proof.Machine.execBar4Access off len wr s
  | .wideValueLowRead req r => Sys2Proof.Machine.execWideValueLowRead req r s
  | .wideValueHighRead req r => Sys2Proof.Machine.execWideValueHighRead req r s
  | .wideValueWrite req addr w => Sys2Proof.Machine.execWideValueWrite req addr w s
  | .sysStaleRead req => Sys2Proof.Machine.execSysStaleRead req s
  | .rcFieldRead req r => Sys2Proof.Machine.execRcFieldRead req r s
  | .keyFifoRead => Sys2Proof.Machine.execKeyFifoRead s
  | .captureRead req c => Sys2Proof.Machine.execCaptureRead req c s
  | .logDataRead req => Sys2Proof.Machine.execLogDataRead req s
  | .registerWrite req addr width w => Sys2Proof.Machine.execRegisterWrite req addr width w s
  | .xdramConfig p => Sys2Proof.Machine.execXdramConfig p s
  | .xdramTrain p => Sys2Proof.Machine.execXdramTrain p s
  | .xdramTrainDone recs => Sys2Proof.Machine.execXdramTrainDone recs s
  | .xdramResult p => Sys2Proof.Machine.execXdramResult p s
  | .memGuard p => Sys2Proof.Machine.execMemGuard p s
  | .memScrub p => Sys2Proof.Machine.execMemScrub p s
  | .memStatus p => Sys2Proof.Machine.execMemStatus p s
  | .memInject p => Sys2Proof.Machine.execMemInject p s
  | .refreshDue ch queued => Sys2Proof.Machine.execRefreshDue ch queued s
  | .mr4Poll ch rate => Sys2Proof.Machine.execMr4Poll ch rate s
  | .throttleWindowEnd ch => Sys2Proof.Machine.execThrottleWindowEnd ch s
  | .scrubRead ch addr => Sys2Proof.Machine.execScrubRead ch addr s
  | .laneConfig p => Sys2Proof.Machine.execLaneConfig p s
  | .laneStatus p => Sys2Proof.Machine.execLaneStatus p s
  | .laneTxeq p => Sys2Proof.Machine.execLaneTxeq p s
  | .laneTest p => Sys2Proof.Machine.execLaneTest p s
  | .laneAlign p => Sys2Proof.Machine.execLaneAlign p s
  | .laneEye p => Sys2Proof.Machine.execLaneEye p s
  | .laneSlip l => Sys2Proof.Machine.execLaneSlip l s
  | .laneRestart l => Sys2Proof.Machine.execLaneRestart l s
  | .laneSignalDetect l => Sys2Proof.Machine.execLaneSignalDetect l s
  | .laneCdrLock l => Sys2Proof.Machine.execLaneCdrLock l s
  | .laneAdaptDone l sweep dfe h v => Sys2Proof.Machine.execLaneAdaptDone l sweep dfe h v s
  | .alignSearchStep l seen => Sys2Proof.Machine.execAlignSearchStep l seen s
  | .alignRetry l => Sys2Proof.Machine.execAlignRetry l s
  | .markerReceived l line placed => Sys2Proof.Machine.execMarkerReceived l line placed s
  | .laneHoldover l cause => Sys2Proof.Machine.execLaneHoldover l cause s
  | .laneHoldoverTimeout l => Sys2Proof.Machine.execLaneHoldoverTimeout l s
  | .eyeqMeasure l h v => Sys2Proof.Machine.execEyeqMeasure l h v s
  | .laneRefLoss r => Sys2Proof.Machine.execLaneRefLoss r s
  | .pcieReset cause => Sys2Proof.Machine.execPcieReset cause s
  | .hlinkStatus p => Sys2Proof.Machine.execHlinkStatus p s
  | .hlinkSet p => Sys2Proof.Machine.execHlinkSet p s
  | .hlinkRetrain p => Sys2Proof.Machine.execHlinkRetrain p s
  | .hlinkWake p => Sys2Proof.Machine.execHlinkWake p s
  | .hlRetrain port => Sys2Proof.Machine.execHlRetrain port s
  | .hlWake port => Sys2Proof.Machine.execHlWake port s
  | .flitReceive port flit => Sys2Proof.Machine.execFlitReceive port flit s
  | .ctrlFlit port flit => Sys2Proof.Machine.execCtrlFlit port flit s
  | .ctrlFlitDue port => Sys2Proof.Machine.execCtrlFlitDue port s
  | .replayTimeout port => Sys2Proof.Machine.execReplayTimeout port s
  | .trainFlit port flit => Sys2Proof.Machine.execTrainFlit port flit s
  | .trainingTimeout port => Sys2Proof.Machine.execTrainingTimeout port s
  | .retrainFastTimeout l => Sys2Proof.Machine.execRetrainFastTimeout l s
  | .linkRetryTimer port => Sys2Proof.Machine.execLinkRetryTimer port s
  | .tagTimeout port tag => Sys2Proof.Machine.execTagTimeout port tag s
  | .read port pk => Sys2Proof.Machine.execRead port pk s
  | .write port pk => Sys2Proof.Machine.execWrite port pk s
  | .readRsp port pk => Sys2Proof.Machine.execReadRsp port pk s
  | .writeRsp port pk => Sys2Proof.Machine.execWriteRsp port pk s
  | .sync port pk => Sys2Proof.Machine.execSync port pk s
  | .syncRsp port pk => Sys2Proof.Machine.execSyncRsp port pk s
  | .cmd port pk => Sys2Proof.Machine.execCmd port pk s
  | .cmdReassemblyTimeout src num => Sys2Proof.Machine.execCmdReassemblyTimeout src num s
  | .ensJoin p => Sys2Proof.Machine.execEnsJoin p s
  | .ensLeave p => Sys2Proof.Machine.execEnsLeave p s
  | .ensStatus p => Sys2Proof.Machine.execEnsStatus p s
  | .ensMember p => Sys2Proof.Machine.execEnsMember p s
  | .ensKeySet p => Sys2Proof.Machine.execEnsKeySet p s
  | .ensResolve p => Sys2Proof.Machine.execEnsResolve p s
  | .ensForce p => Sys2Proof.Machine.execEnsForce p s
  | .ensRoutes p => Sys2Proof.Machine.execEnsRoutes p s
  | .accordRecord p => Sys2Proof.Machine.execAccordRecord p s
  | .accordCommit p => Sys2Proof.Machine.execAccordCommit p s
  | .accordEpochAdopt => Sys2Proof.Machine.execAccordEpochAdopt s
  | .accordNotice p => Sys2Proof.Machine.execAccordNotice p s
  | .accordShare p => Sys2Proof.Machine.execAccordShare p s
  | .heartbeat tray => Sys2Proof.Machine.execHeartbeat tray s
  | .leaderLost => Sys2Proof.Machine.execLeaderLost s
  | .shareTimeout => Sys2Proof.Machine.execShareTimeout s
  | .timeGet p => Sys2Proof.Machine.execTimeGet p s
  | .timeSet p => Sys2Proof.Machine.execTimeSet p s
  | .timeAdjust p => Sys2Proof.Machine.execTimeAdjust p s
  | .timeSource p => Sys2Proof.Machine.execTimeSource p s
  | .timeAlarm p => Sys2Proof.Machine.execTimeAlarm p s
  | .timePtpConfig p => Sys2Proof.Machine.execTimePtpConfig p s
  | .timeCapture p => Sys2Proof.Machine.execTimeCapture p s
  | .timeSync p => Sys2Proof.Machine.execTimeSync p s
  | .timeSyncExchange t1 t2 t3 t4 valid parentLocked => Sys2Proof.Machine.execTimeSyncExchange t1 t2 t3 t4 valid parentLocked s
  | .ptpEventMessage m => Sys2Proof.Machine.execPtpEventMessage m s
  | .holdoverTimeout => Sys2Proof.Machine.execHoldoverTimeout s
  | .xtalCompensation temp => Sys2Proof.Machine.execXtalCompensation temp s
  | .xtalOkChange ok => Sys2Proof.Machine.execXtalOkChange ok s
  | .slewComplete => Sys2Proof.Machine.execSlewComplete s
  | .alarmFire => Sys2Proof.Machine.execAlarmFire s
  | .todPps level => Sys2Proof.Machine.execTodPps level s
  | .tcapCapture c => Sys2Proof.Machine.execTcapCapture c s
  | .csiFrameStart r => Sys2Proof.Machine.execCsiFrameStart r s
  | .budSetCap p => Sys2Proof.Machine.execBudSetCap p s
  | .budBrake p => Sys2Proof.Machine.execBudBrake p s
  | .budStatus p => Sys2Proof.Machine.execBudStatus p s
  | .budTrayCap p => Sys2Proof.Machine.execBudTrayCap p s
  | .thermRead p => Sys2Proof.Machine.execThermRead p s
  | .budConfig p => Sys2Proof.Machine.execBudConfig p s
  | .brakeTimeout => Sys2Proof.Machine.execBrakeTimeout s
  | .budgetPeriod m => Sys2Proof.Machine.execBudgetPeriod m s
  | .thermalPeriod temps => Sys2Proof.Machine.execThermalPeriod temps s
  | .budCapHold enter onFraction => Sys2Proof.Machine.execBudCapHold enter onFraction s
  | .thermSensorFail sensor => Sys2Proof.Machine.execThermSensorFail sensor s
  | .thermalShutdown sensor reading => Sys2Proof.Machine.execThermalShutdown sensor reading s
  | .thermalOffEntry deferral => Sys2Proof.Machine.execThermalOffEntry deferral s
  | .thermalOffExit b reading => Sys2Proof.Machine.execThermalOffExit b reading s
  | .bistRun p => Sys2Proof.Machine.execBistRun p s
  | .bistTestComplete test failure tj => Sys2Proof.Machine.execBistTestComplete test failure tj s
  | .bistRunEnd ms calFail => Sys2Proof.Machine.execBistRunEnd ms calFail s
  | .bistStatus p => Sys2Proof.Machine.execBistStatus p s
  | .bistResult p => Sys2Proof.Machine.execBistResult p s
  | .bistAbort p => Sys2Proof.Machine.execBistAbort p s
  | .logSubmit => Sys2Proof.Machine.execLogSubmit s
  | .logPersist ok => Sys2Proof.Machine.execLogPersist ok s
  | .logStatus p => Sys2Proof.Machine.execLogStatus p s
  | .logRead p => Sys2Proof.Machine.execLogRead p s
  | .logWrite p => Sys2Proof.Machine.execLogWrite p s
  | .logConfig p => Sys2Proof.Machine.execLogConfig p s
  | .logErase p => Sys2Proof.Machine.execLogErase p s
  | .logErased => Sys2Proof.Machine.execLogErased s
  | .fifoPointerCross qb toWrite => Sys2Proof.Machine.execFifoPointerCross qb toWrite s
  | .hqResponse c0 => Sys2Proof.Machine.execHqResponse c0 s
  | .commaAlign x => Sys2Proof.Machine.execCommaAlign x s
  | .prbsCheckerLock l line => Sys2Proof.Machine.execPrbsCheckerLock l line s
  | .laneAlignTimeout l => Sys2Proof.Machine.execLaneAlignTimeout l s
  | .lrefclkReturn r => Sys2Proof.Machine.execLrefclkReturn r s
  | .xdramSelfRefreshExit ch supplyLost => Sys2Proof.Machine.execXdramSelfRefreshExit ch supplyLost s
  | .cameraRingWrite r addr bytes => Sys2Proof.Machine.execCameraRingWrite r addr bytes s
  | .bistEntryDone => Sys2Proof.Machine.execBistEntryDone s

end Sys2Proof.Machine
end

