-- ==== Sys2Proof/Machine/Tick.lean ====
section
/-! DEFINITION. What time does while no command waits: the clock ticks, and pins that no command names are sampled (R114, R534, log entry 2), a
wipe goes on (R150), fabric logic runs (chapter 8), and the tile network carries what it holds (R416). -/

namespace Sys2Proof.Machine

/-- TMP_STAT.INPUT falls once an open tamper loop has closed (Table DOOR-4). -/
def State.sampleTamper (s : State) : State :=
  if s.flag Reg.TMP_STAT_INPUT && s.kettleOn && Config.tamperClosed s.time.up then s.put Reg.TMP_STAT_INPUT 0 else s
/-- A member whose parent's link is not UP holds over, and is TIME_UNSURE once TIME_UNCERT exceeds 1,000 µs (chapter 21, At the edges). -/
def State.partedMember (s : State) : State :=
  let up := match s.routePort (s.get Reg.ENS_STAT_LEADER) with
    | some p => s.isUp p
    | none => false
  if s.follows && !up && decide (1000 < s.get Reg.TIME_UNCERT_US) then s.setUnsure true else s
/-- Time passes by one tick. -/
def State.pass (s : State) : State :=
  let t := s.tick.partedMember.sampleTamper.wipeStep.netSettle
  t.fabricRuns (t.time.up - s.time.up)

end Sys2Proof.Machine
end

