-- ==== Sys2Proof/Laws/State.lean ====
section
/-! SUPPORT. One lemma per field of the state per elementary update, so that no later proof unfolds a record update. -/

namespace Sys2Proof.Machine

/-! ### put -/

@[simp] theorem State.put_pending (s : State) (f : Fld) (v : Nat) : (s.put f v).pending = s.pending := rfl
@[simp] theorem State.put_win (s : State) (f : Fld) (v : Nat) : (s.put f v).win = s.win := rfl
@[simp] theorem State.put_mem (s : State) (f : Fld) (v : Nat) : (s.put f v).mem = s.mem := rfl
@[simp] theorem State.put_ecc (s : State) (f : Fld) (v : Nat) : (s.put f v).ecc = s.ecc := rfl
@[simp] theorem State.put_cmd (s : State) (f : Fld) (v : Nat) : (s.put f v).cmd = s.cmd := rfl
@[simp] theorem State.put_log (s : State) (f : Fld) (v : Nat) : (s.put f v).log = s.log := rfl
@[simp] theorem State.put_time (s : State) (f : Fld) (v : Nat) : (s.put f v).time = s.time := rfl
@[simp] theorem State.put_pwr (s : State) (f : Fld) (v : Nat) : (s.put f v).pwr = s.pwr := rfl
@[simp] theorem State.put_door (s : State) (f : Fld) (v : Nat) : (s.put f v).door = s.door := rfl
@[simp] theorem State.put_addr (s : State) (f : Fld) (v : Nat) : (s.put f v).addr = s.addr := rfl
@[simp] theorem State.put_mesh (s : State) (f : Fld) (v : Nat) : (s.put f v).mesh = s.mesh := rfl
@[simp] theorem State.put_bud (s : State) (f : Fld) (v : Nat) : (s.put f v).bud = s.bud := rfl
@[simp] theorem State.put_mu (s : State) (f : Fld) (v : Nat) : (s.put f v).mu = s.mu := rfl
@[simp] theorem State.put_sync (s : State) (f : Fld) (v : Nat) : (s.put f v).sync = s.sync := rfl
@[simp] theorem State.put_hq (s : State) (f : Fld) (v : Nat) : (s.put f v).hq = s.hq := rfl
@[simp] theorem State.put_tu (s : State) (f : Fld) (v : Nat) : (s.put f v).tu = s.tu := rfl
@[simp] theorem State.put_lanes (s : State) (f : Fld) (v : Nat) : (s.put f v).lanes = s.lanes := rfl
@[simp] theorem State.put_link (s : State) (f : Fld) (v : Nat) : (s.put f v).link = s.link := rfl
@[simp] theorem State.put_ens (s : State) (f : Fld) (v : Nat) : (s.put f v).ens = s.ens := rfl
@[simp] theorem State.put_fab (s : State) (f : Fld) (v : Nat) : (s.put f v).fab = s.fab := rfl
@[simp] theorem State.put_eng (s : State) (f : Fld) (v : Nat) : (s.put f v).eng = s.eng := rfl
@[simp] theorem State.put_cast (s : State) (f : Fld) (v : Nat) : (s.put f v).cast = s.cast := rfl
@[simp] theorem State.put_vault (s : State) (f : Fld) (v : Nat) : (s.put f v).vault = s.vault := rfl
@[simp] theorem State.put_nvm (s : State) (f : Fld) (v : Nat) : (s.put f v).nvm = s.nvm := rfl
@[simp] theorem State.put_bist (s : State) (f : Fld) (v : Nat) : (s.put f v).bist = s.bist := rfl
@[simp] theorem State.put_out (s : State) (f : Fld) (v : Nat) : (s.put f v).out = s.out := rfl
@[simp] theorem State.put_draws (s : State) (f : Fld) (v : Nat) : (s.put f v).draws = s.draws := rfl

/-! ### setFlag -/

@[simp] theorem State.setFlag_pending (s : State) (f : Fld) (b : Bool) : (s.setFlag f b).pending = s.pending := rfl
@[simp] theorem State.setFlag_win (s : State) (f : Fld) (b : Bool) : (s.setFlag f b).win = s.win := rfl
@[simp] theorem State.setFlag_mem (s : State) (f : Fld) (b : Bool) : (s.setFlag f b).mem = s.mem := rfl
@[simp] theorem State.setFlag_ecc (s : State) (f : Fld) (b : Bool) : (s.setFlag f b).ecc = s.ecc := rfl
@[simp] theorem State.setFlag_cmd (s : State) (f : Fld) (b : Bool) : (s.setFlag f b).cmd = s.cmd := rfl
@[simp] theorem State.setFlag_log (s : State) (f : Fld) (b : Bool) : (s.setFlag f b).log = s.log := rfl
@[simp] theorem State.setFlag_time (s : State) (f : Fld) (b : Bool) : (s.setFlag f b).time = s.time := rfl
@[simp] theorem State.setFlag_pwr (s : State) (f : Fld) (b : Bool) : (s.setFlag f b).pwr = s.pwr := rfl
@[simp] theorem State.setFlag_door (s : State) (f : Fld) (b : Bool) : (s.setFlag f b).door = s.door := rfl
@[simp] theorem State.setFlag_addr (s : State) (f : Fld) (b : Bool) : (s.setFlag f b).addr = s.addr := rfl
@[simp] theorem State.setFlag_mesh (s : State) (f : Fld) (b : Bool) : (s.setFlag f b).mesh = s.mesh := rfl
@[simp] theorem State.setFlag_bud (s : State) (f : Fld) (b : Bool) : (s.setFlag f b).bud = s.bud := rfl
@[simp] theorem State.setFlag_mu (s : State) (f : Fld) (b : Bool) : (s.setFlag f b).mu = s.mu := rfl
@[simp] theorem State.setFlag_sync (s : State) (f : Fld) (b : Bool) : (s.setFlag f b).sync = s.sync := rfl
@[simp] theorem State.setFlag_hq (s : State) (f : Fld) (b : Bool) : (s.setFlag f b).hq = s.hq := rfl
@[simp] theorem State.setFlag_tu (s : State) (f : Fld) (b : Bool) : (s.setFlag f b).tu = s.tu := rfl
@[simp] theorem State.setFlag_lanes (s : State) (f : Fld) (b : Bool) : (s.setFlag f b).lanes = s.lanes := rfl
@[simp] theorem State.setFlag_link (s : State) (f : Fld) (b : Bool) : (s.setFlag f b).link = s.link := rfl
@[simp] theorem State.setFlag_ens (s : State) (f : Fld) (b : Bool) : (s.setFlag f b).ens = s.ens := rfl
@[simp] theorem State.setFlag_fab (s : State) (f : Fld) (b : Bool) : (s.setFlag f b).fab = s.fab := rfl
@[simp] theorem State.setFlag_eng (s : State) (f : Fld) (b : Bool) : (s.setFlag f b).eng = s.eng := rfl
@[simp] theorem State.setFlag_cast (s : State) (f : Fld) (b : Bool) : (s.setFlag f b).cast = s.cast := rfl
@[simp] theorem State.setFlag_vault (s : State) (f : Fld) (b : Bool) : (s.setFlag f b).vault = s.vault := rfl
@[simp] theorem State.setFlag_nvm (s : State) (f : Fld) (b : Bool) : (s.setFlag f b).nvm = s.nvm := rfl
@[simp] theorem State.setFlag_bist (s : State) (f : Fld) (b : Bool) : (s.setFlag f b).bist = s.bist := rfl
@[simp] theorem State.setFlag_out (s : State) (f : Fld) (b : Bool) : (s.setFlag f b).out = s.out := rfl
@[simp] theorem State.setFlag_draws (s : State) (f : Fld) (b : Bool) : (s.setFlag f b).draws = s.draws := rfl

/-! ### bumpSat -/

@[simp] theorem State.bumpSat_pending (s : State) (f : Fld) (n : Nat) : (s.bumpSat f n).pending = s.pending := rfl
@[simp] theorem State.bumpSat_win (s : State) (f : Fld) (n : Nat) : (s.bumpSat f n).win = s.win := rfl
@[simp] theorem State.bumpSat_mem (s : State) (f : Fld) (n : Nat) : (s.bumpSat f n).mem = s.mem := rfl
@[simp] theorem State.bumpSat_ecc (s : State) (f : Fld) (n : Nat) : (s.bumpSat f n).ecc = s.ecc := rfl
@[simp] theorem State.bumpSat_cmd (s : State) (f : Fld) (n : Nat) : (s.bumpSat f n).cmd = s.cmd := rfl
@[simp] theorem State.bumpSat_log (s : State) (f : Fld) (n : Nat) : (s.bumpSat f n).log = s.log := rfl
@[simp] theorem State.bumpSat_time (s : State) (f : Fld) (n : Nat) : (s.bumpSat f n).time = s.time := rfl
@[simp] theorem State.bumpSat_pwr (s : State) (f : Fld) (n : Nat) : (s.bumpSat f n).pwr = s.pwr := rfl
@[simp] theorem State.bumpSat_door (s : State) (f : Fld) (n : Nat) : (s.bumpSat f n).door = s.door := rfl
@[simp] theorem State.bumpSat_addr (s : State) (f : Fld) (n : Nat) : (s.bumpSat f n).addr = s.addr := rfl
@[simp] theorem State.bumpSat_mesh (s : State) (f : Fld) (n : Nat) : (s.bumpSat f n).mesh = s.mesh := rfl
@[simp] theorem State.bumpSat_bud (s : State) (f : Fld) (n : Nat) : (s.bumpSat f n).bud = s.bud := rfl
@[simp] theorem State.bumpSat_mu (s : State) (f : Fld) (n : Nat) : (s.bumpSat f n).mu = s.mu := rfl
@[simp] theorem State.bumpSat_sync (s : State) (f : Fld) (n : Nat) : (s.bumpSat f n).sync = s.sync := rfl
@[simp] theorem State.bumpSat_hq (s : State) (f : Fld) (n : Nat) : (s.bumpSat f n).hq = s.hq := rfl
@[simp] theorem State.bumpSat_tu (s : State) (f : Fld) (n : Nat) : (s.bumpSat f n).tu = s.tu := rfl
@[simp] theorem State.bumpSat_lanes (s : State) (f : Fld) (n : Nat) : (s.bumpSat f n).lanes = s.lanes := rfl
@[simp] theorem State.bumpSat_link (s : State) (f : Fld) (n : Nat) : (s.bumpSat f n).link = s.link := rfl
@[simp] theorem State.bumpSat_ens (s : State) (f : Fld) (n : Nat) : (s.bumpSat f n).ens = s.ens := rfl
@[simp] theorem State.bumpSat_fab (s : State) (f : Fld) (n : Nat) : (s.bumpSat f n).fab = s.fab := rfl
@[simp] theorem State.bumpSat_eng (s : State) (f : Fld) (n : Nat) : (s.bumpSat f n).eng = s.eng := rfl
@[simp] theorem State.bumpSat_cast (s : State) (f : Fld) (n : Nat) : (s.bumpSat f n).cast = s.cast := rfl
@[simp] theorem State.bumpSat_vault (s : State) (f : Fld) (n : Nat) : (s.bumpSat f n).vault = s.vault := rfl
@[simp] theorem State.bumpSat_nvm (s : State) (f : Fld) (n : Nat) : (s.bumpSat f n).nvm = s.nvm := rfl
@[simp] theorem State.bumpSat_bist (s : State) (f : Fld) (n : Nat) : (s.bumpSat f n).bist = s.bist := rfl
@[simp] theorem State.bumpSat_out (s : State) (f : Fld) (n : Nat) : (s.bumpSat f n).out = s.out := rfl
@[simp] theorem State.bumpSat_draws (s : State) (f : Fld) (n : Nat) : (s.bumpSat f n).draws = s.draws := rfl

/-! ### bumpWrap -/

@[simp] theorem State.bumpWrap_pending (s : State) (f : Fld) (n : Nat) : (s.bumpWrap f n).pending = s.pending := rfl
@[simp] theorem State.bumpWrap_win (s : State) (f : Fld) (n : Nat) : (s.bumpWrap f n).win = s.win := rfl
@[simp] theorem State.bumpWrap_mem (s : State) (f : Fld) (n : Nat) : (s.bumpWrap f n).mem = s.mem := rfl
@[simp] theorem State.bumpWrap_ecc (s : State) (f : Fld) (n : Nat) : (s.bumpWrap f n).ecc = s.ecc := rfl
@[simp] theorem State.bumpWrap_cmd (s : State) (f : Fld) (n : Nat) : (s.bumpWrap f n).cmd = s.cmd := rfl
@[simp] theorem State.bumpWrap_log (s : State) (f : Fld) (n : Nat) : (s.bumpWrap f n).log = s.log := rfl
@[simp] theorem State.bumpWrap_time (s : State) (f : Fld) (n : Nat) : (s.bumpWrap f n).time = s.time := rfl
@[simp] theorem State.bumpWrap_pwr (s : State) (f : Fld) (n : Nat) : (s.bumpWrap f n).pwr = s.pwr := rfl
@[simp] theorem State.bumpWrap_door (s : State) (f : Fld) (n : Nat) : (s.bumpWrap f n).door = s.door := rfl
@[simp] theorem State.bumpWrap_addr (s : State) (f : Fld) (n : Nat) : (s.bumpWrap f n).addr = s.addr := rfl
@[simp] theorem State.bumpWrap_mesh (s : State) (f : Fld) (n : Nat) : (s.bumpWrap f n).mesh = s.mesh := rfl
@[simp] theorem State.bumpWrap_bud (s : State) (f : Fld) (n : Nat) : (s.bumpWrap f n).bud = s.bud := rfl
@[simp] theorem State.bumpWrap_mu (s : State) (f : Fld) (n : Nat) : (s.bumpWrap f n).mu = s.mu := rfl
@[simp] theorem State.bumpWrap_sync (s : State) (f : Fld) (n : Nat) : (s.bumpWrap f n).sync = s.sync := rfl
@[simp] theorem State.bumpWrap_hq (s : State) (f : Fld) (n : Nat) : (s.bumpWrap f n).hq = s.hq := rfl
@[simp] theorem State.bumpWrap_tu (s : State) (f : Fld) (n : Nat) : (s.bumpWrap f n).tu = s.tu := rfl
@[simp] theorem State.bumpWrap_lanes (s : State) (f : Fld) (n : Nat) : (s.bumpWrap f n).lanes = s.lanes := rfl
@[simp] theorem State.bumpWrap_link (s : State) (f : Fld) (n : Nat) : (s.bumpWrap f n).link = s.link := rfl
@[simp] theorem State.bumpWrap_ens (s : State) (f : Fld) (n : Nat) : (s.bumpWrap f n).ens = s.ens := rfl
@[simp] theorem State.bumpWrap_fab (s : State) (f : Fld) (n : Nat) : (s.bumpWrap f n).fab = s.fab := rfl
@[simp] theorem State.bumpWrap_eng (s : State) (f : Fld) (n : Nat) : (s.bumpWrap f n).eng = s.eng := rfl
@[simp] theorem State.bumpWrap_cast (s : State) (f : Fld) (n : Nat) : (s.bumpWrap f n).cast = s.cast := rfl
@[simp] theorem State.bumpWrap_vault (s : State) (f : Fld) (n : Nat) : (s.bumpWrap f n).vault = s.vault := rfl
@[simp] theorem State.bumpWrap_nvm (s : State) (f : Fld) (n : Nat) : (s.bumpWrap f n).nvm = s.nvm := rfl
@[simp] theorem State.bumpWrap_bist (s : State) (f : Fld) (n : Nat) : (s.bumpWrap f n).bist = s.bist := rfl
@[simp] theorem State.bumpWrap_out (s : State) (f : Fld) (n : Nat) : (s.bumpWrap f n).out = s.out := rfl
@[simp] theorem State.bumpWrap_draws (s : State) (f : Fld) (n : Nat) : (s.bumpWrap f n).draws = s.draws := rfl

/-! ### orBits -/

@[simp] theorem State.orBits_pending (s : State) (f : Fld) (m : Nat) : (s.orBits f m).pending = s.pending := rfl
@[simp] theorem State.orBits_win (s : State) (f : Fld) (m : Nat) : (s.orBits f m).win = s.win := rfl
@[simp] theorem State.orBits_mem (s : State) (f : Fld) (m : Nat) : (s.orBits f m).mem = s.mem := rfl
@[simp] theorem State.orBits_ecc (s : State) (f : Fld) (m : Nat) : (s.orBits f m).ecc = s.ecc := rfl
@[simp] theorem State.orBits_cmd (s : State) (f : Fld) (m : Nat) : (s.orBits f m).cmd = s.cmd := rfl
@[simp] theorem State.orBits_log (s : State) (f : Fld) (m : Nat) : (s.orBits f m).log = s.log := rfl
@[simp] theorem State.orBits_time (s : State) (f : Fld) (m : Nat) : (s.orBits f m).time = s.time := rfl
@[simp] theorem State.orBits_pwr (s : State) (f : Fld) (m : Nat) : (s.orBits f m).pwr = s.pwr := rfl
@[simp] theorem State.orBits_door (s : State) (f : Fld) (m : Nat) : (s.orBits f m).door = s.door := rfl
@[simp] theorem State.orBits_addr (s : State) (f : Fld) (m : Nat) : (s.orBits f m).addr = s.addr := rfl
@[simp] theorem State.orBits_mesh (s : State) (f : Fld) (m : Nat) : (s.orBits f m).mesh = s.mesh := rfl
@[simp] theorem State.orBits_bud (s : State) (f : Fld) (m : Nat) : (s.orBits f m).bud = s.bud := rfl
@[simp] theorem State.orBits_mu (s : State) (f : Fld) (m : Nat) : (s.orBits f m).mu = s.mu := rfl
@[simp] theorem State.orBits_sync (s : State) (f : Fld) (m : Nat) : (s.orBits f m).sync = s.sync := rfl
@[simp] theorem State.orBits_hq (s : State) (f : Fld) (m : Nat) : (s.orBits f m).hq = s.hq := rfl
@[simp] theorem State.orBits_tu (s : State) (f : Fld) (m : Nat) : (s.orBits f m).tu = s.tu := rfl
@[simp] theorem State.orBits_lanes (s : State) (f : Fld) (m : Nat) : (s.orBits f m).lanes = s.lanes := rfl
@[simp] theorem State.orBits_link (s : State) (f : Fld) (m : Nat) : (s.orBits f m).link = s.link := rfl
@[simp] theorem State.orBits_ens (s : State) (f : Fld) (m : Nat) : (s.orBits f m).ens = s.ens := rfl
@[simp] theorem State.orBits_fab (s : State) (f : Fld) (m : Nat) : (s.orBits f m).fab = s.fab := rfl
@[simp] theorem State.orBits_eng (s : State) (f : Fld) (m : Nat) : (s.orBits f m).eng = s.eng := rfl
@[simp] theorem State.orBits_cast (s : State) (f : Fld) (m : Nat) : (s.orBits f m).cast = s.cast := rfl
@[simp] theorem State.orBits_vault (s : State) (f : Fld) (m : Nat) : (s.orBits f m).vault = s.vault := rfl
@[simp] theorem State.orBits_nvm (s : State) (f : Fld) (m : Nat) : (s.orBits f m).nvm = s.nvm := rfl
@[simp] theorem State.orBits_bist (s : State) (f : Fld) (m : Nat) : (s.orBits f m).bist = s.bist := rfl
@[simp] theorem State.orBits_out (s : State) (f : Fld) (m : Nat) : (s.orBits f m).out = s.out := rfl
@[simp] theorem State.orBits_draws (s : State) (f : Fld) (m : Nat) : (s.orBits f m).draws = s.draws := rfl

/-! ### clrBits -/

@[simp] theorem State.clrBits_pending (s : State) (f : Fld) (m : Nat) : (s.clrBits f m).pending = s.pending := rfl
@[simp] theorem State.clrBits_win (s : State) (f : Fld) (m : Nat) : (s.clrBits f m).win = s.win := rfl
@[simp] theorem State.clrBits_mem (s : State) (f : Fld) (m : Nat) : (s.clrBits f m).mem = s.mem := rfl
@[simp] theorem State.clrBits_ecc (s : State) (f : Fld) (m : Nat) : (s.clrBits f m).ecc = s.ecc := rfl
@[simp] theorem State.clrBits_cmd (s : State) (f : Fld) (m : Nat) : (s.clrBits f m).cmd = s.cmd := rfl
@[simp] theorem State.clrBits_log (s : State) (f : Fld) (m : Nat) : (s.clrBits f m).log = s.log := rfl
@[simp] theorem State.clrBits_time (s : State) (f : Fld) (m : Nat) : (s.clrBits f m).time = s.time := rfl
@[simp] theorem State.clrBits_pwr (s : State) (f : Fld) (m : Nat) : (s.clrBits f m).pwr = s.pwr := rfl
@[simp] theorem State.clrBits_door (s : State) (f : Fld) (m : Nat) : (s.clrBits f m).door = s.door := rfl
@[simp] theorem State.clrBits_addr (s : State) (f : Fld) (m : Nat) : (s.clrBits f m).addr = s.addr := rfl
@[simp] theorem State.clrBits_mesh (s : State) (f : Fld) (m : Nat) : (s.clrBits f m).mesh = s.mesh := rfl
@[simp] theorem State.clrBits_bud (s : State) (f : Fld) (m : Nat) : (s.clrBits f m).bud = s.bud := rfl
@[simp] theorem State.clrBits_mu (s : State) (f : Fld) (m : Nat) : (s.clrBits f m).mu = s.mu := rfl
@[simp] theorem State.clrBits_sync (s : State) (f : Fld) (m : Nat) : (s.clrBits f m).sync = s.sync := rfl
@[simp] theorem State.clrBits_hq (s : State) (f : Fld) (m : Nat) : (s.clrBits f m).hq = s.hq := rfl
@[simp] theorem State.clrBits_tu (s : State) (f : Fld) (m : Nat) : (s.clrBits f m).tu = s.tu := rfl
@[simp] theorem State.clrBits_lanes (s : State) (f : Fld) (m : Nat) : (s.clrBits f m).lanes = s.lanes := rfl
@[simp] theorem State.clrBits_link (s : State) (f : Fld) (m : Nat) : (s.clrBits f m).link = s.link := rfl
@[simp] theorem State.clrBits_ens (s : State) (f : Fld) (m : Nat) : (s.clrBits f m).ens = s.ens := rfl
@[simp] theorem State.clrBits_fab (s : State) (f : Fld) (m : Nat) : (s.clrBits f m).fab = s.fab := rfl
@[simp] theorem State.clrBits_eng (s : State) (f : Fld) (m : Nat) : (s.clrBits f m).eng = s.eng := rfl
@[simp] theorem State.clrBits_cast (s : State) (f : Fld) (m : Nat) : (s.clrBits f m).cast = s.cast := rfl
@[simp] theorem State.clrBits_vault (s : State) (f : Fld) (m : Nat) : (s.clrBits f m).vault = s.vault := rfl
@[simp] theorem State.clrBits_nvm (s : State) (f : Fld) (m : Nat) : (s.clrBits f m).nvm = s.nvm := rfl
@[simp] theorem State.clrBits_bist (s : State) (f : Fld) (m : Nat) : (s.clrBits f m).bist = s.bist := rfl
@[simp] theorem State.clrBits_out (s : State) (f : Fld) (m : Nat) : (s.clrBits f m).out = s.out := rfl
@[simp] theorem State.clrBits_draws (s : State) (f : Fld) (m : Nat) : (s.clrBits f m).draws = s.draws := rfl

/-! ### clearRegs -/

@[simp] theorem State.clearRegs_pending (s : State) (lo hi : Nat) : (s.clearRegs lo hi).pending = s.pending := rfl
@[simp] theorem State.clearRegs_win (s : State) (lo hi : Nat) : (s.clearRegs lo hi).win = s.win := rfl
@[simp] theorem State.clearRegs_mem (s : State) (lo hi : Nat) : (s.clearRegs lo hi).mem = s.mem := rfl
@[simp] theorem State.clearRegs_ecc (s : State) (lo hi : Nat) : (s.clearRegs lo hi).ecc = s.ecc := rfl
@[simp] theorem State.clearRegs_cmd (s : State) (lo hi : Nat) : (s.clearRegs lo hi).cmd = s.cmd := rfl
@[simp] theorem State.clearRegs_log (s : State) (lo hi : Nat) : (s.clearRegs lo hi).log = s.log := rfl
@[simp] theorem State.clearRegs_time (s : State) (lo hi : Nat) : (s.clearRegs lo hi).time = s.time := rfl
@[simp] theorem State.clearRegs_pwr (s : State) (lo hi : Nat) : (s.clearRegs lo hi).pwr = s.pwr := rfl
@[simp] theorem State.clearRegs_door (s : State) (lo hi : Nat) : (s.clearRegs lo hi).door = s.door := rfl
@[simp] theorem State.clearRegs_addr (s : State) (lo hi : Nat) : (s.clearRegs lo hi).addr = s.addr := rfl
@[simp] theorem State.clearRegs_mesh (s : State) (lo hi : Nat) : (s.clearRegs lo hi).mesh = s.mesh := rfl
@[simp] theorem State.clearRegs_bud (s : State) (lo hi : Nat) : (s.clearRegs lo hi).bud = s.bud := rfl
@[simp] theorem State.clearRegs_mu (s : State) (lo hi : Nat) : (s.clearRegs lo hi).mu = s.mu := rfl
@[simp] theorem State.clearRegs_sync (s : State) (lo hi : Nat) : (s.clearRegs lo hi).sync = s.sync := rfl
@[simp] theorem State.clearRegs_hq (s : State) (lo hi : Nat) : (s.clearRegs lo hi).hq = s.hq := rfl
@[simp] theorem State.clearRegs_tu (s : State) (lo hi : Nat) : (s.clearRegs lo hi).tu = s.tu := rfl
@[simp] theorem State.clearRegs_lanes (s : State) (lo hi : Nat) : (s.clearRegs lo hi).lanes = s.lanes := rfl
@[simp] theorem State.clearRegs_link (s : State) (lo hi : Nat) : (s.clearRegs lo hi).link = s.link := rfl
@[simp] theorem State.clearRegs_ens (s : State) (lo hi : Nat) : (s.clearRegs lo hi).ens = s.ens := rfl
@[simp] theorem State.clearRegs_fab (s : State) (lo hi : Nat) : (s.clearRegs lo hi).fab = s.fab := rfl
@[simp] theorem State.clearRegs_eng (s : State) (lo hi : Nat) : (s.clearRegs lo hi).eng = s.eng := rfl
@[simp] theorem State.clearRegs_cast (s : State) (lo hi : Nat) : (s.clearRegs lo hi).cast = s.cast := rfl
@[simp] theorem State.clearRegs_vault (s : State) (lo hi : Nat) : (s.clearRegs lo hi).vault = s.vault := rfl
@[simp] theorem State.clearRegs_nvm (s : State) (lo hi : Nat) : (s.clearRegs lo hi).nvm = s.nvm := rfl
@[simp] theorem State.clearRegs_bist (s : State) (lo hi : Nat) : (s.clearRegs lo hi).bist = s.bist := rfl
@[simp] theorem State.clearRegs_out (s : State) (lo hi : Nat) : (s.clearRegs lo hi).out = s.out := rfl
@[simp] theorem State.clearRegs_draws (s : State) (lo hi : Nat) : (s.clearRegs lo hi).draws = s.draws := rfl

/-! ### wput -/

@[simp] theorem State.wput_pending (s : State) (a v : Nat) : (s.wput a v).pending = s.pending := rfl
@[simp] theorem State.wput_regs (s : State) (a v : Nat) : (s.wput a v).regs = s.regs := rfl
@[simp] theorem State.wput_mem (s : State) (a v : Nat) : (s.wput a v).mem = s.mem := rfl
@[simp] theorem State.wput_ecc (s : State) (a v : Nat) : (s.wput a v).ecc = s.ecc := rfl
@[simp] theorem State.wput_cmd (s : State) (a v : Nat) : (s.wput a v).cmd = s.cmd := rfl
@[simp] theorem State.wput_log (s : State) (a v : Nat) : (s.wput a v).log = s.log := rfl
@[simp] theorem State.wput_time (s : State) (a v : Nat) : (s.wput a v).time = s.time := rfl
@[simp] theorem State.wput_pwr (s : State) (a v : Nat) : (s.wput a v).pwr = s.pwr := rfl
@[simp] theorem State.wput_door (s : State) (a v : Nat) : (s.wput a v).door = s.door := rfl
@[simp] theorem State.wput_addr (s : State) (a v : Nat) : (s.wput a v).addr = s.addr := rfl
@[simp] theorem State.wput_mesh (s : State) (a v : Nat) : (s.wput a v).mesh = s.mesh := rfl
@[simp] theorem State.wput_bud (s : State) (a v : Nat) : (s.wput a v).bud = s.bud := rfl
@[simp] theorem State.wput_mu (s : State) (a v : Nat) : (s.wput a v).mu = s.mu := rfl
@[simp] theorem State.wput_sync (s : State) (a v : Nat) : (s.wput a v).sync = s.sync := rfl
@[simp] theorem State.wput_hq (s : State) (a v : Nat) : (s.wput a v).hq = s.hq := rfl
@[simp] theorem State.wput_tu (s : State) (a v : Nat) : (s.wput a v).tu = s.tu := rfl
@[simp] theorem State.wput_lanes (s : State) (a v : Nat) : (s.wput a v).lanes = s.lanes := rfl
@[simp] theorem State.wput_link (s : State) (a v : Nat) : (s.wput a v).link = s.link := rfl
@[simp] theorem State.wput_ens (s : State) (a v : Nat) : (s.wput a v).ens = s.ens := rfl
@[simp] theorem State.wput_fab (s : State) (a v : Nat) : (s.wput a v).fab = s.fab := rfl
@[simp] theorem State.wput_eng (s : State) (a v : Nat) : (s.wput a v).eng = s.eng := rfl
@[simp] theorem State.wput_cast (s : State) (a v : Nat) : (s.wput a v).cast = s.cast := rfl
@[simp] theorem State.wput_vault (s : State) (a v : Nat) : (s.wput a v).vault = s.vault := rfl
@[simp] theorem State.wput_nvm (s : State) (a v : Nat) : (s.wput a v).nvm = s.nvm := rfl
@[simp] theorem State.wput_bist (s : State) (a v : Nat) : (s.wput a v).bist = s.bist := rfl
@[simp] theorem State.wput_out (s : State) (a v : Nat) : (s.wput a v).out = s.out := rfl
@[simp] theorem State.wput_draws (s : State) (a v : Nat) : (s.wput a v).draws = s.draws := rfl

/-! ### draw -/

@[simp] theorem State.draw_pending (s : State) : (s.draw).pending = s.pending := rfl
@[simp] theorem State.draw_regs (s : State) : (s.draw).regs = s.regs := rfl
@[simp] theorem State.draw_win (s : State) : (s.draw).win = s.win := rfl
@[simp] theorem State.draw_mem (s : State) : (s.draw).mem = s.mem := rfl
@[simp] theorem State.draw_ecc (s : State) : (s.draw).ecc = s.ecc := rfl
@[simp] theorem State.draw_cmd (s : State) : (s.draw).cmd = s.cmd := rfl
@[simp] theorem State.draw_log (s : State) : (s.draw).log = s.log := rfl
@[simp] theorem State.draw_time (s : State) : (s.draw).time = s.time := rfl
@[simp] theorem State.draw_pwr (s : State) : (s.draw).pwr = s.pwr := rfl
@[simp] theorem State.draw_door (s : State) : (s.draw).door = s.door := rfl
@[simp] theorem State.draw_addr (s : State) : (s.draw).addr = s.addr := rfl
@[simp] theorem State.draw_mesh (s : State) : (s.draw).mesh = s.mesh := rfl
@[simp] theorem State.draw_bud (s : State) : (s.draw).bud = s.bud := rfl
@[simp] theorem State.draw_mu (s : State) : (s.draw).mu = s.mu := rfl
@[simp] theorem State.draw_sync (s : State) : (s.draw).sync = s.sync := rfl
@[simp] theorem State.draw_hq (s : State) : (s.draw).hq = s.hq := rfl
@[simp] theorem State.draw_tu (s : State) : (s.draw).tu = s.tu := rfl
@[simp] theorem State.draw_lanes (s : State) : (s.draw).lanes = s.lanes := rfl
@[simp] theorem State.draw_link (s : State) : (s.draw).link = s.link := rfl
@[simp] theorem State.draw_ens (s : State) : (s.draw).ens = s.ens := rfl
@[simp] theorem State.draw_fab (s : State) : (s.draw).fab = s.fab := rfl
@[simp] theorem State.draw_eng (s : State) : (s.draw).eng = s.eng := rfl
@[simp] theorem State.draw_cast (s : State) : (s.draw).cast = s.cast := rfl
@[simp] theorem State.draw_vault (s : State) : (s.draw).vault = s.vault := rfl
@[simp] theorem State.draw_nvm (s : State) : (s.draw).nvm = s.nvm := rfl
@[simp] theorem State.draw_bist (s : State) : (s.draw).bist = s.bist := rfl
@[simp] theorem State.draw_out (s : State) : (s.draw).out = s.out := rfl

/-! ### emit -/

@[simp] theorem State.emit_pending (s : State) (o : List Out) : (s.emit o).pending = s.pending := rfl
@[simp] theorem State.emit_regs (s : State) (o : List Out) : (s.emit o).regs = s.regs := rfl
@[simp] theorem State.emit_win (s : State) (o : List Out) : (s.emit o).win = s.win := rfl
@[simp] theorem State.emit_mem (s : State) (o : List Out) : (s.emit o).mem = s.mem := rfl
@[simp] theorem State.emit_ecc (s : State) (o : List Out) : (s.emit o).ecc = s.ecc := rfl
@[simp] theorem State.emit_cmd (s : State) (o : List Out) : (s.emit o).cmd = s.cmd := rfl
@[simp] theorem State.emit_log (s : State) (o : List Out) : (s.emit o).log = s.log := rfl
@[simp] theorem State.emit_time (s : State) (o : List Out) : (s.emit o).time = s.time := rfl
@[simp] theorem State.emit_pwr (s : State) (o : List Out) : (s.emit o).pwr = s.pwr := rfl
@[simp] theorem State.emit_door (s : State) (o : List Out) : (s.emit o).door = s.door := rfl
@[simp] theorem State.emit_addr (s : State) (o : List Out) : (s.emit o).addr = s.addr := rfl
@[simp] theorem State.emit_mesh (s : State) (o : List Out) : (s.emit o).mesh = s.mesh := rfl
@[simp] theorem State.emit_bud (s : State) (o : List Out) : (s.emit o).bud = s.bud := rfl
@[simp] theorem State.emit_mu (s : State) (o : List Out) : (s.emit o).mu = s.mu := rfl
@[simp] theorem State.emit_sync (s : State) (o : List Out) : (s.emit o).sync = s.sync := rfl
@[simp] theorem State.emit_hq (s : State) (o : List Out) : (s.emit o).hq = s.hq := rfl
@[simp] theorem State.emit_tu (s : State) (o : List Out) : (s.emit o).tu = s.tu := rfl
@[simp] theorem State.emit_lanes (s : State) (o : List Out) : (s.emit o).lanes = s.lanes := rfl
@[simp] theorem State.emit_link (s : State) (o : List Out) : (s.emit o).link = s.link := rfl
@[simp] theorem State.emit_ens (s : State) (o : List Out) : (s.emit o).ens = s.ens := rfl
@[simp] theorem State.emit_fab (s : State) (o : List Out) : (s.emit o).fab = s.fab := rfl
@[simp] theorem State.emit_eng (s : State) (o : List Out) : (s.emit o).eng = s.eng := rfl
@[simp] theorem State.emit_cast (s : State) (o : List Out) : (s.emit o).cast = s.cast := rfl
@[simp] theorem State.emit_vault (s : State) (o : List Out) : (s.emit o).vault = s.vault := rfl
@[simp] theorem State.emit_nvm (s : State) (o : List Out) : (s.emit o).nvm = s.nvm := rfl
@[simp] theorem State.emit_bist (s : State) (o : List Out) : (s.emit o).bist = s.bist := rfl
@[simp] theorem State.emit_draws (s : State) (o : List Out) : (s.emit o).draws = s.draws := rfl

/-! ### setByte -/

@[simp] theorem State.setByte_pending (s : State) (a : Nat) (b : Byte) : (s.setByte a b).pending = s.pending := rfl
@[simp] theorem State.setByte_regs (s : State) (a : Nat) (b : Byte) : (s.setByte a b).regs = s.regs := rfl
@[simp] theorem State.setByte_win (s : State) (a : Nat) (b : Byte) : (s.setByte a b).win = s.win := rfl
@[simp] theorem State.setByte_ecc (s : State) (a : Nat) (b : Byte) : (s.setByte a b).ecc = s.ecc := rfl
@[simp] theorem State.setByte_cmd (s : State) (a : Nat) (b : Byte) : (s.setByte a b).cmd = s.cmd := rfl
@[simp] theorem State.setByte_log (s : State) (a : Nat) (b : Byte) : (s.setByte a b).log = s.log := rfl
@[simp] theorem State.setByte_time (s : State) (a : Nat) (b : Byte) : (s.setByte a b).time = s.time := rfl
@[simp] theorem State.setByte_pwr (s : State) (a : Nat) (b : Byte) : (s.setByte a b).pwr = s.pwr := rfl
@[simp] theorem State.setByte_door (s : State) (a : Nat) (b : Byte) : (s.setByte a b).door = s.door := rfl
@[simp] theorem State.setByte_addr (s : State) (a : Nat) (b : Byte) : (s.setByte a b).addr = s.addr := rfl
@[simp] theorem State.setByte_mesh (s : State) (a : Nat) (b : Byte) : (s.setByte a b).mesh = s.mesh := rfl
@[simp] theorem State.setByte_bud (s : State) (a : Nat) (b : Byte) : (s.setByte a b).bud = s.bud := rfl
@[simp] theorem State.setByte_mu (s : State) (a : Nat) (b : Byte) : (s.setByte a b).mu = s.mu := rfl
@[simp] theorem State.setByte_sync (s : State) (a : Nat) (b : Byte) : (s.setByte a b).sync = s.sync := rfl
@[simp] theorem State.setByte_hq (s : State) (a : Nat) (b : Byte) : (s.setByte a b).hq = s.hq := rfl
@[simp] theorem State.setByte_tu (s : State) (a : Nat) (b : Byte) : (s.setByte a b).tu = s.tu := rfl
@[simp] theorem State.setByte_lanes (s : State) (a : Nat) (b : Byte) : (s.setByte a b).lanes = s.lanes := rfl
@[simp] theorem State.setByte_link (s : State) (a : Nat) (b : Byte) : (s.setByte a b).link = s.link := rfl
@[simp] theorem State.setByte_ens (s : State) (a : Nat) (b : Byte) : (s.setByte a b).ens = s.ens := rfl
@[simp] theorem State.setByte_fab (s : State) (a : Nat) (b : Byte) : (s.setByte a b).fab = s.fab := rfl
@[simp] theorem State.setByte_eng (s : State) (a : Nat) (b : Byte) : (s.setByte a b).eng = s.eng := rfl
@[simp] theorem State.setByte_cast (s : State) (a : Nat) (b : Byte) : (s.setByte a b).cast = s.cast := rfl
@[simp] theorem State.setByte_vault (s : State) (a : Nat) (b : Byte) : (s.setByte a b).vault = s.vault := rfl
@[simp] theorem State.setByte_nvm (s : State) (a : Nat) (b : Byte) : (s.setByte a b).nvm = s.nvm := rfl
@[simp] theorem State.setByte_bist (s : State) (a : Nat) (b : Byte) : (s.setByte a b).bist = s.bist := rfl
@[simp] theorem State.setByte_out (s : State) (a : Nat) (b : Byte) : (s.setByte a b).out = s.out := rfl
@[simp] theorem State.setByte_draws (s : State) (a : Nat) (b : Byte) : (s.setByte a b).draws = s.draws := rfl

/-! ### setBytes -/

@[simp] theorem State.setBytes_pending (s : State) (a : Nat) (bs : List Byte) : (s.setBytes a bs).pending = s.pending := rfl
@[simp] theorem State.setBytes_regs (s : State) (a : Nat) (bs : List Byte) : (s.setBytes a bs).regs = s.regs := rfl
@[simp] theorem State.setBytes_win (s : State) (a : Nat) (bs : List Byte) : (s.setBytes a bs).win = s.win := rfl
@[simp] theorem State.setBytes_ecc (s : State) (a : Nat) (bs : List Byte) : (s.setBytes a bs).ecc = s.ecc := rfl
@[simp] theorem State.setBytes_cmd (s : State) (a : Nat) (bs : List Byte) : (s.setBytes a bs).cmd = s.cmd := rfl
@[simp] theorem State.setBytes_log (s : State) (a : Nat) (bs : List Byte) : (s.setBytes a bs).log = s.log := rfl
@[simp] theorem State.setBytes_time (s : State) (a : Nat) (bs : List Byte) : (s.setBytes a bs).time = s.time := rfl
@[simp] theorem State.setBytes_pwr (s : State) (a : Nat) (bs : List Byte) : (s.setBytes a bs).pwr = s.pwr := rfl
@[simp] theorem State.setBytes_door (s : State) (a : Nat) (bs : List Byte) : (s.setBytes a bs).door = s.door := rfl
@[simp] theorem State.setBytes_addr (s : State) (a : Nat) (bs : List Byte) : (s.setBytes a bs).addr = s.addr := rfl
@[simp] theorem State.setBytes_mesh (s : State) (a : Nat) (bs : List Byte) : (s.setBytes a bs).mesh = s.mesh := rfl
@[simp] theorem State.setBytes_bud (s : State) (a : Nat) (bs : List Byte) : (s.setBytes a bs).bud = s.bud := rfl
@[simp] theorem State.setBytes_mu (s : State) (a : Nat) (bs : List Byte) : (s.setBytes a bs).mu = s.mu := rfl
@[simp] theorem State.setBytes_sync (s : State) (a : Nat) (bs : List Byte) : (s.setBytes a bs).sync = s.sync := rfl
@[simp] theorem State.setBytes_hq (s : State) (a : Nat) (bs : List Byte) : (s.setBytes a bs).hq = s.hq := rfl
@[simp] theorem State.setBytes_tu (s : State) (a : Nat) (bs : List Byte) : (s.setBytes a bs).tu = s.tu := rfl
@[simp] theorem State.setBytes_lanes (s : State) (a : Nat) (bs : List Byte) : (s.setBytes a bs).lanes = s.lanes := rfl
@[simp] theorem State.setBytes_link (s : State) (a : Nat) (bs : List Byte) : (s.setBytes a bs).link = s.link := rfl
@[simp] theorem State.setBytes_ens (s : State) (a : Nat) (bs : List Byte) : (s.setBytes a bs).ens = s.ens := rfl
@[simp] theorem State.setBytes_fab (s : State) (a : Nat) (bs : List Byte) : (s.setBytes a bs).fab = s.fab := rfl
@[simp] theorem State.setBytes_eng (s : State) (a : Nat) (bs : List Byte) : (s.setBytes a bs).eng = s.eng := rfl
@[simp] theorem State.setBytes_cast (s : State) (a : Nat) (bs : List Byte) : (s.setBytes a bs).cast = s.cast := rfl
@[simp] theorem State.setBytes_vault (s : State) (a : Nat) (bs : List Byte) : (s.setBytes a bs).vault = s.vault := rfl
@[simp] theorem State.setBytes_nvm (s : State) (a : Nat) (bs : List Byte) : (s.setBytes a bs).nvm = s.nvm := rfl
@[simp] theorem State.setBytes_bist (s : State) (a : Nat) (bs : List Byte) : (s.setBytes a bs).bist = s.bist := rfl
@[simp] theorem State.setBytes_out (s : State) (a : Nat) (bs : List Byte) : (s.setBytes a bs).out = s.out := rfl
@[simp] theorem State.setBytes_draws (s : State) (a : Nat) (bs : List Byte) : (s.setBytes a bs).draws = s.draws := rfl

/-! ### forget -/

@[simp] theorem State.forget_pending (s : State) (lo hi : Nat) : (s.forget lo hi).pending = s.pending := rfl
@[simp] theorem State.forget_regs (s : State) (lo hi : Nat) : (s.forget lo hi).regs = s.regs := rfl
@[simp] theorem State.forget_win (s : State) (lo hi : Nat) : (s.forget lo hi).win = s.win := rfl
@[simp] theorem State.forget_cmd (s : State) (lo hi : Nat) : (s.forget lo hi).cmd = s.cmd := rfl
@[simp] theorem State.forget_log (s : State) (lo hi : Nat) : (s.forget lo hi).log = s.log := rfl
@[simp] theorem State.forget_time (s : State) (lo hi : Nat) : (s.forget lo hi).time = s.time := rfl
@[simp] theorem State.forget_pwr (s : State) (lo hi : Nat) : (s.forget lo hi).pwr = s.pwr := rfl
@[simp] theorem State.forget_door (s : State) (lo hi : Nat) : (s.forget lo hi).door = s.door := rfl
@[simp] theorem State.forget_addr (s : State) (lo hi : Nat) : (s.forget lo hi).addr = s.addr := rfl
@[simp] theorem State.forget_mesh (s : State) (lo hi : Nat) : (s.forget lo hi).mesh = s.mesh := rfl
@[simp] theorem State.forget_bud (s : State) (lo hi : Nat) : (s.forget lo hi).bud = s.bud := rfl
@[simp] theorem State.forget_mu (s : State) (lo hi : Nat) : (s.forget lo hi).mu = s.mu := rfl
@[simp] theorem State.forget_sync (s : State) (lo hi : Nat) : (s.forget lo hi).sync = s.sync := rfl
@[simp] theorem State.forget_hq (s : State) (lo hi : Nat) : (s.forget lo hi).hq = s.hq := rfl
@[simp] theorem State.forget_tu (s : State) (lo hi : Nat) : (s.forget lo hi).tu = s.tu := rfl
@[simp] theorem State.forget_lanes (s : State) (lo hi : Nat) : (s.forget lo hi).lanes = s.lanes := rfl
@[simp] theorem State.forget_link (s : State) (lo hi : Nat) : (s.forget lo hi).link = s.link := rfl
@[simp] theorem State.forget_ens (s : State) (lo hi : Nat) : (s.forget lo hi).ens = s.ens := rfl
@[simp] theorem State.forget_fab (s : State) (lo hi : Nat) : (s.forget lo hi).fab = s.fab := rfl
@[simp] theorem State.forget_eng (s : State) (lo hi : Nat) : (s.forget lo hi).eng = s.eng := rfl
@[simp] theorem State.forget_vault (s : State) (lo hi : Nat) : (s.forget lo hi).vault = s.vault := rfl
@[simp] theorem State.forget_nvm (s : State) (lo hi : Nat) : (s.forget lo hi).nvm = s.nvm := rfl
@[simp] theorem State.forget_bist (s : State) (lo hi : Nat) : (s.forget lo hi).bist = s.bist := rfl
@[simp] theorem State.forget_out (s : State) (lo hi : Nat) : (s.forget lo hi).out = s.out := rfl
@[simp] theorem State.forget_draws (s : State) (lo hi : Nat) : (s.forget lo hi).draws = s.draws := rfl

@[simp] theorem State.draw_draws (s : State) : s.draw.draws = s.draws + 1 := rfl
@[simp] theorem State.emit_out (s : State) (o : List Out) : (s.emit o).out = s.out ++ o := rfl

end Sys2Proof.Machine
end

