-- ==== Sys2Proof/WellFormed.lean ====
section
/-! DEFINITION. Well-formed commands: the operands that a sender or an event can supply. -/

namespace Sys2Proof

/-- A packet as a transport frames it: at most 4,080 bytes follow its header (R28). -/
def Packet.wf (p : Packet) : Bool := decide (p.body.length ≤ 4080)
/-- The opcodes of Table IDX-1 by group: how many follow the group's first, by run. -/
def opcodeListed (c : Nat) : Bool :=
  [(0x0100, 8), (0x0200, 5), (0x0210, 6), (0x0300, 11), (0x0400, 7), (0x0420, 4), (0x0500, 6), (0x0510, 9), (0x0600, 4), (0x0610, 8),
    (0x06F0, 1), (0x0700, 7), (0x0800, 10), (0x0900, 7), (0x09F0, 1), (0x0A00, 4), (0x0B00, 6), (0x0B10, 4), (0x0C00, 5)].any
    (fun r => decide (r.1 ≤ c ∧ c < r.1 + r.2))
/-- A packet of a command's row: its OPCODE is the row's, or one that no row has, which every row answers alike (R656). -/
def Packet.wfFor (p : Packet) (code : Nat) : Bool := p.wf && (p.opcode.toNat == code || !opcodeListed p.opcode.toNat)
/-- An aligned CSR address (R9, R10). -/
def csrAligned (a : Nat) : Bool := a % 4 == 0 && decide (a < 0x4000000)
/-- A CSR access of 1, 2 or 4 bytes, naturally aligned. -/
def csrNarrow (a width : Nat) : Bool := decide (a < 0x4000000) && (width == 1 || width == 2 || width == 4) && a % width == 0
/-- A test of an operand that may be absent. -/
def optAll {α : Type} (f : α → Bool) : Option α → Bool
  | some x => f x
  | none => true
/-- A port operation within the widest queue block shape (Table PLB-4). -/
def RamOp.wf (r : RamOp) : Bool := decide (r.addr < 4608 ∧ r.data < 2 ^ 72 ∧ r.be < 256)
/-- A personality names each PLB, user I/O, crossing and queue block once and only those the fabric has (Table PLB-1). -/
def Personality.wf (x : Personality) : Bool :=
  let l := x.qbs.map (fun q => q.qb)
  let p := x.plbs.map (fun q => q.plb)
  let k := x.ios.map (fun q => q.io)
  let c := x.crossings.map (fun q => q.region)
  l.all (fun q => decide (q < 2304)) && l.eraseDups.length == l.length && x.lgateRegion.length == 8 &&
    p.all (fun q => decide (q < 24576)) && p.eraseDups.length == p.length && k.all (fun q => decide (q < 576)) &&
    k.eraseDups.length == k.length && c.all (fun q => decide (q < 32)) && c.eraseDups.length == c.length
/-- A link packet: sixteen header bytes and at most 256 bytes behind them (Table HOL-2). -/
def LinkPacket.wf (k : LinkPacket) : Bool := k.header.length == 16 && decide (k.payload.length ≤ 256)
/-- A power sample: every reading below 2^24 mW. -/
def PowerSample.wf (m : PowerSample) : Bool := [m.u, m.tile0, m.tile1, m.f0, m.f1, m.b, m.c].all (fun x => decide (x < 2 ^ 24))

/-- A command that can be given. -/
def Instr.wf : Instr → Bool
  | .echo p => p.wfFor 0x100
  | .getInfo p => p.wfFor 0x101
  | .sessionOpen p => p.wfFor 0x102
  | .sessionClose p => p.wfFor 0x103
  | .cmdPoll p => p.wfFor 0x104
  | .keyProvision p => p.wfFor 0x105
  | .peek p => p.wfFor 0x106
  | .poke p => p.wfFor 0x107
  | .sessionIdleTimeout _ => true
  | .chainTimeout st => decide (st.role < 256 ∧ st.session < 256)
  | .mctpMessageTimeout => true
  | .setEndpointId _ => true
  | .getEndpointId => true
  | .getMctpVersionSupport _ => true
  | .getMessageTypeSupport => true
  | .entdaa _ => true
  | .writePacket bytes => decide (bytes.length < 65536)
  | .readReply _ => true
  | .readStatus => true
  | .mbxDoorbell _ placed => placed.all (fun p => p.via == .pcie && p.wf)
  | .mbxRplHeadWrite _ => true
  | .mbxReset _ => true
  | .pwrSetState p => p.wfFor 0x200
  | .pwrQuiesceTimeout => true
  | .pwrQuiesceDone => true
  | .pwrEntryCommit => true
  | .pwrGetState p => p.wfFor 0x201
  | .pwrWakeConfig p => p.wfFor 0x202
  | .pwrDozeConfig p => p.wfFor 0x203
  | .pwrWakeClear p => p.wfFor 0x204
  | .pwrWake _ => true
  | .autoIdleExpire => true
  | .dozeLimitExpire => true
  | .resetNFall => true
  | .resetNRise _ => true
  | .supplyMonitorTrip => true
  | .supplyMonitorRelease _ => true
  | .railUp _ => true
  | .railUpTimeout _ => true
  | .pgFall _ => true
  | .refclkValid => true
  | .pllLock _ _ _ => true
  | .refclkFail => true
  | .clkLoss => true
  | .wakePin _ => true
  | .hlinkWakeBurst _ => true
  | .caddySrExitDone _ => true
  | .dozeRestoreDone _ => true
  | .lampSet p => p.wfFor 0x800
  | .lampGet p => p.wfFor 0x801
  | .lampRetry p => p.wfFor 0x802
  | .touchConfig p => p.wfFor 0x803
  | .touchGet p => p.wfFor 0x804
  | .keyConfig p => p.wfFor 0x805
  | .keyRead p => p.wfFor 0x806
  | .doorStatus p => p.wfFor 0x807
  | .tamperClear p _ => p.wfFor 0x808
  | .audioMute p => p.wfFor 0x809
  | .lampShort _ => true
  | .lampAutoRetry _ => true
  | .lampRetriesReset _ => true
  | .lampOpen _ => true
  | .inrushWindowEnd _ => true
  | .rampEnd _ => true
  | .lampRailUv _ => true
  | .railUvRelease _ => true
  | .railRestartWaitEnd _ => true
  | .lgateEdge _ _ => true
  | .touchScan counts => counts.length == 12 && counts.all (fun c => c.length == 8)
  | .touchRecal _ => true
  | .keyRowLow => true
  | .keyScan _ _ => true
  | .plugChange _ _ => true
  | .tamper => true
  | .vaultStatus p => p.wfFor 0x700
  | .vaultEnrol p => p.wfFor 0x701
  | .enrolCaptureTimeout => true
  | .vaultErase p => p.wfFor 0x702
  | .vaultScrubDone => true
  | .vaultList p => p.wfFor 0x703
  | .vaultPolicy p => p.wfFor 0x704
  | .vaultExport p => p.wfFor 0x705
  | .vaultExportDone answers => decide (answers.length ≤ 64)
  | .vaultImport p => p.wfFor 0x706
  | .vaultCommit _ => true
  | .vaultReclaim sector => decide (sector < 512)
  | .vaultFillDone => true
  | .queryRowWrite _ _ _ data => data.length == 64
  | .querySubmit _ _ desc => desc.length == 64
  | .vaultPortStale _ _ => true
  | .match => true
  | .castLoad p => p.wfFor 0x300
  | .castSourceRead bytes _ => decide (bytes.length ≤ 65536)
  | .castLoadComplete pers => pers.wf
  | .relayBlock _ _ data _ => data.length == 256
  | .relayTimeout => true
  | .castStatusGet p => p.wfFor 0x301
  | .castRelease p => p.wfFor 0x302
  | .castUnload p => p.wfFor 0x303
  | .castKeySet p => p.wfFor 0x304
  | .castSignerSet p => p.wfFor 0x305
  | .castPolicySet p => p.wfFor 0x306
  | .castFlashPrefer p => p.wfFor 0x307
  | .recastLoad p => p.wfFor 0x308
  | .recastVerifyDone pers => pers.wf
  | .rollbackCaptureDone => true
  | .recastRelease => true
  | .recastTimeout => true
  | .recastAbort p => p.wfFor 0x309
  | .recastStatus p => p.wfFor 0x30a
  | .fifoWrite _ _ => true
  | .fifoRead _ => true
  | .qbRst _ => true
  | .ramAccess _ a b => optAll RamOp.wf a && optAll RamOp.wf b
  | .hqFabricAccess _ _ _ => true
  | .ioBankLoss _ => true
  | .bankSupplyReturn _ _ => true
  | .engNop _ => true
  | .mpy _ => true
  | .mac _ => true
  | .msu _ => true
  | .engAcc _ => true
  | .ext _ => true
  | .mov _ => true
  | .setag _ => true
  | .rpt _ => true
  | .blk _ => true
  | .engJmp _ => true
  | .wait _ => true
  | .sigo _ => true
  | .reti _ => true
  | .engStop _ => true
  | .engHpop _ => true
  | .engHpush _ => true
  | .engStallRelease _ => true
  | .engEventEdge _ _ => true
  | .goEdge _ => true
  | .engStart _ _ => true
  | .engHalt _ _ => true
  | .engClrFault _ _ => true
  | .engMemoryAccess _ _ _ => true
  | .tcfg _ => true
  | .tload _ rows => decide (1 ≤ rows ∧ rows ≤ 16)
  | .tstore _ rows => decide (1 ≤ rows ∧ rows ≤ 16)
  | .tmma _ rows => decide (1 ≤ rows ∧ rows ≤ 16)
  | .tew _ rows => decide (1 ≤ rows ∧ rows ≤ 16)
  | .tred _ rows => decide (1 ≤ rows ∧ rows ≤ 16)
  | .tcvt _ rows => decide (1 ≤ rows ∧ rows ≤ 16)
  | .tpair _ rows => decide (1 ≤ rows ∧ rows ≤ 16)
  | .trel _ => true
  | .salu _ => true
  | .salui _ => true
  | .sld _ => true
  | .sst _ => true
  | .pset _ => true
  | .br _ => true
  | .tileJmp _ => true
  | .tileNop _ => true
  | .tileStop _ => true
  | .tileSwait _ => true
  | .tileSsig _ => true
  | .tileHpop _ => true
  | .tileHpush _ => true
  | .srun _ => true
  | .tctrlStart _ _ => true
  | .tctrlStep _ _ => true
  | .tctrlHalt _ _ => true
  | .tctrlClrFault _ _ => true
  | .tileInstrWrite _ _ _ _ _ => true
  | .tileStart p => p.wfFor 0x500
  | .tileHalt p => p.wfFor 0x501
  | .tileStatus p => p.wfFor 0x502
  | .tileCtxSave p => p.wfFor 0x503
  | .tileCtxRestore p => p.wfFor 0x504
  | .tileCtxComplete _ => true
  | .tileFaultClear p => p.wfFor 0x505
  | .setb _ _ => true
  | .addb _ _ => true
  | .loop _ _ => true
  | .xfer _ _ => true
  | .steepSwait _ _ => true
  | .steepSsig _ _ => true
  | .steepHpop _ _ => true
  | .steepHpush _ _ => true
  | .steepEnd _ _ => true
  | .transferComplete _ _ => true
  | .xlatWalkDone _ _ => true
  | .steepStart _ _ _ => true
  | .steepResume _ _ _ => true
  | .steepHalt _ _ _ => true
  | .steepClrFault _ _ _ => true
  | .streamStart p => p.wfFor 0x510
  | .streamStatus p => p.wfFor 0x511
  | .streamResume p => p.wfFor 0x512
  | .streamHalt p => p.wfFor 0x513
  | .streamAbort p => p.wfFor 0x514
  | .hqConfig p => p.wfFor 0x515
  | .hqStatus p => p.wfFor 0x516
  | .hqPush p => p.wfFor 0x517
  | .hqPop p => p.wfFor 0x518
  | .hqPushWrite _ _ => true
  | .hqPopRead _ => true
  | .hqCfgWrite _ _ => true
  | .hqOpArrive _ => true
  | .hqReservationExpire _ _ => true
  | .hqRetry _ => true
  | .syncConfig p => p.wfFor 0x600
  | .syncSignal p => p.wfFor 0x601
  | .syncRead p => p.wfFor 0x602
  | .syncWait p => p.wfFor 0x603
  | .syncWaitTimeout _ => true
  | .syncOpArrive _ => true
  | .syncWaitResponse _ => true
  | .syncWaitRetry _ => true
  | .soOpWrite _ _ => true
  | .soValWrite _ _ _ => true
  | .soCfgWrite _ _ => true
  | .xlatSetBase p => p.wfFor 0x420
  | .xlatInvalidate p => p.wfFor 0x421
  | .xlatStatus p => p.wfFor 0x422
  | .tnetStatus p => p.wfFor 0x423
  | .bar4Access off len wr => decide (off < 2 ^ 34 ∧ len ≤ 4096) && optAll (fun b : List Byte => decide (b.length ≤ 4096)) wr
  | .wideValueLowRead _ r => csrNarrow r.addr r.width
  | .wideValueHighRead _ r => csrNarrow r.addr r.width
  | .wideValueWrite _ addr _ => csrAligned addr
  | .sysStaleRead _ => true
  | .rcFieldRead _ r => csrNarrow r.addr r.width
  | .keyFifoRead => true
  | .captureRead _ _ => true
  | .logDataRead _ => true
  | .registerWrite _ addr width _ => csrNarrow addr width
  | .xdramConfig p => p.wfFor 0x400
  | .xdramTrain p => p.wfFor 0x401
  | .xdramTrainDone recs => decide (recs.length ≤ 4) && recs.all (fun r => r.length == 128)
  | .xdramResult p => p.wfFor 0x402
  | .memGuard p => p.wfFor 0x403
  | .memScrub p => p.wfFor 0x404
  | .memStatus p => p.wfFor 0x405
  | .memInject p => p.wfFor 0x406
  | .refreshDue _ _ => true
  | .mr4Poll _ rate => decide (rate < 8)
  | .throttleWindowEnd _ => true
  | .scrubRead _ addr => decide (addr < 2 ^ 48 ∧ addr % 64 = 0)
  | .laneConfig p => p.wfFor 0xb00
  | .laneStatus p => p.wfFor 0xb01
  | .laneTxeq p => p.wfFor 0xb02
  | .laneTest p => p.wfFor 0xb03
  | .laneAlign p => p.wfFor 0xb04
  | .laneEye p => p.wfFor 0xb05
  | .laneSlip _ => true
  | .laneRestart _ => true
  | .laneSignalDetect _ => true
  | .laneCdrLock _ => true
  | .laneAdaptDone _ _ _ _ _ => true
  | .alignSearchStep _ _ => true
  | .alignRetry _ => true
  | .markerReceived _ _ _ => true
  | .laneHoldover _ _ => true
  | .laneHoldoverTimeout _ => true
  | .eyeqMeasure _ _ _ => true
  | .laneRefLoss _ => true
  | .pcieReset _ => true
  | .hlinkStatus p => p.wfFor 0xb10
  | .hlinkSet p => p.wfFor 0xb11
  | .hlinkRetrain p => p.wfFor 0xb12
  | .hlinkWake p => p.wfFor 0xb13
  | .hlRetrain _ => true
  | .hlWake _ => true
  | .flitReceive _ flit => flit.length == 32
  | .ctrlFlit _ flit => flit.length == 32
  | .ctrlFlitDue _ => true
  | .replayTimeout _ => true
  | .trainFlit _ flit => flit.length == 32
  | .trainingTimeout _ => true
  | .retrainFastTimeout _ => true
  | .linkRetryTimer _ => true
  | .tagTimeout _ _ => true
  | .read _ pk => pk.wf
  | .write _ pk => pk.wf
  | .readRsp _ pk => pk.wf
  | .writeRsp _ pk => pk.wf
  | .sync _ pk => pk.wf
  | .syncRsp _ pk => pk.wf
  | .cmd _ pk => pk.wf
  | .cmdReassemblyTimeout _ _ => true
  | .ensJoin p => p.wfFor 0x610
  | .ensLeave p => p.wfFor 0x611
  | .ensStatus p => p.wfFor 0x612
  | .ensMember p => p.wfFor 0x613
  | .ensKeySet p => p.wfFor 0x614
  | .ensResolve p => p.wfFor 0x615
  | .ensForce p => p.wfFor 0x616
  | .ensRoutes p => p.wfFor 0x617
  | .accordRecord p => p.wfFor 0x6f0
  | .accordCommit p => p.wfFor 0x6f0
  | .accordEpochAdopt => true
  | .accordNotice p => p.wfFor 0x6f0
  | .accordShare p => p.wfFor 0x6f0
  | .heartbeat tray => decide (tray.length ≤ 64)
  | .leaderLost => true
  | .shareTimeout => true
  | .timeGet p => p.wfFor 0x900
  | .timeSet p => p.wfFor 0x901
  | .timeAdjust p => p.wfFor 0x902
  | .timeSource p => p.wfFor 0x903
  | .timeAlarm p => p.wfFor 0x904
  | .timePtpConfig p => p.wfFor 0x905
  | .timeCapture p => p.wfFor 0x906
  | .timeSync p => p.wfFor 0x9f0
  | .timeSyncExchange t1 t2 t3 t4 _ _ => decide (t1 < 2 ^ 118 ∧ t2 < 2 ^ 118 ∧ t3 < 2 ^ 118 ∧ t4 < 2 ^ 118)
  | .ptpEventMessage m =>
    (m.mbps == 10 || m.mbps == 100 || m.mbps == 1000 || m.mbps == 2500) && m.offset.all (fun o => decide (-(2 ^ 63) ≤ o ∧ o < 2 ^ 63))
  | .holdoverTimeout => true
  | .xtalCompensation temp => decide (-2048 ≤ temp ∧ temp < 2048)
  | .xtalOkChange _ => true
  | .slewComplete => true
  | .alarmFire => true
  | .todPps _ => true
  | .tcapCapture _ => true
  | .csiFrameStart _ => true
  | .budSetCap p => p.wfFor 0x210
  | .budBrake p => p.wfFor 0x211
  | .budStatus p => p.wfFor 0x212
  | .budTrayCap p => p.wfFor 0x213
  | .thermRead p => p.wfFor 0x214
  | .budConfig p => p.wfFor 0x215
  | .brakeTimeout => true
  | .budgetPeriod m => m.wf
  | .thermalPeriod temps => temps.length == 24 && temps.all (fun x => decide (-2048 ≤ x ∧ x < 2048))
  | .budCapHold _ _ => true
  | .thermSensorFail _ => true
  | .thermalShutdown _ reading => decide (-2048 ≤ reading ∧ reading < 2048)
  | .thermalOffEntry _ => true
  | .thermalOffExit _ reading => decide (-2048 ≤ reading ∧ reading < 2048)
  | .bistRun p => p.wfFor 0xa00
  | .bistTestComplete _ failure tj => decide (-128 ≤ tj ∧ tj < 128) && optAll (fun b : List Byte => decide (b.length ≤ 10)) failure
  | .bistRunEnd ms _ => decide (ms < 2 ^ 32)
  | .bistStatus p => p.wfFor 0xa01
  | .bistResult p => p.wfFor 0xa02
  | .bistAbort p => p.wfFor 0xa03
  | .logSubmit => true
  | .logPersist _ => true
  | .logStatus p => p.wfFor 0xc00
  | .logRead p => p.wfFor 0xc01
  | .logWrite p => p.wfFor 0xc02
  | .logConfig p => p.wfFor 0xc03
  | .logErase p => p.wfFor 0xc04
  | .logErased => true
  | .fifoPointerCross _ _ => true
  | .hqResponse _ => true
  | .commaAlign _ => true
  | .prbsCheckerLock _ _ => true
  | .laneAlignTimeout _ => true
  | .lrefclkReturn _ => true
  | .xdramSelfRefreshExit _ _ => true
  | .cameraRingWrite _ addr bytes => decide (addr < 2 ^ 48 ∧ bytes.length ≤ 4096)
  | .bistEntryDone => true

end Sys2Proof
end

