-- ==== Sys2Proof/Safety.lean ====
section
/-! DEFINITION. What a safe run of the M7 is: no command stops it (R596), and the data of its state keep their form. -/

namespace Sys2Proof.Machine

/-- A command has a next state. -/
def Answers (c : Instr) (s : State) : Prop := ∃ t, exec c s = .next t
/-- A step goes on. -/
def StepsOn (s : State) : Prop := ∃ t, step s = .next t
/-- Every command waiting is one that can be given. -/
def State.queueWf (s : State) : Bool := s.pending.all Instr.wf
/-- The memory is in canonical form: written bytes by strictly rising address (log entry 3). -/
def State.memWf (s : State) : Bool := Memory.wf s.mem
/-- Only the micro-channels that exist are held off (R424). -/
def State.heldWf (s : State) : Bool := s.mu.held.all (fun n => decide (n < Config.tiles))

end Sys2Proof.Machine
end

