-- ==== Sys2Proof/Certificates/Slice0/Obligations.lean ====
section
/-! DEFINITION. The statements about the M7 for the provers, each named for what it states, after the terms they use. -/

open Sys2Proof Sys2Proof.Machine

/-! ### Terms the statements use -/

/-- A packet that passes steps 1 to 7 of Table CMD-7 (R61): identity, length, CRC, version, flags, role on its transport. -/
def FramedRight (p : Packet) : Prop :=
  p.magic = 0x4D37 ∧ p.fReply = false ∧ p.len.toNat ≤ 4064 ∧
  p.body.length = p.len.toNat + (if p.fAuth then 16 else 0) ∧ crc32c p.covered = p.crc.toNat ∧ p.ver = 1 ∧
  p.flags.toNat < 16 ∧ roleOnTransport p = true

/-- Step 8: outside a session without AUTH, in an open session of the role without AUTH, or with AUTH and the right tag. `c` is
the request that goes on, `b` the state it goes on from. -/
def InSession (s : State) (p : Packet) (c : Ctx) (b : State) : Prop :=
  (p.session = 0 ∧ p.fAuth = false ∧ c = { p := p, auth := false, key := [], data := p.payload } ∧ b = s) ∨
  (p.session ≠ 0 ∧ ∃ x, s.session p.session.toNat p.role.toNat = some x ∧
    ((p.fAuth = false ∧ c = { p := p, auth := false, key := x.key, data := p.payload } ∧ b = s) ∨
     (p.fAuth = true ∧ gcmTag x.key (p.iv 0) p.covered [] = p.tag ∧ c = { p := p, auth := true, key := x.key, data := p.payload } ∧
      b = s.putSession { x with fails := 0, verified := s.time.up })))

/-- The session that the SEQ check looks at. -/
def seqSession (b : State) (p : Packet) : Option Session :=
  if p.session = 0 then none else b.session p.session.toNat p.role.toNat

/-- SEQ accepted into the stream, and its session started (R33, R36, R46). -/
def seqTaken (b : State) (p : Packet) : State :=
  let s1 := b.putStream { b.stream p.stream with last := some p.seq.toNat }
  match s1.session p.session.toNat p.role.toNat with
  | some x => if p.session = 0 then s1 else s1.putSession { x with started := true, last := p.seq.toNat }
  | none => s1

/-- Steps 11 to 14 let the command run: role, AUTH, LEN, parameters, the firmware that serves it, and none of the states that
answer in its place. -/
def Served (op : OpSpec) (s : State) (c : Ctx) : Prop :=
  c.role ∈ op.roles ∧ (op.auth s c = true → c.auth = true) ∧ op.lenOk c.data = true ∧ op.range s c = none ∧
  (s.stewardUp = true ∨ kettleServes c = true) ∧
  (op.long s c = true → (s.cmd.longOps.filter (fun o => !o.late && !o.silent && o.req.stream == c.p.stream)).length < 16) ∧
  (writesNvm c = true → s.bud.trip = none) ∧ (brakeRefuses c = true → s.get Reg.BUD_STAT_BRAKE ≠ 2) ∧
  (bistBars c = true → s.bist = none)

/-- A packet that is no part of a chain reaches its command: it is taken from its transport, passes every check of Table CMD-7, and
the command runs as request `c` on state `u`; `b` is the state after the session check. -/
def Reaches (op : OpSpec) (s : State) (p : Packet) (c : Ctx) (b u : State) : Prop :=
  p.opcode.toNat = op.code ∧ FramedRight p ∧ p.fChain = false ∧ opcodeKnown op.code = true ∧
  (∃ s1, s.takePacket p = some s1 ∧ InSession s1.leaveIdle p c b) ∧
  seqCheck (b.stream p.stream) (seqSession b p) p = .fresh ∧ (b.stream p.stream).chain = none ∧
  u = seqTaken b p ∧ Served op u c

/-- The state after a command has run with result `r`: its reply sent and recorded (R34, R36, R41). -/
def answered (b : State) (c : Ctx) (r : State × Ans) : State := (finish b r c).settleCastChain

/-- A BUD_TRAY_CAP that its steward receives from another device. -/
def forwarded (p : Packet) : Bool :=
  (match p.via with | .holwell _ => true | _ => false) && (leAt p.body 2 1 == 1 || leAt p.body 2 1 == 2)

/-- The command table: the command packet of a row with the chapter's entry for its opcode. -/
def commandOf (s : State) : Instr → Option (OpSpec × Packet)
  | .echo p => some (echoOp, p)
  | .getInfo p => some (getInfoOp, p)
  | .sessionOpen p => some (sessionOpenOp, p)
  | .sessionClose p => some (sessionCloseOp, p)
  | .cmdPoll p => some (cmdPollOp, p)
  | .keyProvision p => some (keyProvisionOp, p)
  | .peek p => some (peekOp, p)
  | .poke p => some (pokeOp, p)
  | .pwrSetState p => some (pwrSetStateOp, p)
  | .pwrGetState p => some (pwrGetStateOp, p)
  | .pwrWakeConfig p => some (pwrWakeConfigOp, p)
  | .pwrDozeConfig p => some (pwrDozeConfigOp, p)
  | .pwrWakeClear p => some (pwrWakeClearOp, p)
  | .lampSet p => some (lampSetOp, p)
  | .lampGet p => some (lampGetOp, p)
  | .lampRetry p => some (lampRetryOp, p)
  | .touchConfig p => some (touchConfigOp, p)
  | .touchGet p => some (touchGetOp, p)
  | .keyConfig p => some (keyConfigOp, p)
  | .keyRead p => some (keyReadOp, p)
  | .doorStatus p => some (doorStatusOp, p)
  | .audioMute p => some (audioMuteOp, p)
  | .vaultStatus p => some (vaultStatusOp, p)
  | .vaultEnrol p => some (vaultEnrolOp s, p)
  | .vaultErase p => some (vaultEraseOp s, p)
  | .vaultList p => some (vaultListOp, p)
  | .vaultPolicy p => some (vaultPolicyOp, p)
  | .vaultExport p => some (vaultExportOp, p)
  | .vaultImport p => some (vaultImportOp, p)
  | .castLoad p => some (castLoadOp, p)
  | .castStatusGet p => some (castStatusGetOp, p)
  | .castRelease p => some (castReleaseOp, p)
  | .castUnload p => some (castUnloadOp, p)
  | .castKeySet p => some (castKeySetOp, p)
  | .castSignerSet p => some (castSignerSetOp, p)
  | .castPolicySet p => some (castPolicySetOp, p)
  | .castFlashPrefer p => some (castFlashPreferOp, p)
  | .recastLoad p => some (recastLoadOp, p)
  | .recastAbort p => some (recastAbortOp, p)
  | .recastStatus p => some (recastStatusOp, p)
  | .tileStart p => some (tileStartOp, p)
  | .tileHalt p => some (tileHaltOp, p)
  | .tileStatus p => some (tileStatusOp, p)
  | .tileCtxSave p => some (tileCtxSaveOp, p)
  | .tileCtxRestore p => some (tileCtxRestoreOp, p)
  | .tileFaultClear p => some (tileFaultClearOp, p)
  | .streamStart p => some (streamStartOp, p)
  | .streamStatus p => some (streamStatusOp, p)
  | .streamResume p => some (streamResumeOp, p)
  | .streamHalt p => some (streamHaltOp, p)
  | .streamAbort p => some (streamAbortOp, p)
  | .hqConfig p => some (hqConfigOp, p)
  | .hqStatus p => some (hqStatusOp, p)
  | .hqPush p => some (hqPushOp, p)
  | .hqPop p => some (hqPopOp, p)
  | .syncConfig p => some (syncConfigOp, p)
  | .syncSignal p => some (syncSignalOp, p)
  | .syncRead p => some (syncReadOp, p)
  | .syncWait p => some (syncWaitOp, p)
  | .xlatSetBase p => some (xlatSetBaseOp, p)
  | .xlatInvalidate p => some (xlatInvalidateOp, p)
  | .xlatStatus p => some (xlatStatusOp, p)
  | .tnetStatus p => some (tnetStatusOp, p)
  | .xdramConfig p => some (xdramConfigOp, p)
  | .xdramTrain p => some (xdramTrainOp, p)
  | .xdramResult p => some (xdramResultOp, p)
  | .memGuard p => some (memGuardOp, p)
  | .memScrub p => some (memScrubOp, p)
  | .memStatus p => some (memStatusOp, p)
  | .laneConfig p => some (laneConfigOp, p)
  | .laneStatus p => some (laneStatusOp, p)
  | .laneTxeq p => some (laneTxeqOp, p)
  | .laneTest p => some (laneTestOp, p)
  | .laneAlign p => some (laneAlignOp, p)
  | .laneEye p => some (laneEyeOp, p)
  | .hlinkStatus p => some (hlinkStatusOp, p)
  | .hlinkSet p => some (hlinkSetOp, p)
  | .hlinkRetrain p => some (hlinkRetrainOp, p)
  | .hlinkWake p => some (hlinkWakeOp, p)
  | .ensJoin p => some (ensJoinOp, p)
  | .ensLeave p => some (ensLeaveOp, p)
  | .ensStatus p => some (ensStatusOp, p)
  | .ensMember p => some (ensMemberOp, p)
  | .ensKeySet p => some (ensKeySetOp, p)
  | .ensResolve p => some (ensResolveOp, p)
  | .ensForce p => some (ensForceOp, p)
  | .ensRoutes p => some (ensRoutesOp, p)
  | .timeGet p => some (timeGetOp, p)
  | .timeSet p => some (timeSetOp, p)
  | .timeAdjust p => some (timeAdjustOp, p)
  | .timeSource p => some (timeSourceOp, p)
  | .timeAlarm p => some (timeAlarmOp, p)
  | .timePtpConfig p => some (timePtpConfigOp, p)
  | .timeCapture p => some (timeCaptureOp, p)
  | .budSetCap p => some (budSetCapOp, p)
  | .budBrake p => some (budBrakeOp, p)
  | .budStatus p => some (budStatusOp, p)
  | .budTrayCap p => some (if forwarded p then trayFwdOp else budTrayCapOp, p)
  | .thermRead p => some (thermReadOp, p)
  | .budConfig p => some (budConfigOp, p)
  | .bistRun p => some (bistRunOp, p)
  | .bistStatus p => some (bistStatusOp, p)
  | .bistResult p => some (bistResultOp, p)
  | .bistAbort p => some (bistAbortOp, p)
  | .logStatus p => some (logStatusOp, p)
  | .logRead p => some (logReadOp, p)
  | .logWrite p => some (logWriteOp, p)
  | .logConfig p => some (logConfigOp, p)
  | .logErase p => some (logEraseOp, p)
  | _ => none

/-- Register fields other than the listed ones keep their values. -/
def RegsBut (fs : List Fld) (s t : State) : Prop := ∀ k, (∀ f ∈ fs, f.key ≠ k) → tfind t.regs k = tfind s.regs k

/-- The registers that writing a log entry touches (R601–R606). -/
def logRegs : List Fld :=
  [Reg.LOG_HEAD_SEQ, Reg.LOG_EVT_NEW, Reg.LOG_EVT_ALERT, Reg.LOG_STAT_PTHR, Reg.LOG_STAT_DROP, Reg.LOG_DROPS_COUNT]

/-- What a byte of memory reads as depends on these parts of the state. -/
def SameMemory (s t : State) : Prop := ∀ a, t.byteAt a = s.byteAt a

/-- Clamping to a signed width, and wrapping at it. -/
def limTo (n : Nat) (i : Int) : Int := max (-(2 ^ (n - 1))) (min (2 ^ (n - 1) - 1) i)
def wrapTo (n : Nat) (i : Int) : Int := (i + 2 ^ (n - 1)) % 2 ^ n - 2 ^ (n - 1)

/-- An engine issues the instruction `w` at its PC: nothing holds it, no halt was asked for, and no enabled event is pending. -/
def EngReady (e : Nat) (s : State) (w : Nat) : Prop :=
  s.engRuns e = true ∧ (s.ex e).stall = none ∧ (s.ex e).haltReq = false ∧ s.engDue e = 0 ∧
  s.engWord e (s.get (Reg.ENG_STAT_PC e)) = w ∧ engIllegal w = false ∧
  (usesIn w = true → s.inReady e = true) ∧ (usesOut w = true → s.outReady e = true)

/-- Where an engine stands after an instruction of `n` cycles: past it, within the open block levels, or at it again under RPT. -/
def EngPast (e n : Nat) (s t : State) : Prop :=
  let x := s.ex e
  let r := blkNext x.blocks.reverse (s.get (Reg.ENG_STAT_PC e))
  t.get (Reg.ENG_CYC_CYCLES e) = (s.get (Reg.ENG_CYC_CYCLES e) + n) % 2 ^ 64 ∧
  (if x.rpt ≤ 1 then (t.ex e).blocks = r.1.reverse ∧ t.get (Reg.ENG_STAT_PC e) = r.2 % 2048 ∧ (t.ex e).rpt = 0
   else (t.ex e).blocks = x.blocks ∧ t.get (Reg.ENG_STAT_PC e) = s.get (Reg.ENG_STAT_PC e) ∧ (t.ex e).rpt = x.rpt - 1)

/-- What no engine instruction changes: every other engine, every register but those listed, memory, and every part of the state but
registers, window memories, engines, fabric blocks and the counter of free values. -/
def EngFrame (e : Nat) (fs : List Fld) (s t : State) : Prop :=
  RegsBut fs s t ∧ (∀ f, f ≠ e → t.ex f = s.ex f) ∧
  t = { s with regs := t.regs, win := t.win, eng := t.eng, fab := t.fab, draws := t.draws }

/-- The registers that tell where an engine stands. -/
def engAt (e : Nat) : List Fld := [Reg.ENG_STAT_PC e, Reg.ENG_STAT_BDEPTH e, Reg.ENG_STAT_RPT e, Reg.ENG_CYC_CYCLES e]

/-- A tile issues the legal instruction `w` at its PC, and does not step. -/
def TileReady (t : Nat) (s : State) (w : Nat) : Prop :=
  s.tileIssues t = true ∧ s.tileWord t (s.get (Reg.TSTAT_PC t)) = w ∧ tileIllegal w = none ∧ (s.tx t).step = false

/-- A tile's instruction is done: PC, TSTART and the cycles counted. -/
def TileDone (t : Nat) (s u : State) (pc n : Nat) : Prop :=
  u.get (Reg.TSTAT_PC t) = pc % 4096 ∧ u.get (Reg.TSTART_ROW t) = 0 ∧
  u.get (Reg.TCYC_CYCLES t) = (s.get (Reg.TCYC_CYCLES t) + n) % 2 ^ 64

/-- The registers that tell where a tile stands. -/
def tileAt (t : Nat) : List Fld := [Reg.TSTAT_PC t, Reg.TSTART_ROW t, Reg.TCYC_CYCLES t]


/-- The commands that may store to memory or lose its contents. -/
def mayStore : Instr → Bool
  | .match | .bar4Access _ _ _ | .tstore _ _ | .sst _ | .write _ _ | .transferComplete .. | .tileCtxComplete .. | .cameraRingWrite _ _ _
  | .xdramTrainDone _ | .xdramSelfRefreshExit _ _ | .rollbackCaptureDone .. | .pwrQuiesceDone .. | .pwrEntryCommit .. | .railUpTimeout ..
  | .pgFall .. | .pllLock .. | .clkLoss .. | .dozeRestoreDone .. | .resetNFall .. | .supplyMonitorTrip .. | .tamper .. | .resetNRise ..
  | .supplyMonitorRelease .. | .thermalShutdown .. | .thermalOffEntry .. | .thermalOffExit .. | .bistRun _ | .bistEntryDone ..
  | .bistTestComplete .. | .bistRunEnd .. => true
  | _ => false

/-- A step runs the command at the front of the queue, and on an empty one time passes by a tick (the model's choice, log entry 2)
(spec/98_reader.md, spec/opcode_table.json, R534, notes/assumptions/2.md). For every command c, queue rest r and state s: the step
of s with the queue c :: r is exec c on s with the queue r. The queue is the model's own (first in, first out). On an empty queue
time passes by one tick of the time-of-day counter: that it passes there is the model's convention (log entry 2). With the kettle
running the counter adds the nominal tick times (1 + RATE / 2^40) of R534, and the queue stays empty. Where no cast runs, no wipe
has begun and the tile network is empty, nothing changes but the time, the end of a wait for the reference, and the registers that
the tick, the tamper pin and a lost parent touch (with the TIME event). -/
def Obligations.StepRunsTheFrontCommand : Prop :=
  (∀ (c : Instr) (r : List Instr) (s : State), step { s with pending := c :: r } = exec c { s with pending := r }) ∧
  (∀ s : State, s.pending = [] → ∃ t, step s = .next t ∧ t.pending = [] ∧
    (s.kettleOn = true →
      let n : Nat := if s.flag Reg.TIME_STAT_RC = true then 125 * 2 ^ 39 else if s.flag Reg.TIME_STAT_XTAL = true then 1000000000 * 2 ^ 25
        else 4 * 2 ^ 40
      t.time.tod = (s.time.tod + ((n : Int) + (n : Int) * s.rate / 2 ^ 40).toNat) % (2 ^ 48 * unitSec) ∧ t.time.up = s.time.up + n) ∧
    (s.castRuns = false → s.vault.wipeAt = none → s.mesh.bufs = [] →
      t = { s with regs := t.regs, time := t.time, pwr := t.pwr, out := t.out } ∧
      RegsBut [Reg.TIME_UNCERT_US, Reg.PWR_CLK_STATUS_REF_REQ, Reg.TMP_STAT_INPUT, Reg.TIME_STAT_TIME_UNSURE, Reg.ENS_STAT_TIME_UNSURE,
        Reg.TIME_EVT_UNSURE] s t))

/-- The checks of the packet layer act in their order: drops, then each error with its status and DETAIL (R61,
spec/02_command_packets.md Table CMD-7, spec/02_command_packets.md Table CMD-3). For every command row (named by commandOf): a
packet of the row's OPCODE that its transport gives up and whose MAGIC is not 0x4D37 or whose REPLY is set is dropped: exec answers
the state with CMD_DROPS one higher (saturating), and no reply is sent. For every command row: a packet taken from its transport,
with MAGIC right and REPLY clear, receives BAD_LENGTH with the expected LEN where its length is wrong; else BAD_CRC where the CRC is
wrong; else BAD_OPCODE 1 where VER is not 1; else BAD_OPCODE 2 where a reserved flag is set; else DENIED 2 where the role may not
use the transport; else DENIED 5 where SESSION is 0 with AUTH or names no open session of the role. The reply is immediate and
without AUTH, and nothing else of the command happens. -/
def Obligations.PacketLayerErrors : Prop :=
  (∀ (i : Instr) (s s1 : State) (op : OpSpec) (p : Packet),
    commandOf s i = some (op, p) → p.opcode.toNat = op.code → s.takePacket p = some s1 →
    (p.magic ≠ 0x4D37 ∨ p.fReply = true) →
    exec i s = .next (s1.leaveIdle.bumpSat Reg.CMD_DROPS_COUNT 1).settleCastChain) ∧
  (∀ (i : Instr) (s s1 : State) (op : OpSpec) (p : Packet),
    commandOf s i = some (op, p) → p.opcode.toNat = op.code → s.takePacket p = some s1 → p.magic = 0x4D37 → p.fReply = false →
    let err (st d : Nat) := exec i s = .next (s1.leaveIdle.answerErr p false [] st d).settleCastChain
    let lenBad := 4064 < p.len.toNat ∨ p.body.length ≠ p.len.toNat + (if p.fAuth then 16 else 0)
    (lenBad → err 3 op.expect) ∧
    (¬ lenBad → crc32c p.covered ≠ p.crc.toNat → err 4 0) ∧
    (¬ lenBad → crc32c p.covered = p.crc.toNat → p.ver ≠ 1 → err 2 1) ∧
    (¬ lenBad → crc32c p.covered = p.crc.toNat → p.ver = 1 → 16 ≤ p.flags.toNat → err 2 2) ∧
    (¬ lenBad → crc32c p.covered = p.crc.toNat → p.ver = 1 → p.flags.toNat < 16 → roleOnTransport p = false → err 5 2) ∧
    (FramedRight p → (p.session = 0 ∧ p.fAuth = true ∨
      p.session ≠ 0 ∧ s1.leaveIdle.session p.session.toNat p.role.toNat = none) → err 5 5))

/-- A duplicate is not carried out again: the recorded reply is sent, or none while the command is unanswered (R34, R36,
spec/02_command_packets.md Table CMD-7). For every command row: a packet that passes the checks up to its session and whose SEQ and
CRC match a record of its stream is not executed again: where the command it repeats is not yet answered, nothing is sent; else
where the recorded operation has ended, exactly the recorded reply is sent again, and where it still runs, PENDING with an estimate
(a free value). Where the CRC differs, STATE 0xFF02 is answered. -/
def Obligations.DuplicateIsAnsweredAgain : Prop :=
  ∀ (i : Instr) (s s1 b : State) (op : OpSpec) (p : Packet) (c : Ctx) (r : Record),
    commandOf s i = some (op, p) → p.opcode.toNat = op.code → s.takePacket p = some s1 → FramedRight p →
    InSession s1.leaveIdle p c b → (b.stream p.stream).recs.find? (fun x => x.seq == p.seq.toNat) = some r →
    let unanswered := b.cmd.longOps.any (fun o => o.late && o.req == p)
    (r.crc = p.crc.toNat → unanswered = true → exec i s = .next b.settleCastChain) ∧
    (r.crc = p.crc.toNat → unanswered = false → r.running = false → exec i s = .next (b.deliver r.reply).settleCastChain) ∧
    (r.crc = p.crc.toNat → unanswered = false → r.running = true →
      exec i s = .next (b.draw.deliver (replyTo p c.auth c.key 1 (Ans.code 1 b.estimate))).settleCastChain) ∧
    (r.crc ≠ p.crc.toNat → exec i s = .next (b.answerErr p c.auth c.key 0xE 0xFF02).settleCastChain)

/-- A command packet that passes every check runs its command and is answered (R61, R34, R36, R38, R41, spec/02_command_packets.md Table
CMD-7). For every command row (commandOf names all rows of commands but MEM_INJECT, TAMPER_CLEAR and the firmware packets of the
ensemble, which have their own statements): a packet outside a chain that passes every check of Table CMD-7 runs its command. exec
answers the next state in which the command's own effect has taken place on the state with SEQ accepted, and its answer has been
sent and recorded. The reply copies VER, OPCODE, SEQ, ROLE and SESSION. -/
def Obligations.CommandRunsWhenReached : Prop :=
  ∀ (i : Instr) (s b u : State) (op : OpSpec) (p : Packet) (c : Ctx),
    commandOf s i = some (op, p) → Reaches op s p c b u →
    exec i s = .next (answered b c (op.run u c)) ∧
    (∀ (kind : Nat) (a : Ans), let r := replyTo p c.auth c.key kind a
      r.ver = p.ver ∧ r.opcode = p.opcode ∧ r.seq = p.seq ∧ r.role = p.role ∧ r.session = p.session ∧ r.fReply = true ∧ r.fChain = false)

/-- A role, AUTH, LEN or parameter that is wrong is answered with its code and nothing else (R61, spec/02_command_packets.md Table
CMD-7, spec/02_command_packets.md Table CMD-8). For every command row: a packet that passes the packet layer, its session and SEQ,
outside a chain, receives DENIED 1 where its role may not send the command; else DENIED 3 where the command needs AUTH and has none;
else BAD_LENGTH with the expected LEN; else RANGE with the offset of the first bad parameter. The command has no effect. -/
def Obligations.CommandRefusedByItsChecks : Prop :=
  ∀ (i : Instr) (s s1 b : State) (op : OpSpec) (p : Packet) (c : Ctx) (d : Nat),
    commandOf s i = some (op, p) → p.opcode.toNat = op.code → opcodeKnown op.code = true → s.takePacket p = some s1 → FramedRight p →
    p.fChain = false → InSession s1.leaveIdle p c b → seqCheck (b.stream p.stream) (seqSession b p) p = .fresh →
    (b.stream p.stream).chain = none →
    let u := seqTaken b p
    let err (st d : Nat) := exec i s = .next (answered b c (u, Ans.code st d))
    (c.role ∉ op.roles → err 5 1) ∧
    (c.role ∈ op.roles → op.auth u c = true → c.auth = false → err 5 3) ∧
    (c.role ∈ op.roles → (op.auth u c = true → c.auth = true) → op.lenOk c.data = false → err 3 op.expect) ∧
    (c.role ∈ op.roles → (op.auth u c = true → c.auth = true) → op.lenOk c.data = true → op.range u c = some d → err 7 d)

/-- Lamp detections and retries, ramps, rail monitors and gate edges move the phases of the lamp channels (R97, R98, R99, R101,
spec/04_door_side_interfaces.md, R100, R102, R103, R105). LAMP_SHORT at a voltage below SHORT_V on a driving channel whose target is
at least an eighth of its setpoint: PHASE 4, ON 0, SHORT 1, HOLD exactly after the third retry, its bit in HMI_EVT.LAMP, RETRIES as
before; at another voltage nothing. LAMP_AUTO_RETRY on a latched channel without HOLD: after fewer than three retries RETRIES counts
and the wanted channel starts softly (one whose gate is off waits for its gate, log entry 86); after three HOLD is set.
LAMP_RETRIES_RESET on a channel that is on: RETRIES 0. LAMP_OPEN on a regulating channel: OPEN set with its event, the channel runs
on. INRUSH_WINDOW_END in soft start: PHASE 2, ON 1, but after a dip beside a neighbour's short the window holds on, once, at most 5
ms. RAMP_END: a channel ramping to its setpoint is on, one ramping down is off, one at zero before a range switch takes the new
range and ramps up again. LAMP_RAIL_UV: the switched-on channels of the rail that are on, in soft start or waiting are suspended
(PHASE 5), the event bit is set. RAIL_UV_RELEASE: suspended channels of the rail wait (PHASE 6). RAIL_RESTART_WAIT_END: waiting
channels start softly, those switched off are off. LGATE_EDGE at a released fabric outside every freeze wall: the gate's level is
taken; a rising edge on a channel ramping off starts it softly, else the channel follows the gate. -/
def Obligations.LampEvents : Prop :=
  (∀ (ch : Fin 8) (s : State), s.kettleOn = true →
    (∀ mv : BitVec 16, s.get (Reg.LMP_STAT_PHASE ch) ∈ [1, 2, 3] → mv.toNat < 500 * (s.get (Reg.LMP_CTRL_SHORT_V ch) + 1) →
      s.lampSetpoint ch ≤ 8 * s.lampTarget ch →
      ∃ t, exec (.lampShort ⟨ch, mv⟩) s = .next t ∧ t.get (Reg.LMP_STAT_PHASE ch) = 4 ∧ t.get (Reg.LMP_STAT_ON ch) = 0 ∧
        t.get (Reg.LMP_STAT_SHORT ch) = 1 ∧ t.get (Reg.LMP_STAT_HOLD ch) = b2n (s.get (Reg.LMP_STAT_RETRIES ch) == 3) ∧
        t.get (Reg.LMP_STAT_RETRIES ch) = s.get (Reg.LMP_STAT_RETRIES ch) ∧ bit (t.get Reg.HMI_EVT_LAMP) ch = true ∧
        t = { s with regs := t.regs, log := t.log, nvm := t.nvm, out := t.out, door := { s.door with lamps := t.door.lamps } } ∧
        RegsBut ([Reg.LMP_STAT_PHASE ch, Reg.LMP_STAT_ON ch, Reg.LMP_STAT_SHORT ch, Reg.LMP_STAT_HOLD ch, Reg.HMI_EVT_LAMP] ++ logRegs) s t) ∧
    (∀ mv : BitVec 16, 500 * (s.get (Reg.LMP_CTRL_SHORT_V ch) + 1) ≤ mv.toNat ∨ 8 * s.lampTarget ch < s.lampSetpoint ch →
      exec (.lampShort ⟨ch, mv⟩) s = .next s) ∧
    (s.get (Reg.LMP_STAT_PHASE ch) = 4 → s.flag (Reg.LMP_STAT_HOLD ch) = false → s.get (Reg.LMP_STAT_RETRIES ch) < 3 → s.lampWanted ch = true →
      ∃ t, exec (.lampAutoRetry ch) s = .next t ∧ t.get (Reg.LMP_STAT_RETRIES ch) = s.get (Reg.LMP_STAT_RETRIES ch) + 1 ∧
        t.get (Reg.LMP_STAT_PHASE ch) = (if bit s.door.railTrip (ch.val / 2) then 5 else if bit s.door.railWait (ch.val / 2) then 6 else 1) ∧
        t = { s with regs := t.regs, door := { s.door with lamps := t.door.lamps } } ∧
        RegsBut [Reg.LMP_STAT_PHASE ch, Reg.LMP_STAT_ON ch, Reg.LMP_STAT_RETRIES ch] s t) ∧
    (s.get (Reg.LMP_STAT_PHASE ch) = 4 → s.flag (Reg.LMP_STAT_HOLD ch) = false → s.get (Reg.LMP_STAT_RETRIES ch) < 3 → s.lampWanted ch = false →
      exec (.lampAutoRetry ch) s = .next (s.putLamp ch { s.lamp ch with due := true })) ∧
    (s.get (Reg.LMP_STAT_PHASE ch) = 4 → s.flag (Reg.LMP_STAT_HOLD ch) = false → s.get (Reg.LMP_STAT_RETRIES ch) = 3 →
      exec (.lampAutoRetry ch) s = .next ((s.setFlag (Reg.LMP_STAT_HOLD ch) true).hmi Reg.HMI_EVT_LAMP (2 ^ ch.val) 0)) ∧
    (s.flag (Reg.LMP_STAT_ON ch) = true → exec (.lampRetriesReset ch) s = .next (s.put (Reg.LMP_STAT_RETRIES ch) 0)) ∧
    (s.get (Reg.LMP_STAT_PHASE ch) = 2 →
      exec (.lampOpen ch) s = .next ((s.setFlag (Reg.LMP_STAT_OPEN ch) true).hmi Reg.HMI_EVT_LAMP (2 ^ ch.val) 0)) ∧
    (∀ dip : Nat, s.get (Reg.LMP_STAT_PHASE ch) = 1 → (dip = 0 ∨ (s.lamp ch).near = false ∨ (s.lamp ch).extended = true) →
      exec (.inrushWindowEnd ⟨ch, dip⟩) s = .next ((s.put (Reg.LMP_STAT_PHASE ch) 2).setFlag (Reg.LMP_STAT_ON ch) true)) ∧
    (∀ dip : Nat, s.get (Reg.LMP_STAT_PHASE ch) = 1 → dip ≠ 0 → (s.lamp ch).near = true → (s.lamp ch).extended = false →
      exec (.inrushWindowEnd ⟨ch, dip⟩) s =
        .next (s.putLamp ch { s.lamp ch with extended := true, until_ := s.time.up + min dip 5000 * 1000 * unitNs }))) ∧
  ((∀ (ch : Fin 8) (s : State), s.kettleOn = true → s.get (Reg.LMP_STAT_PHASE ch) = 3 →
    ((s.lamp ch).toRange = none → exec (.rampEnd ch) s = .next (s.lampPhase ch (if s.lampWanted ch then 2 else 0))) ∧
    (∀ r, (s.lamp ch).toRange = some r → (s.lamp ch).fresh = false →
      exec (.rampEnd ch) s = .next ((s.putLamp ch { s.lamp ch with toRange := none, range := r }).lampRamp ch (s.get (Reg.LMP_SET_SET ch)))) ∧
    (∀ r, (s.lamp ch).toRange = some r → (s.lamp ch).fresh = true → exec (.rampEnd ch) s = .next (s.lampSoft ch))) ∧
  (∀ (rail : Fin 4) (s : State), s.kettleOn = true →
    ∃ t, exec (.lampRailUv rail) s = .next t ∧ bit t.door.railTrip rail = true ∧ bit (t.get Reg.HMI_EVT_RAIL_UV) rail = true ∧
      (∀ n, n / 2 = rail.val → s.get (Reg.LMP_STAT_PHASE n) ∈ [1, 2, 3, 6] → s.lampWanted n = true →
        t.get (Reg.LMP_STAT_PHASE n) = 5 ∧ t.get (Reg.LMP_STAT_ON n) = 0) ∧
      t = { s with regs := t.regs, log := t.log, nvm := t.nvm, out := t.out,
                   door := { s.door with railTrip := t.door.railTrip, railWait := t.door.railWait } }) ∧
  (∀ (rail : Fin 4) (s : State), s.kettleOn = true → bit s.door.railTrip rail = true →
    ∃ t, exec (.railUvRelease rail) s = .next t ∧ bit t.door.railTrip rail = false ∧ bit t.door.railWait rail = true ∧
      (∀ n, n / 2 = rail.val → s.get (Reg.LMP_STAT_PHASE n) = 5 → s.lampWanted n = true → t.get (Reg.LMP_STAT_PHASE n) = 6) ∧
      t = { s with regs := t.regs, door := { s.door with railTrip := t.door.railTrip, railWait := t.door.railWait } }) ∧
  (∀ (rail : Fin 4) (s : State), s.kettleOn = true → bit s.door.railWait rail = true → bit s.door.railTrip rail = false →
    ∃ t, exec (.railRestartWaitEnd rail) s = .next t ∧ bit t.door.railWait rail = false ∧
      (∀ n, n / 2 = rail.val → s.get (Reg.LMP_STAT_PHASE n) = 6 → s.lampWanted n = true →
        t.get (Reg.LMP_STAT_PHASE n) = 1 ∧ t.get (Reg.LMP_STAT_ON n) = 1) ∧
      (∀ n, n / 2 = rail.val → s.get (Reg.LMP_STAT_PHASE n) = 6 → s.lampWanted n = false →
        t.get (Reg.LMP_STAT_PHASE n) = 0 ∧ t.get (Reg.LMP_STAT_ON n) = 0) ∧
      t = { s with regs := t.regs, door := { s.door with railWait := t.door.railWait, lamps := t.door.lamps } }) ∧
  (∀ (ch : Fin 8) (level : Bool) (s : State), s.fabricReleased = true →
    bit (s.get Reg.CWALL_MASK) (s.door.lgateRegion.getD ch 0) = false →
    let u := { s with door := { s.door with lgate := setBits s.door.lgate ch 1 (b2n level) } }
    let rise : Prop := bit s.door.lgate ch = false ∧ level = true ∧ u.lampRise ch = true
    (¬ rise → exec (.lgateEdge ch level) s = .next (u.lampApply ch)) ∧
    (rise → exec (.lgateEdge ch level) s = .next (u.lampSoft ch))))

/-- Touch, keypad, plug and tamper events (R106, R107, R108, R110, R111, R112, R113, R114, spec/04_door_side_interfaces.md). TOUCH_SCAN:
COUNT of every enabled channel holds its first conversion, with PROX the sum of its eight where COUNT can hold it. TOUCH_RECAL on a
touched channel with RECAL: BASE becomes COUNT, the channel is released, TOUCH_RECAL logged. KEY_ROW_LOW starts the scan. KEY_SCAN:
GHOST exactly with three or more keys down, the millisecond count kept. PLUG_CHANGE: PRESENT takes the level, CHANGED and the event
are set. In each the named parts alone change. -/
def Obligations.TouchKeysAndPlugs : Prop :=
  (∀ (counts : List (List (BitVec 16))) (s : State) (n : Nat) (c : List (BitVec 16)), s.kettleOn = true → n < 12 → counts[n]? = some c →
    s.flag (Reg.TCH_CFG_EN n) = true →
    ∃ t, exec (.touchScan counts) s = .next t ∧
      (s.flag (Reg.TCH_CFG_PROX n) = false → t.get (Reg.TCH_DATA_COUNT n) = (c.getD 0 0).toNat) ∧
      (s.flag (Reg.TCH_CFG_PROX n) = true → ((c.take 8).map BitVec.toNat).sum < 65536 →
        t.get (Reg.TCH_DATA_COUNT n) = ((c.take 8).map BitVec.toNat).sum)) ∧
  (∀ (ch : Fin 12) (s : State), s.kettleOn = true → s.touched ch = true → s.get Reg.TCH_CFG_RECAL ≠ 0 →
    ∃ t, exec (.touchRecal ch) s = .next t ∧ t.get (Reg.TCH_DATA_BASE ch) = s.get (Reg.TCH_DATA_COUNT ch) % 65536 ∧
      t.touched ch = false ∧ t.get Reg.HMI_EVT_TOUCH = 1 ∧
      t = { s with regs := t.regs, log := t.log, nvm := t.nvm, out := t.out, door := { s.door with touch := t.door.touch } } ∧
      RegsBut ([Reg.TCH_DATA_BASE ch, Reg.TCH_TOUCHED_T, Reg.HMI_EVT_TOUCH] ++ logRegs) s t) ∧
  (∀ s : State, s.kettleOn = true → s.flag Reg.KEY_CFG_EN = true →
    exec .keyRowLow s = .next { s with door := { s.door with keyScan := true } }) ∧
  (∀ (down : BitVec 16) (ms : BitVec 24) (s : State), s.kettleOn = true → s.flag Reg.KEY_CFG_EN = true → s.door.keyScan = true →
    ∃ t, exec (.keyScan down ms) s = .next t ∧ t.get Reg.KEY_STATE_GHOST = b2n (3 ≤ popcount 16 down.toNat) ∧
      t.door.keyMs = ms.toNat ∧ t.door.keyScan = (down != 0 || t.get Reg.KEY_STATE_DOWN != 0)) ∧
  (∀ (n : Fin 2) (present : Bool) (s : State), s.kettleOn = true → bit (s.get Reg.PLG_STAT_PRESENT) n ≠ present →
    ∃ t, exec (.plugChange n present) s = .next t ∧ bit (t.get Reg.PLG_STAT_PRESENT) n = present ∧
      bit (t.get Reg.PLG_STAT_CHANGED) n = true ∧ t.get Reg.HMI_EVT_PLUG = 1)

/-- What the door commands do (R95, R98, R106, R110, R112, R118, R120, spec/04_door_side_interfaces.md Table DOOR-5). Of packets that
reach their command: LAMP_SET stores SET, SOFT, INRUSH, SHORT_V and the four flags, and the channel follows; LAMP_RETRY on a latched
channel clears RETRIES and HOLD and restarts it, on another receives STATE 1; KEY_CONFIG stores DEB and EN of the keypad and DEB of
the plugs; KEY_READ answers and removes the oldest MAX entries; DOOR_STATUS answers the words as they were and clears the events of
its mask; AUDIO_MUTE sets UNMUTE and the level, and unmuting needs the fabric in RUN or IDLE, neither casting nor behind the walls
of a recast. -/
def Obligations.DoorCommands : Prop :=
  ∀ (s b u : State) (p : Packet) (c : Ctx),
    (Reaches lampSetOp s p c b u → ∃ t, exec (.lampSet p) s = .next t ∧ ∃ v, t = answered b c (v, Ans.ok []) ∧
      v.get (Reg.LMP_SET_SET (c.at 0 1)) = c.at 2 2 ∧ v.get (Reg.LMP_CTRL_SOFT (c.at 0 1)) = c.at 4 1 ∧
      v.get (Reg.LMP_CTRL_INRUSH (c.at 0 1)) = c.at 5 1 ∧ v.get (Reg.LMP_CTRL_SHORT_V (c.at 0 1)) = c.at 6 1 ∧
      v.flag (Reg.LMP_CTRL_EN (c.at 0 1)) = bit (c.at 1 1) 0 ∧ v.flag (Reg.LMP_CTRL_RANGE (c.at 0 1)) = bit (c.at 1 1) 1 ∧
      v.flag (Reg.LMP_CTRL_SRC (c.at 0 1)) = bit (c.at 1 1) 2 ∧ v.flag (Reg.LMP_CTRL_GATE_DFLT (c.at 0 1)) = bit (c.at 1 1) 3 ∧
      v = { u with regs := v.regs, door := { u.door with lamps := v.door.lamps } }) ∧
    (Reaches lampRetryOp s p c b u →
      (u.get (Reg.LMP_STAT_PHASE (c.at 0 1)) ≠ 4 → exec (.lampRetry p) s = .next (answered b c (u, Ans.code 0xE 1))) ∧
      (u.get (Reg.LMP_STAT_PHASE (c.at 0 1)) = 4 → ∃ v, exec (.lampRetry p) s = .next (answered b c (v, Ans.ok [])) ∧
        v.get (Reg.LMP_STAT_RETRIES (c.at 0 1)) = 0 ∧ v.get (Reg.LMP_STAT_HOLD (c.at 0 1)) = 0)) ∧
    (Reaches keyConfigOp s p c b u → exec (.keyConfig p) s = .next (answered b c
      (((u.put Reg.KEY_CFG_DEB (bits (c.at 0 4) 4 5)).put Reg.KEY_CFG_EN (bits (c.at 0 4) 0 1)).put Reg.PLG_CFG_DEB (bits (c.at 4 4) 0 8),
        Ans.ok []))) ∧
    (Reaches keyReadOp s p c b u → ∃ v, exec (.keyRead p) s = .next (answered b c
        (v, Ans.ok (wordBytes ([u.keyStateWord, u.keyFifoWord] ++ u.door.keyFifo.take (c.at 0 1))))) ∧
      v.door.keyFifo = u.door.keyFifo.drop (c.at 0 1) ∧ v.get Reg.KEY_FIFO_STAT_LEVEL = (u.door.keyFifo.length - c.at 0 1) % 32 ∧
      RegsBut [Reg.KEY_FIFO_STAT_LEVEL] u v ∧ v = { u with regs := v.regs, door := { u.door with keyFifo := v.door.keyFifo } }) ∧
    (Reaches doorStatusOp s p c b u → exec (.doorStatus p) s = .next (answered b c
      (u.hmiClear (c.at 0 4), Ans.ok (wordBytes [u.hmiEvtWord, u.plgStatWord, u.tmpStatWord, u.audWord])))) ∧
    (Reaches audioMuteOp s p c b u → (c.at 0 1 = 1 → u.mayUnmute = true) →
      exec (.audioMute p) s = .next (answered b c
        ((u.setFlag Reg.AUD_CTRL_UNMUTE (c.at 0 1 == 1)).setFlag Reg.AUD_CTRL_LEVEL (c.at 0 1 == 1), Ans.ok []))) ∧
    (Reaches audioMuteOp s p c b u → c.at 0 1 = 1 → u.mayUnmute = false →
      exec (.audioMute p) s = .next (answered b c (u, Ans.code 0xE (0x100 + u.cur))))

/-- Entries pass the input queue into the ring and on to the persistent log (R601, R603, R604, R606,
spec/24_faults_log_and_recovery.md). LOG_SUBMIT: the oldest entry of the input queue takes the next SEQ, is the newest entry of the
ring, and the ring keeps at most its newest 2,048. LOG_PERSIST while a sector is in service: the oldest accepted entry is programmed
and carries PERSIST, in the ring too; where the verify fails the entry stays to be programmed, and PFAULT tells whether fewer than
sixteen sectors are left in service. LOG_ERASED: the erase that was running ends, the ring is kept, LOG_ERASED is the newest entry
and LOG_ERASE completes. An entry that finds the input queue full is dropped and counted, DROP is set. -/
def Obligations.LogQueueAndRing : Prop :=
  (∀ (s : State) (e : LogSub) (r : List LogSub), s.kettleOn = true → s.log.inQ = e :: r → s.log.lost = 0 →
    ∃ t, exec .logSubmit s = .next t ∧ t.get Reg.LOG_HEAD_SEQ = wrapAdd 32 (s.get Reg.LOG_HEAD_SEQ) 1 ∧ t.log.inQ = r ∧
      t.log.ring = (s.log.ring ++ [({ seq := wrapAdd 32 (s.get Reg.LOG_HEAD_SEQ) 1, sub := e } : LogEntry)]).drop (s.log.ring.length - 2047) ∧
      t = { s with regs := t.regs, log := t.log, nvm := t.nvm, out := t.out } ∧ RegsBut logRegs s t) ∧
  (∀ (s : State) (e : LogEntry) (r : List LogEntry), s.log.toPersist = e :: r → s.log.eraseIntent = none → s.kettleOn = true →
    s.bud.trip = none →
    (0 < s.log.inService →
      ∃ t, exec (.logPersist true) s = .next t ∧ t.log.toPersist = r ∧ some e.persisted ∈ t.log.sectors.flatMap (fun c => c.slots) ∧
        t.log.ring = s.log.ring.map (fun x => if x.seq == e.seq then x.persisted else x) ∧ t = { s with log := t.log }) ∧
    (∃ t, exec (.logPersist false) s = .next t ∧ t.log.toPersist = e :: r ∧ t.log.ring = s.log.ring ∧
      t.flag Reg.LOG_STAT_PFAULT = decide (t.log.inService < 16) ∧ t = { s with regs := t.regs, log := t.log } ∧
      RegsBut [Reg.LOG_STAT_PFAULT] s t)) ∧
  (∀ (s : State) (role : Nat), s.log.eraseIntent = some role → s.kettleOn = true → s.bud.trip = none → s.log.lost = 0 →
    ∃ t u, exec .logErased s = .next t ∧ u = (s.logEraseNow role).1 ∧
      t = u.complete 0x0C04 (Ans.ok (leBytes 4 s.logPersisted.length)) ∧ u.log.sectors = [] ∧ u.log.eraseIntent = none ∧
      ∃ e, u.log.ring.getLast? = some e ∧ e.sub.code = 0x0C03 ∧ leAt e.sub.data 0 4 = s.logPersisted.length % 2 ^ 32) ∧
  (∀ (s : State) (code src : Nat) (data : List Byte), kettleRaises code = false → 64 ≤ s.log.inQ.length →
    s.logEvent code src data =
      { (s.bumpSat Reg.LOG_DROPS_COUNT 1).setFlag Reg.LOG_STAT_DROP true with log := { s.log with lost := s.log.lost + 1 } })

/-- What the log commands do (R612, R613, R661, R662, R664, spec/24_faults_log_and_recovery.md Table FLT-6). Of packets that reach their
command: LOG_STATUS and LOG_READ change nothing and answer the words of their tables; LOG_WRITE within the fabric's limit writes a
USER entry with CODE, SEV, SRC and DATA of the packet and answers its SEQ; LOG_CONFIG stores PSEV, MATCH_EN, MATCH_P and answers the
previous LOG_CFG; LOG_ERASE with none running programs the intent and is pending, with one running receives BUSY. -/
def Obligations.LogCommands : Prop :=
  ∀ (s b u : State) (p : Packet) (c : Ctx),
    (Reaches logStatusOp s p c b u → exec (.logStatus p) s = .next (answered b c (u, Ans.ok (wordBytes [u.logStatWord,
      u.get Reg.LOG_HEAD_SEQ, u.logTail, u.logPHead, u.logPTail, u.get Reg.LOG_DROPS_COUNT, u.get Reg.LOG_TORN_COUNT, u.logCfgWord])))) ∧
    (Reaches logReadOp s p c b u →
      (∀ e l, u.logSelect (c.at 0 1) (c.at 2 2) (c.at 4 4) = e :: l → ∃ r, exec (.logRead p) s = .next (answered b c (u, Ans.ok r)) ∧
        leAt r 0 4 = e.seq % 2 ^ 32 ∧ leAt r 4 2 = (l.length + 1) % 65536 ∧ r.drop 12 = (e :: l).flatMap logBytes) ∧
      (u.logSelect (c.at 0 1) (c.at 2 2) (c.at 4 4) = [] → let o := max (c.at 4 4) (if c.at 0 1 = 0 then u.logTail else u.logPTail)
        exec (.logRead p) s = .next (answered b c (u, Ans.ok (leBytes 4 o ++ leBytes 2 0 ++ leBytes 2 0 ++ leBytes 4 o))))) ∧
    (Reaches logWriteOp s p c b u → (c.role = 3 → u.fabWindow.length < 1000) →
      ∃ v, exec (.logWrite p) s = .next (answered b c (v, Ans.ok (leBytes 4 (v.get Reg.LOG_HEAD_SEQ)))) ∧ v.log.inQ = [] ∧
        ∃ e, v.log.ring.getLast? = some e ∧ e.seq = v.get Reg.LOG_HEAD_SEQ ∧ e.sub.code = c.at 0 2 ∧ e.sub.sev = c.at 2 1 ∧
          e.sub.src = c.at 4 2 % 65536 ∧ e.sub.data = padTo 10 (slice c.data 6 10)) ∧
    (Reaches logConfigOp s p c b u → exec (.logConfig p) s = .next (answered b c (((u.put Reg.LOG_CFG_PSEV (c.at 0 1)).setFlag
      Reg.LOG_CFG_MATCH_EN (bit (c.at 1 1) 0)).setFlag Reg.LOG_CFG_MATCH_P (bit (c.at 1 1) 1), Ans.ok (leBytes 4 u.logCfgWord)))) ∧
    (Reaches logEraseOp s p c b u → u.log.eraseIntent = none → ∃ d, exec (.logErase p) s = .next (answered b c
      ((State.persist { u with log := { u.log with eraseIntent := some c.role } } .logErase).draw, Ans.code 1 d))) ∧
    (Reaches logEraseOp s p c b u → u.log.eraseIntent ≠ none → ∃ d, exec (.logErase p) s = .next (answered b c
      ({ u with draws := u.draws + 1 }, Ans.code 6 d)))

/-- Session and chain timeouts and the control messages of the management port (R39, R50, R55, spec/02_command_packets.md).
SESSION_IDLE_TIMEOUT closes the session and its streams. CHAIN_TIMEOUT abandons the chain of its stream. MCTP_MESSAGE_TIMEOUT
discards the message in assembly, which no state holds, and counts it in CMD_DROPS. While the kettle runs, SET_ENDPOINT_ID with an
address that is neither 0 nor 0xFF is taken and answered (those two exclusions are PRESUMED from the MCTP standard, log entry 20),
GET_ENDPOINT_ID and GET_MESSAGE_TYPE_SUPPORT answer, GET_MCTP_VERSION_SUPPORT answers a free value, ENTDAA assigns the dynamic
address. Nothing else changes but a load that hung on the chain. -/
def Obligations.SessionsChainsAndManagementPort : Prop :=
  ∀ (s : State),
    (∀ n : Fin 256, s.kettleOn = true → exec (.sessionIdleTimeout n) s = .next ({ s with cmd := { s.cmd with
      sessions := s.cmd.sessions.filter (fun y => y.num != n.val),
      streams := s.cmd.streams.filter (fun t => t.id.session != n.val) } }).settleCastChain) ∧
    (∀ (st : StreamId) (ch : Chain), (s.stream st).chain = some ch → exec (.chainTimeout st) s =
      .next (s.putStream { s.stream st with chain := some { ch with dead := true } }).settleCastChain) ∧
    (s.plinthPowered = true → exec .mctpMessageTimeout s = .next (s.bumpSat Reg.CMD_DROPS_COUNT 1)) ∧
    (s.kettleOn = true →
      (∀ eid : Byte, eid ≠ 0 → eid ≠ 0xFF → exec (.setEndpointId eid) s =
        .next { s with cmd := { s.cmd with eid := eid, mctpOut := s.cmd.mctpOut ++ [.setEid 0 eid] } }) ∧
      exec .getEndpointId s = .next { s with cmd := { s.cmd with mctpOut := s.cmd.mctpOut ++ [.getEid s.cmd.eid] } } ∧
      (∀ ty : Byte, exec (.getMctpVersionSupport ty) s =
        .next { s.draw with cmd := { s.cmd with mctpOut := s.cmd.mctpOut ++ [.versions ty 0 [s.drawn 32]] } }) ∧
      exec .getMessageTypeSupport s = .next { s with cmd := { s.cmd with mctpOut := s.cmd.mctpOut ++ [.types [0x7E]] } } ∧
      (∀ a : BitVec 7, exec (.entdaa a) s = .next { s with cmd := { s.cmd with i3cAddr := some a } }))

/-- The SPI target port and the PCIe mailbox (R51, R52, R53, R54, spec/02_command_packets.md Table CMD-5, spec/02_command_packets.md
Table CMD-6). While the steward answers: WRITE_PACKET with a free buffer is kept and ERR cleared, with none, or of fewer than 16
bytes, it is discarded, ERR set and CMD_DROPS counted; READ_REPLY shows the oldest reply, removed where it was read whole (one that
waits takes its buffer), 0x00 0x00 if none; READ_STATUS shows the status byte and clears ERR. While the plinth is powered:
MBX_DOORBELL at most 8 ahead of HEAD takes its packets in order and stores TAIL, further ahead it is ignored and counted in
CMD_DROPS; MBX_RPL_HEAD_WRITE consumes the replies before it; MBX_RESET with RESET set leaves both rings empty, the four indices 0
and no PCIe stream. -/
def Obligations.SpiTargetAndMailbox : Prop :=
  (∀ (s : State), s.stewardUp = true →
    (∀ (bytes : List Byte) (p : Packet), packetOf .spi bytes = some p →
      (s.cmd.spiReq.length < 2 → exec (.writePacket bytes) s =
        .next { s with cmd := { s.cmd with spiReq := s.cmd.spiReq ++ [p], spiErr := false } }) ∧
      (2 ≤ s.cmd.spiReq.length → exec (.writePacket bytes) s =
        .next (State.bumpSat { s with cmd := { s.cmd with spiErr := true } } Reg.CMD_DROPS_COUNT 1))) ∧
    (∀ bytes : List Byte, packetOf .spi bytes = none → exec (.writePacket bytes) s =
      .next (State.bumpSat { s with cmd := { s.cmd with spiErr := true } } Reg.CMD_DROPS_COUNT 1)) ∧
    (∀ (r : Packet) (rs : List Packet), s.cmd.spiRpl = r :: rs →
      (∃ t, exec (.readReply true) s = .next t ∧ t.cmd.spiRpl = (rs ++ s.cmd.spiWait).take 8 ∧ t.cmd.spiWait = (rs ++ s.cmd.spiWait).drop 8 ∧
        t = { s with cmd := { s.cmd with spiOut := r.bytes, spiRpl := t.cmd.spiRpl, spiWait := t.cmd.spiWait } }) ∧
      (∃ t, exec (.readReply false) s = .next t ∧ t.cmd.spiRpl ++ t.cmd.spiWait = s.cmd.spiRpl ++ s.cmd.spiWait ∧
        t = { s with cmd := { s.cmd with spiOut := r.bytes, spiRpl := t.cmd.spiRpl, spiWait := t.cmd.spiWait } })) ∧
    (∀ whole, s.cmd.spiRpl = [] → exec (.readReply whole) s = .next { s with cmd := { s.cmd with spiOut := [0, 0] } }) ∧
    exec .readStatus s = .next { s with cmd := { s.cmd with spiErr := false, spiOut := [BitVec.ofNat 8 (8 * b2n s.cmd.spiErr +
      2 * b2n (decide (s.cmd.spiReq.length < 2)) + b2n (s.cmd.spiRpl != []))] } }) ∧
  (∀ (s : State), s.plinthPowered = true →
    (∀ (tail : BitVec 16) (placed : List Packet), (tail.toNat + 65536 - s.get Reg.MBX_REQ_HEAD_HEAD) % 65536 ≤ 8 →
      ∃ t, exec (.mbxDoorbell tail placed) s = .next t ∧ t.get Reg.MBX_REQ_TAIL_TAIL = tail.toNat ∧
        t.cmd.mbxReq = s.cmd.mbxReq ++ (placed.take ((tail.toNat + 65536 - s.get Reg.MBX_REQ_TAIL_TAIL) % 65536)).map
          (fun p => { p with via := .pcie }) ∧
        t = { s with regs := t.regs, cmd := { s.cmd with mbxReq := t.cmd.mbxReq } } ∧
        RegsBut [Reg.MBX_REQ_TAIL_TAIL, Reg.PWR_STATE_CUR] s t) ∧
    (∀ (tail : BitVec 16) (placed : List Packet), 8 < (tail.toNat + 65536 - s.get Reg.MBX_REQ_HEAD_HEAD) % 65536 →
      exec (.mbxDoorbell tail placed) s = .next (s.bumpSat Reg.CMD_DROPS_COUNT 1)) ∧
    (∀ head : BitVec 16, s.cmd.mbxWait = [] →
      ∃ t, exec (.mbxRplHeadWrite head) s = .next t ∧ t.get Reg.MBX_RPL_HEAD_HEAD = head.toNat ∧
        t.cmd.mbxRing = s.cmd.mbxRing.drop ((head.toNat + 65536 - s.get Reg.MBX_RPL_HEAD_HEAD) % 65536) ∧
        RegsBut [Reg.MBX_RPL_HEAD_HEAD, Reg.MBX_STATUS_HELD] s t) ∧
    (∀ w : Word, bit w.toNat 1 = true → s.cast.chain = none →
      ∃ t, exec (.mbxReset w) s = .next t ∧ t.cmd.mbxReq = [] ∧ t.cmd.mbxRing = [] ∧ t.get Reg.MBX_REQ_TAIL_TAIL = 0 ∧
        t.get Reg.MBX_REQ_HEAD_HEAD = 0 ∧ t.get Reg.MBX_RPL_TAIL_TAIL = 0 ∧ t.get Reg.MBX_RPL_HEAD_HEAD = 0 ∧
        (∀ x ∈ t.cmd.streams, x.id.via ≠ .pcie)))

/-- What the system commands do (R41, R45, R46, R48, R50, R66, spec/02_command_packets.md Table CMD-9). Of packets that reach their
command: ECHO answers its payload and changes nothing; GET_INFO answers part, firmware, state, ensemble number, sessions open and
transport; SESSION_OPEN in SESSION 0 with a provisioned root key and fewer than eight sessions opens one of the packet's role under
a number that was not open and a fresh nonce; SESSION_CLOSE ends its session; CMD_POLL answers the recorded reply; KEY_PROVISION
stores the key of its role, in clear or under AUTH unsealed, in its NVM record. -/
def Obligations.SystemCommands : Prop :=
  ∀ (s b u : State) (p : Packet) (c : Ctx),
    (Reaches echoOp s p c b u → exec (.echo p) s = .next (answered b c (u, Ans.ok c.data))) ∧
    (Reaches getInfoOp s p c b u → exec (.getInfo p) s = .next (answered b c (u, Ans.ok (u.infoBytes p.via)))) ∧
    (Reaches sessionOpenOp s p c b u → p.session = 0 → u.rootKey c.role ≠ [] → u.cmd.sessions.length < 8 →
      ∃ x n, exec (.sessionOpen p) s = .next (answered b c (State.putSession { u with draws := n } x,
          Ans.ok (leBytes 1 x.num ++ zeros 3 ++ u.draw.drawnBytes 16))) ∧
        x.role = c.role ∧ 1 ≤ x.num ∧ x.num ≤ 255 ∧ (∀ y ∈ u.cmd.sessions, y.num ≠ x.num) ∧ x.started = false ∧ x.fails = 0 ∧
        x.key = hmac (u.rootKey c.role) ([0x4D, 0x37, 0x53, 0x4B] ++ slice c.data 0 16 ++ u.draw.drawnBytes 16 ++ leBytes 1 x.num)) ∧
    (Reaches sessionCloseOp s p c b u → p.session ≠ 0 → s.cast.chain = none →
      ∃ t, exec (.sessionClose p) s = .next t ∧ t = answered b c (u, Ans.ok []) ∧ ∀ x ∈ t.cmd.sessions, x.num ≠ p.session.toNat) ∧
    (∀ r, Reaches cmdPollOp s p c b u → (u.stream c.p.stream).recorded (c.at 0 2) = some r →
      exec (.cmdPoll p) s = .next (answered b c (u, Ans.ok (r.reply.payload.take 4060)))) ∧
    (∀ k : List Byte, Reaches keyProvisionOp s p c b u →
      (c.auth = false ∧ k = (slice c.data 4 48).take 32 ∨ c.auth = true ∧ c.unseal (slice c.data 4 48) = some k) →
      (c.at 0 1 = 0 → exec (.keyProvision p) s = .next (answered b c
        (State.persist { u with cmd := { u.cmd with hostKey := k } } .hostKey, Ans.ok []))) ∧
      (c.at 0 1 = 1 → exec (.keyProvision p) s = .next (answered b c
        (State.persist { u with cmd := { u.cmd with mgrKey := k } } .mgrKey, Ans.ok []))))

/-- Quiescing, the commit of an entry, and the timers of IDLE and DOZE (R74, R77, R78, R80, R85, R86, R90,
spec/03_kettle_domain_and_wake.md). PWR_QUIESCE_TIMEOUT without FORCE while something still moves: the command completes with BUSY
and the M7 is back in RUN (IDLE under BRAKE 2), MOVING 0. PWR_QUIESCE_DONE when all is quiet: the preparation runs; for DOZE the
save has its key. PWR_ENTRY_COMMIT with no vault commit left and no wake latched: while the completion reply waits for its transport
nothing happens; else PWR_STATE.CUR is the target, MOVING 0, and after SLEEP every enable is low. PWR_WAKE stores IDLE_DELAY,
AUTO_IDLE and IDLE_UCLK, and WAKE ends IDLE. AUTO_IDLE_EXPIRE enters IDLE. DOZE_LIMIT_EXPIRE, where PWR_DOZE_CFG had a limit at the
entry, starts the move to SLEEP. -/
def Obligations.PowerEntry : Prop :=
  ∀ (s : State),
    (∀ p, s.pwr.stage = .quiesce → s.pwr.force = false → s.isQuiet = false → s.pwr.req = some p →
      exec .pwrQuiesceTimeout s = .next (s.abortEntry.completeReq p (Ans.code 6 0)) ∧
      s.abortEntry.cur = (if s.get Reg.BUD_STAT_BRAKE = 2 then 1 else 0) ∧ s.abortEntry.moving = false ∧
      s.abortEntry.pwr.stage = .none ∧ s.abortEntry.pwr.halted = []) ∧
    (s.pwr.stage = .quiesce → s.isQuiet = true →
      (s.get Reg.PWR_STATE_TGT ≠ 2 → exec .pwrQuiesceDone s = .next { s with pwr := { s.pwr with stage := .prepare } }) ∧
      (s.get Reg.PWR_STATE_TGT = 2 → ∃ t, exec .pwrQuiesceDone s = .next t ∧ t.regs = s.regs ∧
          t.pwr = { s.pwr with stage := .prepare, saveKey := true, saveGen := some s.draws })) ∧
    (s.pwr.stage = .prepare → s.vault.commits = [] → (∃ p, s.pwr.req = some p ∧ s.entryReply.repliesWait p.via = true) →
      exec .pwrEntryCommit s = .next s) ∧
    (s.pwr.stage = .prepare → s.vault.commits = [] → s.pwr.wakeAfter = none → s.get Reg.PWR_STATE_TGT ∈ [2, 3] →
      (∀ p, s.pwr.req = some p → s.entryReply.repliesWait p.via = false) →
      ∃ t, exec .pwrEntryCommit s = .next t ∧ t.cur = s.get Reg.PWR_STATE_TGT ∧ t.moving = false ∧ t.pwr.stage = .none ∧ t.pwr.req = none ∧
        (s.get Reg.PWR_STATE_TGT = 3 → t.pwr.enB = false ∧ t.pwr.enF = false ∧ t.pwr.enC = false ∧ t.pwr.enL = false)) ∧
    (∀ w : Word, s.stewardUp = true →
      ∃ t, exec (.pwrWake w) s = .next t ∧ t.get Reg.PWR_CTRL_AUTO_IDLE = bits w.toNat 9 1 ∧ t.get Reg.PWR_CTRL_IDLE_UCLK = bits w.toNat 0 8 ∧
        (bits w.toNat 16 16 ≠ 0 → t.get Reg.PWR_CTRL_IDLE_DELAY = bits w.toNat 16 16) ∧
        (bit w.toNat 8 = true → s.cur = 1 → s.get Reg.BUD_STAT_BRAKE ≠ 2 → t.cur = 0) ∧ t = { s with regs := t.regs } ∧
        RegsBut [Reg.PWR_CTRL_AUTO_IDLE, Reg.PWR_CTRL_IDLE_UCLK, Reg.PWR_CTRL_IDLE_DELAY, Reg.PWR_STATE_CUR] s t) ∧
    (s.stewardUp = true → s.cur = 0 → s.moving = false → s.flag Reg.PWR_CTRL_AUTO_IDLE = true → s.get Reg.CAST_STATUS_STATE ≠ 4 →
      s.bist = none → exec .autoIdleExpire s = .next (s.put Reg.PWR_STATE_CUR 1)) ∧
    (s.kettleOn = true → s.cur = 2 → s.pwr.stage = .none → bits s.pwr.doze 16 16 ≠ 0 →
      ∃ t, exec .dozeLimitExpire s = .next t ∧ t.moving = true ∧ t.get Reg.PWR_STATE_TGT = 3 ∧ t.pwr.stage = .prepare ∧
        t.pwr.fromDoze = true ∧ t = { s with regs := t.regs, pwr := t.pwr } ∧ RegsBut [Reg.PWR_STATE_MOVING, Reg.PWR_STATE_TGT, Reg.PWR_CLK_STATUS_RC_ON] s t)

/-- An enabled wake source latches and starts the exit to RUN (R81, R82, R83, R86, spec/03_kettle_domain_and_wake.md). WAKE_PIN (sources
4 to 7) and HLINK_WAKE_BURST (sources 10 to 16): while the kettle runs, no trip is latched and no entry or exit is in progress, an
enabled source sets its bit in PWR_WAKE_SRC; in IDLE the M7 returns to RUN unless BRAKE is 2; in DOZE and SLEEP the exit starts:
MOVING 1, PWR_WAKE_FIRST names the source, from SLEEP the reference is requested and from DOZE EN_F rises. A source that is not
enabled changes nothing. -/
def Obligations.WakesLatchAndStartExits : Prop :=
  ∀ (i : Instr) (k : Nat) (s : State),
    ((∃ n : Fin 4, i = .wakePin n ∧ k = 4 + n.val) ∨ (∃ n : Fin 7, i = .hlinkWakeBurst n ∧ k = 10 + n.val)) → s.kettleOn = true →
    (bit (s.get Reg.PWR_WAKE_EN_EN) k = false → exec i s = .next s) ∧
    (bit (s.get Reg.PWR_WAKE_EN_EN) k = true → s.bud.trip = none → s.pwr.stage = .none →
      ∃ t, exec i s = .next t ∧ bit (t.get Reg.PWR_WAKE_SRC_SRC) k = true ∧
        (s.cur = 0 → t = s.orBits Reg.PWR_WAKE_SRC_SRC (2 ^ k)) ∧
        (s.cur = 1 → s.get Reg.BUD_STAT_BRAKE ≠ 2 → t.cur = 0 ∧ t.get Reg.PWR_WAKE_FIRST_FIRST = k) ∧
        (s.cur = 2 → t.moving = true ∧ t.get Reg.PWR_WAKE_FIRST_FIRST = k ∧ t.pwr.stage = .railsFC ∧ t.pwr.enF = true) ∧
        (s.cur = 3 → t.moving = true ∧ t.get Reg.PWR_WAKE_FIRST_FIRST = k ∧ t.pwr.stage = .ref ∧ t.flag Reg.PWR_CLK_STATUS_REF_REQ = true))

/-- Rails, references and clocks of an exit, their failures, and the restore from DOZE (R68, R71, R72, R87, R637,
spec/03_kettle_domain_and_wake.md, R83, R88, R436). REFCLK_VALID in its stage raises EN_B and EN_L. RAIL_UP: the rail is up exactly
where its enable is high. RAIL_UP_TIMEOUT of an enabled rail that is not up, and PG_FALL of one that is up, log PWR_RAIL_FAIL and
fall to SLEEP: CUR 3, MOVING 0, every enable low. PLL_LOCK of NCLK raises EN_F and EN_C with the steward up, of CCLK goes on to the
fabric PLLs, of the fabric PLLs to the cast or restore; a first failure is retried. REFCLK_FAIL: the request falls and is retried
once, then MOVING 0. CLK_LOSS: CUR 3 at once, EN_B, EN_F and EN_C low, EN_L kept, the exit waits for the reference. The lock of CCLK
in an exit from DOZE shows CADDY_STAT.STATE 3; CADDY_SR_EXIT_DONE then calibrates the caddy. DOZE_RESTORE_DONE with a good save:
PWR_STATE.CUR reads RUN (IDLE under BRAKE 2), MOVING 0, and RESTORE 1 where a cast came back. Without the save key the restore fails
with cause 4, with a wrong digest 1, an uncorrectable caddy error 2, a lost caddy supply 3; the failure is logged and the cast comes
from the CFG_MODE source. -/
def Obligations.RailsClocksAndRestore : Prop :=
  (∀ (s : State), s.kettleOn = true →
    (s.pwr.stage = .ref → s.flag Reg.PWR_CLK_STATUS_REF_REQ = true →
      ∃ t, exec .refclkValid s = .next t ∧ t.pwr.enB = true ∧ t.pwr.enL = true ∧ t.pwr.stage = .railsBL ∧
        t.flag Reg.PWR_CLK_STATUS_REF_OK = true ∧
        t = { s with regs := t.regs, pwr := t.pwr, time := { s.time with tod := t.time.tod }, draws := t.draws }) ∧
    (∀ r, ∃ t, exec (.railUp r) s = .next t ∧ (t.pwr.rail r).2 = (s.pwr.rail r).1 ∧ ∀ r', (t.pwr.rail r').1 = (s.pwr.rail r').1) ∧
    (∀ r, (s.pwr.rail r).1 = true →
      ∃ t, exec (if (s.pwr.rail r).2 then .pgFall r else .railUpTimeout r) s = .next t ∧ t = (s.logEvent 0x0201 (railCode r) []).fallToSleep ∧
        t.cur = 3 ∧ t.moving = false ∧ t.pwr.stage = .none ∧ t.pwr.enB = false ∧ t.pwr.enF = false ∧ t.pwr.enC = false ∧ t.pwr.enL = false) ∧
    (∀ cal, s.pwr.stage = .pllN → s.pwr.upF = false →
      ∃ t, exec (.pllLock .nclk true cal) s = .next t ∧ t.pwr.enF = true ∧ t.pwr.enC = true ∧ t.pwr.stage = .railsFC ∧
        t.flag Reg.MBX_STATUS_READY = true ∧ t.cur = 0) ∧
    (∀ cal, s.pwr.stage = .pllC →
      ∃ t, exec (.pllLock .cclk true cal) s = .next t ∧ t.pwr.stage = .pllF ∧ t.flag Reg.PWR_CLK_STATUS_CCLK_LOCK = true ∧
        (s.pwr.fromDoze = true → s.get Reg.CADDY_STAT_STATE = 2 → t.get Reg.CADDY_STAT_STATE = 3)) ∧
    (∀ cal, s.pwr.stage = .pllF → exec (.pllLock .fab true cal) s =
      .next ((State.setFlag { s with pwr := { s.pwr with retried := false } } Reg.PWR_CLK_STATUS_FAB_LOCK true).fabricReady)) ∧
    (∀ pll cal, (s.pwr.stage = .pllN ∧ pll = .nclk ∨ s.pwr.stage = .pllC ∧ pll = .cclk ∨ s.pwr.stage = .pllF ∧ pll = .fab) →
      s.pwr.retried = false → exec (.pllLock pll false cal) s = .next { s with pwr := { s.pwr with retried := true } }) ∧
    (s.pwr.stage = .ref → s.pwr.enL = false → s.flag Reg.PWR_CLK_STATUS_REF_REQ = true → s.pwr.retried = false →
      exec .refclkFail s = .next (State.setFlag { s with pwr := { s.pwr with retried := true, refLow := some s.time.up } }
        Reg.PWR_CLK_STATUS_REF_REQ false)) ∧
    (s.pwr.stage = .ref → s.pwr.enL = false → s.flag Reg.PWR_CLK_STATUS_REF_REQ = true → s.pwr.retried = true →
      ∃ t, exec .refclkFail s = .next t ∧ t.moving = false ∧ t.flag Reg.PWR_CLK_STATUS_REF_REQ = false ∧ t.pwr.stage = .none ∧ t.cur = s.cur) ∧
    (s.flag Reg.PWR_CLK_STATUS_REF_OK = true →
      ∃ t, exec .clkLoss s = .next t ∧ t.cur = 3 ∧ t.moving = true ∧ t.pwr.stage = .ref ∧ t.pwr.enB = false ∧ t.pwr.enF = false ∧
        t.pwr.enC = false ∧ t.pwr.enL = s.pwr.enL)) ∧
  (∀ (s : State), s.kettleOn = true →
    (∀ cal, s.flag Reg.PWR_CLK_STATUS_CCLK_LOCK = true → s.get Reg.CADDY_STAT_STATE ∈ [2, 3] → s.bist = none →
      exec (.caddySrExitDone cal) s = .next (s.calibrated (cal.map (fun n => n.val)))) ∧
    (s.pwr.stage = .restore → s.get Reg.CADDY_STAT_STATE = 1 → s.pwr.saveKey = true →
      (∃ t, exec (.dozeRestoreDone .ok) s = .next t ∧ t.cur = (if s.get Reg.BUD_STAT_BRAKE = 2 then 1 else 0) ∧ t.moving = false ∧
        t.get Reg.PWR_STATE_RESTORE = (if s.get Reg.CAST_STATUS_STATE ∈ [2, 3] then 1 else s.get Reg.PWR_STATE_RESTORE) ∧ t.pwr.stage = .none ∧ t.pwr.halted = []) ∧
      exec (.dozeRestoreDone .digest) s = .next (s.restoreFails 1) ∧ exec (.dozeRestoreDone .caddyUe) s = .next (s.restoreFails 2) ∧
      exec (.dozeRestoreDone .supplyC) s = .next (s.restoreFails 3)) ∧
    (∀ o, s.pwr.stage = .restore → s.get Reg.CADDY_STAT_STATE = 1 → s.pwr.saveKey = false →
      exec (.dozeRestoreDone o) s = .next (s.restoreFails 4)))

/-- Losing power resets everything but the NVM, and a boot runs the exit from SLEEP (R69, R602, R622, R636, R648, R655,
spec/03_kettle_domain_and_wake.md). RESET_N_FALL and SUPPLY_MONITOR_TRIP: OFF; every enable is low, no session, stream or root key
is left in the command path, every NVM record but the one written last and the reservation of log numbers is as it was, and every
register field reads its reset value but the vault's wear and the persistent log's bounds, which the sectors themselves tell.
RESET_N_RISE with the supplies valid, and SUPPLY_MONITOR_RELEASE with RESET_N high: with TEST low and no tamper the kettle runs, the
host's root key is that of its record, the straps show the majority of their three samples, MOVING is 1, PWR_WAKE_FIRST reads
POWER_ON (0x11) and the reference is requested; with TEST high the kettle does not boot. -/
def Obligations.ResetAndBoot : Prop :=
  (∀ (i : Instr) (s : State), i = .resetNFall ∨ i = .supplyMonitorTrip →
    ∃ t, exec i s = .next t ∧ t.pwr.kettle = .off ∧ t.pwr.enB = false ∧ t.pwr.enF = false ∧ t.pwr.enC = false ∧ t.pwr.enL = false ∧
      t.cmd.sessions = [] ∧ t.cmd.streams = [] ∧ t.cmd.hostKey = [] ∧ t.cmd.mgrKey = [] ∧ t.cmd.ensKey = [] ∧
      (∀ r : Rec, r ≠ .logReserve → (∀ x, s.nvm.last = some x → x.1 ≠ r) → t.recPair r = s.recPair r) ∧
      t.log.ring = [] ∧ t.log.inQ = [] ∧ t.pending = s.pending) ∧
  (∀ (i : Instr) (s : State) (f : Fld), i = .resetNFall ∨ i = .supplyMonitorTrip → f.key ∉ sectorFields.map Fld.key →
    ∃ t, exec i s = .next t ∧ t.get f = f.reset) ∧
  (∀ (i : Instr) (s : State) (b : BootPins),
    (i = .resetNRise b ∧ s.pwr.resetLow = true ∧ s.pwr.supplyTrip = false ∨
     i = .supplyMonitorRelease b ∧ s.pwr.supplyTrip = true ∧ s.pwr.resetLow = false) → s.pwr.stage = .none →
    (b.test = true → ∃ t, exec i s = .next t ∧ t.pwr.kettle = .noBoot ∧ t.regs = s.regs) ∧
    (b.test = false → b.tamper = false → s.pwr.tampered = false →
      ∃ t, exec i s = .next t ∧ t.kettleOn = true ∧ t.moving = true ∧ t.get Reg.PWR_WAKE_FIRST_FIRST = 0x11 ∧ t.pwr.stage = .ref ∧
        t.flag Reg.PWR_CLK_STATUS_REF_REQ = true ∧ t.cur = 3 ∧
        t.get Reg.SYS_STRAP_ENS_ID = bits (majority3 b.s0.toNat b.s1.toNat b.s2.toNat) 2 6 ∧
        t.get Reg.SYS_STRAP_CFG_MODE = bits (majority3 b.s0.toNat b.s1.toNat b.s2.toNat) 0 2 ∧
        (∀ key, s.recBody .hostKey = some key → t.cmd.hostKey = key)))

/-- A tamper event latches, closes every session and drops the save key (R64, R114, R115, R116, R572, spec/04_door_side_interfaces.md).
TAMPER while the kettle runs: LATCH and INPUT 1, COUNT one higher (saturating), the HMI event set, every session closed, the save
key gone. In thermal-off the event is only latched. TAMPER_CLEAR that reaches its command with the loop closed clears LATCH and has
the vault key derived again; with the loop open it receives STATE 1. -/
def Obligations.TamperEvents : Prop :=
  (∀ s : State, s.pwr.kettle = .on →
    ∃ t, exec .tamper s = .next t ∧ t.get Reg.TMP_STAT_LATCH = 1 ∧ t.get Reg.TMP_STAT_INPUT = 1 ∧
      t.get Reg.TMP_STAT_COUNT = satAdd Reg.TMP_STAT_COUNT.width (s.get Reg.TMP_STAT_COUNT) 1 ∧ t.get Reg.HMI_EVT_TAMPER = 1 ∧
      t.cmd.sessions = [] ∧ t.pwr.saveKey = false) ∧
  (∀ s : State, s.pwr.kettle = .thermalOff →
    exec .tamper s = .next { s.put Reg.TMP_STAT_INPUT 1 with pwr := { s.pwr with tampered := true } }) ∧
  (∀ (s b u : State) (p : Packet) (c : Ctx) (loopOpen : Bool), s.kettleOn = true →
    Reaches tamperClearOp (s.setFlag Reg.TMP_STAT_INPUT loopOpen) p c b u →
    (u.flag Reg.TMP_STAT_INPUT = true → exec (.tamperClear p loopOpen) s = .next (answered b c (u, Ans.code 0xE 1))) ∧
    (u.flag Reg.TMP_STAT_INPUT = false → ∃ v, exec (.tamperClear p loopOpen) s = .next (answered b c (v, Ans.ok (leBytes 4 v.tmpStatWord))) ∧
      v.get Reg.TMP_STAT_LATCH = 0 ∧ v = (u.put Reg.TMP_STAT_LATCH 0).vaultClear))

/-- The thermal trip, thermal-off and its end (R570, R571, R572, R573, spec/22_budget_and_thermal.md). THERMAL_SHUTDOWN of a sensor at
125 degrees or more that is powered: the trip is kept, CUR 3, MOVING 0, every enable low and every lamp off. THERMAL_OFF_ENTRY: only
the kettle's thermal-off state is left, with the trip and the deferral. THERMAL_OFF_EXIT after 10 s and at 95 degrees or less, TEST
low and no tamper: the kettle runs, the trip is over, THERM_TRIPS, taken from its NVM record, counts it, and PWR_WAKE_FIRST reads
0x13. -/
def Obligations.ThermalTripAndOff : Prop :=
  (∀ (n : Fin 24) (r : Int) (s : State), s.kettleOn = true → s.bud.trip = none → 500 ≤ r → (s.cur = 3 → s.moving = false → n.val = 0) →
    ∃ t, exec (.thermalShutdown n r) s = .next t ∧ t.bud.trip = some (n.val, r, s.time.up) ∧ t.cur = 3 ∧ t.moving = false ∧
      t.pwr.enB = false ∧ t.pwr.enF = false ∧ t.pwr.enC = false ∧ t.pwr.enL = false ∧
      ∀ k, k < 8 → t.get (Reg.LMP_STAT_PHASE k) = 0 ∧ t.get (Reg.LMP_STAT_ON k) = 0) ∧
  (∀ (d : BitVec 16) (s : State), s.kettleOn = true → s.bud.trip ≠ none →
    ∃ t, exec (.thermalOffEntry d) s = .next t ∧ t.pwr.kettle = .thermalOff ∧ t.bud.trip = s.bud.trip ∧ t.bud.deferral = d.toNat ∧
      t.cmd.sessions = [] ∧ t.pwr.enB = false) ∧
  (∀ (b : BootPins) (r : Int) (s : State) (n : Nat) (tj : Int) (at_ : Nat), s.pwr.kettle = .thermalOff → s.bud.trip = some (n, tj, at_) →
    at_ + 10 * unitSec ≤ s.time.up → r ≤ 380 → b.test = false → b.tamper = false → s.pwr.tampered = false →
    ∃ t, exec (.thermalOffExit b r) s = .next t ∧ t.kettleOn = true ∧ t.bud.trip = none ∧ t.get Reg.PWR_WAKE_FIRST_FIRST = 0x13 ∧
      t.get Reg.THERM_TRIPS_COUNT = satAdd Reg.THERM_TRIPS_COUNT.width ((s.kettleBoots b).get Reg.THERM_TRIPS_COUNT) 1)

/-- What the power commands do (R74, R75, R77, R85, R92, spec/03_kettle_domain_and_wake.md Table KET-7). Of packets that reach their
command: PWR_SET_STATE in RUN with nothing moving enters IDLE at once, starts the entry to DOZE (where DOZE is enabled) or SLEEP and
is pending, and receives STATE 0x11 for DOZE not enabled; while a move runs it receives BUSY. PWR_GET_STATE answers its words and
changes nothing. PWR_WAKE_CONFIG stores the mask with TAMPER always enabled and the polarities. PWR_DOZE_CONFIG stores its word and
REFCLK_TO. PWR_WAKE_CLEAR answers PWR_WAKE_SRC and clears the bits of its mask. -/
def Obligations.PowerCommands : Prop :=
  ∀ (s b u : State) (p : Packet) (c : Ctx),
    (Reaches pwrSetStateOp s p c b u →
      (u.moving = true → ∃ d, exec (.pwrSetState p) s = .next (answered b c ({ u with draws := u.draws + 1 }, Ans.code 6 d))) ∧
      (u.moving = false → u.cur = 0 → c.at 0 1 = 1 → exec (.pwrSetState p) s = .next (answered b c (u.put Reg.PWR_STATE_CUR 1, Ans.ok []))) ∧
      (u.moving = false → u.cur = 0 → c.at 0 1 = 2 → u.flag Reg.PWR_DOZE_CFG_ENABLE = false →
        exec (.pwrSetState p) s = .next (answered b c (u, Ans.code 0xE 0x11))) ∧
      (u.moving = false → u.cur ≤ 1 → (c.at 0 1 = 2 ∧ u.flag Reg.PWR_DOZE_CFG_ENABLE = true ∨ c.at 0 1 = 3) →
        u.get Reg.RCST_STATUS_PHASE ≠ 4 → ∃ v d, exec (.pwrSetState p) s = .next (answered b c (v, Ans.code 1 d)) ∧
          v = (u.beginEntry (c.at 0 1) (bit (c.at 1 1) 0) p).draw)) ∧
    (Reaches pwrGetStateOp s p c b u → exec (.pwrGetState p) s = .next (answered b c (u, Ans.ok (leBytes 4 (u.word (wordsPwr 0)) ++
      leBytes 4 (u.word (wordsPwr 0xC)) ++ leBytes 1 (u.get Reg.PWR_WAKE_FIRST_FIRST) ++ zeros 3 ++ leBytes 4 (u.get Reg.PWR_EXIT_TIME_US))))) ∧
    (Reaches pwrWakeConfigOp s p c b u → ∃ v, exec (.pwrWakeConfig p) s = .next (answered b c (v,
        Ans.ok (leBytes 4 (u.word (wordsPwr 8)) ++ leBytes 4 (u.word (wordsPwr 0x20))))) ∧ v.get Reg.PWR_WAKE_EN_EN = c.at 0 4 ||| 8 ∧
      v.get Reg.PWR_WAKE_POL_EDGE = bits (c.at 4 4) 4 4 ∧ v.get Reg.PWR_WAKE_POL_HIGH = bits (c.at 4 4) 0 4 ∧ v = { u with regs := v.regs } ∧
      RegsBut [Reg.PWR_WAKE_EN_EN, Reg.PWR_WAKE_POL_EDGE, Reg.PWR_WAKE_POL_HIGH] u v) ∧
    (Reaches pwrDozeConfigOp s p c b u → (u.cur = 2 → bit (c.at 0 4) 0 = true) →
      ∃ v, exec (.pwrDozeConfig p) s = .next (answered b c (v, Ans.ok [])) ∧ v.get Reg.PWR_DOZE_CFG_DOZE_LIMIT = bits (c.at 0 4) 16 16 ∧
        v.get Reg.PWR_DOZE_CFG_ENABLE = bits (c.at 0 4) 0 1 ∧ v.get Reg.PWR_DOZE_CFG_KEEP_QB = bits (c.at 0 4) 1 1 ∧
        v.get Reg.PWR_DOZE_CFG_KEEP_TILE = bits (c.at 0 4) 2 1 ∧ v.get Reg.PWR_DOZE_CFG_CAM_EN = bits (c.at 0 4) 3 1 ∧
        v.get Reg.PWR_SLEEP_CFG_REFCLK_TO = c.at 4 1 ∧ v = { u with regs := v.regs }) ∧
    (Reaches pwrWakeClearOp s p c b u → exec (.pwrWakeClear p) s = .next (answered b c
      (u.clrBits Reg.PWR_WAKE_SRC_SRC (c.at 0 4), Ans.ok (leBytes 4 (u.word (wordsPwr 0xC))))))

/-- Captures take the counter, and TOD_PPS shows its level (R532, R548, R549, spec/21_time.md Table TIME-5). TCAP_CAPTURE while the
fabric runs, and CSI_FRAME_START at a receiver that is powered (in DOZE the wake camera's alone): SEC, NS and FRAC of the set take
the counter, NEW is set, OVR where NEW was set, HOLD takes TIME_STAT.HOLDOVER, and no other register changes. TOD_PPS: the ball
takes the level while the kettle runs outside SLEEP, and is low in SLEEP. -/
def Obligations.CapturesAndPulse : Prop :=
  (∀ (c : Fin 16) (s : State), s.fabricPowered = true →
    ∃ t, exec (.tcapCapture c) s = .next t ∧ t.get (Reg.TCAP_NEW c) = 1 ∧ (s.flag (Reg.TCAP_NEW c) = true → t.get (Reg.TCAP_OVR c) = 1) ∧
      (s.flag (Reg.TCAP_NEW c) = false → t.get (Reg.TCAP_OVR c) = s.get (Reg.TCAP_OVR c)) ∧
      t.get (Reg.TCAP_SEC c) = todSec s.time.tod ∧ t.get (Reg.TCAP_NS c) = todNs s.time.tod ∧ t.get (Reg.TCAP_FRAC c) = todFrac s.time.tod ∧
      t = { s with regs := t.regs } ∧
      RegsBut [Reg.TCAP_NEW c, Reg.TCAP_OVR c, Reg.TCAP_HOLD c, Reg.TCAP_FRAC c, Reg.TCAP_NS c, Reg.TCAP_SEC c] s t) ∧
  (∀ (r : Fin 4) (s : State), s.kettleOn = true → s.pwr.enL = true → (s.cur ≠ 2 ∨ s.dozeCam = some r.val) →
    ∃ t, exec (.csiFrameStart r) s = .next t ∧ t.get (Reg.CSI_FS_NEW r) = 1 ∧ (s.flag (Reg.CSI_FS_NEW r) = true → t.get (Reg.CSI_FS_OVR r) = 1) ∧
      t.get (Reg.CSI_FS_SEC r) = todSec s.time.tod ∧ t.get (Reg.CSI_FS_NS r) = todNs s.time.tod ∧
      t.get (Reg.CSI_FS_FRAC r) = todFrac s.time.tod ∧ t = { s with regs := t.regs } ∧
      RegsBut [Reg.CSI_FS_NEW r, Reg.CSI_FS_OVR r, Reg.CSI_FS_HOLD r, Reg.CSI_FS_FRAC r, Reg.CSI_FS_NS r, Reg.CSI_FS_SEC r] s t) ∧
  (∀ (level : Bool) (s : State), s.kettleOn = true →
    (s.cur ≠ 3 → exec (.todPps level) s = .next { s with time := { s.time with pps := level } }) ∧
    (s.cur = 3 → exec (.todPps level) s = .next { s with time := { s.time with pps := false } }))

/-- Measurements, holdover, the crystal, slews and the alarm (R535, R537, R539, R541, R542, R543, R544, R545, R546, R547,
spec/21_time.md). PTP_EVENT_MESSAGE at a MAC that the steward runs is timestamped: MAC, direction and the counter within the
accuracy of R541 are kept. One that completes a measurement of the MAC that TIME_SOURCE names, and a valid TIME_SYNC_EXCHANGE of a
follower with a locked parent within 2 microseconds: TIME_STAT.SET 1 and TIME_OFFSET holds the limited offset, and TIME_UTC what a
PTP source has reported; a follower more than 1 ms away is TIME_UNSURE. HOLDOVER_TIMEOUT while LOCKED: LOCKED 0, HOLDOVER 1.
XTAL_COMPENSATION on the crystal in holdover and SLEW_COMPLETE set the rate anew. XTAL_OK_CHANGE: XTAL_OK takes the level.
ALARM_FIRE of a due alarm: the event bit is set; with PERIOD 0 the alarm disarms. The rate that a measurement leaves is a free value
(log entry 24). -/
def Obligations.TimeSourcesAndHoldover : Prop :=
  ∀ (s : State),
    (∀ (mac : Fin 2) (egress : Bool) (mbps : Nat), s.stewardUp = true → s.get (Reg.QUAD_CFG_OWNER 7) = 2 →
      ∃ t x, exec (.ptpEventMessage ⟨mac, egress, mbps, none, none⟩) s = .next t ∧ t.time.macStamps = s.time.macStamps ++ [x] ∧ x.mac = mac.val ∧
        x.egress = egress ∧ x.hold = s.flag Reg.TIME_STAT_HOLDOVER ∧
        ((x.tod : Int) - s.time.tod).natAbs ≤ s.macAccuracy mac.val mbps * unitNs ∧
        t = { s with time := { s.time with macStamps := t.time.macStamps }, draws := s.draws + 1 }) ∧
    (∀ (mac : Fin 2) (egress : Bool) (mbps : Nat) (off : Int) (utc : Option (BitVec 16)), s.stewardUp = true →
      s.get (Reg.QUAD_CFG_OWNER 7) = 2 → s.time.cfg.src = mac.val + 1 → s.follows = false →
      ∃ t, exec (.ptpEventMessage ⟨mac, egress, mbps, some off, utc⟩) s = .next t ∧ t.get Reg.TIME_STAT_SET = 1 ∧
        t.get Reg.TIME_OFFSET_OFFSET = unsgn 32 (satS 32 off) ∧ (∀ u, utc = some u → t.get Reg.TIME_UTC_UTC = u.toNat)) ∧
    (∀ t1 t2 t3 t4 : Nat, s.stewardUp = true → s.follows = true → ((t4 : Int) - t1) - ((t3 : Int) - t2) ≤ 2000 * 65536 →
      let off : Int := (((t2 : Int) - t1) - ((t4 : Int) - t3)) / 2 / 65536
      ∃ t, exec (.timeSyncExchange t1 t2 t3 t4 true true) s = .next t ∧ t.get Reg.TIME_STAT_SET = 1 ∧
        t.get Reg.TIME_OFFSET_OFFSET = unsgn 32 (satS 32 off) ∧
        t.flag Reg.TIME_STAT_TIME_UNSURE = decide (off > 1000000 ∨ off < -1000000)) ∧
    (s.kettleOn = true → s.flag Reg.TIME_STAT_LOCKED = true →
      ∃ t, exec .holdoverTimeout s = .next t ∧ t.get Reg.TIME_STAT_LOCKED = 0 ∧ t.flag Reg.TIME_STAT_HOLDOVER = true ∧ t.time.good = 0 ∧
        t = { s with regs := t.regs, time := { s.time with good := 0 }, out := t.out } ∧
        RegsBut [Reg.TIME_STAT_LOCKED, Reg.TIME_STAT_HOLDOVER, Reg.TIME_EVT_HOLD] s t) ∧
    (∀ temp : Int, s.kettleOn = true → s.flag Reg.TIME_STAT_XTAL = true → s.flag Reg.TIME_STAT_HOLDOVER = true →
      let d := temp - sgn 8 s.time.cfg.t0
      exec (.xtalCompensation temp) s =
        .next (State.applyRate { s with time := { s.time with comp := (s.time.cfg.beta : Int) * d * d * 2 ^ 40 / 1000000000 } })) ∧
    (∀ ok : Bool, s.kettleOn = true → ∃ t, exec (.xtalOkChange ok) s = .next t ∧ t.flag Reg.PWR_CLK_STATUS_XTAL_OK = ok ∧
      (ok = false → s.flag Reg.TIME_STAT_XTAL = true → t.flag Reg.TIME_STAT_HOLDOVER = true)) ∧
    (s.time.slew ≠ 0 → exec .slewComplete s = .next (State.applyRate { s with time := { s.time with slew := 0 } })) ∧
    (s.kettleOn = true → s.alarmDue = true →
      ∃ t, exec .alarmFire s = .next t ∧ t.get Reg.TIME_EVT_ALARM = 1 ∧ (s.get Reg.ALM_PERIOD_PERIOD = 0 → t.flag Reg.ALM0_EN = false) ∧
        (s.get Reg.ALM_PERIOD_PERIOD ≠ 0 → t.alarmSec = (s.alarmSec + s.get Reg.ALM_PERIOD_PERIOD) % 2 ^ 48))

/-- What the time commands do (R537, R538, R546, R549, R552, R553, spec/21_time.md). Of packets that reach their command: TIME_GET
answers the counter and its registers and changes nothing. TIME_SET of a device that follows no leader sets the counter to the
target (a few ns on where an alarm that the step crosses wakes the M7 and the tick source hands over), UTC and UNCERT, and answers
the time before; a follower receives STATE 1. TIME_ADJUST adds to the slew. TIME_SOURCE, TIME_PTP_CONFIG store their settings and
answer the previous ones. TIME_ALARM stores the alarm and answers the previous words. TIME_CAPTURE answers the sets and clears their
NEW bits. A TIME_SYNC request over the link is answered with the times of receipt; a response is kept. -/
def Obligations.TimeCommands : Prop :=
  ∀ (s b u : State) (p : Packet) (c : Ctx),
    (Reaches timeGetOp s p c b u → exec (.timeGet p) s = .next (answered b c (u, Ans.ok (todBytes u.time.tod ++ wordBytes [u.timeStatWord,
      u.get Reg.TIME_RATE_RATE, u.get Reg.TIME_OFFSET_OFFSET, u.get Reg.TIME_UNCERT_US, u.get Reg.TIME_UTC_UTC])))) ∧
    (Reaches timeSetOp s p c b u →
      (u.follows = true → exec (.timeSet p) s = .next (answered b c (u, Ans.code 0xE 1))) ∧
      (u.follows = false → ∃ v, exec (.timeSet p) s = .next (answered b c (v, Ans.ok (todBytes u.time.tod))) ∧
        (∃ j, j ≤ 10 * unitNs ∧ v.time.tod = ((timeSetTarget u c).toNat + j) % (2 ^ 48 * unitSec) ∧
          ((u.flag Reg.ALM0_EN = false ∨ u.cur ≤ 1) → j = 0)) ∧ v.get Reg.TIME_UTC_UTC = c.at 2 2 % 65536 ∧ v.get Reg.TIME_UNCERT_US = c.at 16 4 % 2 ^ 32 ∧
        v.flag Reg.TIME_STAT_SET = true ∧ v.time.slew = 0)) ∧
    (Reaches timeAdjustOp s p c b u → u.follows = false → exec (.timeAdjust p) s = .next (answered b c
      (State.applyRate { u with time := { u.time with slew := u.time.slew + sgn 64 (c.at 0 8) * 2 ^ 40 } }, Ans.ok []))) ∧
    (Reaches timeSourceOp s p c b u → ∃ v, exec (.timeSource p) s = .next (answered b c (v, Ans.ok u.time.cfg.sourceBytes)) ∧
      v.time.cfg = { u.time.cfg with src := c.at 0 1, t0 := c.at 1 1, beta := c.at 2 2, driftRef := c.at 4 4, driftXtal := c.at 8 4 }) ∧
    (Reaches timeAlarmOp s p c b u → ∃ v, exec (.timeAlarm p) s = .next (answered b c (v, Ans.ok (wordBytes u.alarmWords))) ∧
      v.time.alarmBase = c.at 4 8 ∧ v.get Reg.ALM1_NS = c.at 12 4 % 2 ^ 32 ∧ v.get Reg.ALM_PERIOD_PERIOD = c.at 16 4) ∧
    (Reaches timePtpConfigOp s p c b u → ∃ v, exec (.timePtpConfig p) s = .next (answered b c (v, Ans.ok u.time.cfg.ptpBytes)) ∧
      v.time.cfg = { u.time.cfg with domain := c.at 0 1, flags := c.at 1 1, logPdelay := c.at 2 1, ipv4 := c.at 4 4 } ∧
      v.time.ptpLive = (if u.stewardUp then v.time.cfg else u.time.ptpLive)) ∧
    (Reaches timeCaptureOp s p c b u → ∃ v, exec (.timeCapture p) s = .next (answered b c (v,
        Ans.ok (((List.range (c.at 1 1)).map (fun k => c.at 0 1 + k)).flatMap (fun i => wordBytes (u.captureWords i))))) ∧
      (∀ i, c.at 0 1 ≤ i → i < c.at 0 1 + c.at 1 1 → (i < 16 → v.flag (Reg.TCAP_NEW i) = false) ∧
        (16 ≤ i → v.flag (Reg.CSI_FS_NEW (i - 16)) = false))) ∧
    (∀ s1 d, p.via = .holwell d → FramedRight p → p.opcode = 0x09F0 → p.flags = 0 → p.session = 0 → s.takePacket p = some s1 →
      (leAt p.payload 0 1 = 0 → ∃ q, exec (.timeSync p) s = .next { s1 with cmd := { s1.cmd with peerOut := s1.cmd.peerOut ++ [q] } } ∧
        q.opcode = p.opcode ∧ q.body = [1, 0, 0, 0] ++ slice p.payload 4 20 ++ todBytes s1.time.tod ++ todBytes s1.time.tod) ∧
      (leAt p.payload 0 1 ≠ 0 → exec (.timeSync p) s = .next { s1 with time := { s1.time with syncResp := p.payload } }))

/-- Periods, cap hold, brake timeout and failed sensors (R554, R556, R560, R563, R564, R567, R568, R569, spec/22_budget_and_thermal.md).
BUDGET_PERIOD: the die estimates and the averages are stored; with BRAKE set in RUN or IDLE both steps are 0, else a step rises by
at most 2 and stays within its thermal limit. BRAKE_TIMEOUT of a timed brake: BRAKE 0. THERMAL_PERIOD: every sensor's reading that
counts is stored, a failed one reads VALID 0. BUD_CAP_HOLD with both dies at step 0 and the 10 ms estimate above the target: HOLD 1
with its on-fraction; within the target and no die held for heat: HOLD 0. THERM_SENSOR_FAIL: VALID 0, the limits of the sensor's
dies at most 7, logged. -/
def Obligations.BudgetAndThermalPeriods : Prop :=
  ∀ (s : State), s.kettleOn = true →
    (∀ m : PowerSample, ∃ t, exec (.budgetPeriod m) s = .next t ∧ t.get Reg.BUD_DIE_F0 = m.f0 / 500 % 256 ∧
      t.get Reg.BUD_DIE_F1 = m.f1 / 500 % 256 ∧
      t.bud.powers = ((1000 + m.u + m.tile0 + m.tile1) :: s.bud.powers).take 100 ∧ t.get Reg.BUD_POWER_AVG = meanNat t.bud.powers / 100 % 65536 ∧
      (s.cur ≤ 1 → s.get Reg.BUD_STAT_BRAKE ≠ 0 → t.get Reg.BUD_STAT_STEP_F0 = 0 ∧ t.get Reg.BUD_STAT_STEP_F1 = 0) ∧
      (s.cur ≤ 1 → s.get Reg.BUD_STAT_BRAKE = 0 → t.get Reg.BUD_STAT_STEP_F0 ≤ s.get Reg.BUD_STAT_STEP_F0 + 2 ∧
        t.get Reg.BUD_STAT_STEP_F0 ≤ s.get Reg.BUD_STAT_LIM_F0 ∧ t.get Reg.BUD_STAT_STEP_F1 ≤ s.get Reg.BUD_STAT_STEP_F1 + 2 ∧
        t.get Reg.BUD_STAT_STEP_F1 ≤ s.get Reg.BUD_STAT_LIM_F1) ∧
      t = { s with regs := t.regs, bud := t.bud, out := t.out }) ∧
    (s.bud.timed = true → ∃ t, exec .brakeTimeout s = .next t ∧ t.get Reg.BUD_STAT_BRAKE = 0 ∧ t.bud.timed = false) ∧
    (∀ (temps : List Int) (n : Nat) (x : Int), n < 24 → temps[n]? = some x →
      ∃ t, exec (.thermalPeriod temps) s = .next t ∧
        (n ∈ s.bud.failed → t.get (Reg.THERM_VALID n) = 0) ∧
        (n ∉ s.bud.failed → (s.cur = 3 → n = 0) → t.get (Reg.THERM_VALID n) = 1 ∧ t.get (Reg.THERM_T n) = unsgn 12 x)) ∧
    (∀ f : Byte, s.cur ≤ 1 → s.bud.powers.length = 100 → s.capTarget < meanNat s.bud.powers → s.get Reg.BUD_STAT_STEP_F0 = 0 →
      s.get Reg.BUD_STAT_STEP_F1 = 0 →
      ∃ t, exec (.budCapHold true f) s = .next t ∧ t.get Reg.BUD_STAT_HOLD = 1 ∧ t.bud.onFraction = f.toNat) ∧
    (∀ f : Byte, s.cur ≤ 1 → meanNat s.bud.powers ≤ s.capTarget → s.bud.hotHold.any id = false →
      exec (.budCapHold false f) s = .next (State.setFlag { s with bud := { s.bud with onFraction := 255 } } Reg.BUD_STAT_HOLD false)) ∧
    (∀ n : Fin 24, n.val ∉ s.bud.failed →
      ∃ t, exec (.thermSensorFail n) s = .next t ∧ t.get (Reg.THERM_VALID n) = 0 ∧ t.bud = { s.bud with failed := s.bud.failed ++ [n.val] } ∧
        (sensorThrottles n 0 = true → t.get Reg.BUD_STAT_LIM_F0 ≤ 7) ∧ (sensorThrottles n 1 = true → t.get Reg.BUD_STAT_LIM_F1 ≤ 7) ∧
        t = { s with regs := t.regs, bud := t.bud, log := t.log, nvm := t.nvm, out := t.out })

/-- What the budget commands do (R557, R558, R560, R576, spec/22_budget_and_thermal.md). Of packets that reach their command:
BUD_SET_CAP stores the manager's or the host's cap by role, the manager's in its NVM record, computes the effective cap anew and
answers it with its source. BUD_BRAKE sets the level and its timing and answers the previous level; a level other than 0 puts both
dies at step 0. BUD_STATUS and THERM_READ answer registers and change nothing. BUD_CONFIG stores AUTO_RESTART and SPLIT, in their
NVM record too, and answers the previous word. -/
def Obligations.BudgetCommands : Prop :=
  ∀ (s b u : State) (p : Packet) (c : Ctx),
    (Reaches budSetCapOp s p c b u → ∃ v, v = (if c.role = 1 then (u.put Reg.BUD_CAP_IN_MGR (c.at 0 2)).persist .cap else u.put Reg.BUD_CAP_IN_HOST (c.at 0 2)).capRecalc ∧
      v.get (if c.role = 1 then Reg.BUD_CAP_IN_MGR else Reg.BUD_CAP_IN_HOST) = c.at 0 2 ∧
      exec (.budSetCap p) s = .next (answered b c (v, Ans.ok (leBytes 2 (v.get Reg.BUD_CAP_EFF_EFF) ++ leBytes 1 (v.get Reg.BUD_STAT_CAP_SRC) ++
        zeros 1)))) ∧
    (Reaches budBrakeOp s p c b u → ∃ v, exec (.budBrake p) s = .next (answered b c (v, Ans.ok (leBytes 1 (u.get Reg.BUD_STAT_BRAKE) ++ zeros 3))) ∧
      v.get Reg.BUD_STAT_BRAKE = c.at 0 1 ∧ v.bud.timed = (c.at 2 2 != 0) ∧
      (c.at 0 1 ≠ 0 → v.get Reg.BUD_STAT_STEP_F0 = 0 ∧ v.get Reg.BUD_STAT_STEP_F1 = 0)) ∧
    (Reaches budStatusOp s p c b u → exec (.budStatus p) s = .next (answered b c (u, Ans.ok (wordBytes
      ([0x100, 0x104, 0x108, 0x10C, 0x110, 0x114, 0x130, 0x138].map (fun a => u.word (wordsPwr a))))))) ∧
    (Reaches thermReadOp s p c b u → exec (.thermRead p) s = .next (answered b c (u, Ans.ok (wordBytes
      ((List.range (c.at 1 1)).map (fun k => u.word (wordsPwr (0x140 + 4 * (c.at 0 1 + k))))))))) ∧
    (Reaches budConfigOp s p c b u → exec (.budConfig p) s = .next (answered b c
      (((u.put Reg.BUD_CFG_AUTO_RESTART (c.at 0 1)).put Reg.BUD_CFG_SPLIT (c.at 1 1)).persist .budCfg, Ans.ok (leBytes 4 (u.word (wordsPwr 0x120))))))

/-- A self-test run from its command to its record (R578, R582, R584, R589, R591, R593, R595, spec/23_self_test.md). BIST_RUN that
reaches its command with no run in progress and nothing moving, of a role that may select its tests: BIST_RUNS counts it,
BIST_STAT.STATE is 1, and the command is pending. BIST_ENTRY_DONE in STATE 1: STATE 2 with the first test of the selection shown.
BIST_TEST_COMPLETE of a running test: it is in the tests run, in the failed ones where it failed, and the first failure is kept.
BIST_RUN_END in STATE 3: the record stands in BIST_REC, no run is left and STATE is 0. BIST_STATUS and BIST_RESULT change nothing;
BIST_ABORT ends the run with cause 1. -/
def Obligations.SelfTest : Prop :=
  (∀ (s : State) (r : BistRun), s.bist = some r →
    (s.get Reg.BIST_STAT_STATE = 1 → s.stewardUp = true → ∀ k l, r.left = k :: l → k ∈ [0, 1, 3, 4, 5, 6] →
      ∃ t x, exec .bistEntryDone s = .next t ∧ t.get Reg.BIST_STAT_STATE = 2 ∧ t.get Reg.BIST_STAT_TEST = k ∧ t.bist = some x ∧ k ∈ x.cur) ∧
    (∀ (k : Fin 9) (f : Option (List Byte)) (tj : Int), s.get Reg.BIST_STAT_STATE = 2 → k.val ∈ r.cur →
      ∃ t x, exec (.bistTestComplete k f tj) s = .next t ∧ t.bist = some x ∧ bit x.ran k = true ∧ x.tj = max r.tj tj ∧
        (∀ w, f = some w → bit x.failed k = true ∧ (r.first = 0xFF → x.first = k.val ∧ x.place = padTo 12 w)) ∧ (f = none → x.failed = r.failed)) ∧
    (∀ (ms : Nat) (cal : List (Fin 192)), s.get Reg.BIST_STAT_STATE = 3 → s.kettleOn = true → s.bud.trip = none → bit r.flags 0 = false →
      ∃ t, exec (.bistRunEnd ms cal) s = .next t ∧ t.bist = none ∧ t.get Reg.BIST_STAT_STATE = 0 ∧
        ∀ k, k < 16 → ∃ w, t.get (Reg.BIST_REC_REC k) = leAt (r.record w ms) (4 * k) 4)) ∧
  (∀ (s b u : State) (p : Packet) (c : Ctx),
    (Reaches bistRunOp s p c b u → (c.role = 0 → bistParks (c.at 0 2) = false) → u.bist = none → u.moving = false →
      ∃ v d, exec (.bistRun p) s = .next (answered b c (v, Ans.code 1 d)) ∧ v.get Reg.BIST_STAT_STATE = 1 ∧
        v.get Reg.BIST_RUNS_COUNT = (u.get Reg.BIST_RUNS_COUNT + 1) % 2 ^ 32 ∧ v.cmd.sessions = [] ∧
        ∃ x, v.bist = some x ∧ x.sel = c.at 0 2 ∧ x.left = bistOrder (c.at 0 2)) ∧
    (Reaches bistStatusOp s p c b u →
      exec (.bistStatus p) s = .next (answered b c (u, Ans.ok (u.bistStat ++ leBytes 4 (u.get Reg.BIST_RUNS_COUNT))))) ∧
    (Reaches bistResultOp s p c b u → exec (.bistResult p) s =
      .next (answered b c (u, Ans.ok ((List.range 16).flatMap (fun k => leBytes 4 (u.get (Reg.BIST_REC_REC k))))))) ∧
    (∀ r, Reaches bistAbortOp s p c b u → u.bist = some r → u.get Reg.BIST_STAT_STATE ≠ 3 →
      ∃ v, exec (.bistAbort p) s = .next (answered b c (v, Ans.ok u.bistStat)) ∧ v.get Reg.BIST_STAT_STATE = 3 ∧
        v.bist = some { r with cause := 1, left := [], cur := [] }))

/-- The sealed ports assemble queries, and the engine serves the next one (R138, R139, R141, R156, spec/05_vault_and_sealed_match.md
Table VLT-5). While the fabric is powered, for a tile of the port's die: QUERY_ROW_WRITE with a buffer at hand keeps the row in the
tile's assembly buffer; QUERY_SUBMIT with a place in the queue submits the query, which carries its vector exactly where all sixteen
rows were written, and frees the buffer. A tile of the other die is refused, which is logged. VAULT_PORT_STALE frees an unsubmitted
buffer and logs it. MATCH with the vault ready, the buffer filled and no commit left takes the query that is next from its port and
serves it (a query whose scores go to memory waits while that memory does); in a sealed vault its result is SEALED. -/
def Obligations.SealedPortsTakeQueries : Prop :=
  (∀ (port : Fin 2) (tile : Fin 192) (row : Fin 16) (d : List Byte) (s : State), s.fabricPowered = true → s.vault.ports.length = 2 →
    d.length = 64 → tile.val / 96 = port.val → ((tfind (s.vport port).bufs tile).isSome = true ∨ (s.vport port).bufs.length < 8) →
    ∃ t, exec (.queryRowWrite port tile row d) s = .next t ∧ (∃ b, tfind (t.vport port).bufs tile = some b ∧ tfind b row = some d ∧
        ∀ r, r ≠ row.val → tfind b r = tfind ((tfind (s.vport port).bufs tile).getD []) r) ∧ (t.vport port).queue = (s.vport port).queue) ∧
  (∀ (port : Fin 2) (tile : Fin 192) (d : List Byte) (s : State), s.fabricPowered = true → s.vault.ports.length = 2 → d.length = 64 →
    tile.val / 96 = port.val → ((tfind (s.vport port).bufs tile).isSome = true ∨ (s.vport port).bufs.length < 8) →
    (s.vport port).queue.length < 4 →
    ∃ t q, exec (.querySubmit port tile d) s = .next t ∧ (t.vport port).queue = (s.vport port).queue ++ [q] ∧ q.tile = tile.val ∧ q.desc = d ∧
      (q.vec.isSome = true ↔ ((tfind (s.vport port).bufs tile).getD []).length = 16) ∧ tfind (t.vport port).bufs tile = none) ∧
  (∀ (port : Fin 2) (tile : Fin 192) (row : Fin 16) (d : List Byte) (s : State), s.fabricPowered = true → tile.val / 96 ≠ port.val →
    exec (.queryRowWrite port tile row d) s = .next (s.logEvent 0x0701 port.val (leBytes 2 tile.val))) ∧
  (∀ (port : Fin 2) (tile : Fin 192) (s : State), s.vault.ports.length = 2 → (tfind (s.vport port).bufs tile).isSome = true →
    ∃ t, exec (.vaultPortStale port tile) s = .next t ∧ tfind (t.vport port).bufs tile = none ∧ (t.vport port).queue = (s.vport port).queue) ∧
  (∀ (s : State) (port : Nat) (q : Query) (r : List Query), s.vault.headPort = some port → (s.vport port).queue = q :: r → s.kettleOn = true →
    (bit q.flags 0 = true → s.mustWait q.dest 80 = false) → s.bist = none →
    (s.vaultState = 1 → s.vault.filled = true → s.vault.commits = [] →
      exec .match s = .next ((s.setVport port { s.vport port with queue := r }).serveQuery port q)) ∧
    (s.vaultState = 2 → exec .match s = .next ((s.setVport port { s.vport port with queue := r }).giveResult port q 3 [])))

/-- Commits, fills, reclaims, scrubs and exports of the vault (R126, R128, R132, R134, R137, R147, R155,
spec/05_vault_and_sealed_match.md). VAULT_FILL_DONE while loading: the match buffer is filled and the vault is ready (FAULT where
its NVM is). VAULT_COMMIT whose verifies pass: the enrolled template stands in its slot with its vector, a tombstone empties its
slot, and the commit leaves the queue. VAULT_RECLAIM of a sector that is due reclaims it. VAULT_SCRUB_DONE answers the erasure with
the slots erased. ENROL_CAPTURE_TIMEOUT ends the armed capture with TIMEOUT. VAULT_EXPORT_DONE with no import stale answers the
slots taken and refused, and keeps the OP_ID of every import that ended in LINK_LOST. -/
def Obligations.VaultStorage : Prop :=
  (∀ s : State, s.kettleOn = true → s.vault.keyed = true → s.vaultState = 0 →
    ∃ t, exec .vaultFillDone s = .next t ∧ t.vault = { s.vault with filled := true } ∧
      t.get Reg.VLT_STATUS_STATE = (if s.vault.faulty then 3 else 1)) ∧
  (∀ (s u : State) (c : VCommit) (r : List VCommit) (d b q : Nat), s.vault.commits = c :: r → s.kettleOn = true → s.vault.keyed = true →
    s.vault.faulty = false →
    let s1 := (if c.kind = 1 then s.forceReclaim true else s).forceReclaim false
    let occ := (tfind s.vault.slots c.slot).isSome
    s1.vault.freeDesc 1024 = some d → s1.takeSeq = some (u, q) →
    (c.kind = 1 → s1.vault.freeBlock 1024 = some b → (c.replace = some true → occ = true) → (c.replace = some false → occ = false) →
      ∃ t x, exec (.vaultCommit 0) s = .next t ∧ tfind t.vault.slots c.slot = some x ∧ x.vec = c.vec ∧ x.desc = d ∧ x.block = b) ∧
    (c.kind = 2 → c.replace = none → occ = true → ∃ t, exec (.vaultCommit 0) s = .next t ∧ tfind t.vault.slots c.slot = none)) ∧
  (∀ (s u : State) (sector : Nat), s.kettleOn = true → s.vault.keyed = true → s.vault.faulty = false → 132 ≤ sector → s.vault.blocksFree < 64 →
    s.vault.victim true = some sector → s.reclaim sector = some u → exec (.vaultReclaim sector) s = .next u) ∧
  (∀ (s u : State) (e : VErase), s.vault.erasing.find? (fun e => e.scrub && e.left == 0) = some e → s.kettleOn = true → s.vault.keyed = true →
    s.vault.faulty = false → s.reclaimAll (s.vault.copySectors e.slots) = some u →
    exec .vaultScrubDone s = .next ((u.setVault { u.vault with erasing := u.vault.erasing.filter (fun x => x.req != e.req) }).completeReq e.req
      (Ans.ok (leBytes 2 e.done ++ zeros 2)))) ∧
  (∀ (s : State) (c : VCapture), s.vault.capture = some c →
    exec .enrolCaptureTimeout s = .next ((s.setVault { s.vault with capture := none }).completeReq c.req (Ans.code 0xC 0))) ∧
  (∀ (s : State) (p : Packet) (d : Nat) (sent : List (Nat × Nat)) (answers : List (BitVec 16)) (r : List (Packet × Nat × List (Nat × Nat))),
    s.vault.exps = (p, d, sent) :: r → answers.length = sent.length → (∀ a ∈ answers, a ≠ 0xD) →
    let lost := (sent.zip answers).filterMap (fun x => if x.2 == 8 then some (d, x.1.1, x.1.2) else none)
    let before := s.vault.expLost.filter (fun e => !(e.1 == d && sent.any (fun x => x.1 == e.2.1)))
    exec (.vaultExportDone answers) s = .next ((s.setVault { s.vault with exps := r, expLost := before ++ lost }).completeReq p (Ans.ok
      (leBytes 2 (answers.filter (fun a => a == 0)).length ++ leBytes 2 (sent.length - (answers.filter (fun a => a == 0)).length)))))

/-- What the vault commands do (R133, R134, R137, R146, R147, R151, R158, spec/05_vault_and_sealed_match.md Table VLT-9). Of packets
that reach their command while the vault answers: VAULT_ENROL of a vector that verifies into a slot that suits queues its commit and
answers later; armed for a capture it is pending; VAULT_ERASE of one occupied slot queues its tombstone; VAULT_LIST answers the
metadata with NORM zeroed and changes nothing; VAULT_POLICY stores TAMPER_WIPE and ENROL_ROLES and answers the previous word;
VAULT_STATUS without CLEAR_WIPED changes nothing; VAULT_EXPORT to a device that suits is pending, with one import for each slot
named that is occupied; VAULT_IMPORT under the current epoch of a record that verifies queues its commit, and under another epoch
receives STALE_EPOCH. -/
def Obligations.VaultCommands : Prop :=
  ∀ (s b u : State) (p : Packet) (c : Ctx),
    (∀ vec n, Reaches (vaultEnrolOp s) s p c b u → c.at 2 1 = 1 → c.unseal (slice c.data 52 1040) = some vec → vecNormBits vec = some n →
      u.vaultOpen = true → (tfind u.vault.slots (c.at 0 2)).isSome = bit (c.at 3 1) 0 → u.vault.faulty = false →
      ∃ k, exec (.vaultEnrol p) s = .next (answered b c (u.setVault { u.vault with commits := u.vault.commits ++ [k] }, Ans.late)) ∧
        k.slot = c.at 0 2 ∧ k.kind = 1 ∧ k.vec = vec ∧ k.user = slice c.data 20 32) ∧
    (Reaches (vaultEnrolOp s) s p c b u → c.at 2 1 = 0 → u.vaultOpen = true → (tfind u.vault.slots (c.at 0 2)).isSome = bit (c.at 3 1) 0 →
      u.vault.faulty = false → u.vault.capture = none →
      ∃ k d, exec (.vaultEnrol p) s = .next (answered b c ((u.setVault { u.vault with capture := some k }).draw, Ans.code 1 d)) ∧
        k.req = p ∧ k.tag = c.at 12 4 ∧ k.slot = c.at 0 2) ∧
    (Reaches (vaultEraseOp s) s p c b u → u.vaultOpen = true → c.at 2 1 = 0 → c.at 0 2 ≠ 0xFFFF →
      (tfind u.vault.slots (c.at 0 2)).isSome = true → u.vault.faulty = false →
      ∃ k e, exec (.vaultErase p) s = .next (answered b c
          (u.setVault { u.vault with commits := u.vault.commits ++ [k], erasing := u.vault.erasing ++ [e] }, Ans.late)) ∧
        k.slot = c.at 0 2 ∧ k.kind = 2 ∧ e.slots = [c.at 0 2] ∧ e.left = 1) ∧
    (Reaches vaultListOp s p c b u → u.vaultOpen = true → exec (.vaultList p) s = .next (answered b c (u,
      Ans.ok ((List.range (c.at 2 2)).flatMap (fun k => u.listSlot (c.at 0 2 + k)))))) ∧
    (Reaches vaultPolicyOp s p c b u → u.vaultState ≠ 2 → ∃ v, exec (.vaultPolicy p) s = .next (answered b c (v,
        Ans.ok (leBytes 4 (u.word (wordsVault 0x10))))) ∧ v.get Reg.VLT_POLICY_TAMPER_WIPE = c.at 0 1 ∧
      v.get Reg.VLT_POLICY_ENROL_ROLES = c.at 1 1) ∧
    (Reaches vaultStatusOp s p c b u → bit (c.at 0 1) 0 = false → ∃ r, exec (.vaultStatus p) s = .next (answered b c (u, Ans.ok r)) ∧
      r.length = 16) ∧
    (∀ port, Reaches vaultExportOp s p c b u → u.vaultOpen = true → u.exportOk (c.at 0 1) = true → u.routePort (c.at 0 1) = some port →
      u.isUp port = true → ∃ v d, exec (.vaultExport p) s = .next (answered b c (v, Ans.code 1 d)) ∧ ∃ sent, (p, c.at 0 1, sent) ∈ v.vault.exps ∧
        sent.map Prod.fst = (u.vault.slots.filter (fun t => decide (c.at 2 2 ≤ t.1 ∧ t.1 < c.at 2 2 + c.at 4 2))).map Prod.fst) ∧
    (Reaches vaultImportOp s p c b u → c.at 8 8 ≠ u.get Reg.ENS_EPOCH_EPOCH →
      exec (.vaultImport p) s = .next (answered b c (u, Ans.code 0xD (u.get Reg.ENS_EPOCH_EPOCH % 65536)))) ∧
    (∀ pt n, Reaches vaultImportOp s p c b u → c.at 8 8 = u.get Reg.ENS_EPOCH_EPOCH → u.vaultOpen = true →
      u.dupCheck (c.at 4 1) (c.at 0 4) = .fresh → gcmOpen (u.wrapKey (c.at 4 1) u.ensId (c.at 8 8))
        (wrapIv (c.at 6 2) (c.at 16 4) (c.at 4 1) u.ensId) [] (slice c.data 24 1104) = some pt → vecNormBits (pt.take 1024) = some n →
      tfind u.vault.slots (c.at 6 2) = none → u.vault.faulty = false →
      ∃ v, exec (.vaultImport p) s = .next (answered b c (v, Ans.late)) ∧ ∃ k ∈ v.vault.commits, k.slot = c.at 6 2 ∧ k.vec = pt.take 1024)

/-- Image bytes, relay blocks, completion and timeouts of a cast, and a failed load stays FAILED (R173, R179, R180, R181, R183, R184,
R185, R188, spec/06_casting.md, R174). CAST_SOURCE_READ while the run takes bytes from flash: good bytes are processed as far as
they reach, a failed source ends the run with SOURCE_ERR (0xC). CAST_LOAD_COMPLETE of a complete image: legal settings load the
cast, illegal ones fail with FABRIC_CFG (0x15). RELAY_BLOCK of a relay member: the block that is next on its port joins the stream,
one with a wrong number or CRC ends the run with RELAY_ERR (0xD), another port's is discarded and logged once. RELAY_TIMEOUT of a
stream in progress ends it with RELAY_ERR. A load (not a recast) that fails: CAST_STATUS.STATE reads FAILED (5), CAST_ERR holds the
code and the segment, the run is over. It holds for every state and every code and segment number below 65,536. -/
def Obligations.CastLoading : Prop :=
  (∀ (s : State),
    (∀ bytes, s.castReads = true → s.cr.src ≤ 1 → exec (.castSourceRead bytes .ok) s = .next (s.castFeed bytes)) ∧
    (∀ bytes src, s.castReads = true → s.cr.src ≤ 1 → src ≠ .ok → exec (.castSourceRead bytes src) s = .next (s.castStops 0xC s.cr.segAt none)) ∧
    (∀ p, s.cast.run ≠ none → s.cr.pass = 0 → s.cr.complete = true → s.cr.ended ≠ 0 → s.cr.holdAt = none → s.fabricPowered = true →
      exec (.castLoadComplete p) s = .next (if p.bad (leAt s.cr.ioset 0 72) then s.castStops 0x15 0xFFFF none else s.castLoaded p)) ∧
    (∀ (port : Fin 7) (no : Word) (data : List Byte) (crc : Word), s.fabricPowered = true → s.get Reg.SYS_STRAP_CFG_MODE = 2 →
      (s.cast.relayPort = some port.val → data.length = 256 → crc32c data = crc.toNat → no.toNat = s.cast.relayNo →
        exec (.relayBlock port no data crc) s = .next (s.relayTake port data)) ∧
      (s.cast.relayPort = some port.val → (data.length ≠ 256 ∨ crc32c data ≠ crc.toNat ∨ no.toNat ≠ s.cast.relayNo) →
        exec (.relayBlock port no data crc) s = .next (s.castStops 0xD s.cr.segAt none)) ∧
      (∀ p, s.cast.relayPort = some p → p ≠ port.val → s.cast.relayDup = false → exec (.relayBlock port no data crc) s =
        .next (State.logEvent { s with cast := { s.cast with relayDup := true } } 0x0303 port.val []))) ∧
    (s.cast.relayPort ≠ none → s.cr.complete = false → exec .relayTimeout s = .next (s.castStops 0xD s.cr.segAt none))) ∧
  (∀ (s : State) (code seg : Nat) (a : Option Ans), s.cr.recast = false → s.cr.pass = 0 → code < 65536 → seg < 65536 →
    let t := s.castFails code seg a
    t.get Reg.CAST_STATUS_STATE = 5 ∧ t.get Reg.CAST_ERR_CODE = code ∧ t.get Reg.CAST_ERR_SEG = seg ∧ t.cast.run = none)

/-- The passes, walls, capture and release of a live recast (R197, R199, R201, R202, R207, R212, R213, spec/07_live_recast.md).
RECAST_VERIFY_DONE of a complete first pass whose stream wrote CWALL and whose settings are legal: the walls of its regions rise and
the write pass begins, PHASE 2 with a rollback buffer, 3 without. ROLLBACK_CAPTURE_DONE once the regions are quiet: the buffer is
captured and PHASE is 3. RECAST_RELEASE of a complete second pass: PHASE 0, the cast RUNNING, the run over. RECAST_TIMEOUT after the
walls rose and outside a hold: the run fails with RECAST_TIMEOUT (0x14). -/
def Obligations.RecastPasses : Prop :=
  ∀ (s : State),
    (∀ p, s.recastIn 1 = true → s.cr.complete = true → s.cr.ended ≠ 0 → s.cr.tilesOnly = false → s.cr.cwall = true → p.bad (s.relayMask s.cr) = false →
      ∃ t, exec (.recastVerifyDone p) s = .next t ∧ t = s.writePass p ∧ t.get Reg.RCST_STATUS_PHASE = (if s.cr.rollback = 0 then 3 else 2) ∧
        ∀ k, k < 32 → bit s.cr.mask k = true → bit (t.get Reg.CWALL_MASK) k = true) ∧
    (s.recastIn 2 = true → s.get Reg.RCST_STATUS_PHASE = 2 → s.regionsQuiet s.cr.mask = true →
      ∃ t, exec .rollbackCaptureDone s = .next t ∧ t = s.recastCapture.put Reg.RCST_STATUS_PHASE 3 ∧ t.pwr.saveKey = true) ∧
    (s.recastIn 2 = true → s.get Reg.RCST_STATUS_PHASE = 3 → s.cr.complete = true → s.cr.ended ≠ 0 →
      ∃ t, exec .recastRelease s = .next t ∧ t.get Reg.RCST_STATUS_PHASE = 0 ∧ t.get Reg.CAST_STATUS_STATE = 3 ∧ t.cast.run = none) ∧
    (s.recastIn 2 = true → s.cr.tilesOnly = false → s.get Reg.RCST_STATUS_PHASE ≠ 4 →
      exec .recastTimeout s = .next (s.castFails 0x14 s.cr.segAt (some (Ans.code 0xC 0))))

/-- What the cast and recast commands do (R165, R173, R177, R190, R194, R199, R200, R217, R220, spec/06_casting.md Table CAST-13). Of
packets that reach their command: CAST_LOAD into an empty fabric starts the load (STATE 1) and is pending, while a recast runs, or a
load that this command's chain did not open, it receives BUSY; CAST_STATUS_GET and RECAST_STATUS change nothing; CAST_RELEASE of a
held cast makes it RUNNING, with nothing held it receives STATE 2; CAST_UNLOAD of a released cast empties the fabric (STATE 0);
CAST_KEY_SET stores the sealed key, and its NVM record; CAST_SIGNER_SET sets or clears a slot; CAST_POLICY_SET stores its settings;
CAST_FLASH_PREFER writes a boot pointer record with the new PREFER where one is valid and the flash takes it, and ends in FAULT
otherwise; RECAST_LOAD over a running cast opens the verify pass and is pending; RECAST_ABORT with none running receives STATE 5. -/
def Obligations.CastCommands : Prop :=
  ∀ (s b u : State) (p : Packet) (c : Ctx),
    (Reaches castLoadOp s p c b u →
      (u.get Reg.CAST_STATUS_STATE = 0 ∨ u.get Reg.CAST_STATUS_STATE = 5 → ∃ v d, exec (.castLoad p) s = .next (answered b c (v, Ans.code 1 d)) ∧
        v.get Reg.CAST_STATUS_STATE = 1 ∧ v.cr.req = some p ∧ v.cr.hold = bit (c.at 1 1) 0) ∧
      (u.get Reg.CAST_STATUS_STATE = 4 ∨ (u.get Reg.CAST_STATUS_STATE = 1 ∧ u.ownChain c false = false) → ∃ d, exec (.castLoad p) s = .next (answered b c (u.draw, Ans.code 6 d)))) ∧
    (Reaches castStatusGetOp s p c b u → ∃ r, exec (.castStatusGet p) s = .next (answered b c (u, Ans.ok r)) ∧
      r.take 4 = leBytes 4 (u.word (wordsCast 0))) ∧
    (Reaches castReleaseOp s p c b u →
      (u.get Reg.CAST_STATUS_STATE = 2 → u.cast.run ≠ none → ∃ v, exec (.castRelease p) s = .next (answered b c (v, Ans.ok [])) ∧
        v.get Reg.CAST_STATUS_STATE = 3 ∧ v.cast.run = none) ∧
      (u.get Reg.CAST_STATUS_STATE ≠ 2 → u.get Reg.RCST_STATUS_PHASE ≠ 4 → exec (.castRelease p) s = .next (answered b c (u, Ans.code 0xE 2)))) ∧
    (Reaches castUnloadOp s p c b u → u.get Reg.CAST_STATUS_STATE = 3 → ∃ v, exec (.castUnload p) s = .next (answered b c (v, Ans.ok [])) ∧
      v.get Reg.CAST_STATUS_STATE = 0 ∧ v.fab.frames = [] ∧ v.fab.pers = Personality.blank ∧ v.cast.run = none) ∧
    (∀ k, Reaches castKeySetOp s p c b u → c.unseal c.data = some k → exec (.castKeySet p) s = .next (answered b c
      ((State.put { u with cast := { u.cast with key := k } } Reg.CKEY_STAT_PRESENT 1).persist .castKey, Ans.ok []))) ∧
    (Reaches castSignerSetOp s p c b u → ∃ v, exec (.castSignerSet p) s = .next (answered b c (v, Ans.ok (leBytes 4 (u.get Reg.CAST_POLICY_SIGNERS)))) ∧
      v.cast.signers = u.cast.signers.set (c.at 0 1) (if bit (c.at 1 1) 0 then [] else slice c.data 4 32) ∧
      bit (v.get Reg.CAST_POLICY_SIGNERS) (c.at 0 1) = !bit (c.at 1 1) 0) ∧
    (Reaches castPolicySetOp s p c b u → exec (.castPolicySet p) s = .next (answered b c
      (((u.put Reg.CAST_POLICY_REQUIRE_SIGNED (c.at 0 1)).put Reg.CAST_POLICY_REQUIRE_ENCRYPTED (c.at 1 1)).persist .castPolicy,
        Ans.ok (leBytes 4 (u.word (wordsCast 0x64)))))) ∧
    (Reaches castFlashPreferOp s p c b u → ∃ v a, exec (.castFlashPrefer p) s = .next (answered b c (v, a)) ∧
      (∀ r, u.recBody .bootPtr = some r → u.drawn 1 = 0 →
        a = Ans.ok [] ∧ v = u.draw.recWrite .bootPtr (bootBody (leAt r 0 8) (leAt r 8 8) (c.at 0 1))) ∧
      (u.recBody .bootPtr = none ∨ u.drawn 1 = 1 → a = v.faultAns)) ∧
    (Reaches recastLoadOp s p c b u → u.get Reg.CAST_STATUS_STATE = 3 → ∃ v d, exec (.recastLoad p) s = .next (answered b c (v, Ans.code 1 d)) ∧
      v.get Reg.CAST_STATUS_STATE = 4 ∧ v.get Reg.RCST_STATUS_PHASE = 1 ∧ v.cr.req = some p ∧ v.cr.recast = true ∧ v.cr.timeout = c.at 28 2) ∧
    (Reaches recastAbortOp s p c b u → u.cast.chain = none →
      (u.recastIn 1 = false → u.recastIn 2 = false → exec (.recastAbort p) s = .next (answered b c (u, Ans.code 0xE 5))) ∧
      (u.recastIn 1 = true ∨ u.recastIn 2 = true → exec (.recastAbort p) s = .next (answered b c
        (u.castFails 0x11 u.cr.segAt none, Ans.ok (leBytes 4 (u.word (wordsCast 0x80))))))) ∧
    (Reaches recastStatusOp s p c b u → ∃ r, exec (.recastStatus p) s = .next (answered b c (u, Ans.ok r)) ∧ r.length = 20)

/-- Queue blocks as FIFO and RAM, and the I/O banks (R237, R238, R239, R241, R242, R243, R244, R245, R246, R251,
spec/08_product_term_fabric.md). In a running cast outside the freeze walls, of a FIFO block whose clocks run and with no RST:
FIFO_WRITE with FULL deasserted appends the word as the block stores it, with FULL asserted sets OVF alone, and a command port takes
what its request block holds; FIFO_READ with EMPTY deasserted removes the oldest word and without fall-through shows it, with EMPTY
asserted sets UDF alone, and a command port fills its reply block; under RST, or with its clock stopped, an access is dropped
without OVF or UDF; QB_RST empties the block, clears its flags and begins the pulse (of a handle queue too); FIFO_POINTER_CROSS
brings the other side's pointer. RAM_ACCESS of port A alone stores the enabled bytes. HQ_FABRIC_ACCESS pushes into an empty
fabric-held queue. IO_BANK_LOSS takes the bank's supply away and is logged after release; BANK_SUPPLY_RETURN of codes 1 to 3 gives
it back. -/
def Obligations.QueueBlocksAndBanks : Prop :=
  (∀ (qb : Fin 2304) (c : QbCfg) (s : State), s.qbCfg qb = some c → c.isFifo = true → s.frozen (qbRegion qb) = false →
    let fed (t : State) : State := match s.portOf qb false with | some d => t.portDrain d | none => t
    let room (t : State) : State := match s.portOf qb true with | some d => t.portFill d | none => t
    (∀ d : DWord, s.clockRuns c.ckA = true → (s.qb qb).wRst = false → (s.qb qb).wLevel < c.size →
      ∃ t, exec (.fifoWrite qb d) s = .next (fed t) ∧ (t.qb qb).entries = (s.qb qb).entries ++ [qbStore c d.toNat] ∧
        (t.qb qb).ovf = (s.qb qb).ovf ∧ t = { s with fab := t.fab }) ∧
    (∀ d : DWord, s.clockRuns c.ckA = true → (s.qb qb).wRst = false → c.size ≤ (s.qb qb).wLevel →
      exec (.fifoWrite qb d) s = .next (fed (s.setQb qb { s.qb qb with ovf := true }))) ∧
    (∀ d : DWord, s.clockRuns c.ckA = true → (s.qb qb).wRst = true → exec (.fifoWrite qb d) s = .next (fed s)) ∧
    (∀ d : DWord, s.clockRuns c.ckA = false → exec (.fifoWrite qb d) s = .next s) ∧
    (s.clockRuns c.ckB = true → (s.qb qb).rRst = false → (s.qb qb).rLevel ≠ 0 →
      ∃ t, exec (.fifoRead qb) s = .next (room t) ∧ (t.qb qb).entries = (s.qb qb).entries.drop 1 ∧ (t.qb qb).udf = (s.qb qb).udf ∧
        (c.fwft = false → (t.qb qb).outA = (qbFetch c ((s.qb qb).entries.headD 0)).1) ∧ t = { s with fab := t.fab, draws := t.draws }) ∧
    (s.clockRuns c.ckB = true → (s.qb qb).rRst = false → (s.qb qb).rLevel = 0 →
      exec (.fifoRead qb) s = .next (room (s.setQb qb { s.qb qb with udf := true }))) ∧
    (s.clockRuns c.ckB = true → (s.qb qb).rRst = true → exec (.fifoRead qb) s = .next (room s)) ∧
    (s.clockRuns c.ckB = false → exec (.fifoRead qb) s = .next s) ∧
    (exec (.qbRst qb) s = .next (s.setQb qb { s.qb qb with entries := [], ovf := false, udf := false, wlag := 0, rlag := 0,
                                                            pulse := 4, tailW := 3, tailR := 3 })) ∧
    (s.clockRuns c.ckA = true → exec (.fifoPointerCross qb true) s = .next (s.setQb qb { s.qb qb with wlag := 0 })) ∧
    (s.clockRuns c.ckB = true → ∃ t, exec (.fifoPointerCross qb false) s = .next t ∧ (t.qb qb).rlag = 0 ∧
      (t.qb qb).entries = (s.qb qb).entries)) ∧
  (∀ (qb : Fin 2304) (c : QbCfg) (s : State), s.qbCfg qb = some c → c.mode = .handle → s.frozen (qbRegion qb) = false →
    exec (.qbRst qb) s = .next ((s.setQb qb (s.qb qb).reset).showHq c.hqn)) ∧
  (∀ (qb : Fin 2304) (c : QbCfg) (s : State), s.qbCfg qb = some c → c.mode = .ram ∨ c.mode = .ramWide → exec (.qbRst qb) s = .next s) ∧
  (∀ (qb : Fin 2304) (c : QbCfg) (o : RamOp) (s : State) (k : Nat), s.qbCfg qb = some c → c.mode = .ram ∨ c.mode = .ramWide →
    (c.prot = true → c.width = 64) → s.clockRuns c.ckA = true → s.frozen (qbRegion qb) = false → o.write = true → o.addr < c.size → k < c.lanes →
    ∃ t, exec (.ramAccess qb (some o) none) s = .next t ∧
      ((t.qb qb).word c o.addr).getD k 0 = (if bit o.be k then bits o.data (8 * k) 8 else ((s.qb qb).word c o.addr).getD k 0) ∧
      t = { s with fab := t.fab, draws := t.draws }) ∧
  (∀ (q : Fin 1024) (c : QbCfg) (h : Word) (s : State), s.hqBlock q = some c → s.clockRuns c.ckA = true → s.fabricPowered = true →
    s.hqHeld q = [] → s.flag (Reg.HQ_CFG_EN q) = true → h.toNat ≠ nullHandle → s.hqFrozen q = false → 0 < s.hqFree q true →
    exec (.hqFabricAccess q (some h) false) s = .next (s.hqApplyPush q h.toNat)) ∧
  (∀ (bank : Fin 16) (s : State), s.fab.supply.getD bank 4 ≠ 4 → exec (.ioBankLoss bank) s =
    .next (let t := { s with fab := { s.fab with supply := s.fab.supply.set bank 4 } }
           if s.castRuns then t.logEvent 0x0307 bank.val [] else t)) ∧
  (∀ (bank : Fin 16) (code : Fin 5) (s : State), 1 ≤ code.val → code.val ≤ 3 →
    exec (.bankSupplyReturn bank code) s = .next { s with fab := { s.fab with supply := s.fab.supply.set bank code } })

/-- Writes of the sync object window act as one operation of the object's kind (R378, R379, R380, R383, R401, spec/15_sync_objects.md
Table SYNC-2). While the plinth is powered, on an enabled object without waiters: SO_OP adds to a counter (modulo 2^64), sets or
clears a flag, lets a barrier arrive (completing a round when the parties are reached), adds to a semaphore that stays below 2^32.
An operation that does not fit its kind, or a disabled object, sets ERR alone. SO_VAL_HI without a held low word writes the value
whole. SO_CFG enables a disabled object with its KIND and PARTIES, and clearing EN leaves it disabled with value 0. -/
def Obligations.ObjectWritesFollowTheirKind : Prop :=
  ∀ (j : Fin 131072) (s : State), s.plinthPowered = true →
    (∀ w : Word, s.flag (Reg.SO_CFG_EN j) = true → s.waiterOn j = [] →
      let fn := bits w.toNat 0 4
      let v := bits w.toNat 4 28
      let x := s.soVal j
      let p := s.get (Reg.SO_CFG_PARTIES j)
      (s.get (Reg.SO_CFG_KIND j) = 0 → fn = 0 → exec (.soOpWrite j w) s = .next (s.put (Reg.SO_VAL_VALUE j) (x + v))) ∧
      (s.get (Reg.SO_CFG_KIND j) = 1 → fn = 1 → v = 0 → exec (.soOpWrite j w) s = .next (s.put (Reg.SO_VAL_VALUE j) 1)) ∧
      (s.get (Reg.SO_CFG_KIND j) = 1 → fn = 2 → v = 0 → exec (.soOpWrite j w) s = .next (s.put (Reg.SO_VAL_VALUE j) 0)) ∧
      (s.get (Reg.SO_CFG_KIND j) = 2 → fn = 3 → 1 ≤ v → v ≤ p → exec (.soOpWrite j w) s = .next (s.put (Reg.SO_VAL_VALUE j)
        (if p ≤ x % 65536 + v then (x / 65536 + 1) * 65536 + (x % 65536 + v - p) else x / 65536 * 65536 + (x % 65536 + v)))) ∧
      (s.get (Reg.SO_CFG_KIND j) = 3 → fn = 4 → 1 ≤ v → x + v < 2 ^ 32 → exec (.soOpWrite j w) s = .next (s.put (Reg.SO_VAL_VALUE j) (x + v))) ∧
      (s.get (Reg.SO_CFG_KIND j) = 0 → fn ≠ 0 → exec (.soOpWrite j w) s = .next (s.put (Reg.SO_CFG_ERR j) 1))) ∧
    (∀ w : Word, s.flag (Reg.SO_CFG_EN j) = false → exec (.soOpWrite j w) s = .next (s.put (Reg.SO_CFG_ERR j) 1)) ∧
    (∀ (req : Requester) (hi : Word), s.flag (Reg.SO_CFG_EN j) = true → s.get (Reg.SO_CFG_KIND j) = 0 → s.waiterOn j = [] → s.addr.held = [] →
      exec (.soValWrite req j hi) s = .next (s.put (Reg.SO_VAL_VALUE j) (s.soVal j % 2 ^ 32 + hi.toNat * 2 ^ 32))) ∧
    (∀ w : Word, s.flag (Reg.SO_CFG_EN j) = false → bit w.toNat 31 = true → bit w.toNat 26 = false → bits w.toNat 28 3 ≤ 3 → bits w.toNat 0 16 ≠ 0 →
      ∃ t, exec (.soCfgWrite j w) s = .next t ∧ t.flag (Reg.SO_CFG_EN j) = true ∧ t.get (Reg.SO_CFG_KIND j) = bits w.toNat 28 3 ∧
        t.get (Reg.SO_CFG_PARTIES j) = bits w.toNat 0 16 ∧ t.soVal j = s.soVal j ∧ t = { s with regs := t.regs } ∧
        RegsBut [Reg.SO_CFG_EN j, Reg.SO_CFG_KIND j, Reg.SO_CFG_PARTIES j] s t) ∧
    (∀ w : Word, s.flag (Reg.SO_CFG_EN j) = true → bit w.toNat 31 = false → s.waiterOn j = [] →
      ∃ t, exec (.soCfgWrite j w) s = .next t ∧ t.flag (Reg.SO_CFG_EN j) = false ∧ t.soVal j = 0 ∧ t = { s with regs := t.regs } ∧
        RegsBut [Reg.SO_CFG_EN j, Reg.SO_VAL_VALUE j, Reg.SO_CFG_ERR j] s t)

/-- An operation reaches its object once, in the order of its source, and its answer returns (R381, R382, R387, R389, R392, R415,
spec/15_sync_objects.md). SYNC_OP_ARRIVE of an operation in flight with none of its source before it, once the tile network has
carried it: a signal is applied with its waiters tested and answered; a wait that holds is answered with the value; one that does
not is recorded while the waiter table has room, must retry where it has none, and is abandoned where it has been withdrawn.
SYNC_WAIT_RETRY of a refused wait tries again alike. SYNC_WAIT_RESPONSE takes the answered operation off the list and gives its
requester the answer. SYNC_WAIT_TIMEOUT of a SYNC_WAIT command that is recorded withdraws it: it is answered with TIMEOUT and no
longer waits. (The number of a withdrawal packet is the model's, log entry 25.) -/
def Obligations.SyncOperationsReachAndReturn : Prop :=
  ∀ (i : Nat) (o : SyncOp) (s : State), s.sync.ops[i]? = some o →
    (s.plinthPowered = true → (o.phase = .flight ∧ (s.sync.ops.take i).any (fun q => q.phase == .flight && sameSource q.who o.who) = false ∨
        o.phase = .retry) →
      let e := exec (if o.phase = .flight then .syncOpArrive i else .syncWaitRetry i) s
      let a := if o.phase = .flight then s.netSettle else s
      let r := a.signal (objNum o.obj) o.fn o.v
      (o.wait = false → e = .next (r.1.answerOp o.key r.2 (r.1.soVal (objNum o.obj)))) ∧
      (∀ u x, o.wait = true → a.tryWait (objNum o.obj) o.v = .done u x → e = .next (u.answerOp o.key 0 x)) ∧
      (∀ code, o.wait = true → a.tryWait (objNum o.obj) o.v = .err code → e = .next (a.answerOp o.key code 0)) ∧
      (o.wait = true → a.tryWait (objNum o.obj) o.v = .hold → o.withdrawn = false →
        (s.sync.waiters.length < 4096 → ∃ t, e = .next t ∧ t.sync.waiters = s.sync.waiters ++ [o.key] ∧
          t = { a with regs := t.regs, sync := t.sync }) ∧
        (4096 ≤ s.sync.waiters.length → e = .next (a.mapOp o.key (fun o => { o with phase := .retry })))) ∧
      (o.wait = true → a.tryWait (objNum o.obj) o.v = .hold → o.withdrawn = true → e = .next (a.answerOp o.key 0xFE 0))) ∧
    (∀ code v t pc, o.phase = .resp code v → o.who = .tile t pc → o.wait = true →
      exec (.syncWaitResponse i) s = .next ((s.netSettle.dropOp o.key).tileAnswer t pc o code)) ∧
    (∀ code v t st, o.phase = .resp code v → o.who = .steeper t st →
      exec (.syncWaitResponse i) s = .next ((s.netSettle.dropOp o.key).steepAnswer t st o false code v)) ∧
    (∀ code v t st, o.phase = .resp code v → o.who = .done t st →
      exec (.syncWaitResponse i) s = .next ((s.netSettle.dropOp o.key).steepAnswer t st o true code v)) ∧
    (∀ p, o.who = .cmd p → o.wait = true → o.phase = .waiter → s.op o.key = some o →
      exec (.syncWaitTimeout i) s = .next (((s.freeWaiter o.key (objNum o.obj)).dropOp o.key).completeReq p (Ans.code 0xC 0)))

/-- What the commands of sync objects and handle queues do (R379, R392, spec/15_sync_objects.md Table SYNC-5, R375,
spec/14_streams_and_handle_queues.md). Of packets that reach their command, the object being of this device unless said otherwise:
SYNC_CONFIG enables a disabled object with its kind and parties, disables one, leaves an equal setting and refuses a different one
with STATE 1, answering the previous word; SYNC_SIGNAL and SYNC_WAIT of another device's object that can be issued are issued and
answered later; SYNC_SIGNAL applies the operation with its waiters tested and answers its code; SYNC_READ answers the words and
changes nothing; SYNC_WAIT that holds answers the value at once, one that cannot be made answers its error, any other is pending. Of
packets that reach their command: HQ_CONFIG of a plinth-held queue stores DEPTH and EN and answers the previous word, but an enabled
one keeps its depth (STATE 7), of a fabric-held queue receives STATE 6; HQ_STATUS answers its words and changes nothing; HQ_PUSH and
HQ_POP on an enabled queue move handles until one cannot move and answer their number, on a disabled queue they receive STATE 8. -/
def Obligations.SyncAndQueueCommands : Prop :=
  (∀ (s b u : State) (p : Packet) (c : Ctx),
    (Reaches syncConfigOp s p c b u → let j := objNum (c.at 0 4)
      let parties := if c.at 5 1 = 2 then c.at 6 2 else 0
      (c.at 4 1 = 1 → u.flag (Reg.SO_CFG_EN j) = false → exec (.syncConfig p) s = .next (answered b c
        ((u.soShape j (c.at 5 1) parties).put (Reg.SO_CFG_EN j) 1, Ans.ok (leBytes 4 (u.word (wordsSo j 0)))))) ∧
      (c.at 4 1 = 0 → exec (.syncConfig p) s = .next (answered b c
        ((u.soDisable j).soShape j (c.at 5 1) parties, Ans.ok (leBytes 4 (u.word (wordsSo j 0)))))) ∧
      (c.at 4 1 = 1 → u.flag (Reg.SO_CFG_EN j) = true → u.get (Reg.SO_CFG_KIND j) ≠ c.at 5 1 →
        exec (.syncConfig p) s = .next (answered b c (u, Ans.code 0xE 1))) ∧
      (c.at 4 1 = 1 → u.flag (Reg.SO_CFG_EN j) = true → u.get (Reg.SO_CFG_KIND j) = c.at 5 1 →
        (c.at 5 1 = 2 → u.get (Reg.SO_CFG_PARTIES j) = c.at 6 2) →
        exec (.syncConfig p) s = .next (answered b c (u, Ans.ok (leBytes 4 (u.word (wordsSo j 0))))))) ∧
    (Reaches syncSignalOp s p c b u → objDev (c.at 0 4) = u.ensId → let r := u.signal (objNum (c.at 0 4)) (c.at 4 1) (c.at 8 8)
      exec (.syncSignal p) s = .next (answered b c (r.1, if r.2 = 0 then Ans.ok [] else r.1.syncAns r.2 0 []))) ∧
    (Reaches syncReadOp s p c b u → objDev (c.at 0 4) = u.ensId → exec (.syncRead p) s = .next (answered b c (u,
      Ans.ok (leBytes 4 (u.word (wordsSo (objNum (c.at 0 4)) 0)) ++ leBytes 8 (u.soVal (objNum (c.at 0 4))) ++
        leBytes 4 (u.waiterOn (objNum (c.at 0 4))).length)))) ∧
    (Reaches syncWaitOp s p c b u → objDev (c.at 0 4) = u.ensId →
      (∀ v x, u.tryWait (objNum (c.at 0 4)) (c.at 8 8) = .done v x → exec (.syncWait p) s = .next (answered b c (v, Ans.ok (leBytes 8 x)))) ∧
      (∀ e, u.tryWait (objNum (c.at 0 4)) (c.at 8 8) = .err e → exec (.syncWait p) s = .next (answered b c (u, u.syncAns e 0 []))) ∧
      (u.tryWait (objNum (c.at 0 4)) (c.at 8 8) = .hold →
        let r := u.issueSync (.cmd c.p) (c.at 0 4) true 0 (c.at 8 8) none
        exec (.syncWait p) s = .next (answered b c (pend (match r.1.op r.2 with | some q => r.1.reach q | none => r.1))))) ∧
    (∀ late, objDev (c.at 0 4) ≠ u.ensId → (late = false ∧ Reaches syncSignalOp s p c b u ∨ late = true ∧ Reaches syncWaitOp s p c b u) →
      let r := u.issueSync (.cmd c.p) (c.at 0 4) late (if late then 0 else c.at 4 1) (c.at 8 8) none
      (r.1.op r.2).isSome = true → exec (if late then .syncWait p else .syncSignal p) s =
        .next (answered b c (if late then pend r.1 else (r.1, Ans.late))))) ∧
  (∀ (s b u : State) (p : Packet) (c : Ctx),
    (Reaches hqConfigOp s p c b u →
      (u.flag (Reg.HQ_CFG_FABRIC (c.at 0 2)) = true → exec (.hqConfig p) s = .next (answered b c (u, Ans.code 0xE 6))) ∧
      (u.flag (Reg.HQ_CFG_FABRIC (c.at 0 2)) = false → u.flag (Reg.HQ_CFG_EN (c.at 0 2)) = false → c.at 2 1 = 1 →
        exec (.hqConfig p) s = .next (answered b c ((u.put (Reg.HQ_CFG_DEPTH (c.at 0 2)) (c.at 3 1)).put (Reg.HQ_CFG_EN (c.at 0 2)) 1,
          Ans.ok (leBytes 4 (u.hqCfg (c.at 0 2)))))) ∧
      (u.flag (Reg.HQ_CFG_FABRIC (c.at 0 2)) = false → c.at 2 1 = 0 → exec (.hqConfig p) s = .next (answered b c
        ((if u.flag (Reg.HQ_CFG_EN (c.at 0 2)) then u.hqDisable (c.at 0 2) else u).put (Reg.HQ_CFG_DEPTH (c.at 0 2)) (c.at 3 1),
          Ans.ok (leBytes 4 (u.hqCfg (c.at 0 2)))))) ∧
      (u.flag (Reg.HQ_CFG_FABRIC (c.at 0 2)) = false → u.flag (Reg.HQ_CFG_EN (c.at 0 2)) = true → c.at 2 1 = 1 →
        exec (.hqConfig p) s = .next (answered b c (u, if u.get (Reg.HQ_CFG_DEPTH (c.at 0 2)) = c.at 3 1
          then Ans.ok (leBytes 4 (u.hqCfg (c.at 0 2))) else Ans.code 0xE 7)))) ∧
    (Reaches hqStatusOp s p c b u → exec (.hqStatus p) s = .next (answered b c (u, Ans.ok (leBytes 4 (u.hqCfg (c.at 0 2)) ++
      leBytes 4 (u.word (wordsHq (c.at 0 2) 4)) ++ leBytes 4 (u.get (Reg.HQ_PUSHES_COUNT (c.at 0 2))) ++
      leBytes 4 (u.get (Reg.HQ_POPS_COUNT (c.at 0 2))))))) ∧
    (Reaches hqPushOp s p c b u →
      (u.flag (Reg.HQ_CFG_EN (c.at 0 2)) = false → exec (.hqPush p) s = .next (answered b c (u, Ans.code 0xE 8))) ∧
      (u.flag (Reg.HQ_CFG_EN (c.at 0 2)) = true → ∃ v n, exec (.hqPush p) s = .next (answered b c (v, Ans.ok (leBytes 2 n ++ zeros 2))) ∧
        n ≤ c.at 2 2 ∧ v.hqHeld (c.at 0 2) = u.hqHeld (c.at 0 2) ++ (bytesWords (c.at 2 2) (c.data.drop 4)).take n)) ∧
    (Reaches hqPopOp s p c b u →
      (u.flag (Reg.HQ_CFG_EN (c.at 0 2)) = false → exec (.hqPop p) s = .next (answered b c (u, Ans.code 0xE 8))) ∧
      (u.flag (Reg.HQ_CFG_EN (c.at 0 2)) = true → ∃ v l, exec (.hqPop p) s = .next (answered b c
          (v, Ans.ok (leBytes 2 l.length ++ zeros 2 ++ l.flatMap (leBytes 4)))) ∧
        l.length ≤ c.at 2 2 ∧ u.hqHeld (c.at 0 2) = l ++ v.hqHeld (c.at 0 2))))

/-- CSR accesses of a handle queue push, pop, enable and disable it (R358, R360, R362, R363, spec/14_streams_and_handle_queues.md).
While the plinth is powered: HQ_PUSH_WRITE of a handle into an enabled queue with a free slot appends it and counts the push; where
it cannot be applied OVF is set and nothing else. HQ_POP_READ of an enabled queue with a free entry returns the oldest handle and
counts the pop; where it cannot be applied it returns the null handle and sets UDF. HQ_CFG_WRITE of a plinth-held queue that is
disabled stores DEPTH and EN; clearing EN of an enabled one empties it. -/
def Obligations.HandleQueueAccesses : Prop :=
  ∀ (q : Fin 1024) (s : State), s.plinthPowered = true →
    (∀ w : Word, s.flag (Reg.HQ_CFG_EN q) = true → s.hqFrozen q = false → w.toNat ≠ nullHandle → 0 < s.hqFree q true →
      ∃ t, exec (.hqPushWrite q w) s = .next t ∧ t.hqHeld q = s.hqHeld q ++ [w.toNat] ∧
        t.get (Reg.HQ_PUSHES_COUNT q) = (s.get (Reg.HQ_PUSHES_COUNT q) + 1) % 2 ^ 32 ∧ t = { s with regs := t.regs, hq := t.hq, fab := t.fab }) ∧
    (∀ w : Word, (s.flag (Reg.HQ_CFG_EN q) = false ∨ s.hqFrozen q = true ∨ w.toNat = nullHandle ∨ s.hqFree q true = 0) →
      exec (.hqPushWrite q w) s = .next (s.put (Reg.HQ_STAT_OVF q) 1)) ∧
    (∀ h r, s.flag (Reg.HQ_CFG_EN q) = true → s.hqFrozen q = false → 0 < s.hqFree q false → s.hqHeld q = h :: r →
      ∃ t, exec (.hqPopRead q) s = .next t ∧ t.addr.readData = h ∧ t.hqHeld q = r ∧
        t.get (Reg.HQ_POPS_COUNT q) = (s.get (Reg.HQ_POPS_COUNT q) + 1) % 2 ^ 32 ∧
        t = { s with regs := t.regs, hq := t.hq, fab := t.fab, addr := { s.addr with readData := h } }) ∧
    ((s.flag (Reg.HQ_CFG_EN q) = false ∨ s.hqFrozen q = true ∨ s.hqFree q false = 0) →
      exec (.hqPopRead q) s = .next { s.put (Reg.HQ_STAT_UDF q) 1 with addr := { s.addr with readData := nullHandle } }) ∧
    (∀ w : Word, s.flag (Reg.HQ_CFG_FABRIC q) = false → s.flag (Reg.HQ_CFG_EN q) = false →
      exec (.hqCfgWrite q w) s = .next ((s.put (Reg.HQ_CFG_DEPTH q) (bits w.toNat 0 8)).setFlag (Reg.HQ_CFG_EN q) (bit w.toNat 31))) ∧
    (∀ w : Word, s.flag (Reg.HQ_CFG_FABRIC q) = false → s.flag (Reg.HQ_CFG_EN q) = true → bit w.toNat 31 = false →
      ∃ t, exec (.hqCfgWrite q w) s = .next t ∧ t.flag (Reg.HQ_CFG_EN q) = false ∧ t.hqHeld q = [] ∧
      t = { s with regs := t.regs, hq := t.hq, mesh := t.mesh })

/-- Network operations on handle queues: arrival, waiting, retry, expiry and answer (R290, R360, R361, R373, R374,
spec/14_streams_and_handle_queues.md Table STRM-4). HQ_OP_ARRIVE of an operation in flight with none of its source before it, once
the tile network has carried it: on a disabled queue it fails with 1, with the null handle with 3, with a free slot or entry it is
applied and answered, else it joins the waiters while the list holds fewer than 16, and beyond that must retry. HQ_RETRY of a waiter
with a reservation applies it. HQ_RESERVATION_EXPIRE takes the reservation back and the waiter waits on. HQ_RESPONSE takes the
answered operation off the list and gives its tile or steeper the answer. -/
def Obligations.HandleQueueOperations : Prop :=
  (∀ (i : Nat) (o : HqOp) (s : State), s.hq.ops[i]? = some o → s.plinthPowered = true →
    (o.phase = .flight → (s.hq.ops.take i).any (fun q => q.phase == .flight && sameHqSource q.who o.who) = false →
      let p := o.push.isSome
      let e := exec (.hqOpArrive i) s
      let a := s.netSettle
      (s.flag (Reg.HQ_CFG_EN o.q) = false → e = .next (a.hqAnswer o 1 0)) ∧
      (s.flag (Reg.HQ_CFG_EN o.q) = true → o.push = some nullHandle → e = .next (a.hqAnswer o 3 0)) ∧
      (s.flag (Reg.HQ_CFG_EN o.q) = true → o.push ≠ some nullHandle → s.hqFrozen o.q = false → 0 < s.hqFree o.q p → e = .next (a.hqApply o)) ∧
      (s.flag (Reg.HQ_CFG_EN o.q) = true → o.push ≠ some nullHandle → (s.hqFrozen o.q = true ∨ s.hqFree o.q p = 0) → o.withdrawn = false →
        ((s.hqList o.q p).length < 16 → ∃ t, e = .next t ∧ t.hqList o.q p = s.hqList o.q p ++ [o.key] ∧ t.hqHeld o.q = s.hqHeld o.q) ∧
        (16 ≤ (s.hqList o.q p).length → e = .next (a.hqMap o.key (fun o => { o with phase := .retry }))))) ∧
    (o.phase = .reserved → s.hqFrozen o.q = false → exec (.hqRetry i) s = .next (s.hqApply o)) ∧
    (o.phase = .retry → exec (.hqRetry i) s = .next (s.hqMeet o)) ∧
    (∀ code v t pc sd, o.phase = .resp code v → o.who = .tile t pc sd →
      exec (.hqResponse i) s = .next ((s.netSettle.hqDrop o.key).tileHqAnswer t pc sd o.push.isSome code v)) ∧
    (∀ code v t st bk hk, o.phase = .resp code v → o.who = .steeper t st bk hk →
      exec (.hqResponse i) s = .next ((s.netSettle.hqDrop o.key).steepHqAnswer t st bk hk o.push.isSome code v))) ∧
  (∀ (q : Fin 1024) (push : Bool) (k : Nat) (s : State), (s.hqList q push).find? (fun k => s.hqReserved k) = some k →
    exec (.hqReservationExpire q push) s = .next (s.hqMap k (fun o => { o with phase := .waiter })))

/-- The data instructions of a signal engine: their results, flags, addresses and frame (R254, R255). For an engine that issues at PC
with no enabled event pending and its ports ready: MPY, MAC and MSU give each accumulator of their slices the exact products (sums
in complex mode) stored, added or subtracted, clamped to 32 bits with SAT and wrapped at 40 without, and set OVF where the result
differs; ACC zeroes, sums or loads; EXT adds 2^(SH-1), shifts right, clamps or cuts to 16 bits and writes the bank or OUT; MOV moves
elements; SETAG sets a register of a generator; NOP does nothing. The generators post-modify within their circular buffers. PC moves
on (or stays under RPT), one cycle is counted, and nothing else changes. An access's element i is at (B + ((P - B + i) mod L)) mod
4096, and a post-modify sets P to (B + ((P - B + M) mod L)) mod 4096. -/
def Obligations.EngineDataInstructions : Prop :=
  (∀ (g : Ag) (i : Nat) (m : Int), g.addr i = (g.b + (((g.p : Int) - g.b + i) % g.l).toNat) % 4096 ∧
    (g.step m).p = (g.b + (((g.p : Int) - g.b + m) % g.l).toNat) % 4096) ∧
  ∀ (e : Fin 96) (s : State) (w : Nat), EngReady e s w →
    let x := s.ex e
    let a := s.setEx e { x with recent := [] :: x.recent.take 2 }
    let vec (k n : Nat) := (List.range n).map (fun i => a.elemOld e k ((x.ag k).addr i))
    let lim (sat : Bool) (i : Int) : Int := if sat then limTo 32 i else wrapTo 40 i
    let stepped (g : Ag) (u : Bool) : Ag := if u then g.step g.m else g
    let inp := if usesIn w then (s.takeIn e).2 else [0, 0, 0, 0]
    let fabIn := if usesIn w then (s.takeIn e).1 else s
    let same (t : State) := (t.ex e).hr = x.hr ∧ (t.ex e).eo = x.eo ∧ t.flag (Reg.ENG_STAT_RUN e) = s.flag (Reg.ENG_STAT_RUN e)
    (engOp w = 0 → ∃ t, exec (.engNop e) s = .next t ∧ EngPast e 1 s t ∧ same t ∧ (t.ex e).acc = x.acc ∧ t.win = s.win ∧ t.fab = s.fab ∧
      (t.ex e).ag0 = x.ag0 ∧ (t.ex e).ag1 = x.ag1 ∧ EngFrame e (engAt e) s t) ∧
    (∀ c fn, (c, fn) ∈ [(Instr.mpy e, 0), (.mac e, 1), (.msu e, 2)] → engOp w = fn + 1 →
      let X := xOperands (bits w 24 2 != 0) (bits w 22 2) (vec 0 4) x.xr inp
      let Y := yOperands (bits w 24 2 != 0) (bits w 20 2) (vec 1 4) x.yr inp
      let outs := (sliceTerms (bits w 24 2) X Y).map (fun z =>
        (z.1, if fn = 0 then z.2 else if fn = 1 then x.acc.getD z.1 0 + z.2 else x.acc.getD z.1 0 - z.2))
      ∃ t, exec c s = .next t ∧ EngPast e 1 s t ∧ same t ∧
        (t.ex e).acc = outs.foldl (fun l o => l.set o.1 (lim (bit w 26) o.2)) x.acc ∧
        (∀ k < 4, bit (t.get (Reg.ENG_STAT_OVF e)) k = (bit (s.get (Reg.ENG_STAT_OVF e)) k || outs.any (fun o => o.1 == k && lim (bit w 26) o.2 != o.2))) ∧
        (t.ex e).xr = X ∧ (t.ex e).yr = Y ∧ (t.ex e).ag0 = stepped x.ag0 (bit w 19) ∧ (t.ex e).ag1 = stepped x.ag1 (bit w 18) ∧
        t.win = s.win ∧ t.fab = fabIn.fab ∧ EngFrame e (Reg.ENG_STAT_OVF e :: engAt e) s t) ∧
    (engOp w = 4 → let outs : List (Nat × Int) := if bits w 24 2 = 0 then [(0, 0), (1, 0), (2, 0), (3, 0)] else if bits w 24 2 = 1 then [(0, x.acc.sum)]
        else (if bits w 17 2 = 2 then inp else vec (bits w 17 2) 4).zipIdx.map (fun v => (v.2, v.1 * 2 ^ bits w 19 5))
      ∃ t, exec (.engAcc e) s = .next t ∧ EngPast e 1 s t ∧ same t ∧
        (t.ex e).acc = (if bits w 24 2 = 1 then x.acc.set 0 (lim (bit w 26) x.acc.sum) else outs.map (fun o => lim (bit w 26) o.2)) ∧
        (∀ k < 4, bit (t.get (Reg.ENG_STAT_OVF e)) k = (bit (s.get (Reg.ENG_STAT_OVF e)) k || outs.any (fun o => o.1 == k && lim (bit w 26) o.2 != o.2))) ∧
        (t.ex e).ag0 = stepped x.ag0 (bits w 24 2 == 2 && bits w 17 2 == 0 && bit w 16) ∧
        (t.ex e).ag1 = stepped x.ag1 (bits w 24 2 == 2 && bits w 17 2 == 1 && bit w 16) ∧
        t.win = s.win ∧ t.fab = fabIn.fab ∧ EngFrame e (Reg.ENG_STAT_OVF e :: engAt e) s t) ∧
    (engOp w = 5 → let sh := bits w 21 5
      let ks := if x.mode = 0 then [0, 1, 2, 3] else [0, 2]
      let outs := ks.map (fun k => let z := x.acc.getD k 0
        let v := if sh = 0 then z else (z + 2 ^ (sh - 1)) / 2 ^ sh
        (k, v, if bit w 26 then limTo 16 v else wrapTo 16 v))
      let vs := outs.map (fun o => o.2.2)
      ∃ t, exec (.ext e) s = .next t ∧ EngPast e 1 s t ∧ same t ∧ (t.ex e).acc = x.acc ∧
        (∀ k < 4, bit (t.get (Reg.ENG_STAT_OVF e)) k = (bit (s.get (Reg.ENG_STAT_OVF e)) k || outs.any (fun o => o.1 == k && o.2.2 != o.2.1))) ∧
        t.win = (if bits w 19 2 = 2 then s.win else (s.writeVec e (bits w 19 2) vs).win) ∧
        t.fab = (if bits w 19 2 = 2 then (s.putOut e vs).fab else s.fab) ∧
        (t.ex e).ag0 = stepped x.ag0 (bits w 19 2 == 0 && bit w 18) ∧ (t.ex e).ag1 = stepped x.ag1 (bits w 19 2 == 1 && bit w 18) ∧
        EngFrame e (Reg.ENG_STAT_OVF e :: engAt e) s t) ∧
    (engOp w = 6 → let src := bits w 24 2
      let dst := bits w 22 2
      let n := if bit w 26 then 1 else 4
      let vs := (if src = 2 then inp else vec src n).take n
      ∃ t, exec (.mov e) s = .next t ∧ EngPast e 1 s t ∧ same t ∧ (t.ex e).acc = x.acc ∧
        t.win = (if dst = 2 then s.win else (s.writeVec e dst vs).win) ∧ t.fab = (if dst = 2 then (fabIn.putOut e vs).fab else fabIn.fab) ∧
        (t.ex e).ag0 = stepped x.ag0 (src == 0 && bit w 21 || dst == 0 && bit w 20) ∧
        (t.ex e).ag1 = stepped x.ag1 (src == 1 && bit w 21 || dst == 1 && bit w 20) ∧ EngFrame e (engAt e) s t) ∧
    (engOp w = 7 → let g := x.ag (bits w 26 1)
      let v := bits w 0 12
      let r := bits w 23 3
      ∃ t, exec (.setag e) s = .next t ∧ EngPast e 1 s t ∧ same t ∧ (t.ex e).acc = x.acc ∧ t.win = s.win ∧ t.fab = s.fab ∧
        (t.ex e).ag (bits w 26 1) = (if r = 0 then { g with p := v } else if r = 1 then { g with m := sgn 12 v } else if r = 2 then { g with b := v }
          else if r = 3 then { g with l := v + 1 } else g.step (sgn 12 v)) ∧
        (t.ex e).ag (1 - bits w 26 1) = x.ag (1 - bits w 26 1) ∧ EngFrame e (engAt e) s t)

/-- An engine's repeats, jumps, waits, queue operations, interrupts, faults and window (R258, R260, R261, R262, R264, R266, R267, R269,
R271, R272, spec/09_signal_engines.md Table SIG-6). For an engine that issues at PC with no enabled event pending, outside an RPT:
RPT arms the next instruction for COUNT issues, or faults ILLEGAL where it may not be repeated; BLK opens a level (in a handler,
within those that the handler opened), or faults BLK_DEPTH or BLK_NEST; JMP goes to TARGET, closing the levels left, or goes on;
WAIT clears the lowest pending bit of MASK or stalls; SIGO toggles; RETI returns to IPC or faults BLK_NEST; STOP clears RUN; HPOP
and HPUSH issue their operation and stall, and ENG_STALL_RELEASE ends them. An ILLEGAL word faults: RUN clear, FAULT set, PC kept.
ENG_EVENT_EDGE records the event and interrupts where enabled. GO and START start a halted engine without a fault (while the device
quiesces it is to go on where the entry is aborted), HALT halts it at a boundary, CLR_FAULT clears FAULT. The window reads and
writes the memories, a bank once an RPT in progress has ended and at a cost of at most a cycle; a write of instruction memory while
RUN sets WERR. -/
def Obligations.EngineSequencing : Prop :=
  (∀ (e : Fin 96) (s : State) (w : Nat), EngReady e s w → (s.ex e).rpt = 0 →
    let x := s.ex e
    let pc := s.get (Reg.ENG_STAT_PC e)
    let r := blkNext x.blocks.reverse pc
    let same (t : State) := (t.ex e).acc = x.acc ∧ (t.ex e).ag0 = x.ag0 ∧ (t.ex e).ag1 = x.ag1 ∧ (t.ex e).hr = x.hr ∧ t.win = s.win ∧ t.fab = s.fab
    (engOp w = 0x10 → repeatable (s.engWord e (r.2 % 2048)) = true → ∃ t, exec (.rpt e) s = .next t ∧ (t.ex e).rpt = bits w 0 10 + 1 ∧
      t.flag (Reg.ENG_STAT_RPT e) = true ∧ t.get (Reg.ENG_STAT_PC e) = r.2 % 2048 ∧ same t ∧ EngFrame e (engAt e) s t) ∧
    (engOp w = 0x10 → repeatable (s.engWord e (r.2 % 2048)) = false → exec (.rpt e) s = .next (s.engFault e 1)) ∧
    (engOp w = 0x11 → let first := (pc + 1) % 2048
      let last := bits w 16 11
      let inside := if s.flag (Reg.ENG_STAT_INTR e) then x.blocks.drop x.entryDepth else x.blocks
      (x.blocks.length = 3 → exec (.blk e) s = .next (s.engFault e 3)) ∧
      (x.blocks.length ≠ 3 → (last < first ∨ ∃ o, inside.getLast? = some o ∧ (first < o.first ∨ o.last < last)) →
        exec (.blk e) s = .next (s.engFault e 2)) ∧
      (x.blocks.length ≠ 3 → first ≤ last → (∀ o, inside.getLast? = some o → o.first ≤ first ∧ last ≤ o.last) → ∃ t, exec (.blk e) s = .next t ∧
        (t.ex e).blocks = x.blocks ++ [{ first := first, last := last, left := bits w 0 16 + 1 }] ∧ t.get (Reg.ENG_STAT_PC e) = first ∧
        t.get (Reg.ENG_STAT_BDEPTH e) = (x.blocks.length + 1) % 4 ∧ same t ∧ EngFrame e (engAt e) s t)) ∧
    (engOp w = 0x12 → s.jmpTaken e w = true → ∃ t, exec (.engJmp e) s = .next t ∧ t.get (Reg.ENG_STAT_PC e) = bits w 0 11 ∧
      (t.ex e).blocks = (blkLeave (bits w 0 11) x.blocks.reverse).reverse ∧
      t.get (Reg.ENG_CYC_CYCLES e) = (s.get (Reg.ENG_CYC_CYCLES e) + 3) % 2 ^ 64 ∧
      (∀ k < 8, bit (t.get (Reg.ENG_EVT_PEND e)) k = (bit (s.get (Reg.ENG_EVT_PEND e)) k && !(bits w 24 3 == 1 && bits w 21 3 == k))) ∧
      same t ∧ EngFrame e (Reg.ENG_EVT_PEND e :: engAt e) s t) ∧
    (engOp w = 0x12 → s.jmpTaken e w = false → ∃ t, exec (.engJmp e) s = .next t ∧ EngPast e 1 s t ∧ same t ∧ EngFrame e (engAt e) s t) ∧
    (engOp w = 0x13 → let m := bits w 0 8 &&& s.get (Reg.ENG_EVT_PEND e)
      (m = 0 → exec (.wait e) s = .next (s.setEx e { x with stall := some .event })) ∧
      (m ≠ 0 → ∃ t, exec (.wait e) s = .next t ∧ EngPast e 1 s t ∧
        (∀ k < 8, bit (t.get (Reg.ENG_EVT_PEND e)) k = (bit (s.get (Reg.ENG_EVT_PEND e)) k && k != lowBit m)) ∧
        same t ∧ EngFrame e (Reg.ENG_EVT_PEND e :: engAt e) s t)) ∧
    (engOp w = 0x14 → ∃ t, exec (.sigo e) s = .next t ∧ EngPast e 1 s t ∧ (t.ex e).eo = x.eo ^^^ bits w 0 4 ∧ same t ∧ EngFrame e (engAt e) s t) ∧
    (engOp w = 0x15 → s.flag (Reg.ENG_STAT_INTR e) = true → x.entryDepth < x.blocks.length → exec (.reti e) s = .next (s.engFault e 2)) ∧
    (engOp w = 0x15 → ¬ (s.flag (Reg.ENG_STAT_INTR e) = true ∧ x.entryDepth < x.blocks.length) → ∃ t, exec (.reti e) s = .next t ∧
      t.get (Reg.ENG_STAT_PC e) = s.get (Reg.ENG_IPC_IPC e) % 2048 ∧ t.flag (Reg.ENG_STAT_INTR e) = false ∧
      t.get (Reg.ENG_CYC_CYCLES e) = (s.get (Reg.ENG_CYC_CYCLES e) + 3) % 2 ^ 64 ∧ same t ∧ EngFrame e (Reg.ENG_STAT_INTR e :: engAt e) s t) ∧
    (engOp w = 0x16 → ∃ t, exec (.engStop e) s = .next t ∧ EngPast e 1 s t ∧ t.flag (Reg.ENG_STAT_RUN e) = false ∧ same t ∧
      EngFrame e (Reg.ENG_STAT_RUN e :: engAt e) s t) ∧
    (∀ c h, (engOp w, c, h) ∈ [(0x18, Instr.engHpop e, none), (0x19, .engHpush e, some x.hr)] → ∃ t, exec c s = .next t ∧
      (t.ex e) = { x with stall := some (.hq s.hq.next) } ∧
      t.hq = { s.hq with ops := s.hq.ops ++ [{ key := s.hq.next, who := .engine e, q := bits w 16 10, push := h, phase := .flight, withdrawn := false }],
                         next := s.hq.next + 1 } ∧ t = { s with eng := t.eng, hq := t.hq, mesh := t.mesh })) ∧
  (∀ (e : Fin 96) (s : State) (code : Nat), code < 16 → let t := s.engFault e code
    t.get (Reg.ENG_STAT_FAULT e) = code ∧ t.flag (Reg.ENG_STAT_RUN e) = false ∧ t.get (Reg.ENG_STAT_PC e) = s.get (Reg.ENG_STAT_PC e) ∧
    t.win = s.win ∧ (∀ f, f ≠ e.val → t.ex f = s.ex f)) ∧
  (∀ (e : Fin 96) (s : State) (w : Nat), s.engRuns e = true → (s.ex e).stall = none → (s.ex e).haltReq = false → s.engDue e = 0 →
    s.engWord e (s.get (Reg.ENG_STAT_PC e)) = w → engIllegal w = true →
    ∀ op c, (op, c) ∈ [(0, Instr.engNop e), (1, .mpy e), (2, .mac e), (3, .msu e), (4, .engAcc e), (5, .ext e), (6, .mov e), (7, .setag e),
      (0x10, .rpt e), (0x11, .blk e), (0x12, .engJmp e), (0x13, .wait e), (0x14, .sigo e), (0x15, .reti e), (0x16, .engStop e), (0x18, .engHpop e),
      (0x19, .engHpush e)] → (engOp w = op ∨ engOp w ∉ engOps) → exec c s = .next (s.engFault e 1)) ∧
  (∀ (e : Fin 96) (s : State) (key : Nat) (o : HqOp) (v : Nat), s.engRuns e = true → (s.ex e).stall = some (.hq key) → (s.ex e).haltReq = false →
    s.engDue e = 0 → (s.ex e).rpt = 0 → s.hqOp key = some o →
    let x := s.ex e
    let k := bits (s.engWord e (s.get (Reg.ENG_STAT_PC e))) 26 1
    (o.phase = .resp 0 v → ∃ t, exec (.engStallRelease e) s = .next t ∧ (t.ex e).stall = none ∧ t.hqOp key = none ∧
      (o.push = none → (t.ex e).hr = v ∧ ((t.ex e).ag k).b = bits v 12 12 ∧ ((t.ex e).ag k).p = bits v 12 12) ∧
      (o.push ≠ none → (t.ex e).hr = x.hr ∧ (t.ex e).ag0 = x.ag0 ∧ (t.ex e).ag1 = x.ag1) ∧
      t.get (Reg.ENG_STAT_PC e) = (blkNext x.blocks.reverse (s.get (Reg.ENG_STAT_PC e))).2 % 2048 ∧ t.win = s.win) ∧
    (∀ code, o.phase = .resp code v → code ≠ 0 → ∃ t, exec (.engStallRelease e) s = .next t ∧ t.get (Reg.ENG_STAT_FAULT e) = 4 ∧
      t.flag (Reg.ENG_STAT_RUN e) = false)) ∧
  (∀ (e : Fin 96) (k : Fin 8) (s : State), s.coresRun = true → s.castRuns = true → s.frozen (engRegion e) = false → (s.ex e).haltReq = false →
    (s.flag (Reg.ENG_STAT_RUN e) = false → exec (.engEventEdge e k) s = .next (s.orBits (Reg.ENG_EVT_PEND e) (2 ^ k.val))) ∧
    (s.flag (Reg.ENG_STAT_RUN e) = true → (s.ex e).rpt = 0 → (s.ex e).stall = none → s.flag (Reg.ENG_STAT_INTR e) = false → s.engDue e = 0 →
      bit (s.get (Reg.ENG_EVT_IEN e)) k = true → ∃ t, exec (.engEventEdge e k) s = .next t ∧ t.get (Reg.ENG_STAT_PC e) = 0x7F8 + k ∧
        t.get (Reg.ENG_IPC_IPC e) = s.get (Reg.ENG_STAT_PC e) % 2048 ∧ t.flag (Reg.ENG_STAT_INTR e) = true ∧
        (∀ j < 8, bit (t.get (Reg.ENG_EVT_PEND e)) j = bit (s.get (Reg.ENG_EVT_PEND e)) j) ∧ (t.ex e).acc = (s.ex e).acc ∧
        EngFrame e [Reg.ENG_EVT_PEND e, Reg.ENG_STAT_PC e, Reg.ENG_IPC_IPC e, Reg.ENG_STAT_INTR e, Reg.ENG_CYC_CYCLES e] s t) ∧
    (s.get (Reg.ENG_STAT_FAULT e) = 0 → s.flag (Reg.ENG_STAT_RUN e) = false → s.engDue e = 0 →
      (s.quiescing = false → exec (.goEdge e) s = .next (s.put (Reg.ENG_STAT_RUN e) 1)) ∧
      (s.quiescing = true → exec (.goEdge e) s = .next { s with pwr := { s.pwr with
        haltedEng := s.pwr.haltedEng.filter (fun x => x != e.val) ++ [e.val] } })) ∧
    (s.get (Reg.ENG_STAT_FAULT e) ≠ 0 → exec (.goEdge e) s = .next s)) ∧
  (∀ (e : Fin 96) (w : Word) (s : State), s.fabricPowered = true → (s.ex e).haltReq = false →
    (bit w.toNat 1 = true → bit w.toNat 2 = false → s.flag (Reg.ENG_STAT_RUN e) = false → s.get (Reg.ENG_STAT_FAULT e) = 0 → s.engDue e = 0 →
      ∃ t, exec (.engStart e w) s = .next t ∧ t.get (Reg.ENG_STAT_PC e) = bits w.toNat 16 11 ∧ t.flag (Reg.ENG_STAT_RUN e) = !s.quiescing ∧
        (s.quiescing = true → e.val ∈ t.pwr.haltedEng) ∧ t = { s with regs := t.regs, pwr := { s.pwr with haltedEng := t.pwr.haltedEng } } ∧
        RegsBut [Reg.ENG_CTRL_PC e, Reg.ENG_STAT_PC e, Reg.ENG_STAT_RUN e] s t) ∧
    (bit w.toNat 0 = true → bit w.toNat 1 = false → bit w.toNat 2 = false → s.flag (Reg.ENG_STAT_RUN e) = true → (s.ex e).stall = none →
      (s.ex e).rpt = 0 → ∃ t, exec (.engHalt e w) s = .next t ∧ t.flag (Reg.ENG_STAT_RUN e) = false ∧
        t.get (Reg.ENG_STAT_PC e) = s.get (Reg.ENG_STAT_PC e) ∧ (t.ex e).acc = (s.ex e).acc ∧
        (∀ f, f ≠ e.val → t.ex f = s.ex f) ∧ RegsBut [Reg.ENG_CTRL_PC e, Reg.ENG_STAT_RUN e] s t ∧
        t = { s with regs := t.regs, eng := t.eng, pwr := { s.pwr with haltedEng := s.pwr.haltedEng.filter (fun x => x != e.val) } }) ∧
    (bit w.toNat 0 = false → bit w.toNat 1 = false → bit w.toNat 2 = true →
      exec (.engClrFault e w) s = .next ((s.put (Reg.ENG_CTRL_PC e) (bits w.toNat 16 11)).put (Reg.ENG_STAT_FAULT e) 0))) ∧
  (∀ (e : Fin 96) (off : Fin 24576) (s : State), s.fabricPowered = true →
    let o := off.val / 4 * 4
    let a := 0x1C00000 + e * 0x8000 + o
    let t := s.bankServe a
    (let v := if t.flag Reg.CAST_STATUS_ENCRYPTED then 0 else t.wget a
     exec (.engMemoryAccess e off none) s = .next { t with addr := { t.addr with readData := v } }) ∧
    (∀ w, ¬ (o < 0x2000 ∧ s.flag (Reg.ENG_STAT_RUN e) = true) → exec (.engMemoryAccess e off (some w)) s = .next (t.wput a w.toNat)) ∧
    (∀ w, o < 0x2000 → s.flag (Reg.ENG_STAT_RUN e) = true →
      exec (.engMemoryAccess e off (some w)) s = .next (s.put (Reg.ENG_STAT_WERR e) 1)) ∧
    (o < 0x2000 → t = s) ∧
    (0x2000 ≤ o → (s.ex e).rpt = 0 →
      t = if s.engRuns e && (s.ex e).stall.isNone then s.draw.engCycles e (s.drawn 1) else s))

/-- A tile's scalar, predicate, branch, configuration and waiting instructions (R311, R313). For a tile that issues at PC, not stepping:
SALU, SALUI and PSET give their scalar or predicate the function's value (s0 and p0 discard), SLD and SST move a word of the store
in 4 cycles and at most 14 more (a free value, log entry 41), or fault STORE_RANGE beyond it; BR goes to TARGET where its condition
holds and on where not, JMP goes to TARGET, NOP goes on, STOP halts with CAUSE 1 and PC at the next instruction. TCFG gives a
register type and shape, zeroed and empty, or an accumulator its type, zeroed and not empty. TREL empties every register named: a
tile register keeps TYPE and shape and reads zeros, an accumulator's ATYPE reads 0; MASK 0 is a NOP. SRUN answers the steeper's
state and starts an idle one. SWAIT, HPOP and HPUSH issue and stall, SSIG issues and goes on; a bad object name faults SYNC_ERR
0xFF. Every other scalar, predicate, vector and all memory stay. -/
def Obligations.TileScalarAndControlInstructions : Prop :=
  (∀ (s : State) (t : Nat) (o : Opnd) (r : Nat), s.oEmpty t o = true → s.oRow t o r = 0) ∧
  ∀ (t : Fin 192) (s : State) (w : Nat), TileReady t s w →
    let pc := s.get (Reg.TSTAT_PC t)
    let sd := bits w 53 5
    let a := s.sreg t (bits w 48 5)
    let b := s.sreg t (bits w 43 5)
    let wins (u : State) (lo hi : Nat) := ∀ x, (x < tileWin t + lo ∨ tileWin t + hi ≤ x) → u.wget x = s.wget x
    let went (c : Instr) (q n : Nat) := ∃ u, exec c s = .next u ∧ TileDone t s u q n ∧ u = { s with regs := u.regs } ∧ RegsBut (tileAt t) s u
    let scalar (c : Instr) (v : Nat) := ∃ u, exec c s = .next u ∧ TileDone t s u (pc + 1) 1 ∧ u.sreg t sd = (if sd = 0 then 0 else v % 2 ^ 32) ∧
      wins u (0x9000 + 4 * sd) (0x9004 + 4 * sd) ∧ u = { s with regs := u.regs, win := u.win } ∧ RegsBut (tileAt t) s u
    let fns (b : Nat) : List (Nat × Nat) := [(0, a + b), (1, a + 2 ^ 32 - b), (2, a * b), (3, a &&& b), (4, a ||| b), (5, a ^^^ b),
      (6, a * 2 ^ (b % 32)), (7, a / 2 ^ (b % 32)), (8, unsgn 32 (sgn 32 a / 2 ^ (b % 32))), (9, if sgn 32 a < sgn 32 b then 1 else 0),
      (10, if a < b then 1 else 0), (11, unsgn 32 (min (sgn 32 a) (sgn 32 b))), (12, unsgn 32 (max (sgn 32 a) (sgn 32 b)))]
    (∀ v, bits w 58 6 = 0x10 → (bits w 39 4, v) ∈ fns b → scalar (.salu t) v) ∧
    (∀ v, bits w 58 6 = 0x11 → (bits w 39 4, v) ∈ fns (bits w 0 32) → scalar (.salui t) v) ∧
    (bits w 58 6 = 0x14 → let v := if bit w 54 then a + b * 2 ^ 32 else 2 ^ min a 64 - 1
      let pd := bits w 55 3
      ∃ u, exec (.pset t) s = .next u ∧ TileDone t s u (pc + 1) 1 ∧ u.preg t pd = (if pd = 0 then 2 ^ 64 - 1 else v % 2 ^ 64) ∧
        wins u (0x9500 + 8 * pd) (0x9508 + 8 * pd) ∧ u = { s with regs := u.regs, win := u.win } ∧ RegsBut (tileAt t) s u) ∧
    (∀ c, (c, bits w 58 6) ∈ [(Instr.sld t, 0x12), (.sst t, 0x13)] → 0x40000 ≤ s.scalarAddr t w →
      exec c s = .next ((s.put (Reg.TSTART_ROW t) 0).tileFault t 3 pc 0)) ∧
    (bits w 58 6 = 0x12 → s.scalarAddr t w < 0x40000 → let r := s.readMem 1 (storeAddr t (s.scalarAddr t w)) 4
      (r.2.2 = false → let v := r.1.setSreg t sd (leNat r.2.1)
        exec (.sld t) s = .next ((v.draw.tileCycles t (v.drawn 32 % 15)).tileGoto t (pc + 1) 4)) ∧
      (r.2.2 = true → exec (.sld t) s = .next ((r.1.put (Reg.TSTART_ROW t) 0).tileFault t 4 pc 0))) ∧
    (bits w 58 6 = 0x13 → s.scalarAddr t w < 0x40000 → let A := storeAddr t (s.scalarAddr t w)
      ∃ u, exec (.sst t) s = .next u ∧ u.get (Reg.TSTAT_PC t) = (pc + 1) % 4096 ∧ u.win = s.win ∧
        (∀ x, (x < A ∨ A + 4 ≤ x) → u.byteAt x = s.byteAt x) ∧
        (tget 0 s.ecc (A / 8 * 8) = 0 → (∀ k < 4, u.byteAt (A + k) = BitVec.ofNat 8 (s.sreg t sd / 256 ^ k)) ∧
          (∃ d ≤ 14, TileDone t s u (pc + 1) (4 + d)) ∧ u = { s with regs := u.regs, mem := u.mem, draws := u.draws } ∧ RegsBut (tileAt t) s u)) ∧
    (bits w 58 6 = 0x18 → let x := sgn 32 a
      let y := sgn 32 b
      let c := bits w 55 3
      let holds := c = 0 ∧ a = b ∨ c = 1 ∧ a ≠ b ∨ c = 2 ∧ x < y ∨ c = 3 ∧ y ≤ x ∨ c = 4 ∧ a < b ∨ c = 5 ∧ b ≤ a
      (holds → went (.br t) (bits w 0 12) 2) ∧ (¬ holds → went (.br t) (pc + 1) 1)) ∧
    (bits w 58 6 = 0x19 → went (.tileJmp t) (bits w 0 12) 2) ∧
    (bits w 58 6 = 0 → went (.tileNop t) (pc + 1) 1) ∧
    (bits w 58 6 = 0x1A → s.tu.halts = [] → ∃ u, exec (.tileStop t) s = .next u ∧ TileDone t s u (pc + 1) 1 ∧ u.flag (Reg.TSTAT_RUN t) = false ∧
      u.get (Reg.TSTAT_CAUSE t) = 1 ∧ u.win = s.win ∧ u.mem = s.mem ∧ u.tu.rows = s.tu.rows) ∧
    (bits w 58 6 = 1 → let k := bits w 53 4
      let o : Opnd := ⟨bit w 57, k⟩
      ∃ u, exec (.tcfg t) s = .next u ∧ TileDone t s u (pc + 1) 1 ∧ (∀ r < 16, u.oRow t o r = 0) ∧ u.oEmpty t o = (!bit w 57) ∧
        (bit w 57 = true → u.oType t o = bits w 49 4) ∧
        (bit w 57 = false → u.oType t o = bits w 49 4 ∧ u.oRows t o = bits w 45 4 + 1 ∧ u.oColb t o = bits w 39 6 + 1) ∧
        (∀ q r, (q.acc = o.acc → q.k ≠ k) → q.k < (if q.acc then 4 else 8) → r < 16 → u.oRow t q r = s.oRow t q r) ∧
        u = { s with regs := u.regs, tu := u.tu }) ∧
    (bits w 58 6 = 9 → ∃ u, exec (.trel t) s = .next u ∧ TileDone t s u (pc + 1) 1 ∧ u = { s with regs := u.regs, tu := u.tu } ∧
      (∀ k < 8, bit (bits w 46 12) k = true → let o : Opnd := ⟨false, k⟩
        u.oEmpty t o = true ∧ u.oType t o = s.oType t o ∧ u.oRows t o = s.oRows t o ∧ u.oColb t o = s.oColb t o ∧ (∀ r, u.oRow t o r = 0)) ∧
      (∀ k < 4, bit (bits w 46 12) (8 + k) = true → u.oEmpty t ⟨true, k⟩ = true ∧ u.aType t k = 0) ∧
      (∀ k < 8, bit (bits w 46 12) k = false → u.oEmpty t ⟨false, k⟩ = s.oEmpty t ⟨false, k⟩) ∧
      (∀ k < 4, bit (bits w 46 12) (8 + k) = false → u.oEmpty t ⟨true, k⟩ = s.oEmpty t ⟨true, k⟩ ∧ u.aType t k = s.aType t k) ∧
      (bits w 46 12 = 0 → u = { s with regs := u.regs } ∧ RegsBut (tileAt t) s u)) ∧
    (bits w 58 6 = 0x24 → let st := bits w 57 1
      let k := s.steepState t st
      let sd := bits w 43 5
      (bit w 56 = true → exec (.srun t) s = .next ((s.setSreg t sd (if k = 3 then 1 else k)).tileGoto t (pc + 1) 1)) ∧
      (bit w 56 = false → k ≠ 0 → exec (.srun t) s = .next ((s.setSreg t sd 0).tileGoto t (pc + 1) 1)) ∧
      (bit w 56 = false → k = 0 → exec (.srun t) s = .next (((s.startStream t st (bits w 0 6) a).setSreg t sd 1).tileGoto t (pc + 1) 1))) ∧
    (∀ c, (c, bits w 58 6) ∈ [(Instr.tileSwait t, 0x20), (.tileSsig t, 0x21)] → 2 ^ 23 ≤ a →
      exec c s = .next ((s.put (Reg.TSTART_ROW t) 0).tileFault t 6 pc 0xFF)) ∧
    (a < 2 ^ 23 → objDev a = s.ensId → (s.tx t).kept = none → let v := b + s.sreg t (bits w 43 5 + 1) * 2 ^ 32
      let o : SyncOp := { key := s.sync.next, who := .tile t pc, obj := a, wait := true, fn := 0, v := v, opid := 2 ^ 32, epoch := 0, phase := .flight,
                          withdrawn := false }
      (bits w 58 6 = 0x20 → ∃ u, exec (.tileSwait t) s = .next u ∧ u.sync.ops = s.sync.ops ++ [o] ∧ u.flag (Reg.TSTAT_STALL t) = true ∧
        (u.tx t).stall = some (s.sync.next, true) ∧ RegsBut [Reg.TSTART_ROW t, Reg.TSTAT_STALL t] s u ∧
        u = { s with regs := u.regs, sync := u.sync, tu := u.tu, mesh := u.mesh }) ∧
      (bits w 58 6 = 0x21 → ∃ u, exec (.tileSsig t) s = .next u ∧ u.sync.ops = s.sync.ops ++ [{ o with wait := false, fn := bits w 54 4 }] ∧
        TileDone t s u (pc + 1) 1 ∧ u.tx t = s.tx t ∧ u.tu.rows = s.tu.rows ∧
        u = { s with regs := u.regs, sync := u.sync, tu := u.tu, mesh := u.mesh } ∧ RegsBut (tileAt t) s u)) ∧
    (a < 2 ^ 23 → let v := s.svValue t w
      let held := (s.tx t).keptFor pc
      (bits w 58 6 = 0x20 → let r := (s.put (Reg.TSTART_ROW t) 0).issueSync (.tile t pc) a true 0 v held
        exec (.tileSwait t) s = .next (r.1.tileStalls t (r.2, true))) ∧
      (bits w 58 6 = 0x21 → exec (.tileSsig t) s = .next (((s.setTx t { s.tx t with kept := none }).tileGoto t (pc + 1) 1).issueSync
        (.tile t pc) a false (bits w 54 4) v held).1)) ∧
    (∀ c q, (bits w 58 6, c, q) ∈ [(0x22, Instr.tileHpop t, (HqWho.tile t pc sd, none)), (0x23, .tileHpush t, (.tile t pc 0, some a))] →
      ∃ u, exec c s = .next u ∧ u.flag (Reg.TSTAT_STALL t) = true ∧ (u.tx t).stall = some (s.hq.next, false) ∧
        u.hq.ops = s.hq.ops ++ [{ key := s.hq.next, who := q.1, q := bits w 0 10, push := q.2, phase := .flight, withdrawn := false }] ∧
        RegsBut [Reg.TSTART_ROW t, Reg.TSTAT_STALL t] s u ∧ u = { s with regs := u.regs, hq := u.hq, tu := u.tu, mesh := u.mesh })

/-- A tile's loads, stores and matrix instructions, row by row, and their faults (R288, R299, R300, R302, R303, R305, R307, R308, R309,
R310, spec/11_tile_instruction_set.md Table TISA-5). For a tile that issues at PC: an ILLEGAL word faults before anything happens.
TMMA, TEW, TRED, TCVT and TPAIR with operands that agree, and TLOAD and TSTORE within the store, do their rows in ascending order
from TSTART.ROW: all of them, then PC moves on with TSTART 0, or the number asked for, then TSTART holds the first row not done. A
row of TMMA gives each element of its accumulator row the sum of products and the old value; a row of TEW, TCVT, TPAIR gives the
destination row its elements; TLOAD's row is the store row, TSTORE's bytes alone change in memory. Operands that disagree are a
SHAPE_FAULT, an address beyond the store STORE_RANGE with its lowest row, and neither changes registers, rows or memory. -/
def Obligations.TileMatrixInstructions : Prop :=
  (∀ (t : Fin 192) (n : Nat) (s : State) (w d : Nat), s.tileIssues t = true → s.tileWord t (s.get (Reg.TSTAT_PC t)) = w → tileIllegal w = some d →
    ∀ c op, (c, op) ∈ [(Instr.tileNop t, 0), (.tcfg t, 1), (.tload t n, 2), (.tstore t n, 3), (.tmma t n, 4), (.tew t n, 5), (.tred t n, 6), (.tcvt t n, 7),
      (.tpair t n, 8), (.trel t, 9), (.salu t, 0x10), (.salui t, 0x11), (.sld t, 0x12), (.sst t, 0x13), (.pset t, 0x14), (.br t, 0x18), (.tileJmp t, 0x19),
      (.tileStop t, 0x1A), (.tileSwait t, 0x20), (.tileSsig t, 0x21), (.tileHpop t, 0x22), (.tileHpush t, 0x23), (.srun t, 0x24)] →
      (bits w 58 6 = op ∨ bits w 58 6 ∉ tileOps) → exec c s = .next ((s.put (Reg.TSTART_ROW t) 0).tileFault t 2 (s.get (Reg.TSTAT_PC t)) d)) ∧
  (∀ (t : Nat) (s : State) (code pc d : Nat) (os : List (Nat × Nat × Nat × Nat)), s.tu.halts = [] → code < 16 → d < 256 →
    let u := (s.put (Reg.TSTART_ROW t) 0).tileFaultOps t code pc d os
    u.get (Reg.TFAULT0_CODE t) = code ∧ u.get (Reg.TFAULT0_PC t) = pc % 4096 ∧ u.get (Reg.TFAULT0_DETAIL t) = d ∧ u.flag (Reg.TSTAT_FAULTED t) = true ∧
    u.flag (Reg.TSTAT_RUN t) = false ∧ u.get (Reg.TSTART_ROW t) = 0 ∧
    u.win = s.win ∧ u.tu.rows = s.tu.rows ∧ u.mem = s.mem ∧ u.sync = s.sync ∧ u.hq = s.hq) ∧
  (∀ (s : State) (t pc n total : Nat) (cyc : Nat → Nat) (f : State → Nat → State),
    let r0 := s.get (Reg.TSTART_ROW t)
    let k := min (max 1 n) (total - r0)
    let u := (List.range k).foldl (fun s i => f s (r0 + i)) s
    (s.tx t).step = false → (u.tx t).step = false → s.tileRows t pc n total cyc (cleanRow f) =
      (if total ≤ r0 + k then u.tileGoto t (pc + 1) (cyc (r0 + k) - cyc r0) else (u.put (Reg.TSTART_ROW t) (r0 + k)).tileCycles t (cyc (r0 + k) - cyc r0))) ∧
  (∀ (t : Fin 192) (n : Nat) (s : State) (w : Nat), TileReady t s w →
    let pc := s.get (Reg.TSTAT_PC t)
    let op := bits w 58 6
    (op = 4 → let a : Opnd := ⟨false, bits w 53 3⟩
      let b : Opnd := ⟨false, bits w 50 3⟩
      let d : Opnd := ⟨true, bits w 56 2⟩
      (s.oType t a = 0 ∨ s.oType t b = 0 → exec (.tmma t n) s = .next (s.shapeFault t pc 1 [d, a, b])) ∧
      (s.oType t a ≠ 0 → s.oType t b ≠ 0 → tmmaType (s.oType t a) (s.oType t b) (bits w 48 2) = none →
        exec (.tmma t n) s = .next (s.shapeFault t pc 2 [d, a, b])) ∧
      (∀ ty per, s.oType t a ≠ 0 → s.oType t b ≠ 0 → tmmaType (s.oType t a) (s.oType t b) (bits w 48 2) = some (ty, per) →
        (s.oElems t a ≠ s.oElems t b → exec (.tmma t n) s = .next (s.shapeFault t pc 3 [d, a, b])) ∧
        (s.oElems t a = s.oElems t b → s.oEmpty t d = false → s.oType t d ≠ ty → exec (.tmma t n) s = .next (s.shapeFault t pc 5 [d, a, b]))) ∧
      (∀ ty per, s.oType t a ≠ 0 → s.oType t b ≠ 0 → tmmaType (s.oType t a) (s.oType t b) (bits w 48 2) = some (ty, per) →
        s.oElems t a = s.oElems t b → (s.oEmpty t d = true ∨ s.oType t d = ty) →
        exec (.tmma t n) s = .next (s.tileRows t pc n (s.oRows t a) (rowCycles 2 per) (cleanRow (State.tmmaRow t w ty))) ∧
        (∀ i < 16, ∀ j < 16, let u := State.tmmaRow t w ty s i
          let old := bits (s.oRow t d i) (32 * j) 32
          let row (o : Opnd) (r : Nat) := rowElems (s.oType t o) (s.oElems t a) (s.oRow t o r)
          bits (u.oRow t d i) (32 * j) 32 = (if s.oRows t b ≤ j then old
            else tmmaElem (s.oType t a) (s.oType t b) ty (bit w 46) (bit w 47) old (row a i) (row b j) % 2 ^ 32) ∧
          (∀ r < 16, r ≠ i → s.oEmpty t d = false → u.oRow t d r = s.oRow t d r)))) ∧
    (op = 5 → (∀ e, s.tewShape t w = .inr e → exec (.tew t n) s = .next (s.shapeFault t pc e (tewOpnds w))) ∧
      (∀ ty, s.tewShape t w = .inl ty → exec (.tew t n) s = .next (s.tileRows t pc n (s.oRows t ((tewOpnds w).getD 1 ⟨false, 0⟩)) (rowCycles 2 1)
        (cleanRow (State.tewDo t w ty))))) ∧
    (op = 6 → let a : Opnd := ⟨bit w 57, bits w 53 4⟩
      let vd := bits w 49 4
      (s.oType t a = 0 → exec (.tred t n) s = .next (s.shapeFault t pc (if a.acc then 7 else 1) [a])) ∧
      (s.oType t a ≠ 0 → bit w 48 = true → 16 < s.oElems t a → exec (.tred t n) s = .next (s.shapeFault t pc 6 [a])) ∧
      (s.oType t a ≠ 0 → (bit w 48 = false ∨ s.oElems t a ≤ 16) → exec (.tred t n) s = .next (s.tileRows t pc n (s.oRows t a) (rowCycles 2 1)
        (cleanRow (fun u r => u.setVreg t vd (tredRow (s.oType t a) (bits w 46 2) (s.oElems t a) (u.oRows t a) r (bit w 48) (bit w 45) (u.oRow t a r)
          (u.vreg t vd))))))) ∧
    (op = 7 → let a : Opnd := ⟨bit w 57, bits w 53 4⟩
      let d : Opnd := ⟨false, bits w 50 3⟩
      let src := s.oType t a
      let dst := s.oType t d
      let cb := ceilDiv (s.oElems t a * elemBits dst) 8
      (dst = 0 ∨ src = 0 ∧ a.acc = false → exec (.tcvt t n) s = .next (s.shapeFault t pc 1 [d, a])) ∧
      (dst ≠ 0 → src = 0 → a.acc = true → exec (.tcvt t n) s = .next (s.shapeFault t pc 7 [d, a])) ∧
      (src ≠ 0 → dst ≠ 0 → (src = 8 ∨ dst = 8) → exec (.tcvt t n) s = .next (s.shapeFault t pc 2 [d, a])) ∧
      (src ≠ 0 → dst ≠ 0 → src ≠ 8 → dst ≠ 8 → 64 < cb → exec (.tcvt t n) s = .next (s.shapeFault t pc 6 [d, a])) ∧
      (src ≠ 0 → dst ≠ 0 → src ≠ 8 → dst ≠ 8 → cb ≤ 64 → exec (.tcvt t n) s = .next (s.tileRows t pc n (s.oRows t a) (rowCycles 2 1)
        (cleanRow (fun u r => (u.takeShape t d dst (s.oRows t a) cb).setRow t d r (packElems dst
          ((rowElems src (s.oElems t a) (u.oRow t a r)).map (tcvtElem src dst (bits w 45 5) (bit w 44) (bit w 43))))))))) ∧
    (op = 8 → (s.tpairShape t w ≠ 0 → exec (.tpair t n) s = .next (s.shapeFault t pc (s.tpairShape t w) (tpairOpnds w))) ∧
      (s.tpairShape t w = 0 → exec (.tpair t n) s = .next (s.tileRows t pc n (s.oRows t ((tpairOpnds w).getD 1 ⟨false, 0⟩)) (rowCycles 2 2)
        (cleanRow (State.tpairDo t w))))) ∧
    (∀ c row, (op, c, row) ∈ [(2, Instr.tload t n, State.tloadRow), (3, Instr.tstore t n, State.tstoreRow)] →
      let ps := s.ldstParts t w
      let regs := (ps.filter (fun p => !p.vec)).map (fun p => p.o)
      let whole := ∀ o ∈ regs, o.acc = false → s.oType t o ≠ 0 → wholeElems (s.oType t o) (bits w 18 6 + 1) = true
      let agree := (bit w 28 = true → whole) ∧ (∀ o ∈ regs, s.oType t o ≠ 0 ∨ o.acc = true) ∧
        (op = 2 → ∀ o ∈ regs, o.acc = true → s.oEmpty t o = true ∨ s.oType t o = bits w 32 4)
      (bit w 28 = true → ¬ whole → exec c s = .next ((s.put (Reg.TSTART_ROW t) 0).tileFault t 2 pc 5)) ∧
      ((bit w 28 = true → whole) → (∃ o ∈ regs, o.acc = false ∧ s.oType t o = 0) → exec c s = .next (s.shapeFault t pc 1 regs)) ∧
      (op = 2 → (∃ o ∈ regs, o.acc = true ∧ s.oEmpty t o = false ∧ s.oType t o ≠ bits w 32 4) → exec c s = .next (s.shapeFault t pc 5 regs)) ∧
      (∀ r, agree → s.ldstBeyond t w ps = some r → exec c s = .next ((s.put (Reg.TSTART_ROW t) 0).tileFault t 3 pc (r % 256))) ∧
      (agree → s.ldstBeyond t w ps = none → let u := if bit w 28 then ps.foldl (fun u p => u.takeShape t p.o 0 p.rows p.colb) s else s
        let k := min (max 1 n) (partRows ps - s.get (Reg.TSTART_ROW t))
        exec c s = .next ((u.draw.tileCycles t (u.drawn 32 % (14 * k + 1))).tileRows t pc n (partRows ps)
          (fun r => ldstCycles w r + s.ownDelays t w ps r) (row t w ps))))) ∧
  (∀ (t w r : Nat) (ps : List RowPart) (s : State) (x : Nat),
    (∀ p ∈ ps, r < p.rows → x < storeAddr t (s.partAddr t w p r) ∨ storeAddr t (s.partAddr t w p r) + 64 ≤ x) →
    (State.tstoreRow t w ps s r).1.byteAt x = s.byteAt x) ∧
  (∀ (t w r : Nat) (ps : List RowPart) (s : State), SameMemory s (State.tloadRow t w ps s r).1)

/-- Starting, stepping, halting and clearing a tile, its instruction memory and its context (R285, R286, R290, R292, R293, R294, R297,
spec/10_matrix_tiles.md Table TILE-5). On a powered fabric: a write of TCTRL with START or STEP starts a halted, unfaulted tile of a
loaded, unfrozen region (from TCTRL.PC with TSTART cleared where FROM_PC is written with START), and waits, behind those that wait
already, while a context save or restore runs; HALT halts a running tile that does not stall with CAUSE 0; CLR_FAULT clears TFAULT
and FAULTED. A write of an instruction's low word is held and the high word changes the instruction, and while the tile runs both
are discarded with WERR. TILE_CTX_COMPLETE of a save writes the record at its address, sets TEVT.CTX and answers its length.
TILE_START and TILE_HALT of one tile that does not suit are refused with their STATE, TILE_HALT halts a tile that does not stall,
TILE_CTX_SAVE starts a save, TILE_FAULT_CLEAR clears faulted tiles; for TILE 0xFF the replies of TILE_START and TILE_FAULT_CLEAR
count the tiles that it did not suit (the place of that count in the latter is the model's, log entry 92). -/
def Obligations.TileControl : Prop :=
  (∀ (t : Fin 192) (w : Word) (s : State), s.fabricPowered = true →
    let ctrl := (((s.put (Reg.TCTRL_ASID t) (bits w.toNat 24 8)).put (Reg.TCTRL_PC t) (bits w.toNat 8 12)).put (Reg.TCTRL_CTX t) (bits w.toNat 5 1)).put
      (Reg.TCTRL_FROM_PC t) (bits w.toNat 4 1)
    (∀ c step, (c, step) ∈ [(Instr.tctrlStart t w, false), (.tctrlStep t w, true)] → bit w.toNat 0 = (!step) → (step = true → bit w.toNat 2 = true) →
      bit w.toNat 1 = false → bit w.toNat 3 = false → (s.tx t).ctx = none → s.tileRuns t = false → s.flag (Reg.TSTAT_FAULTED t) = false →
      s.tileShut t = false → s.quiescing = false → ∃ u, exec c s = .next u ∧ u.flag (Reg.TSTAT_RUN t) = true ∧ (u.tx t).step = step ∧
        u.get (Reg.TSTAT_PC t) = (if bit w.toNat 4 && !step then bits w.toNat 8 12 else s.get (Reg.TSTAT_PC t)) ∧
        u.get (Reg.TSTART_ROW t) = (if bit w.toNat 4 && !step then 0 else s.get (Reg.TSTART_ROW t)) ∧ u = { s with regs := u.regs, tu := u.tu }) ∧
    (bit w.toNat 0 = true → bit w.toNat 1 = false → bit w.toNat 3 = false → (s.tx t).ctx.isSome = true →
      exec (.tctrlStart t w) s = .next (ctrl.setTx t { s.tx t with startWait := (s.tx t).startWait ++ [false] })) ∧
    (bit w.toNat 0 = false → bit w.toNat 1 = true → bit w.toNat 2 = false → bit w.toNat 3 = false → s.tu.halts = [] → s.tileRuns t = true →
      (s.tx t).stall = none → ∃ u, exec (.tctrlHalt t w) s = .next u ∧ u.flag (Reg.TSTAT_RUN t) = false ∧ u.get (Reg.TSTAT_CAUSE t) = 0 ∧
        u.get (Reg.TSTAT_PC t) = s.get (Reg.TSTAT_PC t) ∧ u.get (Reg.TSTART_ROW t) = s.get (Reg.TSTART_ROW t) ∧ u.win = s.win ∧ u.mem = s.mem ∧
        u.tu.rows = s.tu.rows) ∧
    (bit w.toNat 0 = false → bit w.toNat 1 = false → bit w.toNat 2 = false → bit w.toNat 3 = true →
      exec (.tctrlClrFault t w) s = .next ((ctrl.clearRegs (tileWin t + 0x8010) (tileWin t + 0x8020)).put (Reg.TSTAT_FAULTED t) 0))) ∧
  (∀ (req : Requester) (t : Fin 192) (k : Fin 4096) (w : Word) (s : State), s.fabricPowered = true → let a := tileWin t + 8 * k
    (s.tileRuns t = false → exec (.tileInstrWrite req t k false w) s = .next (s.hold req a w.toNat) ∧
      (∀ lo, s.addr.held = [{ req := req, addr := a, word := lo }] → ∃ u, exec (.tileInstrWrite req t k true w) s = .next u ∧
        u.tileWord t k = lo % 2 ^ 32 + w.toNat * 2 ^ 32 ∧ u.addr.held = [] ∧ (∀ j < 4096, j ≠ k.val → u.tileWord t j = s.tileWord t j) ∧
        u = { s with addr := u.addr, win := u.win })) ∧
    (s.tileRuns t = true → ∀ high, ∃ u, exec (.tileInstrWrite req t k high w) s = .next u ∧ u.flag (Reg.TSTAT_WERR t) = true ∧ u.win = s.win)) ∧
  (∀ (t : Fin 192) (k : CtxRun) (s : State), (s.tx t).ctx = some k → s.coresRun = true →
    (k.save = true → s.mustWait k.addr (s.ctxRecord t (k.mode == 1)).length = false → exec (.tileCtxComplete t) s = .next
      ((((s.netAccess t k.addr (s.ctxRecord t (k.mode == 1)).length true).writeMem 2 k.addr (s.ctxRecord t (k.mode == 1))).tileEvent t 2).ctxEnd t k.req (Ans.ok (leBytes 4 (s.ctxRecord t (k.mode == 1)).length)))) ∧
    (k.save = false → s.mustWait k.addr 1280 = false → let r := (s.netAccess t k.addr 1280 false).readMem 2 k.addr 1280
      let n := 1024 * popcount 12 (leAt r.2.1 4 2)
      let q := (r.1.netAccess t (k.addr + 1280) n false).readMem 2 (k.addr + 1280) n
      (r.2.2 = true → exec (.tileCtxComplete t) s = .next (r.1.ctxRefuse t 4 k.req)) ∧
      (∀ d, r.2.2 = false → r.1.ctxBad r.2.1 = some d → exec (.tileCtxComplete t) s = .next (r.1.ctxRefuse t d k.req)) ∧
      (r.2.2 = false → r.1.ctxBad r.2.1 = none →
        (r.1.ctxAddrBad k.addr (1280 + n) = true → exec (.tileCtxComplete t) s = .next (r.1.ctxEnd t k.req (Ans.code 7 4))) ∧
        (r.1.ctxAddrBad k.addr (1280 + n) = false → q.2.2 = true → exec (.tileCtxComplete t) s = .next (q.1.ctxRefuse t 4 k.req)) ∧
        (r.1.ctxAddrBad k.addr (1280 + n) = false → q.2.2 = false → exec (.tileCtxComplete t) s = .next
          (((q.1.ctxLoad t r.2.1 q.2.1).tileEvent t 2).ctxEnd t k.req (Ans.ok (leBytes 4 (leAt r.2.1 4 2)))))))) ∧
  (∀ (s b u : State) (p : Packet) (c : Ctx),
    (Reaches tileStartOp s p c b u → c.at 0 1 ≠ 0xFF → u.ctxRuns (c.at 0 1) = false → ∀ e, u.startRefused (c.at 0 1) = some e →
      exec (.tileStart p) s = .next (answered b c (u, Ans.code 0xE e))) ∧
    (Reaches tileStartOp s p c b u → c.at 0 1 ≠ 0xFF → u.ctxRuns (c.at 0 1) = false → u.startRefused (c.at 0 1) = none → u.fabricPowered = true →
      u.quiescing = false → ∃ v, exec (.tileStart p) s = .next (answered b c (v, Ans.ok (leBytes 4 (v.tstat (c.at 0 1)) ++ leBytes 4 0))) ∧
        v.flag (Reg.TSTAT_RUN (c.at 0 1)) = true ∧ v.get (Reg.TCTRL_PC (c.at 0 1)) = c.at 2 2 ∧ v = { u with regs := v.regs, tu := v.tu }) ∧
    (Reaches tileStartOp s p c b u → c.at 0 1 = 0xFF → u.ctxRuns 0xFF = false → ∃ v, exec (.tileStart p) s = .next (answered b c
      (v, Ans.ok (leBytes 4 (v.tstat 0) ++ leBytes 4 (192 - ((List.range 192).filter (fun t => (u.startRefused t).isNone)).length))))) ∧
    (Reaches tileStartOp s p c b u → u.ctxRuns (c.at 0 1) = true → exec (.tileStart p) s = .next (answered b c (u, Ans.late))) ∧
    (Reaches tileHaltOp s p c b u → (c.at 0 1 = 0xFF ∨ u.tileShut (c.at 0 1) = false) → (∀ t ∈ tilesOf (c.at 0 1), (u.tx t).stall = none) →
      ∃ v a, exec (.tileHalt p) s = .next (answered b c (v, a)) ∧ ∀ t ∈ tilesOf (c.at 0 1), v.flag (Reg.TSTAT_RUN t) = false) ∧
    (Reaches tileHaltOp s p c b u → c.at 0 1 ≠ 0xFF → u.tileShut (c.at 0 1) = true → exec (.tileHalt p) s = .next (answered b c (u, Ans.code 0xE 3))) ∧
    (Reaches tileCtxSaveOp s p c b u → u.ctxRefused (c.at 0 1) = none → ∃ v, exec (.tileCtxSave p) s = .next (answered b c (v, Ans.late)) ∧
      (∃ k, (v.tx (c.at 0 1)).ctx = some k ∧ k.save = true ∧ k.addr = c.at 4 8 ∧ k.req = c.p) ∧ v = { u with tu := v.tu }) ∧
    (Reaches tileStatusOp s p c b u → ∃ bytes, exec (.tileStatus p) s = .next (answered b c (u, Ans.ok bytes)) ∧ bytes.length = 68) ∧
    (Reaches tileFaultClearOp s p c b u → c.at 0 1 ≠ 0xFF → exec (.tileFaultClear p) s = .next (answered b c
      (if u.flag (Reg.TSTAT_FAULTED (c.at 0 1)) then
          (u.clearRegs (tileWin (c.at 0 1) + 0x8010) (tileWin (c.at 0 1) + 0x8020)).put (Reg.TSTAT_FAULTED (c.at 0 1)) 0 else u,
        Ans.ok (leBytes 4 (u.word (wordsTile (c.at 0 1) 0x8010)))))) ∧
    (Reaches tileFaultClearOp s p c b u → c.at 0 1 = 0xFF → ∃ v, exec (.tileFaultClear p) s = .next (answered b c
        (v, Ans.ok (leBytes 4 (u.word (wordsTile 0 0x8010)) ++
          leBytes 4 (192 - ((List.range 192).filter (fun t => u.flag (Reg.TSTAT_FAULTED t))).length)))) ∧
      ∀ t < 192, v.flag (Reg.TSTAT_FAULTED t) = false))

/-- A steeper's instructions, its accesses, and starting, halting, resuming and abandoning a stream (R348, R349, R351, R352, R353, R364,
R365, R366, R367, R408, spec/14_streams_and_handle_queues.md Table STRM-7). For a steeper that issues the legal instruction at its
PC: SETB and ADDB write their base register; LOOP opens a level or is STEEP_NEST; XFER copies both descriptors, and issues its first
access, or faults where a descriptor is poisoned or the layouts disagree; SWAIT and SSIG issue their operation on the object of
b[BK] and wait, or fault SYNC_ERR 0xFF; HPOP and HPUSH issue and wait, HPOP with a bad SHIFT is STEEP_ILLEGAL; END signals where
enabled, else the steeper is idle with DONE. An illegal word stops the stream with STEEP_ILLEGAL. The next instruction is the one
after, or a loop's first. TRANSFER_COMPLETE moves the bytes of an access that is ready, ends a remote write, or stops the stream
with the error that came back, a free number of the accesses behind it having taken effect. A walk that ends with a leaf is cached.
STEEP_START starts an idle steeper; HALT, RESUME and CLR_FAULT act as R367 states. -/
def Obligations.SteepProgramsAndStreams : Prop :=
  (∀ (t : Fin 192) (st : Fin 2) (s : State) (w : Nat), s.steepWord t st = some w → steepLegal s.ensId w = true →
    let x := s.sx t st
    let pc := s.get (Reg.STEEP_STAT_PC t st)
    let bk := bits w 57 3
    let B := Reg.STEEP_B_B t st (bk - 1)
    let imm := bits w 0 48
    let op := bits w 60 4
    (op = 1 → exec (.setb t st) s = .next ((s.put B ((imm + if bit w 56 then x.param else 0) % 2 ^ 48)).steepNext t st)) ∧
    (op = 2 → exec (.addb t st) s = .next ((s.put B ((s.get B + imm) % 2 ^ 48)).steepNext t st)) ∧
    (op = 3 → let e := bits w 54 6
      let nests := pc < e ∧ x.loops.length < 6 ∧ ∀ l, x.loops.getLast? = some l → e ≤ l.last
      (nests → ∃ u, exec (.loop t st) s = .next u ∧ (u.sx t st).loops = x.loops ++ [{ first := pc + 1, last := e, left := bits w 0 24 }] ∧
        u.get (Reg.STEEP_STAT_PC t st) = (pc + 1) % 64 ∧ u.get (Reg.STEEP_STAT_LEVEL t st) = x.loops.length + 1 ∧
        u = { s with regs := u.regs, tu := u.tu }) ∧
      (¬ nests → exec (.loop t st) s = .next (s.steepStop t st 7 pc false false))) ∧
    (op = 4 → let a := s.readDesc t (xSrow w)
      let b := a.1.readDesc t (xDrow w)
      let src := a.2.1.withBase (b.1.breg t st (xBs w))
      let dst := b.2.1.withBase (b.1.breg t st (xBd w))
      (a.2.2 = true → exec (.xfer t st) s = .next ((b.1.put (Reg.STEEP_FADDR_ADDR t st) (storeAddr t (xSrow w * 64))).steepStop t st 0xB 0 false false)) ∧
      (a.2.2 = false → b.2.2 = true →
        exec (.xfer t st) s = .next ((b.1.put (Reg.STEEP_FADDR_ADDR t st) (storeAddr t (xDrow w * 64))).steepStop t st 0xB 0 false true)) ∧
      (∀ f, a.2.2 = false → b.2.2 = false → layoutFault src dst = some f → exec (.xfer t st) s = .next ((b.1.put (Reg.STEEP_FADDR_ADDR t st) (Desc.base (if f.2.2 then dst else src))).steepStop t st f.1 f.2.1
        (if f.2.2 then xRdst w else xRsrc w) f.2.2)) ∧
      (a.2.2 = false → b.2.2 = false → layoutFault src dst = none →
        let k : Walk := ⟨w, src, dst, 0, src.count, 0, 0, 0, none, none, 0, false, none, .idle⟩
        exec (.xfer t st) s = .next ((b.1.setSx t st { b.1.sx t st with walk := some k }).steepIssue t st))) ∧
    (∀ c wait fn, (op, c, wait, fn) ∈ [(5, Instr.steepSwait t st, true, 0), (6, .steepSsig t st, false, bits w 53 4)] →
      (2 ^ 23 ≤ s.breg t st bk → exec c s = .next (s.steepStop t st 9 0xFF false false)) ∧
      (s.breg t st bk < 2 ^ 23 → objDev (s.breg t st bk) = s.ensId → x.kept = none → ∃ u, exec c s = .next u ∧
        u.sync.ops = s.sync.ops ++ [{ key := s.sync.next, who := .steeper t st, obj := s.breg t st bk, wait := wait, fn := fn, v := imm,
                                      opid := 2 ^ 32, epoch := 0, phase := .flight, withdrawn := false }] ∧
        (u.sx t st).wait = some (s.sync.next, true) ∧ u = { s with sync := u.sync, tu := u.tu, mesh := u.mesh }) ∧
      (s.breg t st bk < 2 ^ 23 → let r := s.issueSync (.steeper t st) (s.breg t st bk) wait fn imm (x.keptFor pc)
        exec c s = .next (r.1.setSx t st { r.1.sx t st with wait := some (r.2, true) }))) ∧
    (op = 7 → (s.get (Reg.HPOOL_SHIFT t st) < 6 ∨ 30 < s.get (Reg.HPOOL_SHIFT t st)) → exec (.steepHpop t st) s = .next (s.steepStop t st 6 pc false false)) ∧
    (∀ c k h, (op, c, k, h) ∈ [(7, Instr.steepHpop t st, bk, none), (8, .steepHpush t st, 0, some (s.get (Reg.STEEP_H_HANDLE t st (bits w 55 2))))] →
      (op = 7 → 6 ≤ s.get (Reg.HPOOL_SHIFT t st) ∧ s.get (Reg.HPOOL_SHIFT t st) ≤ 30) → ∃ u, exec c s = .next u ∧
        u.hq.ops = s.hq.ops ++ [{ key := s.hq.next, who := .steeper t st k (bits w 55 2), q := bits w 0 10, push := h, phase := .flight, withdrawn := false }] ∧
        (u.sx t st).wait = some (s.hq.next, false) ∧ u = { s with hq := u.hq, tu := u.tu, mesh := u.mesh }) ∧
    (op = 0 → s.flag (Reg.STEEP_DONE_EN t st) = false → ∃ u, exec (.steepEnd t st) s = .next u ∧ u.steepState t st = 0 ∧
      u.flag (Reg.STEEP_STAT_DONE t st) = true ∧ u.sx t st = SteepX.idle ∧ RegsBut [Reg.STEEP_STAT_DONE t st, Reg.STEEP_STAT_STATE t st] s u ∧
      u = { s with regs := u.regs, tu := u.tu }) ∧
    (op = 0 → s.flag (Reg.STEEP_DONE_EN t st) = true → objDev (s.get (Reg.STEEP_DONE_OBJ t st)) = s.ensId → x.kept = none →
      ∃ u, exec (.steepEnd t st) s = .next u ∧
        u.sync.ops = s.sync.ops ++ [{ key := s.sync.next, who := .done t st, obj := s.get (Reg.STEEP_DONE_OBJ t st), wait := false, fn := 0, v := 1,
                                      opid := 2 ^ 32, epoch := 0, phase := .flight, withdrawn := false }] ∧
        (u.sx t st).wait = some (s.sync.next, true))) ∧
  (∀ (t : Fin 192) (st : Fin 2) (s : State) (w : Nat), s.steepWord t st = some w → steepLegal s.ensId w = false →
    ∀ op c, (op, c) ∈ [(0, Instr.steepEnd t st), (1, .setb t st), (2, .addb t st), (3, .loop t st), (4, .xfer t st), (5, .steepSwait t st), (6, .steepSsig t st),
      (7, .steepHpop t st), (8, .steepHpush t st)] → (bits w 60 4 = op ∨ 9 ≤ bits w 60 4) →
      exec c s = .next (s.steepStop t st 6 (s.get (Reg.STEEP_STAT_PC t st)) false false)) ∧
  (∀ (t st : Nat) (s : State), let r := loopNext (s.sx t st).loops.reverse (s.get (Reg.STEEP_STAT_PC t st))
    (r.2 ≠ 64 → let u := s.steepNext t st
      u.get (Reg.STEEP_STAT_PC t st) = r.2 % 64 ∧ (u.sx t st).loops = r.1.reverse ∧ u.get (Reg.STEEP_STAT_LEVEL t st) = r.1.length % 8 ∧
      RegsBut [Reg.STEEP_STAT_PC t st, Reg.STEEP_STAT_LEVEL t st] s u ∧ u = { s with regs := u.regs, tu := u.tu })) ∧
  (∀ (t : Fin 192) (st : Fin 2) (s : State) (w : Walk), s.fabricPowered = true → s.plinthPowered = true → (s.cur = 0 ∨ s.moving = true) →
    s.steepState t st = 1 → (s.sx t st).walk = some w →
    (w.phase = .idle → exec (.transferComplete t st) s = .next (State.transferRest 63 t st (s.steepIssue t st))) ∧
    (∀ s1 b v, w.phase = .ready → xRdst w.word = false → (s.destReady t (w.requester t st) w.dstPa (Desc.w w.dst)).2 = true →
      (match Desc.access w.src w.n with
       | .pad p => s1 = (s.destReady t (w.requester t st) w.dstPa (Desc.w w.dst)).1 ∧ b = p
       | .at _ => (s.destReady t (w.requester t st) w.dstPa (Desc.w w.dst)).1.readSource t (w.requester t st) w.srcPa (Desc.w w.src) =
           .data s1 b false) →
      s1.writeDest t w.dstPa b = (v, true) → exec (.transferComplete t st) s = .next (State.transferRest 63 t st (v.accessDone t st))) ∧
    (∀ d p b, w.phase = .back 0 d p b → xRdst w.word = true → exec (.transferComplete t st) s = .next (State.transferRest 63 t st (s.accessDone t st))) ∧
    (∀ code d p b, w.phase = .back (code + 1) d p b → exec (.transferComplete t st) s = .next (State.transferRest 63 t st (s.accessError t st w (code + 1) d true (xRdst w.word)
      (if xRdst w.word then Desc.accessAddr w.dst w.n else Desc.accessAddr w.src w.n))))) ∧
  (∀ (t : Fin 192) (st : Fin 2) (i : Nat) (w : XlatWalk) (s s1 : State) (l : XlatEnt), s.plinthPowered = true → i < 4 → s.addr.invals = [] →
    s.addr.walkQ.findIdx? (fun w => w.t == t.val && w.st == st.val) = some i → s.addr.walkQ[i]? = some w → w.base = s.addr.xlatBase →
    s.runWalk i w = (s1, .leaf l) → (s1.sx t st).walk = none → s1.addr.invals = [] →
      ∃ u, exec (.xlatWalkDone t st) s = .next u ∧ l ∈ u.cache t ∧ u.addr.walkQ = s.addr.walkQ.eraseIdx i ∧
        u.addr.walks = (s.addr.walks + 1) % 2 ^ 64 ∧ u = { s1 with addr := u.addr }) ∧
  (∀ (t : Fin 192) (st : Fin 2) (w : Word) (s : State), s.fabricPowered = true →
    let ctrl := (s.put (Reg.STEEP_CTRL_PBASE t st) (bits w.toNat 6 12)).put (Reg.STEEP_CTRL_IRQ_EN t st) (bits w.toNat 3 1)
    (s.steepState t st = 0 → exec (.steepStart t st w) s = .next (s.startStream t st (bits w.toNat 0 6) (s.get (Reg.STEEP_PARAM_PARAM t st)))) ∧
    (s.steepState t st ≠ 0 → exec (.steepStart t st w) s = .next s) ∧
    (bit w.toNat 0 = false → bit w.toNat 1 = false → bit w.toNat 2 = true → s.steepState t st = 2 → s.frozen (tileRegion t) = false →
      s.quiescing = false → (s.sx t st).walk = none → s.get (Reg.STEEP_FAULT_CODE t st) ≠ 6 →
      exec (.steepResume t st w) s = .next (ctrl.put (Reg.STEEP_STAT_STATE t st) 1)) ∧
    (bit w.toNat 0 = false → bit w.toNat 1 = true → bit w.toNat 2 = false →
      (s.steepState t st = 3 ∨ s.steepState t st = 1 ∧ (s.sx t st).wait = none ∧ (s.sx t st).walk = none) → ∃ u, exec (.steepHalt t st w) s = .next u ∧
        u.steepState t st = 2 ∧ u.get (Reg.STEEP_FAULT_CODE t st) = 0xC ∧ u.get (Reg.STEEP_FAULT_DETAIL t st) = 1 ∧
        u.get (Reg.STEEP_STAT_PC t st) = s.get (Reg.STEEP_STAT_PC t st) ∧ (u.sx t st).haltReq = none ∧ u = { s with regs := u.regs, tu := u.tu }) ∧
    (bit w.toNat 0 = true → bit w.toNat 1 = false → bit w.toNat 2 = false → s.steepState t st = 2 → ∃ u, exec (.steepClrFault t st w) s = .next u ∧
      u.steepState t st = 0 ∧ u.sx t st = SteepX.idle ∧ u.flag (Reg.STEEP_STAT_DONE t st) = s.flag (Reg.STEEP_STAT_DONE t st) ∧
      u = { s with regs := u.regs, tu := u.tu })) ∧
  (∀ (s : State) (t st entry param : Nat), let pb := s.get (Reg.STEEP_CTRL_PBASE t st) * 64
    let r := s.rowPoison t (pb / 64) 8
    r.2 = false → r.1.frozen (tileRegion t) = false → r.1.quiescing = false → entry < 64 → let u := s.startStream t st entry param
      u.steepState t st = 1 ∧ u.get (Reg.STEEP_STAT_PC t st) = entry ∧ u.get (Reg.STEEP_STAT_LEVEL t st) = 0 ∧
      (∀ k < 7, u.get (Reg.STEEP_B_B t st k) = 0) ∧ (∀ k < 4, u.get (Reg.STEEP_H_HANDLE t st k) = 0) ∧
      u.sx t st = { SteepX.idle with prog := r.1.copyProg t pb, param := param } ∧ u.mem = s.mem) ∧
  (∀ (s b u : State) (p : Packet) (c : Ctx), Reaches streamStartOp s p c b u →
    (u.steepState (c.at 0 1) (c.at 1 1) ≠ 0 → exec (.streamStart p) s = .next (answered b c (u, Ans.code 0xE 4))) ∧
    (u.steepState (c.at 0 1) (c.at 1 1) = 0 → let v := u.startStream (c.at 0 1) (c.at 1 1) (c.at 2 1) (c.at 4 4)
      exec (.streamStart p) s = .next (answered b c (v, Ans.ok (leBytes 4 (v.steepStat (c.at 0 1) (c.at 1 1)))))))

/-- Reads of wide values, read-to-clear fields, the key FIFO, captures and the selected log entry (R11, R112, R400, R550, R611,
spec/16_address_map_and_tile_network.md). While the CSR space is live, a naturally aligned read of 1, 2 or 4 bytes returns the
addressed bytes of its word: a read of a wide value's low word answers it, latches every word for the requester, each higher word
fresh, and clears the RC fields of the low word; a read of a higher word answers the latched one, and sets the requester's STALE
where it is not fresh or nothing is latched; SYS_STALE answers and clears the requester's own bit; a read of a word with RC fields
answers it and clears those; KEY_FIFO answers the oldest entry and removes it, 0 where empty; a capture and the selected log entry
are read as wide values. No read changes memory. While it is not live, nothing happens. -/
def Obligations.CsrReads : Prop :=
  (∀ (req : Requester) (a width n : Nat) (s : State), let b := a / 4 * 4
    s.csrLive = true → natural a width = true → wideOf b = some (b, n) → n ≠ 0 →
    ∃ u, exec (.wideValueLowRead req ⟨a, width⟩) s = .next u ∧ u.addr.readData = narrowed a width (s.csrShow b) ∧
      u.addr.shadows.find? (fun h => h.req == req && h.addr == b) =
        some { req := req, addr := b, words := (List.range n).map (fun k => s.csrShow (b + 4 * k)), fresh := List.replicate n true } ∧
      (∀ h ∈ s.addr.shadows, ¬ (h.req = req ∧ h.addr = b) → h ∈ u.addr.shadows) ∧
      (∀ f, (csrWord b).filter (fun f => f.acc == .rc) = [f] → bits (u.get f.home) f.off f.width = 0) ∧ u.mem = s.mem ∧ u.win = s.win) ∧
  (∀ (req : Requester) (a width lo n : Nat) (s : State), let b := a / 4 * 4
    s.csrLive = true → natural a width = true → wideOf b = some (lo, n) → lo ≠ b → let k := (b - lo) / 4
    (∀ h, s.addr.shadows.find? (fun h => h.req == req && h.addr == lo) = some h → ∃ u, exec (.wideValueHighRead req ⟨a, width⟩) s = .next u ∧
      u.addr.readData = narrowed a width (h.words.getD k 0) ∧ (h.fresh.getD k false = false → req ∈ u.addr.stale) ∧
      (h.fresh.getD k false = true → u.addr.stale = s.addr.stale) ∧ u = { s with addr := u.addr }) ∧
    (s.addr.shadows.find? (fun h => h.req == req && h.addr == lo) = none → ∃ u, exec (.wideValueHighRead req ⟨a, width⟩) s = .next u ∧
      u.addr.readData = 0 ∧ req ∈ u.addr.stale ∧ u.addr.shadows = s.addr.shadows ∧ u = { s with addr := u.addr })) ∧
  (∀ (req : Requester) (s : State), s.csrLive = true → ∃ u, exec (.sysStaleRead req) s = .next u ∧
    u.addr.readData = (if req ∈ s.addr.stale then 1 else 0) ∧ req ∉ u.addr.stale ∧ (∀ r ∈ s.addr.stale, r ≠ req → r ∈ u.addr.stale) ∧
    u = { s with addr := u.addr }) ∧
  (∀ (req : Requester) (a width : Nat) (s : State), let b := a / 4 * 4
    s.csrLive = true → natural a width = true → (csrWord b).any (fun f => f.acc == .rc) = true → wideOf b = none →
    inSealed b = false → b ≠ 8 → ¬ (0x3000000 ≤ b ∧ b < 0x3010000) → ¬ (0xB0000 ≤ b ∧ b < 0xC0000) → ¬ (0x1C00000 ≤ b ∧ b < 0x1F00000) →
    ∃ u, exec (.rcFieldRead req ⟨a, width⟩) s = .next u ∧ u.addr.readData = narrowed a width (s.csrShow b) ∧
      (∀ f, (csrWord b).filter (fun f => f.acc == .rc) = [f] → bits (u.get f.home) f.off f.width = 0) ∧ u.mem = s.mem ∧ u.win = s.win) ∧
  (∀ (req : Requester) (a width : Nat) (s : State), let b := a / 4 * 4
    s.csrLive = true → natural a width = true →
    (b = 8 → ∃ u, exec (.rcFieldRead req ⟨a, width⟩) s = .next u ∧ u.addr.readData = narrowed a width (if req ∈ s.addr.stale then 1 else 0) ∧
      req ∉ u.addr.stale) ∧
    (b = 0xB0308 → ∃ u, exec (.rcFieldRead req ⟨a, width⟩) s = .next u ∧ u.addr.readData = narrowed a width (s.door.keyFifo.headD 0) ∧
      u.door.keyFifo = s.door.keyFifo.drop 1)) ∧
  (∀ (s : State), s.csrLive = true →
    (∀ k r, s.door.keyFifo = k :: r → ∃ u, exec .keyFifoRead s = .next u ∧ u.addr.readData = k ∧ u.door.keyFifo = r) ∧
    (s.door.keyFifo = [] → ∃ u, exec .keyFifoRead s = .next u ∧ u.addr.readData = 0 ∧ u.door.keyFifo = [])) ∧
  (∀ (req : Requester) (c : Fin 20) (s : State), s.csrLive = true → ∃ u, exec (.captureRead req c) s = .next u ∧
    u.addr.readData = s.csrShow (captureAddr c) ∧ (∃ h ∈ u.addr.shadows, h.req = req ∧ h.addr = captureAddr c ∧
      h.words = (List.range 4).map (fun k => s.csrShow (captureAddr c + 4 * k)) ∧ h.fresh = [true, true, true, true])) ∧
  (∀ (req : Requester) (s : State), s.csrLive = true → ∃ u, exec (.logDataRead req) s = .next u ∧
    (∀ e, s.log.ring.find? (fun e => e.seq == s.get Reg.LOG_SEL_SEQ) = some e → u.addr.readData = leAt (logBytes e) 0 4 ∧
      (∃ h ∈ u.addr.shadows, h.req = req ∧ h.addr = 0xD0040 ∧ h.words = (List.range 8).map (fun k => leAt (logBytes e) (4 * k) 4))) ∧
    (s.log.ring.find? (fun e => e.seq == s.get Reg.LOG_SEL_SEQ) = none → u.addr.readData = 0)) ∧
  (∀ (req : Requester) (a width : Nat) (c : Fin 20) (s : State), s.csrLive = false → ∀ i ∈ [Instr.wideValueLowRead req ⟨a, width⟩,
    .wideValueHighRead req ⟨a, width⟩, .sysStaleRead req, .rcFieldRead req ⟨a, width⟩, .keyFifoRead, .captureRead req c, .logDataRead req], exec i s = .next s)

/-- Register writes, wide values written, PEEK, POKE, and host access through BAR4 (R10, R11, R12, R401, R67, R396, R398,
spec/16_address_map_and_tile_network.md). While the CSR space is live: a write narrower than 32 bits, or (the model's choice, log
entry 82) not aligned, is discarded, but in a sealed-port window, where it is refused and logged; a write of an address where
nothing is defined changes nothing; a word of a wide value but the highest is held for its requester, and the highest writes the
value whole with the words held; a plain register takes its RW fields, clears its W1C bits, and keeps RO and reserved bits. PEEK
answers the words, changes nothing but measured values and engine banks served, and refuses the key and sealed-port blocks; POKE
refuses its blocks and writes its words otherwise. In DOZE BAR4 completes with Unsupported Request. BAR4 reads and writes memory,
completes with Unsupported Request outside it, waits for a channel that trains, and its write changes only the bytes written. -/
def Obligations.CsrWritesAndBar4 : Prop :=
  (∀ (req : Requester) (a width : Nat) (w : Word) (s : State),
    (s.csrLive = false ∨ 0x4000000 ≤ a → exec (.registerWrite req a width w) s = .next s) ∧
    (s.csrLive = true → inSealed a = false → width ≠ 4 ∨ a % 4 ≠ 0 → exec (.registerWrite req a width w) s = .next s) ∧
    (s.csrLive = true → inSealed a = true → exec (.registerWrite req a width w) s =
      .next ((s.netCsr (requesterPlace req) a true).portDeny (if a < 0xAC000 then 0 else 1)
        (match req with | .tile t => t.val | .host => 0xFFFF))) ∧
    (width = 4 → s.csrLive = true → a % 4 = 0 → a < 0x4000000 → exec (.registerWrite req a width w) s = .next (s.csrWrite req a w.toNat)) ∧
    (s.csrLive = true → a % 4 = 0 → (wideOf a).isSome = true → exec (.wideValueWrite req a w) s = .next (s.csrWrite req a w.toNat)) ∧
    (s.csrLive = false → exec (.wideValueWrite req a w) s = .next s)) ∧
  (∀ (req : Requester) (a lo n w : Nat) (s : State), inSealed a = false → wideOf a = some (lo, n) → (inFabricWin a && !s.fabricPowered) = false →
    s.runningWin lo = none → a ≠ lo + 4 * (n - 1) → s.csrWrite req a w = (s.netCsr (requesterPlace req) a true).hold req a w) ∧
  (∀ (req : Requester) (a w : Nat) (s : State), let u := s.hold req a w
    u.addr.held.find? (fun h => h.req == req && h.addr == a) = some { req := req, addr := a, word := w } ∧
    (∀ h ∈ s.addr.held, ¬ (h.req = req ∧ h.addr = a) → h ∈ u.addr.held) ∧ u = { s with addr := u.addr }) ∧
  (∀ (req : Requester) (a lo n w : Nat) (s : State), inSealed a = false → wideOf a = some (lo, n) → (inFabricWin a && !s.fabricPowered) = false →
    s.runningWin lo = none → a = lo + 4 * (n - 1) →
    let q := s.netCsr (requesterPlace req) a true
    s.csrWrite req a w = (q.takeHeld req lo a).1.wideStore lo ((q.takeHeld req lo a).2 ++ [some w]) ∧
    (∀ h ∈ (q.takeHeld req lo a).1.addr.held, ¬ (h.req = req ∧ lo ≤ h.addr ∧ h.addr < a))) ∧
  (∀ (req : Requester) (a w : Nat) (s : State), wideOf a = none → csrWord a = [] → (0x30000 ≤ a ∧ a < 0x60000 ∨ 0x3010000 ≤ a) →
    s.csrWrite req a w = s.netCsr (requesterPlace req) a true) ∧
  (∀ (a w : Nat) (s : State) (b : Bitf), csrWord a = [b] →
    (b.acc = .rw → b.off = 0 → b.width = b.home.width → (s.fieldsPut a w).get b.home = bits w b.lsb b.width % 2 ^ b.width) ∧
    (b.acc = .ro → s.fieldsPut a w = s) ∧
    (b.acc = .w1c → b.off = 0 → b.width = 1 → b.home.width = 1 → s.get b.home ≤ 1 → (s.fieldsPut a w).get b.home = (if bit w b.lsb then 0 else s.get b.home))) ∧
  (∀ (s b u : State) (p : Packet) (c : Ctx),
    (Reaches peekOp s p c b u → (meets (c.at 0 4) (c.at 4 2) 0x30000 0x40000 || meets (c.at 0 4) (c.at 4 2) 0xA8000 0xB0000) = true →
      exec (.peek p) s = .next (answered b c (u, Ans.code 5 6))) ∧
    (Reaches peekOp s p c b u → (meets (c.at 0 4) (c.at 4 2) 0x30000 0x40000 || meets (c.at 0 4) (c.at 4 2) 0xA8000 0xB0000) = false →
      let v := u.measured (c.at 0 4) (c.at 4 2)
      exec (.peek p) s = .next (answered b c (v, Ans.ok ((List.range (c.at 4 2)).flatMap (fun k => leBytes 4 (v.csrShow (c.at 0 4 + 4 * k))))))) ∧
    (Reaches pokeOp s p c b u → pokeRefused (c.at 0 4) (pokeData c).length = true → exec (.poke p) s = .next (answered b c (u, Ans.code 5 6))) ∧
    (Reaches pokeOp s p c b u → pokeRefused (c.at 0 4) (pokeData c).length = false →
      exec (.poke p) s = .next (answered b c (u.pokeWords [] (c.at 0 4) (pokeData c), Ans.ok [])))) ∧
  (∀ (a n : Nat) (s : State), (a + 4 * n ≤ 0xB0000 ∨ 0xC0000 ≤ a) → (a + 4 * n ≤ 0x1C00000 ∨ 0x1F00000 ≤ a) → s.measured a n = s) ∧
  (∀ (off len : Nat) (wr : Option (List Byte)) (s : State), s.plinthPowered = true → s.kettleOn = true → s.cur = 2 →
    exec (.bar4Access off len wr) s = .next { s with addr := { s.addr with bar4 := (1, false, []) } }) ∧
  (∀ (off len : Nat) (wr : Option (List Byte)) (s : State), s.csrLive = true → let a := s.get Reg.SYS_BAR4_BASE * 2 ^ 34 + off
    let n := match wr with | some b => b.length | none => len
    off + n ≤ 2 ^ 34 →
    (s.allMem a n = false → exec (.bar4Access off len wr) s = .next { s with addr := { s.addr with bar4 := (1, false, []) } }) ∧
    (s.allMem a n = true → s.mustWait a n = true → exec (.bar4Access off len wr) s = .next s) ∧
    (s.allMem a n = true → s.mustWait a n = false → ∀ v, s.admitAll .pcie (blocks64 a n) = (v, true) →
      (∀ b, wr = some b → ∃ u, exec (.bar4Access off len wr) s = .next u ∧ u.addr.bar4 = (0, false, []) ∧
        (∀ x, (x < a ∨ a + n ≤ x) → u.byteAt x = s.byteAt x) ∧
        ((∀ x, a ≤ x + 63 → x < a + n → tget 0 s.ecc x = 0) → ∀ k < n, u.byteAt (a + k) = b.getD k 0)) ∧
      (wr = none → ∃ u, exec (.bar4Access off len wr) s = .next u ∧ u.addr.bar4 = (0, ((v.netAccess plinthPlace a n false).readMem 3 a n).2.2, s.bytesAt a n) ∧ SameMemory s u)))

/-- Refresh, scrubbing, throttling, training, self-refresh, injected errors and the camera ring (R422, R427, R432, R433, R435, R436,
R439, R443, R446, R448, spec/17_caddy_and_external_dram.md). REFRESH_DUE on a running channel: with requests queued and a debt below
8 the debt grows by one and MAXDEBT follows, else the debt is 0 and every row of the channel is closed; no owed neighbour refresh of
the channel is left. MR4_POLL keeps the reported rate. THROTTLE_WINDOW_END forgets the channel's activates and waits and no other's.
SCRUB_READ of a clean block changes nothing but the pass count, of a correctable one corrects it, of poison leaves it.
XDRAM_TRAIN_DONE: with no training nothing; else each populated channel is ready (2) where its record passed and failed (4) where
not; a restart whose stored results cannot be used clears STORED. XDRAM_SELF_REFRESH_EXIT makes the channel ready, after a supply
loss restarts it. MEM_INJECT marks its block and waits for a channel that trains. CAMERA_RING_WRITE in DOZE, by the receiver that
DOZE was entered with, writes its bytes inside the linear window of the channel set then, while that channel runs, and no other
byte, and is discarded outside it; by another receiver nothing. -/
def Obligations.MemoryChannelEvents : Prop :=
  (∀ (ch : MemChannel) (q : Bool) (s : State), let k := chKey ch
    let d := chFld Reg.XCH_REF_DEBT Reg.CCH_REF_DEBT k
    let m := chFld Reg.XCH_REF_MAXDEBT Reg.CCH_REF_MAXDEBT k
    (s.chRuns k = false → exec (.refreshDue ch q) s = .next s) ∧
    (s.chRuns k = true → q = true → s.get d < 8 → ∃ t, exec (.refreshDue ch q) s = .next t ∧ t.get d = s.get d + 1 ∧
      (s.get m ≤ 8 → t.get m = max (s.get m) (s.get d + 1)) ∧ RegsBut [d, m] s t ∧ (∀ e ∈ t.mu.owed, e.1 ≠ k) ∧
      t = { s with regs := t.regs, mu := { s.mu with rows := t.mu.rows, rowAt := t.mu.rowAt, owed := t.mu.owed } }) ∧
    (s.chRuns k = true → (q = false ∨ 8 ≤ s.get d) → ∃ t, exec (.refreshDue ch q) s = .next t ∧ t.get d = 0 ∧ RegsBut [d] s t ∧
      (∀ e ∈ t.mu.rows, e.1 / 32 ≠ k) ∧ (∀ e ∈ t.mu.owed, e.1 ≠ k) ∧
      t = { s with regs := t.regs, mu := { s.mu with rows := t.mu.rows, rowAt := t.mu.rowAt, owed := t.mu.owed } })) ∧
  (∀ (ch : Fin 4) (r : Nat) (s : State), s.chRuns ch = true → ∃ t, exec (.mr4Poll ch r) s = .next t ∧
    (ch.val < s.mu.mr4.length → t.mu.mr4[ch.val]? = some r) ∧ (∀ k, k ≠ ch.val → t.mu.mr4[k]? = s.mu.mr4[k]?) ∧
    t = { s with mu := { s.mu with mr4 := t.mu.mr4 } }) ∧
  (∀ (ch : MemChannel) (s : State), ∃ t, exec (.throttleWindowEnd ch) s = .next t ∧ (∀ e ∈ t.mu.acts, e.1 ≠ chKey ch) ∧
    (∀ e ∈ t.mu.waits, e.1 ≠ chKey ch) ∧ (∀ r b, t.actsOf (chKey ch) r b = 0) ∧
    (∀ k r b, k ≠ chKey ch → t.actsOf k r b = s.actsOf k r b ∧ (t.mu.waits.contains (k, r, b) = s.mu.waits.contains (k, r, b))) ∧
    t = { s with mu := { s.mu with acts := t.mu.acts, waits := t.mu.waits } }) ∧
  (∀ (ch : MemChannel) (a : Nat) (s : State), let k := chKey ch
    s.chRuns k = true → (s.place a).key = some k → s.get (chFld Reg.XCH_SCRUB_PERIOD Reg.CCH_SCRUB_PERIOD k) ≠ 0 → s.canPoison a = true →
    ∃ t, exec (.scrubRead ch a) s = .next t ∧ SameMemory s t ∧ t.mem = s.mem ∧
      (a < 0x300000000 → s.lastBlock (s.place a) = false →
        (tget 0 s.ecc (a / 64 * 64) = 0 → t = s) ∧ (tget 0 s.ecc (a / 64 * 64) = 1 → tget 0 t.ecc (a / 64 * 64) = 0) ∧
        (2 ≤ tget 0 s.ecc (a / 64 * 64) → t.ecc = s.ecc))) ∧
  (∀ (recs : List (List Byte)) (s : State), let rs := recs.map (padTo 128)
    (s.mu.training = .none → exec (.xdramTrainDone recs) s = .next s) ∧
    (s.mu.training = .full → exec (.xdramTrainDone recs) s = .next (s.trainEnd rs)) ∧
    (s.mu.training = .restart → s.retrainCause rs = 0 → exec (.xdramTrainDone recs) s = .next (s.trainEnd s.mu.stored)) ∧
    (s.mu.training = .restart → s.retrainCause rs = 4 → ∃ t, exec (.xdramTrainDone recs) s = .next t ∧ t.mu.training = .full ∧
      t.get Reg.XDRAM_STAT_STORED = 0 ∧ SameMemory s t)) ∧
  (∀ (rs : List (List Byte)) (s : State), let t := s.trainResults rs
    t.mu.training = .none ∧ t.mu.results = rs ∧ (∀ a, 0x1000000000 ≤ a → a < 0x2000000000 → tfind t.mem a = none) ∧
    (∀ a, (a < 0x1000000000 ∨ 0x2000000000 ≤ a) → tfind t.mem a = tfind s.mem a) ∧
    (∀ c, c < s.xP → c < 4 → t.xState c = (if recResult (rs.getD c []) = 0 then 2 else 4))) ∧
  (∀ (ch : Fin 4) (s : State),
    ((s.xState ch ≠ 3 ∨ s.stewardUp = false) → ∀ b, exec (.xdramSelfRefreshExit ch b) s = .next s) ∧
    (s.xState ch = 3 → s.stewardUp = true → ∃ t, exec (.xdramSelfRefreshExit ch false) s = .next t ∧ t.xState ch = 2 ∧
      (∀ c, c ≠ ch.val → c < 4 → t.xState c = s.xState c) ∧ t = { s with regs := t.regs }) ∧
    (s.xState ch = 3 → s.stewardUp = true →
      exec (.xdramSelfRefreshExit ch true) s = .next ((s.logEvent 0x0409 0 []).wakeTraining))) ∧
  (∀ (p : Packet) (s b u : State) (c : Ctx),
    (p.opcode = 0x0406 → s.mustWait (leAt p.payload 0 8) 1 = true → exec (.memInject p) s = .next s) ∧
    (s.mustWait (leAt p.payload 0 8) 1 = false → Reaches memInjectOp s p c b u → ∃ v, exec (.memInject p) s = .next (answered b c (v, Ans.ok [])) ∧
      tget 0 v.ecc (c.at 0 8) = c.at 8 1 + 1 ∧ (∀ k, k ≠ c.at 0 8 → tget 0 v.ecc k = tget 0 u.ecc k) ∧ v = { u with ecc := v.ecc })) ∧
  (∀ (r : Fin 4) (a : Nat) (bs : List Byte) (s : State), s.plinthPowered = true → bs ≠ [] → s.cur = 2 →
    (s.dozeCam ≠ some r.val → exec (.cameraRingWrite r a bs) s = .next s) ∧
    (s.dozeCam = some r.val → let c := s.dozeChannel
    let w := s.linearWindow c
    (w.1 ≤ a → a + bs.length ≤ w.2 → c < s.xP → s.xState c ≠ 2 → exec (.cameraRingWrite r a bs) s = .next s) ∧
    (w.1 ≤ a → a + bs.length ≤ w.2 → c < s.xP → s.xState c = 2 → ∃ t, exec (.cameraRingWrite r a bs) s = .next t ∧
      (s.xIecc = false → ∀ k < bs.length, t.byteAt (a + k) = bs.getD k 0) ∧ (∀ x, (x < a ∨ a + bs.length ≤ x) → t.byteAt x = s.byteAt x)) ∧
    ((a < w.1 ∨ w.2 < a + bs.length) → ∃ t, exec (.cameraRingWrite r a bs) s = .next t ∧ t.mu.dozeDrop = true ∧ SameMemory s t))) ∧
  (∀ (r : Fin 4) (a : Nat) (bs : List Byte) (s : State), s.plinthPowered = true → bs ≠ [] → s.cur ≠ 2 →
    ((blocks64 a bs.length).all (fun b => match s.place b with | .xdram c _ => s.xState c == 2 | _ => false) = false →
      exec (.cameraRingWrite r a bs) s = .next s) ∧
    ((blocks64 a bs.length).all (fun b => match s.place b with | .xdram c _ => s.xState c == 2 | _ => false) = true →
      exec (.cameraRingWrite r a bs) s = .next (if (s.admitAll (.csi r.val) (blocks64 a bs.length)).2 then
        (s.admitAll (.csi r.val) (blocks64 a bs.length)).1.writeMem 8 a bs else (s.admitAll (.csi r.val) (blocks64 a bs.length)).1)))

/-- Training, the boundary search, the line coding, markers and alignment of a serial lane (R451, R452, R453, R454, R455, R457, R458,
R461, R473, spec/18_serial_lanes.md). Training of a lane in use starts in STATE 1 with CDR, MARK and COMMA clear, LOST set where it
was aligned. Signal ends STATE 1; CDR lock starts adaptation (STATE 3), on the fast path the wait for TRAIN flits, and ends a
holdover; adaptation keeps the best CTLE code of its sweep and the taps unless FREEZE, sets EYEQ, and leads to STATE 4, or 7 below
EYEQ 32. A slip clears MARK and counts, the 64th fails the search; LANE_SLIP acts only in a manual search. A search step takes the
inversion of the first marker, aligns on a second true one and slips otherwise. Line bits that reach a receiver are turned by
RX_INV, cleared of stuffed bits with violations counted, and descrambled, the first 47 discarded; a receiver in step with a
transmitter recovers each bit without a violation. The word they end in, at a marker's place, records the sender; one wrong restarts
training. A comma aligns an 8b/10b lane, and each of its symbols counts one error unless valid. A failed lane trains again.
LANE_ALIGN fails with TIMEOUT. -/
def Obligations.LaneTrainingAndAlignment : Prop :=
  (∀ (l : Nat) (fast : Bool) (s : State), l < 32 → s.laneUsed l = true → let t := s.laneTrain l fast
    t.lnState l = 1 ∧ t.get (Reg.LN_STAT_CDR l) = 0 ∧ t.get (Reg.LN_STAT_MARK l) = 0 ∧ t.get (Reg.LN_STAT_MARK_INV l) = 0 ∧
    t.get (Reg.LN_STAT_COMMA l) = 0 ∧ (s.lnState l = 5 → t.get (Reg.LN_STAT_LOST l) = 1) ∧
    (l < s.lanes.length → (t.ln l).fast = fast ∧ (t.ln l).slips = 0 ∧
      (t.ln l).tx = (if fast then (s.ln l).tx else LaneX.fresh.tx)) ∧ (∀ k, k ≠ l → t.ln k = s.ln k) ∧
    RegsBut [Reg.LN_STAT_STATE l, Reg.LN_STAT_CDR l, Reg.LN_STAT_MARK l, Reg.LN_STAT_MARK_INV l, Reg.LN_STAT_COMMA l, Reg.LN_STAT_LOST l] s t ∧
    t = { s with regs := t.regs, lanes := t.lanes }) ∧
  (∀ (l : Fin 32) (s : State), s.plinthPowered = true → s.cur ≤ 1 → s.lnState l ≠ 0 →
    (¬ (l.val / 4 < 7 ∧ s.owner (l.val / 4) = 0 ∧ s.isUp (l.val / 4) = true ∧ l.val % 4 < s.hlWidth (l.val / 4)) →
      exec (.laneRestart l) s = .next (s.laneTrain l false)) ∧
    (l.val / 4 < 7 → s.owner (l.val / 4) = 0 → s.isUp (l.val / 4) = true → l.val % 4 < s.hlWidth (l.val / 4) →
      exec (.laneRestart l) s = .next ((s.laneTrain l false).linkDown (l.val / 4) 1))) ∧
  (∀ (l : Fin 32) (s : State), s.laneLive l = true → s.lnState l ≠ 0 → ∃ t, exec (.laneSignalDetect l) s = .next t ∧
    t.get (Reg.LN_STAT_SIG l) = 1 ∧ t.lnState l = (if s.lnState l = 1 then 2 else s.lnState l) ∧
    (s.flag (Reg.LN_STAT_SIG l) = true → t.lanes = s.lanes) ∧
    (s.flag (Reg.LN_STAT_SIG l) = false → l < s.lanes.length → (t.ln l).rx = LaneX.fresh.rx ∧ (t.ln l).rx8 = LaneX.fresh.rx8) ∧
    RegsBut [Reg.LN_STAT_SIG l, Reg.LN_STAT_STATE l] s t ∧ t = { s with regs := t.regs, lanes := t.lanes }) ∧
  (∀ (l : Fin 32) (s : State), s.laneLive l = true → s.flag (Reg.LN_STAT_SIG l) = true →
    (s.lnState l = 2 → ∃ t, exec (.laneCdrLock l) s = .next t ∧ t.get (Reg.LN_STAT_CDR l) = 1 ∧
      t.lnState l = (if (s.ln l).fast then 4 else 3) ∧ RegsBut [Reg.LN_STAT_CDR l, Reg.LN_STAT_STATE l] s t ∧
      t = { s with regs := t.regs, link := t.link }) ∧
    (s.lnState l = 6 → ∃ t, exec (.laneCdrLock l) s = .next t ∧ t.get (Reg.LN_STAT_CDR l) = 1 ∧ t.lnState l = 5 ∧
      (l < s.lanes.length → (t.ln l).confirm = true) ∧ RegsBut [Reg.LN_STAT_CDR l, Reg.LN_STAT_STATE l] s t ∧
      t = { s with regs := t.regs, lanes := t.lanes })) ∧
  (∀ (l : Fin 32) (sweep : List (Fin 65 × Fin 65)) (d : BitVec 24) (h v : Fin 65) (s : State), s.lnState l = 3 → s.laneLive l = true →
    ∃ t, exec (.laneAdaptDone l sweep d h v) s = .next t ∧ t.get (Reg.LN_STAT_EYEQ l) = min 255 (h.val * v.val / 16) ∧
      t.lnState l = (if min 255 (h.val * v.val / 16) < 32 then 7 else 4) ∧
      (s.flag (Reg.LN_CTRL_FREEZE l) = false → t.get (Reg.LN_EQ_CTLE l) = bestCtle sweep ∧ t.get (Reg.LN_EQ_DFE l) = d.toNat) ∧
      (s.flag (Reg.LN_CTRL_FREEZE l) = true → t.get (Reg.LN_EQ_CTLE l) = s.get (Reg.LN_EQ_CTLE l) ∧
        t.get (Reg.LN_EQ_DFE l) = s.get (Reg.LN_EQ_DFE l)) ∧ t.mem = s.mem ∧ t.win = s.win) ∧
  (∀ (sweep : List (Fin 65 × Fin 65)), let e (k : Nat) : Nat := min 255 ((sweep.getD k (0, 0)).1.val * (sweep.getD k (0, 0)).2.val / 16)
    bestCtle sweep < 16 ∧ ∀ k < 16, e k ≤ e (bestCtle sweep) ∧ (e k = e (bestCtle sweep) → bestCtle sweep ≤ k)) ∧
  (∀ (l : Fin 32) (s : State), s.lnState l = 7 → s.plinthPowered = true → s.cur ≤ 1 → exec (.alignRetry l) s = .next (s.laneTrain l false)) ∧
  (∀ (l : Fin 32) (line : List Bool) (s : State), s.holwellCoded l = false → s.flag (Reg.LN_STAT_CDR l) = true → s.laneLive l = true →
    let r := (s.ln l).rx8.take (s.flag (Reg.LN_STAT_COMMA l)) (line.map (fun b => b != s.flag (Reg.LN_CTRL_RX_INV l)))
    ∃ t, exec (.commaAlign ⟨l, line⟩) s = .next t ∧
      t.get (Reg.LN_ERR_CODE l) = satAdd (Reg.LN_ERR_CODE l).width (s.get (Reg.LN_ERR_CODE l)) r.2.2 ∧
      (s.flag (Reg.LN_STAT_COMMA l) = false → r.2.1 = true → t.get (Reg.LN_STAT_COMMA l) = 1 ∧ t.lnState l = 5) ∧
      (s.flag (Reg.LN_STAT_COMMA l) = true ∨ r.2.1 = false → RegsBut [Reg.LN_ERR_CODE l] s t ∧ t = { s with regs := t.regs, lanes := t.lanes } ∧
        (l < s.lanes.length → (t.ln l).rx8 = r.1))) ∧
  (∀ (x : Rx8) (b : List Bool), x.part = [] → x.errs = 0 → b.length = 10 → let r := x.take true b
    r.2.1 = true ∧ r.1.part = [] ∧ r.2.2 = (if validSymbol x.pos b then 0 else 1)) ∧
  (∀ (x : LaneTx) (y : LaneRx) (d : Bool), x.sc = y.rs → x.run = y.run → x.last = y.last → x.run < 47 →
    let t := x.bit d
    let r := y.take t.2
    r.2 = 0 ∧ r.1.word = y.word / 2 + (if d then 2 ^ 63 else 0) ∧ r.1.rs = t.1.sc ∧ r.1.run = t.1.run ∧ r.1.last = t.1.last ∧ t.1.run < 47) ∧
  (∀ (l : Nat) (s : State), l < 32 →
    let t := s.slip l
    t.get (Reg.LN_STAT_MARK l) = 0 ∧ t.get (Reg.LN_STAT_MARK_INV l) = 0 ∧ (l < s.lanes.length → (t.ln l).slips = (s.ln l).slips + 1) ∧
    t.lnState l = (if (s.ln l).slips + 1 < 64 then s.lnState l else 7) ∧
    ((s.ln l).slips + 1 < 64 → RegsBut [Reg.LN_STAT_MARK l, Reg.LN_STAT_MARK_INV l] s t ∧ t = { s with regs := t.regs, lanes := t.lanes })) ∧
  (∀ (l : Fin 32) (s : State), exec (.laneSlip l) s = .next (if s.searching l && s.flag (Reg.LN_CTRL_MANUAL l) then s.slip l else s)) ∧
  (∀ (l : Fin 32) (seen : Option Bool) (s : State),
    (s.searching l = false ∨ s.flag (Reg.LN_CTRL_MANUAL l) = true → exec (.alignSearchStep l seen) s = .next s) ∧
    (s.searching l = true → s.flag (Reg.LN_CTRL_MANUAL l) = false →
      (∀ inv, (s.ln l).sighted = false → seen = some inv → ∃ t, exec (.alignSearchStep l seen) s = .next t ∧ t.lnState l = 4 ∧
        t.get (Reg.LN_CTRL_RX_INV l) = (if inv then 1 - s.get (Reg.LN_CTRL_RX_INV l) else s.get (Reg.LN_CTRL_RX_INV l)) ∧
        (l < s.lanes.length → (t.ln l).sighted = true) ∧ t = { s with regs := t.regs, lanes := t.lanes }) ∧
      ((s.ln l).sighted = true → seen = some false → ∃ t, exec (.alignSearchStep l seen) s = .next t ∧ t.lnState l = 5 ∧
        t.get (Reg.LN_STAT_MARK l) = 1) ∧
      ((seen = none ∨ ((s.ln l).sighted = true ∧ seen = some true)) → exec (.alignSearchStep l seen) s = .next (s.slip l)))) ∧
  (∀ (l : Fin 32) (line : List Bool) (placed : Bool) (s : State), s.laneLive l = true → s.holwellCoded l = true → s.lnState l ≠ 0 →
    let r := (s.ln l).rx.take (line.map (fun b => b != s.flag (Reg.LN_CTRL_RX_INV l)))
    ∃ u, (r.1.seen < 111 → exec (.markerReceived l line placed) s = .next u) ∧
      (111 ≤ r.1.seen → l < s.lanes.length → exec (.markerReceived l line placed) s = .next (u.markAt l r.1.word placed)) ∧
      u.get (Reg.LN_ERR_CODE l) = satAdd (Reg.LN_ERR_CODE l).width (s.get (Reg.LN_ERR_CODE l)) r.2 ∧
      (l < s.lanes.length → (u.ln l).rx = r.1) ∧ RegsBut [Reg.LN_ERR_CODE l] s u ∧ u = { s with regs := u.regs, lanes := u.lanes }) ∧
  (∀ (l w : Nat) (placed : Bool) (s : State), l < 32 →
    let f := bits w 16 48
    let t := s.markAt l w placed
    (s.lnState l = 5 → placed = true → f = 0xB7A68F1CD2E4 → t.lnState l = 5 ∧
      t.get (Reg.LN_STAT_REM_ID l) = bits w 10 6 ∧ t.get (Reg.LN_STAT_REM_PORT l) = bits w 7 3 ∧
      t.get (Reg.LN_STAT_REM_LANE l) = bits w 5 2 ∧
      RegsBut [Reg.LN_STAT_REM_ID l, Reg.LN_STAT_REM_PORT l, Reg.LN_STAT_REM_LANE l] s t ∧ t = { s with regs := t.regs, lanes := t.lanes }) ∧
    (s.lnState l = 5 → (placed = false ∨ f ≠ 0xB7A68F1CD2E4) → t = s.alignLost l) ∧
    (s.searching l = true → placed = true → f = 2 ^ 48 - 1 - 0xB7A68F1CD2E4 →
      t.lnState l = 4 ∧ t.get (Reg.LN_STAT_MARK l) = 1 ∧ t.get (Reg.LN_STAT_MARK_INV l) = 1 ∧
      RegsBut [Reg.LN_STAT_MARK l, Reg.LN_STAT_MARK_INV l] s t ∧ t = { s with regs := t.regs }) ∧
    (s.searching l = true → placed = true → f = 0xB7A68F1CD2E4 →
      t.lnState l = (if s.flag (Reg.LN_CTRL_MANUAL l) && s.flag (Reg.LN_STAT_MARK l) && !s.flag (Reg.LN_STAT_MARK_INV l) then 5 else 4) ∧
      t.get (Reg.LN_STAT_MARK l) = 1 ∧ t.get (Reg.LN_STAT_MARK_INV l) = 0 ∧ t.get (Reg.LN_STAT_REM_ID l) = bits w 10 6)) ∧
  (∀ (l : Fin 32) (s : State) (q : Packet),
    (s.cmd.longOps.map (fun o => o.req)).find? (fun q => q.opcode == 0x0B04 && leAt q.payload 0 1 == l.val) = some q →
    exec (.laneAlignTimeout l) s = .next (s.completeReq q (Ans.code 0xC 0)))

/-- Holdover, measurements, checkers, references and the PCIe reset (R455, R459, R460, R461, R464, R467, R470, R497,
spec/18_serial_lanes.md). LANE_HOLDOVER of an aligned Holwell-coded lane enters STATE 6 with LOST set, SIG and CDR as the cause
says, violations counted; other lanes train again, one in STATE 6 or 7 only shows the cause. Too long a holdover, like a bad marker,
is counted in ERR_MARKER and restarts training, and declares an UP link that the lane carries down. EYEQ_MEASURE sets EYEQ and
counts lows. PRBS_CHECKER_LOCK sends as many bits as it receives, and its checker counts the errored bits and locks or unlocks as
they say; unlocked, 128 correct bits lock it; locked, each errored bit counts, and one in step with the generator counts none.
LANE_REF_LOSS clears the reference's OK and the PLL lock of its quads, whose lanes are off or in STATE 1 without signal;
LREFCLK_RETURN sets both again. PCIE_RESET acts as MBX_CTRL.RESET and is logged. -/
def Obligations.LaneLossAndReferences : Prop :=
  (∀ (l : Fin 32) (c : Fin 3) (s : State), s.laneLive l = true → s.holwellCoded l = true →
    (s.lnState l = 5 → ∃ t, exec (.laneHoldover l c) s = .next t ∧ t.lnState l = 6 ∧ t.get (Reg.LN_STAT_LOST l) = 1 ∧
      (c = 0 → t.get (Reg.LN_STAT_SIG l) = 0 ∧ t.get (Reg.LN_STAT_CDR l) = 0) ∧ (c = 1 → t.get (Reg.LN_STAT_CDR l) = 0) ∧
      (c = 2 → t.get (Reg.LN_ERR_CODE l) = satAdd (Reg.LN_ERR_CODE l).width (s.get (Reg.LN_ERR_CODE l)) 8) ∧
      RegsBut [Reg.LN_STAT_STATE l, Reg.LN_STAT_LOST l, Reg.LN_STAT_SIG l, Reg.LN_STAT_CDR l, Reg.LN_ERR_CODE l] s t ∧
      t = { s with regs := t.regs }) ∧
    (s.lnState l ∈ [1, 2, 3, 4] → c ≠ 2 → s.laneUsed l = true → ∃ t, exec (.laneHoldover l c) s = .next t ∧ t.lnState l = 1 ∧
      t.get (Reg.LN_STAT_CDR l) = 0 ∧ (c = 0 → t.get (Reg.LN_STAT_SIG l) = 0) ∧ t = { s with regs := t.regs, lanes := t.lanes }) ∧
    ((s.lnState l = 6 ∨ s.lnState l = 7) → ∃ t, exec (.laneHoldover l c) s = .next t ∧ t.lnState l = s.lnState l ∧
      (c = 0 → t.get (Reg.LN_STAT_SIG l) = 0) ∧ (c ≠ 2 → t.get (Reg.LN_STAT_CDR l) = 0) ∧ t = { s with regs := t.regs })) ∧
  (∀ (l : Fin 32) (c : Fin 3) (s : State), s.laneLive l = true → s.holwellCoded l = false → s.lnState l ≠ 0 →
    (c = 2 → exec (.laneHoldover l c) s = .next s) ∧
    (c ≠ 2 → s.laneUsed l = true → ∃ t, exec (.laneHoldover l c) s = .next t ∧ t.lnState l = 1 ∧ t.get (Reg.LN_STAT_CDR l) = 0)) ∧
  (∀ (l : Fin 32) (s : State), (s.lnState l = 6 → exec (.laneHoldoverTimeout l) s = .next (s.alignLost l)) ∧
    (s.lnState l ≠ 6 → exec (.laneHoldoverTimeout l) s = .next s)) ∧
  (∀ (l : Fin 32) (s : State), s.laneUsed l = true →
    ¬ (l.val / 4 < 7 ∧ s.owner (l.val / 4) = 0 ∧ s.isUp (l.val / 4) = true ∧ l.val % 4 < s.hlWidth (l.val / 4)) → let t := s.alignLost l
    t.get (Reg.LN_ERR_MARKER l) = satAdd (Reg.LN_ERR_MARKER l).width (s.get (Reg.LN_ERR_MARKER l)) 1 ∧ t.lnState l = 1 ∧
    t = { s with regs := t.regs, lanes := t.lanes, log := t.log, out := t.out }) ∧
  (∀ (l : Fin 32) (s : State), l.val / 4 < 7 → s.owner (l.val / 4) = 0 → s.isUp (l.val / 4) = true → l.val % 4 < s.hlWidth (l.val / 4) →
    s.alignLost l = (((s.bumpSat (Reg.LN_ERR_MARKER l) 1).logEvent 0x0B02 l []).laneTrain l false).linkDown (l.val / 4) 1) ∧
  (∀ (l : Fin 32) (h v : Fin 65) (s : State), s.lnState l = 5 → s.laneLive l = true →
    ∃ t, exec (.eyeqMeasure l h v) s = .next t ∧ t.get (Reg.LN_STAT_EYEQ l) = min 255 (h.val * v.val / 16) ∧ t.lnState l = 5 ∧
      (l < s.lanes.length → (t.ln l).lows = (if 32 ≤ min 255 (h.val * v.val / 16) ∨ 3 ≤ (s.ln l).lows + 1 then 0 else (s.ln l).lows + 1)) ∧
      RegsBut ([Reg.LN_STAT_EYEQ l] ++ logRegs) s t ∧ t = { s with regs := t.regs, lanes := t.lanes, log := t.log, out := t.out }) ∧
  (∀ (l : Fin 32) (line : List Bool) (s : State), s.laneLive l = true →
    let pat := s.get (Reg.LN_PRBS_PAT l)
    let x := (s.ln l).prbs
    let g := if s.flag (Reg.LN_PRBS_GEN l) = true then LanePrbs.generate pat x line.length else (x, [])
    let came := if s.get (Reg.LN_CTRL_LB l) = 1 then g.2.map (fun b => b != s.flag (Reg.LN_CTRL_TX_INV l)) else line
    let r := LanePrbs.take pat g.1 (s.flag (Reg.LN_PRBS_CHK_LOCK l)) (came.map (fun b => b != s.flag (Reg.LN_CTRL_RX_INV l)))
    ∃ t, exec (.prbsCheckerLock l line) s = .next t ∧
      (s.flag (Reg.LN_PRBS_CHK l) = true → t.flag (Reg.LN_PRBS_CHK_LOCK l) = r.2.1 ∧ (l < s.lanes.length → (t.ln l).prbs = r.1) ∧
        t.get (Reg.LN_PRBS_ERR_COUNT l) = satAdd (Reg.LN_PRBS_ERR_COUNT l).width (s.get (Reg.LN_PRBS_ERR_COUNT l)) r.2.2) ∧
      (s.flag (Reg.LN_PRBS_CHK l) = false → t.regs = s.regs ∧ (l < s.lanes.length → (t.ln l).prbs = g.1)) ∧
      RegsBut [Reg.LN_PRBS_CHK_LOCK l, Reg.LN_PRBS_ERR_COUNT l] s t ∧ t = { s with regs := t.regs, lanes := t.lanes }) ∧
  (∀ (pat : Nat) (x : LanePrbs) (b : Bool), x.good < 128 → x.chk % 2 ^ (prbsTaps pat).1 ≠ 0 → b = prbsNext pat x.chk →
    let r := LanePrbs.check pat x false b
    r.1.good = x.good + 1 ∧ r.2.1 = decide (x.good = 127) ∧ r.2.2 = false) ∧
  (∀ (pat : Nat) (x : LanePrbs) (b : Bool), b ≠ prbsNext pat x.chk →
    (LanePrbs.check pat x false b).1.good = 0 ∧ (LanePrbs.check pat x false b).2 = (false, false) ∧ (LanePrbs.check pat x true b).2.2 = true) ∧
  (∀ (pat n : Nat) (x : LanePrbs), x.gen = x.chk → x.errs = [] → let g := LanePrbs.generate pat x n
    let r := LanePrbs.take pat g.1 true g.2
    r.2 = (true, 0) ∧ r.1.chk = g.1.gen ∧ r.1.gen = g.1.gen) ∧
  (∀ (r : Fin 2) (s : State),
    (s.flag (lrefOk r) = true → ∃ t, exec (.laneRefLoss r) s = .next t ∧ t.get (lrefOk r) = 0 ∧
      (∀ q ∈ s.quadsOn r, t.flag (Reg.QUAD_CFG_PLL_LOCK q) = false ∧
        ∀ l ∈ quadLanes q, t.lnState l ≤ 1 ∧ t.get (Reg.LN_STAT_SIG l) = 0) ∧ t.mem = s.mem) ∧
    (s.flag (lrefOk r) = false → s.plinthPowered = true → ∃ t, exec (.lrefclkReturn r) s = .next t ∧ t.get (lrefOk r) = 1 ∧
      (∀ q ∈ s.quadsOn r, t.flag (Reg.QUAD_CFG_PLL_LOCK q) = true) ∧ t = { s with regs := t.regs, lanes := t.lanes })) ∧
  (∀ (c : Fin 4) (s : State), s.plinthPowered = true → s.nativeOwner 6 = 1 → s.cast.chain = none → s.get Reg.MBX_CTRL_ENABLE ≤ 1 → ∃ t, exec (.pcieReset c) s = .next t ∧
    t.cmd.mbxReq = [] ∧ t.cmd.mbxRing = [] ∧ t.get Reg.MBX_REQ_TAIL_TAIL = 0 ∧ t.get Reg.MBX_REQ_HEAD_HEAD = 0 ∧
    t.get Reg.MBX_RPL_TAIL_TAIL = 0 ∧ t.get Reg.MBX_RPL_HEAD_HEAD = 0 ∧ (∀ x ∈ t.cmd.streams, x.id.via ≠ .pcie) ∧
    t = { s with regs := t.regs, cmd := t.cmd, log := t.log, out := t.out })

/-- Flits received, acknowledgement, credits, replay, and what a declaration down leaves (R477, R483, R484, R485, R486, R497, R498,
spec/19_holwell_link.md). At an UP port a flit that fails its check is counted in CRC and answered by one NAK for each run; the
expected sequenced flit is accepted (the expected FSEQ and RXFLITS rise), any other is dropped. A CTRL flit of the port's epoch
frees the flits that its ACKSEQ covers and adds its credits, PARK takes the link down with reason 5, one of another epoch does
nothing. CTRL_FLIT_DUE sends a CTRL flit where something is owed. REPLAY_TIMEOUT sends every unacknowledged flit again in order,
after four rounds without progress it takes the link down with reason 2. A declaration down counts and keeps its reason and leaves
no tag, queued packet or replay buffer at the port, which is in ADMIN, PARKED, DOWN or TRAINING as its cause says. Flits sent go out
on the port's own lanes, four words each. HL_RETRAIN and HL_WAKE act on their states. -/
def Obligations.LinkFlitsAndReplay : Prop :=
  (∀ (p : Fin 7) (f : List Byte) (s : State),
    (s.isUp p = false → exec (.flitReceive p f) s = .next s ∧ exec (.ctrlFlit p f) s = .next s ∧ exec (.replayTimeout p) s = .next s ∧
      exec (.ctrlFlitDue p) s = .next s) ∧
    (s.isUp p = true → flitOk f = false → ∃ t, exec (.flitReceive p f) s = .next t ∧
      t.get (Reg.HL_CRC_COUNT p) = satAdd 32 (s.get (Reg.HL_CRC_COUNT p)) 1 ∧
      ((s.port p).nakked = true → RegsBut [Reg.HL_CRC_COUNT p] s t ∧ t = { s with regs := t.regs }) ∧
      ((s.port p).nakked = false → t.get (Reg.HL_REPLAY_NAKS p) = satAdd 16 (s.get (Reg.HL_REPLAY_NAKS p)) 1 ∧
        RegsBut [Reg.HL_CRC_COUNT p, Reg.HL_REPLAY_NAKS p] s t ∧ t = { s with regs := t.regs, link := t.link, lanes := t.lanes } ∧
        (p < s.link.ports.length → (t.port p).nakked = true ∧ (t.port p).wire.length = (s.port p).wire.length + 1))) ∧
    (s.isUp p = true → flitOk f = true → 1 ≤ fFt f → fFt f ≤ 4 → fSeq f = (s.port p).rxSeq → ∃ t, exec (.flitReceive p f) s = .next t ∧
      t.get (Reg.HL_RXFLITS_COUNT p) = (s.get (Reg.HL_RXFLITS_COUNT p) + 1) % 2 ^ 64 ∧
      (p < s.link.ports.length → (t.port p).rxSeq = (fSeq f + 1) % 512 ∧ (t.port p).nakked = false) ∧
      RegsBut [Reg.HL_RXFLITS_COUNT p] s t ∧ (∀ q, q ≠ p.val → t.port q = s.port q) ∧ t = { s with regs := t.regs, link := t.link, lanes := t.lanes }) ∧
    (s.isUp p = true → flitOk f = true → (fFt f = 0 ∨ 4 < fFt f ∨ fSeq f ≠ (s.port p).rxSeq) → exec (.flitReceive p f) s = .next s) ∧
    (s.isUp p = true → (flitOk f = false ∨ fFt f ≠ 5) → exec (.ctrlFlit p f) s = .next (s.bumpSat (Reg.HL_CRC_COUNT p) 1)) ∧
    (s.isUp p = true → flitOk f = true → fFt f = 5 → leAt (fPay f) 2 2 ≠ s.get (Reg.HL_EPOCH_EPOCH p) → exec (.ctrlFlit p f) s = .next s) ∧
    (s.isUp p = true → flitOk f = true → fFt f = 5 → leAt (fPay f) 2 2 = s.get (Reg.HL_EPOCH_EPOCH p) →
      let u := s.setPort p (((s.port p).ack (leAt (fPay f) 0 2 % 512)).credit (fPay f))
      (bit (leAt (fPay f) 0 2) 14 = true → exec (.ctrlFlit p f) s = .next (u.linkDown p 5)) ∧
      (bit (leAt (fPay f) 0 2) 14 = false → bit (leAt (fPay f) 0 2) 15 = false → exec (.ctrlFlit p f) s = .next (u.pumpPort p)) ∧
      (bit (leAt (fPay f) 0 2) 14 = false → bit (leAt (fPay f) 0 2) 15 = true →
        exec (.ctrlFlit p f) s = .next ((u.replayOrDrop p).pumpPort p)))) ∧
  (∀ (x : Port) (n i : Nat) (pay : List Byte),
    (x.replay.findIdx? (fun r => r.1 == n) = some i → (x.ack n).replay = x.replay.drop (i + 1) ∧ (x.ack n).rounds = 0) ∧
    (x.replay.findIdx? (fun r => r.1 == n) = none → x.ack n = x) ∧
    (∀ k < 10, tget 0 (x.credit pay).credits k = tget 0 x.credits k + leAt pay (4 + k) 1) ∧ (x.credit pay).replay = x.replay) ∧
  (∀ (p : Fin 7) (s : State), s.isUp p = true → (s.port p).accepted = 0 → (s.port p).owed = [] → exec (.ctrlFlitDue p) s = .next s.flushPeers) ∧
  (∀ (p : Fin 7) (s : State), s.isUp p = true → ((s.port p).accepted ≠ 0 ∨ (s.port p).owed ≠ []) →
    exec (.ctrlFlitDue p) s = .next (s.sendCtrl p false false).flushPeers ∧
    (p < s.link.ports.length → ((s.sendCtrl p false false).port p).accepted = 0 ∧
      ∃ f, ((s.sendCtrl p false false).port p).wire = (s.port p).wire ++ [f] ∧ f.length = 32 ∧
        leAt (fPay f) 0 2 % 512 = ((s.port p).rxSeq + 511) % 512 ∧ leAt (fPay f) 2 2 = s.get (Reg.HL_EPOCH_EPOCH p) % 65536)) ∧
  (∀ (p : Fin 7) (s : State), s.isUp p = true →
    ((s.port p).replay = [] → exec (.replayTimeout p) s = .next s) ∧
    ((s.port p).replay ≠ [] → (s.port p).rounds < 4 → ∃ t, exec (.replayTimeout p) s = .next t ∧
      t.get (Reg.HL_REPLAY_ROUNDS p) = satAdd 16 (s.get (Reg.HL_REPLAY_ROUNDS p)) 1 ∧
      (p < s.link.ports.length → (t.port p).wire = (s.port p).wire ++ (s.port p).replay.map (fun r => r.2) ∧
        (t.port p).rounds = (s.port p).rounds + 1 ∧ (t.port p).replay = (s.port p).replay) ∧ t = { s with regs := t.regs, link := t.link, lanes := t.lanes }) ∧
    ((s.port p).replay ≠ [] → 4 ≤ (s.port p).rounds → exec (.replayTimeout p) s = .next (s.linkDown p 2))) ∧
  (∀ (p n : Nat) (train : Bool) (s : State), s.hlWidth p ≤ 4 → let t := s.lineOut p n train
    (∀ l, l / 4 ≠ p → t.ln l = s.ln l) ∧ t = { s with lanes := t.lanes }) ∧
  (∀ (p : Fin 7) (r : Nat) (s : State), 1 ≤ r → r ≤ 6 → let t := s.linkDown p r
    t.get (Reg.HL_DOWN_WHY_REASON p) = r ∧ t.get (Reg.HL_STAT_DOWNED p) = 1 ∧ t.get (Reg.HL_STAT_WIDTH p) = 0 ∧
    t.get (Reg.HL_DOWNS_DOWNS p) = (s.get (Reg.HL_DOWNS_DOWNS p) + 1) % 65536 ∧
    (t.port p).tags = [] ∧ (t.port p).txq = [] ∧ (t.port p).replay = [] ∧ SameMemory s t ∧
    t.hlState p = (if s.flag (Reg.HL_CTRL_ADMIN p) then 5 else if r = 5 then 4 else if r = 6 then 3 else 1)) ∧
  (∀ (p : Fin 7) (s : State),
    (s.linkMay p = true → s.hlState p ≠ 0 → exec (.hlRetrain p) s = .next (s.linkDown p 4)) ∧
    ((s.linkMay p = false ∨ s.hlState p = 0) → exec (.hlRetrain p) s = .next s) ∧
    (s.hlState p ≠ 3 → s.hlState p ≠ 4 → exec (.hlWake p) s = .next s) ∧
    ((s.hlState p = 3 ∨ s.hlState p = 4) → (s.port p).lastBurst = none → p < s.link.ports.length → ∃ t, exec (.hlWake p) s = .next t ∧
      (t.port p).bursts = (s.port p).bursts + 1 ∧ (t.port p).lastBurst = some s.time.up ∧ t = { s with link := t.link }) ∧
    (∀ b, (s.hlState p = 3 ∨ s.hlState p = 4) → (s.port p).lastBurst = some b → s.time.up - b < 10 * (unitSec / 1000) →
      exec (.hlWake p) s = .next s))

/-- Training attempts of a Holwell port, their failure, and the port coming up (R492, R494, R495, R496, R497, R507,
spec/19_holwell_link.md). An attempt puts the port in TRAINING with WIDTH 0 and counts; it is fast where the port was UP or PARKED
within 1 s and FULL is not set. A TRAIN flit at an UP port, other than the tail of its own attempt, takes it down with reason 3; at
a DOWN or PARKED port that may train it starts an attempt; in an attempt the fourth in a row at a held boundary aligns the lane, and
a flit of an aligned lane carries the partner's offer; a bad one is counted. A port comes UP with the agreed W at one more than the
larger epoch. TRAINING_TIMEOUT starts the next attempt, after the third leaves the port DOWN; LINK_RETRY_TIMER tries again;
RETRAIN_FAST_TIMEOUT gives a lane the full sequence. -/
def Obligations.LinkTraining : Prop :=
  (∀ (p : Fin 7) (s : State), let t := s.attempt p
    t.hlState p = 1 ∧ t.get (Reg.HL_STAT_WIDTH p) = 0 ∧ t.get (Reg.HL_DOWNS_ATTEMPTS p) = (s.get (Reg.HL_DOWNS_ATTEMPTS p) + 1) % 65536 ∧
    (t.flag (Reg.HL_STAT_FAST p) = true ↔ (s.port p).full = false ∧
      ((∃ u, (s.port p).lastUp = some u ∧ s.time.up - u ≤ unitSec) ∨ s.hlState p = 4)) ∧
    (∀ q, q ≠ p.val → t.port q = s.port q) ∧ t = { s with regs := t.regs, lanes := t.lanes, link := t.link }) ∧
  (∀ (p : Fin 7) (f : List Byte) (s : State), s.plinthPowered = true → s.cur ≤ 1 → let pay := fPay f
    let l := 4 * p.val + leAt pay 2 1 % 4
    let tail : Bool := bit (leAt pay 3 1) 7 && bits (leAt pay 3 1) 4 3 == s.hlWidth p && leAt pay 4 2 != s.get (Reg.HL_EPOCH_EPOCH p)
    ((flitOk f = false ∨ fFt f ≠ 6) → ∃ t, exec (.trainFlit p f) s = .next t ∧ t.get (Reg.HL_CRC_COUNT p) = satAdd 32 (s.get (Reg.HL_CRC_COUNT p)) 1 ∧
      (l < s.lanes.length → (t.ln l).trains = 0) ∧ RegsBut [Reg.HL_CRC_COUNT p] s t ∧ t = { s with regs := t.regs, lanes := t.lanes }) ∧
    (flitOk f = true → fFt f = 6 →
      (s.isUp p = true → exec (.trainFlit p f) s = .next (if tail then s else s.linkDown p 3)) ∧
      ((s.hlState p = 3 ∨ s.hlState p = 4) → s.linkMay p = true → exec (.trainFlit p f) s = .next (s.attempt p)) ∧
      (s.hlState p = 1 → s.lnState l = 5 → exec (.trainFlit p f) s = .next (s.trainTake p pay)) ∧
      (s.hlState p = 1 → (s.ln l).fast = true → s.lnState l = 4 → (s.ln l).trains + 1 < 4 → ∃ t, exec (.trainFlit p f) s = .next t ∧
        (l < s.lanes.length → (t.ln l).trains = (s.ln l).trains + 1) ∧ t = { s with lanes := t.lanes }) ∧
      (s.hlState p = 1 → (s.ln l).fast = true → s.lnState l = 4 → 4 ≤ (s.ln l).trains + 1 →
        exec (.trainFlit p f) s = .next ((s.lane5 l true).trainTake p pay)) ∧
      (s.hlState p = 1 → s.lnState l ≠ 5 → ¬ ((s.ln l).fast = true ∧ s.lnState l = 4) → exec (.trainFlit p f) s = .next s) ∧
      ((s.hlState p = 0 ∨ s.hlState p = 5) → exec (.trainFlit p f) s = .next s))) ∧
  (∀ (p : Fin 7) (pay : List Byte) (s : State), let u := (s.setPort p { s.port p with partner := pay }).trainSlot p
    let w := (u.port p).readyW
    s.trainTake p pay = (if w ≠ 0 ∧ bit (leAt pay 3 1) 7 = true ∧ bits (leAt pay 3 1) 4 3 = w then u.linkUp p w else u)) ∧
  (∀ (p : Fin 7) (w : Nat) (s : State), (s.port p).checked = true → w ∈ [1, 2, 4] → let t := s.linkUp p w
    t.isUp p = true ∧ t.hlWidth p = w ∧
    t.get (Reg.HL_EPOCH_EPOCH p) = (max (s.get (Reg.HL_EPOCH_EPOCH p)) (leAt (s.port p).partner 4 2) + 1) % 65536 ∧
    t.get (Reg.HL_STAT_PEER_ID p) = leAt (s.port p).partner 0 1 % 64 ∧ t.get (Reg.HL_STAT_PEER_PORT p) = leAt (s.port p).partner 1 1 % 8 ∧
    (t.port p).rxSeq = 0 ∧ (t.port p).attempts = 0 ∧ SameMemory s t) ∧
  (∀ (p : Fin 7) (s : State),
    (s.hlState p ≠ 1 → exec (.trainingTimeout p) s = .next s) ∧
    (s.hlState p = 1 → (s.port p).attempts + 1 < 3 → exec (.trainingTimeout p) s =
      .next ((s.setPort p { s.port p with attempts := (s.port p).attempts + 1 }).attempt p)) ∧
    (s.hlState p = 1 → (s.port p).attempts = 2 → s.flag (Reg.HL_CTRL_ADMIN p) = false → ∃ t, exec (.trainingTimeout p) s = .next t ∧
      t.hlState p = 3 ∧ t.get (Reg.HL_DOWN_WHY_REASON p) = 6) ∧
    (s.hlState p = 1 → 3 ≤ (s.port p).attempts → exec (.trainingTimeout p) s = .next (s.put (Reg.HL_STAT_STATE p) 3)) ∧
    (s.hlState p = 3 → s.linkMay p = true → exec (.linkRetryTimer p) s = .next (s.attempt p)) ∧
    ((s.hlState p ≠ 3 ∨ s.linkMay p = false) → exec (.linkRetryTimer p) s = .next s)) ∧
  (∀ (l : Fin 32) (s : State),
    ((s.ln l).fast = true → s.lnState l ≠ 5 → exec (.retrainFastTimeout l) s = .next (s.laneTrain l false)) ∧
    (((s.ln l).fast = false ∨ s.lnState l = 5) → exec (.retrainFastTimeout l) s = .next s))

/-- Packets of a link at their target, passed on, and the tags they answer (R387, R480, R481, R490, R491, R513, R520,
spec/19_holwell_link.md, spec/20_ensembles_and_accord.md). Each packet row: a packet that no port holds does nothing; one for
another device goes on by its route; one for this device is served. READ answers its bytes, WRITE stores them and changes no other
byte, either answers PORT_DENIED where the accord or the windows forbid it, and waits for memory that trains. A response with the
tag, generation and epoch of a request ends that tag, any other is counted in STALE; a tag freed raises its generation. TAG_TIMEOUT
ends a tag with LINK_LOST, but not a remote wait. A CMD segment is kept until its command is whole, a whole request goes to the
steward's input; CMD_REASSEMBLY_TIMEOUT discards and counts. SYNC is refused where the devices are not both in the accord, and of
another epoch; a fresh one is marked, unless its object refuses it, and acts on its object, a repeated one only answers. -/
def Obligations.LinkPacketsAndTags : Prop :=
  (∀ (p : Fin 7) (k : LinkPacket) (s : State), ∀ e ∈ [(Instr.read p k, 0), (.write p k, 1), (.readRsp p k, 2), (.writeRsp p k, 3),
      (.sync p k, 4), (.syncRsp p k, 5), (.cmd p k, 7)],
    ((s.isUp p = false ∨ hOp k.header ≠ e.2 ∨ s.takeRx p k = none) → exec e.1 s = .next s) ∧
    (∀ u vc, s.isUp p = true → hOp k.header = e.2 → s.takeRx p k = some (u, vc) → u = { s with link := u.link } ∧
      (hDst k.header ≠ s.ensId → exec e.1 s = .next (u.sendPacket k (some (p.val, vc)))))) ∧
  (∀ (p : Fin 7) (k : LinkPacket) (s u : State) (vc : Nat), s.isUp p = true → s.takeRx p k = some (u, vc) → hDst k.header = s.ensId →
    let h := k.header
    let a := hAddr h
    let n := hLen h
    (hOp h = 0 → u.peerMay h false = false → exec (.read p k) s = .next (u.sendPacket (response h 2 2 []) none)) ∧
    (hOp h = 0 → u.peerMay h false = true → u.mustWait a n = true → exec (.read p k) s = .next s) ∧
    (hOp h = 0 → u.peerMay h false = true → u.mustWait a n = false → ∃ t, exec (.read p k) s = .next t ∧
      (let r := (u.netAccess plinthPlace a n false).readMem 0 a n
       t = r.1.sendPacket (response h 2 (b2n r.2.2) (u.bytesAt a n)) none) ∧ SameMemory s t) ∧
    (hOp h = 1 → u.peerMay h true = false → exec (.write p k) s = .next (u.sendPacket (response h 3 2 []) none)) ∧
    (hOp h = 1 → u.peerMay h true = true → u.mustWait a n = true → exec (.write p k) s = .next s) ∧
    (hOp h = 1 → u.peerMay h true = true → u.mustWait a n = false → ∃ t, exec (.write p k) s = .next t ∧
      (∀ x, (x < a ∨ a + n ≤ x) → t.byteAt x = s.byteAt x) ∧
      ((∀ x, a ≤ x + 63 → x < a + n → tget 0 s.ecc x = 0) → ∀ j < n, t.byteAt (a + j) = (padTo n k.payload).getD j 0)) ∧
    (hOp h = 7 → exec (.cmd p k) s = .next (u.segment h k.payload)) ∧
    (hOp h = 4 → (u.ensActive = false ∨ u.inActive (hSrc h) = false ∨ objDev (leAt h 10 3 % 2 ^ 23) ≠ u.ensId) →
      exec (.sync p k) s = .next (u.sendPacket (response h 5 3 (leBytes 8 0)) none)) ∧
    (hOp h = 4 → u.ensActive = true → u.inActive (hSrc h) = true → objDev (leAt h 10 3 % 2 ^ 23) = u.ensId →
      (leAt h 14 2 ≠ u.get Reg.ENS_EPOCH_EPOCH % 65536 → exec (.sync p k) s = .next (u.sendPacket (response h 5 7 (leBytes 8 0)) none)) ∧
      (leAt h 14 2 = u.get Reg.ENS_EPOCH_EPOCH % 65536 → leAt h 13 1 ≠ 9 →
        (u.dupCheck (hSrc h) (leAt k.payload 0 4) = .stale → exec (.sync p k) s = .next (u.sendPacket (response h 5 6 (leBytes 8 0)) none)) ∧
        (u.dupCheck (hSrc h) (leAt k.payload 0 4) = .repeated →
          exec (.sync p k) s = .next (u.sendPacket (response h 5 0 (leBytes 8 (u.soVal (objNum (leAt h 10 3 % 2 ^ 23))))) none)) ∧
        (u.dupCheck (hSrc h) (leAt k.payload 0 4) = .fresh →
          let j := objNum (leAt h 10 3 % 2 ^ 23)
          let o : SyncOp :=
            { key := u.sync.next, who := .remote p h (leAt k.payload 0 4), obj := leAt h 10 3 % 2 ^ 23, wait := leAt h 13 1 == 8,
              fn := leAt h 13 1, v := leAt k.payload 4 8, opid := leAt k.payload 0 4, epoch := leAt h 14 2, phase := .flight, withdrawn := false }
          let w := { u with sync := { u.sync with ops := u.sync.ops ++ [o], next := u.sync.next + 1 } }
          let m := w.dupMark (hSrc h) (leAt k.payload 0 4)
          m.dupCheck (hSrc h) (leAt k.payload 0 4) = .repeated ∧
          (leAt h 13 1 ≠ 8 → (u.soApply j o.fn o.v).2 = 0 → let r := m.signal j o.fn o.v
            exec (.sync p k) s = .next (r.1.answerOp o.key r.2 (r.1.soVal j))) ∧
          (leAt h 13 1 ≠ 8 → (u.soApply j o.fn o.v).2 ≠ 0 → let r := w.signal j o.fn o.v
            exec (.sync p k) s = .next (r.1.answerOp o.key r.2 (r.1.soVal j))) ∧
          (leAt h 13 1 = 8 → exec (.sync p k) s =
            .next ((match w.tryWait j o.v with | .err _ => w | _ => m).reach o)))) ∧
      (leAt h 14 2 = u.get Reg.ENS_EPOCH_EPOCH % 65536 → leAt h 13 1 = 9 → ∃ t, exec (.sync p k) s = .next t ∧ SameMemory s t)) ∧
    (∀ r, hSport h < 7 → (u.port (hSport h)).tags.find? (fun r => r.tag == hTag h && r.gen == hGen h && r.epoch == hEpoch h) = some r →
      (hOp h = 2 → exec (.readRsp p k) s = .next (u.completeTag (hSport h) r (hStatus h) (padTo n k.payload)).afterTag) ∧
      (hOp h = 3 → exec (.writeRsp p k) s = .next (u.completeTag (hSport h) r (hStatus h) []).afterTag) ∧
      (hOp h = 5 → exec (.syncRsp p k) s = .next (u.syncRsp (hSport h) r k).afterTag)) ∧
    (hSport h < 7 → (u.port (hSport h)).tags.find? (fun r => r.tag == hTag h && r.gen == hGen h && r.epoch == hEpoch h) = none →
      ∀ e ∈ [(Instr.readRsp p k, 2), (.writeRsp p k, 3), (.syncRsp p k, 5)], hOp h = e.2 →
        exec e.1 s = .next (u.bumpSat (Reg.HL_STALE_STALE (hSport h)) 1))) ∧
  (∀ (p : Fin 7) (tag : Nat) (s : State), p < s.link.ports.length → let t := s.freeTag p tag
    (t.port p).tags = (s.port p).tags.filter (fun r => r.tag != tag) ∧
    tget 0 (t.port p).gens tag = (tget 0 (s.port p).gens tag + 1) % 16 ∧ t.get (Reg.HL_STAT_TAGS p) = (t.port p).tags.length % 512 ∧
    RegsBut [Reg.HL_STAT_TAGS p] s t ∧ t = { s with regs := t.regs, link := t.link }) ∧
  (∀ (p : Fin 7) (tag : Fin 256) (s : State),
    ((s.port p).tags.find? (fun r => r.tag == tag.val) = none → exec (.tagTimeout p tag) s = .next s) ∧
    (∀ r, (s.port p).tags.find? (fun r => r.tag == tag.val) = some r →
      (r.wait = true → exec (.tagTimeout p tag) s = .next s) ∧
      (r.wait = false → exec (.tagTimeout p tag) s = .next ((s.bumpSat (Reg.HL_STALE_TAG_TO p) 1).completeTag p r 4 []).afterTag))) ∧
  (∀ (h d : List Byte) (s : State), (∀ c ∈ s.link.parts, ¬ (c.src = hSrc h ∧ c.num = leAt h 14 1)) →
    ((d.take (hLen h)).length < leAt h 12 2 → ∃ t, t = s.segment h d ∧ t = { s with link := t.link } ∧
      ({ src := hSrc h, num := leAt h 14 1, len := leAt h 12 2, got := [(leAt h 10 2, d.take (hLen h))] } : CmdPart) ∈ t.link.parts) ∧
    (∀ q, leAt h 12 2 = (d.take (hLen h)).length → packetOf (.holwell (Fin.ofNat 64 (hSrc h))) (d.take (hLen h)) = some q → q.fReply = false →
      s.segment h d = { s with cmd := { s.cmd with peerIn := s.cmd.peerIn ++ [q] } })) ∧
  (∀ (src : Fin 64) (num : Byte) (s : State), (∃ c ∈ s.link.parts, c.src = src.val ∧ c.num = num.toNat) →
    ∃ t, exec (.cmdReassemblyTimeout src num) s = .next t ∧ (∀ c ∈ t.link.parts, ¬ (c.src = src.val ∧ c.num = num.toNat)) ∧
      t.get Reg.CMD_DROPS_COUNT = satAdd 32 (s.get Reg.CMD_DROPS_COUNT) 1 ∧ RegsBut [Reg.CMD_DROPS_COUNT] s t ∧
      t = { s with regs := t.regs, link := { s.link with parts := t.link.parts } })

/-- Accord messages: who may send them, their tag, and what each kind does (R514, R515, R516, R518, R522, R523, R525, R526, R528,
spec/20_ensembles_and_accord.md). ACCORD_MSG from any other requester than the steward receives DENIED 1. From the steward, a
message of a wrong length or tag, or with no ensemble key, is discarded and counted in ENS_BADTAG. A right one of a device with a
descriptor acts: a RECORD is kept and its device heard, one with the device's own ID makes it EXCLUDED with reason 5; a COMMIT of
the view's leader with a newer epoch waits for adoption, with an older one of a running leader the device is HELD with reason 6; a
NOTICE acts as a lost link does; a SHARE of the device's tray sets the tray cap and the share. A device HELD, duplicate or resolved
away takes no COMMIT. -/
def Obligations.AccordMessages : Prop :=
  (∀ (p : Packet) (s s1 b : State) (c : Ctx), ∀ i ∈ [Instr.accordRecord p, .accordCommit p, .accordNotice p, .accordShare p],
    p.opcode = 0x06F0 → (∀ d, p.via ≠ .holwell d) → s.takePacket p = some s1 → FramedRight p → p.fChain = false →
    InSession s1.leaveIdle p c b → seqCheck (b.stream p.stream) (seqSession b p) p = .fresh → (b.stream p.stream).chain = none →
    exec i s = .next (answered b c (seqTaken b p, Ans.code 5 1))) ∧
  (∀ (p : Packet) (s u : State) (d : Fin 64), p.via = .holwell d → p.opcode = 0x06F0 → p.magic = 0x4D37 → p.flags = 0 → p.ver = 1 →
    p.role = 2 → p.session = 0 → p.body.length = p.len.toNat → crc32c p.covered = p.crc.toNat → s.takePacket p = some u →
    let m := p.payload.take 128
    let bad : Prop := p.payload.length ≠ 144 ∨ u.cmd.ensKey = [] ∨ (hmac u.accordKey m).take 16 ≠ p.payload.drop 128
    (bad → ∀ i ∈ [Instr.accordRecord p, .accordCommit p, .accordNotice p, .accordShare p],
      exec i s = .next (u.bumpSat Reg.ENS_BADTAG_COUNT 1)) ∧
    (¬ bad → u.ens.desc ≠ [] →
      (mKind m = 0 → exec (.accordRecord p) s = .next (u.takeRecord m)) ∧
      (mKind m = 1 → exec (.accordCommit p) s = .next (u.heardCommit m)) ∧
      (mKind m = 2 → exec (.accordNotice p) s = .next u.linkNotice) ∧
      (mKind m = 3 → exec (.accordShare p) s =
        .next (if mId m ∈ u.trayIds then u.takeShare (leAt m 104 4) (leAt m 108 4) else u)))) ∧
  (∀ (m : List Byte) (s : State),
    (mId m ≠ s.ensId → let t := s.takeRecord m
      tfind t.ens.recs (mId m) = some m ∧ tfind t.ens.heardAt (mId m) = some s.time.up ∧
      (∀ k, k ≠ mId m → tfind t.ens.recs k = tfind s.ens.recs k ∧ tfind t.ens.heardAt k = tfind s.ens.heardAt k) ∧
      t.get Reg.ENS_HEARD_SET = idMask t.heardIds % 2 ^ 64 ∧ RegsBut [Reg.ENS_HEARD_SET, Reg.ENS_STAT_FORCED] s t ∧
      t = { s with regs := t.regs, ens := t.ens }) ∧
    (mId m = s.ensId → let t := s.takeRecord m
      t.ens.dup = true ∧ t.get Reg.ENS_STAT_STATE = 4 ∧ t.get Reg.ENS_REASON_REASON = 5 ∧ SameMemory s t)) ∧
  (∀ (m : List Byte) (s : State),
    ((s.get Reg.ENS_STAT_STATE = 5 ∨ s.ens.dup = true ∨ s.ens.out = true ∨ s.viewLeader ≠ some (mId m) ∨ mId m = s.ensId) →
      s.heardCommit m = s) ∧
    (s.get Reg.ENS_STAT_STATE ≠ 5 → s.ens.dup = false → s.ens.out = false → s.viewLeader = some (mId m) → mId m ≠ s.ensId →
      (s.get Reg.ENS_EPOCH_EPOCH < mEpoch m → let t := s.heardCommit m
        t.ens.adopting = some m ∧ t.get Reg.ENS_EPOCH_EPOCH = s.get Reg.ENS_EPOCH_EPOCH) ∧
      (mEpoch m < s.get Reg.ENS_EPOCH_EPOCH → mRunning m = true → let t := s.heardCommit m
        t.get Reg.ENS_STAT_STATE = 5 ∧ t.get Reg.ENS_REASON_REASON = 6 ∧ t.get Reg.ENS_EPOCH_EPOCH = s.get Reg.ENS_EPOCH_EPOCH) ∧
      (mEpoch m ≤ s.get Reg.ENS_EPOCH_EPOCH → (mEpoch m = s.get Reg.ENS_EPOCH_EPOCH ∨ mRunning m = false) → s.heardCommit m = s))) ∧
  (∀ (cap share : Nat) (s : State), let t := s.takeShare cap share
    t.get Reg.BUD_TRAY_TRAY_CAP = cap / 100 % 65536 ∧ t.get Reg.BUD_TRAY_SHARE = share / 100 % 65536 ∧
    (s.get Reg.ENS_STAT_STATE ≠ 1 → t.bud.traySrc = 3 ∧ t.bud.trayLim = share / 100) ∧ t.mem = s.mem)

/-- Heartbeats, commits, the adoption of an epoch, and lost leaders and shares (R391, R512, R516, R517, R518, R521, R522, R524, R526,
spec/20_ensembles_and_accord.md). HEARTBEAT of a device with a descriptor in RUN or IDLE, steward up, shows the devices heard, sends
its RECORD and acts on the view; without a descriptor nothing happens. A leader with quorum commits: one above the highest epoch, to
adopt itself, with the view's active set; without quorum 2^32 more. ACCORD_EPOCH_ADOPT waits while a remote operation of the old
epoch is out; then the epoch, active set and leader are the commit's, COMMITS counts, and the state is ACTIVE in the set, HELD in
the held set, EXCLUDED 1 for another firmware, STANDBY 2 for another cast, else FORMING. LEADER_LOST returns a following device to
FORMING; SHARE_TIMEOUT falls back to the last tray cap divided by T. -/
def Obligations.AccordEpochs : Prop :=
  (∀ (tray : List (BitVec 16 × BitVec 16)) (s : State),
    ((s.ens.desc = [] ∨ s.stewardUp = false ∨ 1 < s.cur) → exec (.heartbeat tray) s = .next s) ∧
    (s.ens.desc ≠ [] → s.stewardUp = true → s.cur ≤ 1 → ∃ t, exec (.heartbeat tray) s = .next t ∧
      t = ((((s.showHeard.sendAccord ((List.range s.ensN).filter (fun i => i != s.ensId)) s.showHeard.ownRecord).hearQuorum).configCheck).maybeCommit).trayShare
        tray ∧ t.get Reg.ENS_HEARD_SET = idMask s.heardIds % 2 ^ 64 ∧ SameMemory s t)) ∧
  (∀ s : State,
    (s.viewLeader ≠ some s.ensId ∨ s.ens.adopting ≠ none ∨ (s.quorum s.viewActive.length = false ∧ s.ens.force = false) ∨
      (s.ens.leader = some s.ensId ∧ s.ens.active = idMask s.viewActive ∧ s.ens.heldSet = idMask s.viewHeld) → s.maybeCommit = s) ∧
    (s.viewLeader = some s.ensId → s.ens.adopting = none → (s.quorum s.viewActive.length = true ∨ s.ens.force = true) →
      (s.ens.leader ≠ some s.ensId ∨ s.ens.active ≠ idMask s.viewActive ∨ s.ens.heldSet ≠ idMask s.viewHeld) →
      s.missMs * unitMs ≤ s.time.up - s.ens.formedAt → s.maybeCommit = s.commit)) ∧
  (∀ s : State, let top := s.eligible.foldl (fun m e => max m (mEpoch e.2)) (s.get Reg.ENS_EPOCH_EPOCH)
    let base := if s.ens.running then s.get Reg.ENS_EPOCH_EPOCH else top
    (s.quorum s.viewActive.length = true → ∃ m, (s.commit).ens.adopting = some m ∧ mKind m = 1 ∧ mId m = s.ensId % 256 ∧
      mEpoch m = (base + 1) % 2 ^ 64 ∧ mSet m = idMask s.viewActive % 2 ^ 64 ∧ mHeld m = idMask s.viewHeld % 2 ^ 64) ∧
    (s.quorum s.viewActive.length = false → (s.commit).get Reg.ENS_STAT_FORCED = 1 ∧ ∃ m, (s.commit).ens.adopting = some m ∧ mKind m = 1 ∧
      mForced m = true ∧ mEpoch m = (base + 1 + 2 ^ 32) % 2 ^ 64)) ∧
  (∀ s : State,
    (s.ens.adopting = none → exec .accordEpochAdopt s = .next s) ∧
    (∀ m, s.ens.adopting = some m → (∃ o ∈ s.sync.ops, ∃ p tag, o.phase = .sent p tag) → exec .accordEpochAdopt s = .next s) ∧
    (∀ m, s.ens.adopting = some m → (∀ o ∈ s.sync.ops, ∀ p tag, o.phase ≠ .sent p tag) → ∃ t, exec .accordEpochAdopt s = .next t ∧
      t.get Reg.ENS_EPOCH_EPOCH = mEpoch m ∧ t.get Reg.ENS_ACTIVE_SET = mSet m ∧ t.get Reg.ENS_STAT_LEADER = mId m % 64 ∧
      t.get Reg.ENS_COMMITS_COUNT = (s.get Reg.ENS_COMMITS_COUNT + 1) % 2 ^ 32 ∧ t.ens.adopting = none ∧ t.ens.active = mSet m ∧
      SameMemory s t ∧
      (bit (mSet m) s.ensId = true → t.get Reg.ENS_STAT_STATE = 2 ∧ t.get Reg.ENS_REASON_REASON = 0) ∧
      (bit (mSet m) s.ensId = false → bit (mHeld m) s.ensId = true → t.get Reg.ENS_STAT_STATE = 5 ∧ t.get Reg.ENS_REASON_REASON = 6) ∧
      (bit (mSet m) s.ensId = false → bit (mHeld m) s.ensId = false →
        (mMajor m ≠ Config.fwVersion.1 % 256 → t.get Reg.ENS_STAT_STATE = 4 ∧ t.get Reg.ENS_REASON_REASON = 1) ∧
        (mMajor m = Config.fwVersion.1 % 256 → mCdig m ≠ s.cdig → t.get Reg.ENS_STAT_STATE = 3 ∧ t.get Reg.ENS_REASON_REASON = 2) ∧
        (mMajor m = Config.fwVersion.1 % 256 → mCdig m = s.cdig → t.get Reg.ENS_STAT_STATE = 1 ∧ t.get Reg.ENS_REASON_REASON = 0)))) ∧
  (∀ (s : State) (i : Nat), s.ens.leader = some i →
    (i ≠ s.ensId → (s.get Reg.ENS_STAT_STATE = 2 ∨ s.get Reg.ENS_STAT_STATE = 3 ∨
        (s.get Reg.ENS_STAT_STATE = 4 ∧ s.get Reg.ENS_REASON_REASON = 1)) →
      ∃ t, exec .leaderLost s = .next t ∧ t.get Reg.ENS_STAT_STATE = 1 ∧ t.get Reg.ENS_REASON_REASON = 0 ∧ t.ens.leader = none ∧
        t.ens.formedAt = s.time.up ∧ t.get Reg.ENS_EPOCH_EPOCH = s.get Reg.ENS_EPOCH_EPOCH ∧ t.mem = s.mem) ∧
    ((i = s.ensId ∨ s.get Reg.ENS_STAT_STATE = 1 ∨ s.get Reg.ENS_STAT_STATE = 5) → exec .leaderLost s = .next s)) ∧
  (∀ s : State,
    ((s.ens.desc = [] ∨ s.bud.traySrc ≠ 3) → exec .shareTimeout s = .next s) ∧
    (s.ens.desc ≠ [] → s.bud.traySrc = 3 → ∃ t, exec .shareTimeout s = .next t ∧
      (s.trayT = 0 ∨ s.get Reg.BUD_TRAY_TRAY_CAP = 0 → t.bud.traySrc = 0 ∧ t.bud.trayLim = 0) ∧
      (s.trayT ≠ 0 → s.get Reg.BUD_TRAY_TRAY_CAP ≠ 0 → t.bud.traySrc = 4 ∧ t.bud.trayLim = s.get Reg.BUD_TRAY_TRAY_CAP / s.trayT) ∧
      t.mem = s.mem ∧ t.ens = s.ens))

/-- A role on a transport that Table CMD-4 does not give it receives DENIED 2 (R43). Table CMD-4: role 0 on PCIe and the SPI target,
role 1 on the management port (SMBus or I3C), role 2 on the Holwell link, role 3 on the fabric command port. For every command row
(named by commandOf), a packet taken from its transport that passes the checks before (identity, length, CRC, version, flags) and
whose role and transport are no pair of the table is answered DENIED, DETAIL 2, and has no other effect. -/
def Obligations.RolesKeepToTheirTransports : Prop :=
  ∀ (i : Instr) (s s1 : State) (op : OpSpec) (p : Packet),
    commandOf s i = some (op, p) → p.opcode.toNat = op.code → s.takePacket p = some s1 → p.magic = 0x4D37 → p.fReply = false →
    p.len.toNat ≤ 4064 → p.body.length = p.len.toNat + (if p.fAuth then 16 else 0) → crc32c p.covered = p.crc.toNat → p.ver = 1 →
    p.flags.toNat < 16 →
    (∀ e : Nat × Transport, (e = (0, .pcie) ∨ e = (0, .spi) ∨ e = (1, .smbus) ∨ e = (1, .i3c) ∨ (∃ d, e = (2, .holwell d)) ∨
      (∃ d, e = (3, .fabric d))) → e ≠ (p.role.toNat, p.via)) →
    exec i s = .next (s1.leaveIdle.answerErr p false [] 5 2).settleCastChain

/-- Under BRAKE level 2 the commands that start work receive THERMAL 2 and have no effect (R561). TILE_START, STREAM_START, CAST_LOAD,
RECAST_LOAD, XDRAM_TRAIN, BIST_RUN, BIST_STATUS, BIST_RESULT, BIST_ABORT, and PWR_SET_STATE with TARGET 0, that pass every check
before (role, AUTH, LEN, parameters, firmware, the limit of operations, a thermal trip) while BUD_STAT.BRAKE is 2: the reply is
THERMAL with DETAIL 2 and the state is otherwise the one with SEQ accepted. The first packet of a chain is refused alike, and its
chain goes no further. -/
def Obligations.BrakeRefusesNewWork : Prop :=
  ∀ (s s1 b : State) (p : Packet) (c : Ctx) (i : Instr) (op : OpSpec),
    (i, op) ∈ ([(.tileStart p, tileStartOp), (.streamStart p, streamStartOp), (.castLoad p, castLoadOp), (.recastLoad p, recastLoadOp),
      (.xdramTrain p, xdramTrainOp), (.bistRun p, bistRunOp), (.bistStatus p, bistStatusOp), (.bistResult p, bistResultOp),
      (.bistAbort p, bistAbortOp), (.pwrSetState p, pwrSetStateOp)] : List (Instr × OpSpec)) →
    (i = .pwrSetState p → c.at 0 1 = 0) →
    p.opcode.toNat = op.code → FramedRight p → s.takePacket p = some s1 → InSession s1.leaveIdle p c b →
    seqCheck (b.stream p.stream) (seqSession b p) p = .fresh → (b.stream p.stream).chain = none →
    let u := seqTaken b p
    c.role ∈ op.roles → (op.auth u c = true → c.auth = true) → op.lenOk c.data = true → op.range u c = none →
    (u.stewardUp = true ∨ kettleServes c = true) →
    (op.long u c = true → (u.cmd.longOps.filter (fun o => !o.late && !o.silent && o.req.stream == c.p.stream)).length < 16) →
    (writesNvm c = true → u.bud.trip = none) → u.get Reg.BUD_STAT_BRAKE = 2 →
    (p.fChain = false → exec i s = .next (answered b c (u, Ans.code 9 2))) ∧
    (p.fChain = true → op.chain c = true → exec i s = .next (answered b c (u.putStream { u.stream p.stream with
      chain := some { opcode := p.opcode.toNat, next := (p.seq.toNat + 1) % 65536, index := 0, data := c.data, dead := true } }, Ans.code 9 2)))

/-- The state at reset: OFF, every register at its reset value, nothing written, no command waiting (R69, R622, R656,
spec/03_kettle_domain_and_wake.md, notes/assumptions/1.md, notes/assumptions/3.md). State.reset is the M7 with RESET_N low: OFF with
the kettle and every rail enable down, every register field at the reset value that its table gives (or, where a table gives none,
that the model names: log entry 1), no command waiting, no session, an empty log, and memory with nothing written, in canonical
form. -/
def Obligations.ResetIsOff : Prop :=
  (∀ f : Fld, State.reset.get f = f.reset) ∧ State.reset.pending = [] ∧ State.reset.kettleOn = false ∧ State.reset.plinthPowered = false ∧
  State.reset.fabricPowered = false ∧ State.reset.pwr.resetLow = true ∧ State.reset.cmd.sessions = [] ∧ State.reset.cmd.streams = [] ∧
  State.reset.log.ring = [] ∧ (∀ a, tfind State.reset.mem a = none) ∧ Memory.wf State.reset.mem = true ∧ State.reset.ecc = [] ∧
  State.reset.bist = none

/-- Every step keeps the memory in its canonical form (R393, R394, spec/16_address_map_and_tile_network.md, notes/assumptions/3.md). For
every state whose memory lists its written bytes by strictly rising address, and every command, the state after a step does so too:
no command lists an address twice or out of order. The canonical form is the model's own (log entry 3); that State.reset has it is
stated in ResetIsOff. -/
def Obligations.MemoryStaysCanonical : Prop :=
  ∀ s t : State, Memory.wf s.mem = true → step s = .next t → Memory.wf t.mem = true

/-- No well-formed command ends in a fault or a refusal, in any state (R596, R656, spec/24_faults_log_and_recovery.md Table FLT-1,
spec/02_command_packets.md Table CMD-7). For every well-formed command and every state, exec answers a next state: commands are
answered, waited for or dropped, faults are logged and contained, and none stops the block. So every step of a queue of well-formed
commands goes on. -/
def Obligations.NoCommandStopsTheBlock : Prop :=
  (∀ (c : Instr) (s : State), c.wf = true → ∃ t, exec c s = .next t) ∧
  (∀ s : State, s.queueWf = true → ∃ t, step s = .next t ∧ t.queueWf = true)

/-- No command but those that store to memory or lose its contents changes what a byte of memory reads as (R395, R396, R424,
spec/17_caddy_and_external_dram.md, spec/16_address_map_and_tile_network.md). For every command but the ones named in mayStore
(stores and transfers, writes of the link, BAR4 and the camera ring, training, power changes that lose contents, rollback captures,
self-test runs), if exec answers a next state then every byte of memory at every address reads as before, and the list of written
bytes is the same. -/
def Obligations.MemoryKeepsItsBytes : Prop :=
  ∀ (c : Instr) (s t : State), mayStore c = false → exec c s = .next t → t.mem = s.mem ∧ SameMemory s t
end

