-- ==== Sys2Proof/Laws/Tables.lean ====
section
/-! SUPPORT. Reading a table, a register, a window word or a memory byte after writing it, for every table, and the canonical form of
the memory. -/

namespace Sys2Proof.Machine

/-! ### Tables -/

@[simp] theorem tfind_tinsert_same {α : Type} (t : Tab α) (k : Nat) (v : α) : tfind (tinsert t k v) k = some v := by
  induction t with
  | nil => simp [tinsert, tfind]
  | cons e t ih =>
    obtain ⟨j, w⟩ := e
    simp only [tinsert]
    split
    · simp [tfind]
    · split
      · simp [tfind]
      · simp [tfind, *]

theorem tfind_tinsert_ne {α : Type} (t : Tab α) {k j : Nat} (v : α) (h : j ≠ k) : tfind (tinsert t k v) j = tfind t j := by
  induction t with
  | nil => simp [tinsert, tfind, Ne.symm h]
  | cons e t ih =>
    obtain ⟨i, w⟩ := e
    simp only [tinsert]
    split
    · subst_vars; simp [tfind, Ne.symm h]
    · split
      · simp [tfind, Ne.symm h]
      · simp [tfind, ih]

@[simp] theorem tfind_terase_same {α : Type} (t : Tab α) (k : Nat) : tfind (terase t k) k = none := by
  induction t with
  | nil => rfl
  | cons e t ih =>
    obtain ⟨j, w⟩ := e
    simp only [terase, List.filter_cons] at *
    by_cases h : j = k <;> simp [h, tfind, ih]

theorem tfind_terase_ne {α : Type} (t : Tab α) {k j : Nat} (h : j ≠ k) : tfind (terase t k) j = tfind t j := by
  induction t with
  | nil => rfl
  | cons e t ih =>
    obtain ⟨i, w⟩ := e
    simp only [terase, List.filter_cons] at *
    by_cases hi : i = k
    · subst hi; simp [tfind, Ne.symm h, ih]
    · simp [hi, tfind, ih]

@[simp] theorem tget_tput_same {α : Type} [DecidableEq α] (d : α) (t : Tab α) (k : Nat) (v : α) : tget d (tput d t k v) k = v := by
  unfold tget tput
  split <;> simp_all

theorem tget_tput_ne {α : Type} [DecidableEq α] (d d' : α) (t : Tab α) {k j : Nat} (v : α) (h : j ≠ k) :
    tget d (tput d' t k v) j = tget d t j := by
  unfold tget tput
  split <;> simp [tfind_terase_ne _ h, tfind_tinsert_ne _ _ h]

theorem tfind_tput_ne {α : Type} [DecidableEq α] (d : α) (t : Tab α) {k j : Nat} (v : α) (h : j ≠ k) :
    tfind (tput d t k v) j = tfind t j := by
  unfold tput
  split <;> simp [tfind_terase_ne _ h, tfind_tinsert_ne _ _ h]

theorem tfind_tclear {α : Type} (t : Tab α) (lo hi k : Nat) :
    tfind (tclear t lo hi) k = if lo ≤ k ∧ k < hi then none else tfind t k := by
  induction t with
  | nil => simp [tclear, tfind]
  | cons e t ih =>
    obtain ⟨j, w⟩ := e
    simp only [tclear, List.filter_cons] at *
    by_cases hj : j < lo ∨ hi ≤ j
    · simp only [hj, decide_true, Bool.or_eq_true, decide_eq_true_eq, if_true, tfind]
      by_cases hk : j = k
      · subst hk; simp; omega
      · simp [hk, ih]
    · by_cases hk : j = k
      · subst hk
        have h1 : (decide (j < lo) || decide (hi ≤ j)) = false := by simp; omega
        have h2 : lo ≤ j ∧ j < hi := by omega
        simp [h1, ih, h2]
      · have h1 : (decide (j < lo) || decide (hi ≤ j)) = false := by simp; omega
        simp [h1, ih, tfind, hk]

/-! ### Registers and window words -/

/-- A register field read after it is written holds the value cut to its width. -/
@[simp] theorem State.get_put_same (s : State) (f : Fld) (v : Nat) : (s.put f v).get f = v % 2 ^ f.width := by
  simp [State.get, State.put, cut]

/-- Writing a field leaves every field with another key as it was. -/
theorem State.get_put_ne (s : State) {f g : Fld} (v : Nat) (h : g.key ≠ f.key) : (s.put f v).get g = s.get g := by
  simp only [State.get, State.put]
  exact tget_tput_ne _ _ _ _ h

@[simp] theorem State.flag_setFlag_same (s : State) (f : Fld) (b : Bool) (h : f.width ≠ 0) : (s.setFlag f b).flag f = b := by
  have : 1 < 2 ^ f.width := Nat.one_lt_two_pow h
  cases b <;> simp [State.flag, State.setFlag, b2n, Nat.mod_eq_of_lt this]

theorem State.get_setFlag_ne (s : State) {f g : Fld} (b : Bool) (h : g.key ≠ f.key) : (s.setFlag f b).get g = s.get g :=
  State.get_put_ne s _ h

/-- The fields listed by other keys keep their entries. -/
theorem State.regs_put_ne (s : State) (f : Fld) (v : Nat) {k : Nat} (h : k ≠ f.key) : tfind (s.put f v).regs k = tfind s.regs k :=
  tfind_tput_ne _ _ _ h

@[simp] theorem State.wget_wput_same (s : State) (a v : Nat) : (s.wput a v).wget a = v % 2 ^ 32 := by
  simp [State.wget, State.wput, cut]

theorem State.wget_wput_ne (s : State) {a b : Nat} (v : Nat) (h : b ≠ a) : (s.wput a v).wget b = s.wget b := by
  simp only [State.wget, State.wput]
  exact tget_tput_ne _ _ _ _ h

@[simp] theorem State.get_wput (s : State) (a v : Nat) (f : Fld) : (s.wput a v).get f = s.get f := rfl
@[simp] theorem State.get_draw (s : State) (f : Fld) : s.draw.get f = s.get f := rfl
@[simp] theorem State.get_emit (s : State) (o : List Out) (f : Fld) : (s.emit o).get f = s.get f := rfl
@[simp] theorem State.get_setBytes (s : State) (a : Nat) (bs : List Byte) (f : Fld) : (s.setBytes a bs).get f = s.get f := rfl
@[simp] theorem State.get_forget (s : State) (lo hi : Nat) (f : Fld) : (s.forget lo hi).get f = s.get f := rfl
@[simp] theorem State.reset_get (f : Fld) : State.reset.get f = f.reset := rfl

/-! ### Memory -/

theorem tfind_tinsertN {α : Type} (t : Tab α) (a k : Nat) (vs : List α) :
    tfind (tinsertN t a vs) k = if a ≤ k then (match vs[k - a]? with | some v => some v | none => tfind t k) else tfind t k := by
  induction vs generalizing t a with
  | nil => simp [tinsertN]
  | cons v vs ih =>
    simp only [tinsertN, ih]
    by_cases h1 : a + 1 ≤ k
    · have h2 : k - a = (k - (a + 1)) + 1 := by omega
      have h3 : a ≤ k := by omega
      simp only [h1, h3, if_true, h2, List.getElem?_cons_succ]
      cases vs[k - (a + 1)]? <;> simp [tfind_tinsert_ne _ _ (show k ≠ a by omega)]
    · by_cases h2 : k = a
      · subst h2; simp
      · have h3 : ¬ a ≤ k := by omega
        simp [h1, h3, tfind_tinsert_ne _ _ h2]

/-- A byte read after bytes are written: the one written, or the one there before. -/
theorem State.byteAt_setBytes (s : State) (a k : Nat) (bs : List Byte) :
    (s.setBytes a bs).byteAt k = if a ≤ k ∧ k < a + bs.length then bs.getD (k - a) 0 else s.byteAt k := by
  have hu : (s.setBytes a bs).unwritten k = s.unwritten k := rfl
  simp only [State.byteAt, hu]
  simp only [State.setBytes, tfind_tinsertN]
  by_cases h1 : a ≤ k
  · by_cases h2 : k < a + bs.length
    · have h3 : k - a < bs.length := by omega
      simp [h1, h2, List.getElem?_eq_getElem h3, List.getD]
    · have h3 : bs.length ≤ k - a := by omega
      simp [h1, h2, List.getElem?_eq_none h3]
  · simp [h1]

theorem tRising_mono {α : Type} {lo lo' : Nat} {t : Tab α} (h : lo' ≤ lo) (ht : tRising lo t = true) : tRising lo' t = true := by
  cases t with
  | nil => rfl
  | cons e t =>
    obtain ⟨j, v⟩ := e
    simp only [tRising, Bool.and_eq_true, decide_eq_true_eq] at *
    exact ⟨by omega, ht.2⟩

theorem tRising_tinsert {α : Type} {lo : Nat} {t : Tab α} {k : Nat} (v : α) (hk : lo ≤ k) (ht : tRising lo t = true) :
    tRising lo (tinsert t k v) = true := by
  induction t generalizing lo with
  | nil => simp [tinsert, tRising, hk]
  | cons e t ih =>
    obtain ⟨j, w⟩ := e
    simp only [tRising, Bool.and_eq_true, decide_eq_true_eq] at ht
    simp only [tinsert]
    split
    · subst_vars; simp [tRising, ht.2, hk]
    · split
      · simp only [tRising, Bool.and_eq_true, decide_eq_true_eq]
        exact ⟨hk, by omega, ht.2⟩
      · simp only [tRising, Bool.and_eq_true, decide_eq_true_eq]
        exact ⟨ht.1, ih (by omega) ht.2⟩

theorem tRising_filter {α : Type} {lo : Nat} {t : Tab α} (p : Nat × α → Bool) (ht : tRising lo t = true) :
    tRising lo (t.filter p) = true := by
  induction t generalizing lo with
  | nil => rfl
  | cons e t ih =>
    obtain ⟨j, w⟩ := e
    simp only [tRising, Bool.and_eq_true, decide_eq_true_eq] at ht
    simp only [List.filter_cons]
    split
    · simp only [tRising, Bool.and_eq_true, decide_eq_true_eq]
      exact ⟨ht.1, ih ht.2⟩
    · exact ih (tRising_mono (by omega) ht.2)

/-- Writing a byte keeps the canonical form. -/
theorem Memory.wf_setByte (s : State) (a : Nat) (b : Byte) (h : Memory.wf s.mem = true) : Memory.wf (s.setByte a b).mem = true :=
  tRising_tinsert b (Nat.zero_le _) h

theorem tRising_tinsertN {t : Tab Byte} (a : Nat) (bs : List Byte) (h : tRising 0 t = true) : tRising 0 (tinsertN t a bs) = true := by
  induction bs generalizing t a with
  | nil => exact h
  | cons b bs ih => exact ih _ (tRising_tinsert b (Nat.zero_le _) h)

/-- Writing bytes keeps the canonical form. -/
theorem Memory.wf_setBytes (s : State) (a : Nat) (bs : List Byte) (h : Memory.wf s.mem = true) :
    Memory.wf (s.setBytes a bs).mem = true := tRising_tinsertN a bs h

/-- Losing contents keeps the canonical form. -/
theorem Memory.wf_forget (s : State) (lo hi : Nat) (h : Memory.wf s.mem = true) : Memory.wf (s.forget lo hi).mem = true :=
  tRising_filter _ h

theorem Memory.wf_reset : Memory.wf State.reset.mem = true := rfl

/-- A byte whose loss is forgotten reads as unwritten. -/
theorem State.tfind_forget (s : State) (lo hi k : Nat) :
    tfind (s.forget lo hi).mem k = if lo ≤ k ∧ k < hi then none else tfind s.mem k := tfind_tclear _ _ _ _

end Sys2Proof.Machine
end

