-- ==== Sys2Proof/Laws/Frames.lean ====
section
/-! SUPPORT. What each shared operation can change, said once: events, log entries, replies, completions, and accesses to memory. -/

namespace Sys2Proof.Machine

/-- Nothing but registers, the log, NVM records and the signals sent differs. -/
def LogFrame (s t : State) : Prop := ∃ r l n o, t = { s with regs := r, log := l, nvm := n, out := o }
/-- Nothing but registers, the command path, the tile network, the fabric's ports and the signals sent differs. -/
def ReplyFrame (s t : State) : Prop := ∃ r c m f o, t = { s with regs := r, cmd := c, mesh := m, fab := f, out := o }
/-- Nothing but registers, error states, the log, NVM records and the signals sent differs. -/
def ReadFrame (s t : State) : Prop := ∃ r e l n o, t = { s with regs := r, ecc := e, log := l, nvm := n, out := o }
/-- Nothing but registers, memory, error states, the log, NVM records and the signals sent differs. -/
def WriteFrame (s t : State) : Prop := ∃ r m e l n o, t = { s with regs := r, mem := m, ecc := e, log := l, nvm := n, out := o }

theorem LogFrame.refl (s : State) : LogFrame s s := ⟨s.regs, s.log, s.nvm, s.out, rfl⟩
theorem LogFrame.trans {s t u : State} (h : LogFrame s t) (k : LogFrame t u) : LogFrame s u := by
  obtain ⟨_, _, _, _, rfl⟩ := h; obtain ⟨_, _, _, _, rfl⟩ := k; exact ⟨_, _, _, _, rfl⟩
theorem ReplyFrame.refl (s : State) : ReplyFrame s s := ⟨s.regs, s.cmd, s.mesh, s.fab, s.out, rfl⟩
theorem ReplyFrame.trans {s t u : State} (h : ReplyFrame s t) (k : ReplyFrame t u) : ReplyFrame s u := by
  obtain ⟨_, _, _, _, _, rfl⟩ := h; obtain ⟨_, _, _, _, _, rfl⟩ := k; exact ⟨_, _, _, _, _, rfl⟩
theorem ReadFrame.refl (s : State) : ReadFrame s s := ⟨s.regs, s.ecc, s.log, s.nvm, s.out, rfl⟩
theorem ReadFrame.trans {s t u : State} (h : ReadFrame s t) (k : ReadFrame t u) : ReadFrame s u := by
  obtain ⟨_, _, _, _, _, rfl⟩ := h; obtain ⟨_, _, _, _, _, rfl⟩ := k; exact ⟨_, _, _, _, _, rfl⟩
theorem LogFrame.read {s t : State} (h : LogFrame s t) : ReadFrame s t := by
  obtain ⟨_, _, _, _, rfl⟩ := h; exact ⟨_, _, _, _, _, rfl⟩
theorem WriteFrame.trans {s t u : State} (h : WriteFrame s t) (k : WriteFrame t u) : WriteFrame s u := by
  obtain ⟨_, _, _, _, _, _, rfl⟩ := h; obtain ⟨_, _, _, _, _, _, rfl⟩ := k; exact ⟨_, _, _, _, _, _, rfl⟩
theorem ReadFrame.write {s t : State} (h : ReadFrame s t) : WriteFrame s t := by
  obtain ⟨_, _, _, _, _, rfl⟩ := h; exact ⟨_, _, _, _, _, _, rfl⟩
theorem WriteFrame.refl (s : State) : WriteFrame s s := (ReadFrame.refl s).write

/-! ### Events and log entries -/

/-- An event changes its field and the signals sent. -/
theorem State.event_frame (s : State) (f : Fld) (m pos : Nat) (en : Fld) (vec : Nat) (fe : Out) :
    LogFrame s (s.event f m pos en vec fe) := by
  unfold State.event
  dsimp only
  split <;> exact ⟨_, _, _, _, rfl⟩

theorem State.logOffer_frame (s : State) (e : LogEntry) : LogFrame s (s.logOffer e) := by
  unfold State.logOffer
  split
  · split
    · exact ⟨_, _, _, _, rfl⟩
    · dsimp only
      split <;> exact ⟨_, _, _, _, rfl⟩
  · exact LogFrame.refl s

theorem State.alert_frame (s : State) (sev : Nat) :
    LogFrame s (if s.get Reg.LOG_IRQ_EN_SEV ≤ sev then s.event Reg.LOG_EVT_ALERT 1 1 Reg.LOG_IRQ_EN_EN 6 .logIrq else s) := by
  split
  · exact State.event_frame _ _ _ _ _ _ _
  · exact LogFrame.refl s

/-- A record written changes NVM records and nothing else. -/
theorem State.persist_nvm (s : State) (r : Rec) : ∃ n, s.persist r = { s with nvm := n } := by
  unfold State.persist State.recWrite State.putRec
  exact ⟨_, rfl⟩

/-- An entry numbered and written changes registers, the log, NVM records and the signals sent. -/
theorem State.logPut_frame (s : State) (e : LogSub) : LogFrame s (s.logPut e) := by
  unfold State.logPut
  refine LogFrame.trans ?_ (State.alert_frame _ _)
  refine LogFrame.trans ?_ (State.event_frame _ _ _ _ _ _ _)
  refine LogFrame.trans ?_ (State.logOffer_frame _ _)
  have keep (b : Prop) [Decidable b] (t : State) (h : LogFrame s t) : LogFrame s (if b then t else t.persist .logReserve) := by
    split
    · exact h
    · obtain ⟨n, hn⟩ := State.persist_nvm t .logReserve
      rw [hn]
      exact h.trans ⟨_, _, _, _, rfl⟩
  exact keep _ _ ⟨_, _, _, _, rfl⟩

theorem State.logLost_frame (s : State) : LogFrame s s.logLost := by
  unfold State.logLost
  split
  · dsimp only
    refine LogFrame.trans ?_ (State.logPut_frame _ _)
    exact ⟨_, _, _, _, rfl⟩
  · exact LogFrame.refl s

/-- An entry written by the kettle changes registers, the log, NVM records and the signals sent. -/
theorem State.logWrite_frame (s : State) (e : LogSub) : LogFrame s (s.logWrite e) :=
  (State.logLost_frame s).trans (State.logPut_frame _ _)

/-- An entry handed to the input queue changes registers and the log. -/
theorem State.logSubmit_frame (s : State) (e : LogSub) : LogFrame s (s.logSubmit e) := by
  unfold State.logSubmit
  split <;> exact ⟨_, _, _, _, rfl⟩

/-- An event logged changes registers, the log, NVM records and the signals sent, and nothing else. -/
theorem State.logEvent_frame (s : State) (code src : Nat) (data : List Byte) : LogFrame s (s.logEvent code src data) := by
  unfold State.logEvent
  dsimp only
  split
  · exact State.logWrite_frame s _
  · exact State.logSubmit_frame s _

theorem State.logTake_frame (s : State) : LogFrame s s.logTake := by
  unfold State.logTake
  split
  · exact LogFrame.refl s
  · refine LogFrame.trans ?_ (State.logWrite_frame _ _)
    exact ⟨_, _, _, _, rfl⟩

theorem State.logTakeN_frame (n : Nat) (s : State) : LogFrame s (State.logTakeN n s) := by
  induction n generalizing s with
  | zero => exact LogFrame.refl s
  | succ n ih => exact (State.logTake_frame s).trans (ih _)

/-- An event logged at once changes registers, the log, NVM records and the signals sent, and nothing else. -/
theorem State.logNow_frame (s : State) (code src : Nat) (data : List Byte) : LogFrame s (s.logNow code src data) :=
  (State.logTakeN_frame _ s).trans (State.logWrite_frame _ _)

@[simp] theorem State.logEvent_mem (s : State) (code src : Nat) (data : List Byte) : (s.logEvent code src data).mem = s.mem := by
  obtain ⟨r, l, n, o, h⟩ := State.logEvent_frame s code src data; rw [h]
@[simp] theorem State.logEvent_win (s : State) (code src : Nat) (data : List Byte) : (s.logEvent code src data).win = s.win := by
  obtain ⟨r, l, n, o, h⟩ := State.logEvent_frame s code src data; rw [h]
@[simp] theorem State.logEvent_ecc (s : State) (code src : Nat) (data : List Byte) : (s.logEvent code src data).ecc = s.ecc := by
  obtain ⟨r, l, n, o, h⟩ := State.logEvent_frame s code src data; rw [h]
@[simp] theorem State.logEvent_pending (s : State) (code src : Nat) (data : List Byte) :
    (s.logEvent code src data).pending = s.pending := by
  obtain ⟨r, l, n, o, h⟩ := State.logEvent_frame s code src data; rw [h]

/-! ### Replies -/

/-- A packet on the tile network changes the network and nothing else. -/
theorem State.netSend_mesh (s : State) (src dst c data : Nat) : ∃ m, s.netSend src dst c data = { s with mesh := m } := by
  unfold State.netSend
  split <;> exact ⟨_, rfl⟩
/-- Data on the tile network changes the network and nothing else. -/
theorem State.netBytes_mesh (s : State) (src dst c n : Nat) : ∃ m, s.netBytes src dst c n = { s with mesh := m } := by
  unfold State.netBytes
  induction List.range (ceilDiv n 64) generalizing s with
  | nil => exact ⟨_, rfl⟩
  | cons i l ih =>
    obtain ⟨m, hm⟩ := State.netSend_mesh s src dst c (min 64 (n - 64 * i))
    obtain ⟨m', hm'⟩ := ih (s.netSend src dst c (min 64 (n - 64 * i)))
    exact ⟨m', by rw [List.foldl_cons, hm', hm]⟩
/-- A push changes its queue block and nothing else. -/
theorem State.fifoPush_fab (s : State) (c : QbCfg) (v : Nat) : ∃ f, s.fifoPush c v = { s with fab := f } := by
  unfold State.fifoPush
  dsimp only
  split
  · exact ⟨_, rfl⟩
  · split <;> exact ⟨_, rfl⟩
/-- Words that enter a port's reply block change the fabric and nothing else. -/
theorem State.portFill_fab (s : State) (d : Nat) : ∃ f, s.portFill d = { s with fab := f } := by
  unfold State.portFill
  split
  · exact ⟨_, rfl⟩
  · rename_i _ c _
    rename_i h
    clear h
    induction tget [] s.fab.portOut d generalizing s with
    | nil => exact ⟨_, rfl⟩
    | cons w l ih =>
      rw [List.foldl_cons]
      split
      · exact ih s
      · obtain ⟨f, hf⟩ := State.fifoPush_fab s c w
        obtain ⟨f', hf'⟩ := ih ((s.fifoPush c w).portGone d)
        exact ⟨f', by rw [hf', hf]; rfl⟩
/-- A reply sent to the fabric changes the tile network and the fabric. -/
theorem State.portSend_frame (s : State) (d : Nat) (b : List Byte) : ReplyFrame s (s.portSend d b) := by
  unfold State.portSend
  dsimp only
  obtain ⟨f, hf⟩ := State.portFill_fab _ d
  rw [hf]
  split
  · rename_i r _ _ _
    obtain ⟨m, hm⟩ := State.netBytes_mesh s plinthPlace (regionPlace r) clsMgt b.length
    rw [hm]
    exact ⟨_, _, _, _, _, rfl⟩
  · exact ⟨_, _, _, _, _, rfl⟩

theorem State.mbxPlaceN_frame (n : Nat) (s : State) : ReplyFrame s (State.mbxPlaceN n s) := by
  induction n generalizing s with
  | zero => exact ReplyFrame.refl s
  | succ n ih =>
    unfold State.mbxPlaceN
    split
    · exact ReplyFrame.refl s
    · split
      · dsimp only
        refine ReplyFrame.trans ?_ (ih _)
        split <;> exact ⟨_, _, _, _, _, rfl⟩
      · exact ReplyFrame.refl s

/-- A reply handed to its transport changes registers, the command path, the tile network, the fabric's ports and the signals sent. -/
theorem State.deliver_frame (s : State) (p : Packet) : ReplyFrame s (s.deliver p) := by
  unfold State.deliver
  split
  · split
    · unfold State.mbxPlace
      dsimp only
      refine ReplyFrame.trans (ReplyFrame.trans ?_ (State.mbxPlaceN_frame 8 _)) ⟨_, _, _, _, _, rfl⟩
      exact ⟨_, _, _, _, _, rfl⟩
    · exact ReplyFrame.refl s
  · split <;> exact ⟨_, _, _, _, _, rfl⟩
  · exact ⟨_, _, _, _, _, rfl⟩
  · exact ⟨_, _, _, _, _, rfl⟩
  · split <;> exact ⟨_, _, _, _, _, rfl⟩
  · split
    · exact ReplyFrame.refl s
    · split
      · exact ⟨_, _, _, _, _, rfl⟩
      · refine ReplyFrame.trans ?_ (State.portSend_frame _ _ _)
        exact ⟨_, _, _, _, _, rfl⟩

theorem State.amend_frame (s : State) (p r : Packet) : ReplyFrame s (s.amend p r) := ⟨_, _, _, _, _, rfl⟩
theorem State.closeSession_frame (s : State) (n : Nat) : ReplyFrame s (s.closeSession n) := ⟨_, _, _, _, _, rfl⟩

/-- The end of a long operation changes registers, the command path, the tile network, the fabric's ports and the signals sent. -/
theorem State.completeAt_frame (s : State) (i : Nat) (a : Ans) : ReplyFrame s (s.completeAt i a) := by
  unfold State.completeAt
  split
  · exact ReplyFrame.refl s
  · rename_i o _
    have h1 : ReplyFrame s { s with cmd := { s.cmd with longOps := s.cmd.longOps.eraseIdx i } } := ⟨_, _, _, _, _, rfl⟩
    dsimp only
    split
    · exact h1
    · have close (b : Bool) (n : Nat) (t : State) (h : ReplyFrame s t) : ReplyFrame s (if b then t.closeSession n else t) := by
        split
        · exact h.trans (State.closeSession_frame _ _)
        · exact h
      have give (b : Bool) (p : Packet) (t : State) (h : ReplyFrame s t) : ReplyFrame s (if b then t.deliver p else t) := by
        split
        · exact h.trans (State.deliver_frame _ _)
        · exact h
      have note (b : Bool) (p q : Packet) (t : State) (h : ReplyFrame s t) : ReplyFrame s (if b then t.amend p q else t) := by
        split
        · exact h.trans (State.amend_frame _ _ _)
        · exact h
      exact close _ _ _ (give _ _ _ (note _ _ _ _ h1))

theorem State.completeReq_frame (s : State) (p : Packet) (a : Ans) : ReplyFrame s (s.completeReq p a) := by
  unfold State.completeReq
  split
  · exact ReplyFrame.refl s
  · exact State.completeAt_frame s _ a
theorem State.complete_frame (s : State) (code : Nat) (a : Ans) : ReplyFrame s (s.complete code a) := by
  unfold State.complete
  split
  · exact ReplyFrame.refl s
  · exact State.completeAt_frame s _ a

/-- A packet row answers a next state unless the packet's OPCODE is that of another row. -/
theorem serve_answers (op : OpSpec) (p : Packet) (s : State) (h : (opcodeKnown p.opcode.toNat && p.opcode.toNat != op.code) = false) :
    serve op p s = match s.takePacket p with
      | none => .next s
      | some s1 => .next (servePacket op s1.leaveIdle p).settleCastChain := by
  unfold serve
  cases hh : s.takePacket p <;> simp [h]

/-! ### Accesses to memory -/

theorem State.correct_frame (s : State) (u : Nat) : ReadFrame s (s.correct u) := by
  unfold State.correct
  dsimp only
  split
  · split
    · refine ReadFrame.trans ?_ (State.logEvent_frame _ _ _ _).read
      exact ⟨_, _, _, _, _, rfl⟩
    · exact ⟨_, _, _, _, _, rfl⟩
  · split
    · refine ReadFrame.trans ?_ (State.logEvent_frame _ _ _ _).read
      exact ⟨_, _, _, _, _, rfl⟩
    · exact ⟨_, _, _, _, _, rfl⟩
  · exact ⟨_, _, _, _, _, rfl⟩
  · exact ⟨_, _, _, _, _, rfl⟩

theorem State.countUe_frame (s : State) (u : Nat) : LogFrame s (s.countUe u) := by
  unfold State.countUe
  split <;> exact ⟨_, _, _, _, rfl⟩

theorem State.logMem_frame (s : State) (reader code src : Nat) (data : List Byte) : LogFrame s (s.logMem reader code src data) := by
  unfold State.logMem
  split
  · exact State.logNow_frame s code src data
  · exact State.logEvent_frame s code src data

/-- One error block read changes counters, error states, the log, NVM records and the signals sent, and no byte. -/
theorem State.readUnit_frame (s : State) (reader u : Nat) : ReadFrame s (s.readUnit reader u).1 := by
  unfold State.readUnit
  dsimp only
  split
  · exact ReadFrame.refl s
  · exact State.correct_frame s u
  · refine ReadFrame.trans (ReadFrame.trans ?_ (State.countUe_frame _ u).read) (State.logMem_frame _ _ _ _ _).read
    exact ⟨_, _, _, _, _, rfl⟩
  · split
    · exact ReadFrame.refl s
    · exact (State.logMem_frame _ _ _ _ _).read

theorem State.readUnits_frame (s : State) (reader : Nat) (us : List (Nat × Nat)) : ReadFrame s (s.readUnits reader us).1 := by
  induction us generalizing s with
  | nil => exact ReadFrame.refl s
  | cons u us ih => exact (State.readUnit_frame s reader u.1).trans (ih _)

/-- A read by a requester changes no byte: counters, error states, the log, NVM records and the signals sent only. -/
theorem State.readMem_frame (s : State) (reader a n : Nat) : ReadFrame s (s.readMem reader a n).1 :=
  State.readUnits_frame s reader _
/-- A read by a requester answers the bytes that stood there. -/
theorem State.readMem_bytes (s : State) (reader a n : Nat) : (s.readMem reader a n).2.1 = s.bytesAt a n := rfl

/-- One block written changes the bytes given, counters, error states, the log, NVM records and the signals sent. -/
theorem State.writeUnit_frame (s : State) (writer a : Nat) (bs : List Byte) (u sz : Nat) : WriteFrame s (s.writeUnit writer a bs u sz) := by
  unfold State.writeUnit
  dsimp only
  split
  · exact ⟨_, _, _, _, _, _, rfl⟩
  · split
    · exact ⟨_, _, _, _, _, _, rfl⟩
    · exact (State.correct_frame s u).write.trans ⟨_, _, _, _, _, _, rfl⟩
    · refine WriteFrame.trans ?_ (State.logSubmit_frame _ _).read.write
      split
      · refine WriteFrame.trans ?_ (State.countUe_frame _ u).read.write
        exact ⟨_, _, _, _, _, _, rfl⟩
      · exact WriteFrame.refl s

theorem State.writeUnits_frame (s : State) (writer a : Nat) (bs : List Byte) (us : List (Nat × Nat)) :
    WriteFrame s (us.foldl (fun s u => s.writeUnit writer a bs u.1 u.2) s) := by
  induction us generalizing s with
  | nil => exact WriteFrame.refl s
  | cons u us ih => exact (State.writeUnit_frame s writer a bs u.1 u.2).trans (ih _)

/-- A write by a requester changes memory, error states, counters, the log, NVM records and the signals sent, and nothing else. -/
theorem State.writeMem_frame (s : State) (writer a : Nat) (bs : List Byte) : WriteFrame s (s.writeMem writer a bs) := by
  unfold State.writeMem
  split
  · exact State.writeUnits_frame s writer a bs _
  · exact ⟨_, _, _, _, _, _, rfl⟩

end Sys2Proof.Machine
end

