-- ==== Sys2Proof/Tests/Base.lean ====
section
/-! SUPPORT. Small states, packets and the conditions of a command packet as one check, for the tests and the witnesses. -/

namespace Sys2Proof.Tests
open Sys2Proof Sys2Proof.Machine
set_option Elab.async false

/-- The M7 in RUN with every die powered and the steward up. -/
def on : State :=
  let s := { State.reset with pwr := { State.reset.pwr with kettle := .on, enB := true, enF := true, enC := true, enL := true, upB := true,
                                                            upF := true, upC := true, upL := true, resetLow := false } }
  s.put Reg.MBX_STATUS_READY 1
/-- The same with a command port of fabric die 0 in the cast. -/
def onPort : State := { on with fab := { on.fab with pers := { on.fab.pers with cmdPort := [(0, 0, 1)] } } }
/-- A state with fields written. -/
def st (l : List (Fld × Nat)) : State := l.foldl (fun s e => s.put e.1 e.2) on
/-- The state after a command, the reset state where it has none. -/
def aft (i : Instr) (s : State) : State := match exec i s with
  | .next t => t
  | _ => State.reset
/-- The command answers a next state. -/
def goes (i : Instr) (s : State) : Bool := match exec i s with
  | .next _ => true
  | _ => false

/-- A framed request. -/
def mk (via : Transport) (role code : Nat) (pay : List Byte) : Packet :=
  let p : Packet := { via := via, magic := 0x4D37, ver := 1, flags := 0, opcode := BitVec.ofNat 16 code, seq := 0, role := BitVec.ofNat 8 role,
                      session := 0, len := BitVec.ofNat 16 pay.length, crc := 0, body := pay }
  { p with crc := BitVec.ofNat 32 (crc32c p.covered) }
/-- A request of the manager on SMBus, of the host on the SPI target port, of a fabric die, and of a peer. -/
def mgr (code : Nat) (pay : List Byte) : Packet := mk .smbus 1 code pay
def host (code : Nat) (pay : List Byte) : Packet := mk .spi 0 code pay
def fabr (code : Nat) (pay : List Byte) : Packet := mk (.fabric 0) 3 code pay
/-- The session key of the tests, and a request of the session 1 with its tag. -/
def tkey : List Byte := List.replicate 32 7
def sealed (via : Transport) (role code : Nat) (pay : List Byte) : Packet :=
  let p : Packet := { via := via, magic := 0x4D37, ver := 1, flags := 4, opcode := BitVec.ofNat 16 code, seq := 0, role := BitVec.ofNat 8 role,
                      session := 1, len := BitVec.ofNat 16 pay.length, crc := 0, body := pay }
  let q := { p with crc := BitVec.ofNat 32 (crc32c p.covered) }
  { q with body := pay ++ gcmTag tkey (q.iv 0) q.covered [] }
/-- The packet at the head of its transport, the session 1 of its role open. -/
def give (s : State) (p : Packet) : State :=
  let c := s.cmd
  let x : Session := { num := 1, role := p.role.toNat, key := tkey, started := false, fails := 0, verified := 0, last := 0 }
  { s with cmd := { c with spiReq := (if p.via = .spi then [p] else []), mbxReq := (if p.via = .pcie then [p] else []),
                           peerIn := (match p.via with | .holwell _ => [p] | _ => []), sessions := (if p.session = 0 then [] else [x]) } }
/-- The request that goes on. -/
def ctx (p : Packet) : Ctx := { p := p, auth := p.fAuth, key := if p.session = 0 then [] else tkey, data := p.payload }
/-- The state after the session check from the state that the transport has left, and with SEQ accepted. -/
def baseT (t : State) (p : Packet) : State :=
  let b := t.leaveIdle
  match b.session 1 p.role.toNat with
  | some x => if p.fAuth then b.putSession { x with fails := 0, verified := b.time.up } else b
  | none => b
def takenT (t : State) (p : Packet) : State := seqTaken (baseT t p) p
/-- The same from the state before. -/
def base (s : State) (p : Packet) : State := baseT (match s.takePacket p with | some t => t | none => s) p
def taken (s : State) (p : Packet) : State := seqTaken (base s p) p
/-- A packet reaches its command from the state that its transport has left; `skip` leaves its CRC and its tag out. -/
def reachT (skip : Bool) (op : OpSpec) (t : State) (p : Packet) : Bool :=
  let c := ctx p
  let b := baseT t p
  let u := takenT t p
  p.opcode.toNat == op.code && (p.magic == 0x4D37 && !p.fReply && decide (p.len.toNat ≤ 4064) &&
    p.body.length == p.len.toNat + (if p.fAuth then 16 else 0) && (skip || crc32c p.covered == p.crc.toNat) && p.ver == 1 &&
    decide (p.flags.toNat < 16) && roleOnTransport p) && !p.fChain && opcodeKnown op.code &&
  ((p.session == 0 && !p.fAuth) || (p.session == 1 && p.fAuth && (skip || gcmTag tkey (p.iv 0) p.covered [] == p.tag) &&
    t.leaveIdle.session 1 p.role.toNat == some { num := 1, role := p.role.toNat, key := tkey, started := false, fails := 0, verified := 0, last := 0 })) &&
  seqCheck (b.stream p.stream) (seqSession b p) p == .fresh && (b.stream p.stream).chain.isNone &&
  op.roles.contains c.role && (!op.auth u c || c.auth) && op.lenOk c.data && (op.range u c).isNone && (u.stewardUp || kettleServes c) &&
  (!op.long u c || decide ((u.cmd.longOps.filter (fun o => !o.late && !o.silent && o.req.stream == c.p.stream)).length < 16)) &&
  (!writesNvm c || u.bud.trip.isNone) && (!brakeRefuses c || u.get Reg.BUD_STAT_BRAKE != 2) && (!bistBars c || u.bist.isNone)
/-- A packet that its transport gives up reaches its command. -/
def reachTag (skip : Bool) (op : OpSpec) (s : State) (p : Packet) : Bool := match s.takePacket p with
  | some t => reachT skip op t p
  | none => false

/-- The session of the tests. -/
def tsess (p : Packet) : Session := { num := 1, role := p.role.toNat, key := tkey, started := false, fails := 0, verified := 0, last := 0 }

theorem inSession_auth (t : State) (p : Packet) (h1 : p.session = 1) (h2 : p.fAuth = true)
    (h3 : gcmTag tkey (p.iv 0) p.covered [] = p.tag) (h4 : t.leaveIdle.session 1 p.role.toNat = some (tsess p)) :
    InSession t.leaveIdle p (ctx p) (baseT t p) := by
  have h5 : p.session.toNat = 1 := by rw [h1]; rfl
  have h6 : p.session ≠ 0 := by rw [h1]; decide
  refine Or.inr ⟨h6, tsess p, by rw [h5]; exact h4, Or.inr ⟨h2, h3, ?_, ?_⟩⟩
  · unfold ctx tsess; rw [h2, if_neg h6]
  · unfold baseT; simp only [h4, h2, if_true]

/-- A packet reaches its command. -/
def reach (op : OpSpec) (s : State) (p : Packet) : Bool := reachTag false op s p

theorem leBytes_length (n x : Nat) : (leBytes n x).length = n := by
  induction n generalizing x with
  | zero => rfl
  | succ n ih => simp [leBytes, ih]

/-- The tag of `sealed` is right. -/
theorem sealed_tag (via : Transport) (role code : Nat) (pay : List Byte) (h : pay.length < 65536) :
    let p := sealed via role code pay
    gcmTag tkey (p.iv 0) p.covered [] = p.tag := by
  intro p
  have h1 : p.payload = pay := by
    simp only [p, sealed, Packet.payload, BitVec.toNat_ofNat]
    rw [Nat.mod_eq_of_lt (by simpa using h)]
    simp
  have h2 : ∀ key iv aad ct, (gcmTag key iv aad ct).length = 16 := by
    intros; simp [gcmTag, beBytes, leBytes_length]
  simp only [Packet.covered, h1]
  simp only [p, sealed, Packet.tag, BitVec.toNat_ofNat]
  rw [Nat.mod_eq_of_lt (by simpa using h), List.drop_left, List.take_of_length_le (by rw [h2])]
  simp only [Packet.iv, Packet.header, Packet.covered, Packet.payload, BitVec.toNat_ofNat]
  rw [show List.take (pay.length % 2 ^ 16) pay = pay by rw [Nat.mod_eq_of_lt (by simpa using h), List.take_length]]

theorem crc_bit_lt (c : Nat) (h : c < 2 ^ 32) : crc32cBit c < 2 ^ 32 := by
  unfold crc32cBit
  split
  · exact Nat.xor_lt_two_pow (by rw [Nat.shiftRight_eq_div_pow]; omega) (by decide)
  · rw [Nat.shiftRight_eq_div_pow]; omega
theorem crc_bits_lt (n c : Nat) (h : c < 2 ^ 32) : crc32cBits n c < 2 ^ 32 := by
  induction n generalizing c with
  | zero => exact h
  | succ n ih => exact ih _ (crc_bit_lt c h)
theorem crc_run_lt (l : List Byte) (c : Nat) (h : c < 2 ^ 32) : crc32cRun c l < 2 ^ 32 := by
  induction l generalizing c with
  | nil => exact h
  | cons b l ih => exact ih _ (crc_bits_lt 8 _ (Nat.xor_lt_two_pow h (by have := b.isLt; omega)))
theorem crc32c_lt (l : List Byte) : crc32c l < 2 ^ 32 := Nat.xor_lt_two_pow (crc_run_lt l _ (by decide)) (by decide)

/-- The CRC of `sealed` is right. -/
theorem sealed_crc (via : Transport) (role code : Nat) (pay : List Byte) (h : pay.length < 65536) :
    let p := sealed via role code pay
    crc32c p.covered = p.crc.toNat := by
  intro p
  have h1 : p.payload = pay := by
    simp only [p, sealed, Packet.payload, BitVec.toNat_ofNat]
    rw [Nat.mod_eq_of_lt (by simpa using h)]
    simp
  simp only [Packet.covered, h1]
  simp only [p, sealed, BitVec.toNat_ofNat, Packet.covered, Packet.payload, Packet.header]
  rw [Nat.mod_eq_of_lt (crc32c_lt _), show List.take (pay.length % 2 ^ 16) pay = pay by rw [Nat.mod_eq_of_lt (by simpa using h), List.take_length]]

theorem xor_ks (m ks : List Byte) (h : m.length ≤ ks.length) :
    List.zipWith (· ^^^ ·) (List.zipWith (· ^^^ ·) m ks) ks = m := by
  induction m generalizing ks with
  | nil => rfl
  | cons a m ih =>
    cases ks with
    | nil => simp at h
    | cons k ks => simp [ih ks (by simpa using h)]
theorem ctr_length (keys : List (List Nat)) (iv n c : Nat) (m : List Byte) (h : m.length ≤ 16 * n) :
    (gcmCtr keys iv n c m).length = m.length := by
  induction n generalizing c m with
  | zero => simp [gcmCtr]; omega
  | succ n ih =>
    have := ih (c + 1) (m.drop 16) (by rw [List.length_drop]; omega)
    simp only [gcmCtr, List.length_append, this, List.length_zipWith, List.length_take, List.length_drop, beBytes, List.length_reverse,
      leBytes_length]
    omega
theorem ctr_twice (keys : List (List Nat)) (iv n c : Nat) (m : List Byte) (h : m.length ≤ 16 * n) :
    gcmCtr keys iv n c (gcmCtr keys iv n c m) = m := by
  induction n generalizing c m with
  | zero => simp [gcmCtr]; exact List.eq_nil_of_length_eq_zero (by omega)
  | succ n ih =>
    have hk : (beBytes 16 (aesBlock keys (iv <<< 32 ||| c))).length = 16 := by simp [beBytes, leBytes_length]
    generalize hks : beBytes 16 (aesBlock keys (iv <<< 32 ||| c)) = ks at hk
    have hx : (List.zipWith (· ^^^ ·) (m.take 16) ks).length = min 16 m.length := by simp [hk]
    by_cases hm : 16 ≤ m.length
    · have e1 : (gcmCtr keys iv (n + 1) c m).take 16 = List.zipWith (· ^^^ ·) (m.take 16) ks := by
        simp only [gcmCtr, hks]; rw [List.take_append_of_le_length (by omega), List.take_of_length_le (by omega)]
      have e2 : (gcmCtr keys iv (n + 1) c m).drop 16 = gcmCtr keys iv n (c + 1) (m.drop 16) := by
        simp only [gcmCtr, hks]; rw [List.drop_append_of_le_length (by omega), List.drop_eq_nil_of_le (by omega), List.nil_append]
      rw [show gcmCtr keys iv (n + 1) c (gcmCtr keys iv (n + 1) c m) =
        List.zipWith (· ^^^ ·) ((gcmCtr keys iv (n + 1) c m).take 16) ks ++
          gcmCtr keys iv n (c + 1) ((gcmCtr keys iv (n + 1) c m).drop 16) by rw [← hks]; rfl, e1, e2,
        xor_ks _ _ (by simp [hk]), ih _ _ (by simp; omega), List.take_append_drop]
    · have e0 : gcmCtr keys iv n (c + 1) (m.drop 16) = [] :=
        List.eq_nil_of_length_eq_zero (by rw [ctr_length _ _ _ _ _ (by simp; omega)]; simp; omega)
      have e1 : gcmCtr keys iv (n + 1) c m = List.zipWith (· ^^^ ·) m ks := by
        simp only [gcmCtr, hks]; rw [e0, List.append_nil, List.take_of_length_le (by omega)]
      have e3 : gcmCtr keys iv n (c + 1) [] = [] :=
        List.eq_nil_of_length_eq_zero (by rw [ctr_length _ _ _ _ _ (by simp)]; simp)
      have e2 : (List.zipWith (· ^^^ ·) m ks).length ≤ 16 := by simp [hk]
      rw [e1]
      simp only [gcmCtr, hks]
      rw [List.take_of_length_le e2, List.drop_eq_nil_of_le e2, e3, List.append_nil, xor_ks _ _ (by omega)]
/-- What `gcmSeal` seals, `gcmOpen` opens. -/
theorem gcm_round (key iv aad pt : List Byte) : gcmOpen key iv aad (gcmSeal key iv aad pt) = some pt := by
  have h2 : ∀ key iv aad ct, (gcmTag key iv aad ct).length = 16 := by intros; simp [gcmTag, beBytes, leBytes_length]
  have h3 : pt.length ≤ 16 * ceilDiv pt.length 16 := by unfold ceilDiv; omega
  have h4 := ctr_length (aesKeys key) (beNat iv) (ceilDiv pt.length 16) 2 pt h3
  unfold gcmOpen gcmSeal
  simp only [List.length_append, h2, h4, Nat.add_sub_cancel]
  rw [if_neg (by omega), List.drop_left' h4, List.take_left' h4, if_pos rfl, ctr_twice _ _ _ _ _ h3]

/-- What `reach` checks is what the statements assume. -/
theorem reachT_sound (skip : Bool) (op : OpSpec) (s t : State) (p : Packet) (ht : s.takePacket p = some t) (h : reachT skip op t p = true)
    (hs : skip = true → gcmTag tkey (p.iv 0) p.covered [] = p.tag ∧ crc32c p.covered = p.crc.toNat) :
    Reaches op s p (ctx p) (baseT t p) (takenT t p) := by
  unfold reachT at h
  simp only [Bool.and_eq_true, Bool.or_eq_true, beq_iff_eq, decide_eq_true_eq, Option.isNone_iff_eq_none, List.contains_iff_mem,
    Bool.not_eq_eq_eq_not, Bool.not_true, bne_iff_ne, ne_eq] at h
  obtain ⟨⟨⟨⟨⟨⟨⟨⟨⟨⟨⟨⟨⟨⟨⟨h1, h2⟩, h3⟩, h4⟩, h6⟩, h7⟩, h8⟩, h9⟩, h10⟩, h11⟩, h12⟩, h13⟩, h14⟩, h15⟩, h16⟩, h17⟩ := h
  refine ⟨h1, ?_, h3, h4, ⟨t, ht, ?_⟩, h7, h8, rfl, h9, ?_, h11, h12, h13, ?_, ?_, ?_, ?_⟩
  · exact ⟨h2.1.1.1.1.1.1.1, h2.1.1.1.1.1.1.2, h2.1.1.1.1.1.2, h2.1.1.1.1.2, h2.1.1.1.2.elim (fun a => (hs a).2) id, h2.1.1.2, h2.1.2, h2.2⟩
  · rcases h6 with ⟨b1, b2⟩ | ⟨⟨⟨b1, b2⟩, b3⟩, b4⟩
    · left
      refine ⟨b1, b2, by simp [ctx, b1, b2], ?_⟩
      simp only [baseT, b2]
      split <;> simp
    · exact inSession_auth t p b1 b2 (b3.elim (fun a => (hs a).1) id) (by simpa [tsess] using b4)
  · exact fun a => h10.resolve_left (by simp [a])
  · exact fun a => h14.resolve_left (by simp [a])
  · exact fun a => h15.resolve_left (by simp [a])
  · exact fun a => h16.resolve_left (by simp [a])
  · exact fun a => h17.resolve_left (by simp [a])
theorem reachTag_sound (skip : Bool) (op : OpSpec) (s : State) (p : Packet) (h : reachTag skip op s p = true)
    (hs : skip = true → gcmTag tkey (p.iv 0) p.covered [] = p.tag ∧ crc32c p.covered = p.crc.toNat) :
    Reaches op s p (ctx p) (base s p) (taken s p) := by
  unfold reachTag at h
  unfold taken base
  split at h
  · rename_i t ht
    exact reachT_sound skip op s t p ht h hs
  · simp at h

theorem reach_sound (op : OpSpec) (s : State) (p : Packet) (h : reach op s p = true) :
    Reaches op s p (ctx p) (base s p) (taken s p) := reachTag_sound false op s p h (by simp)
/-- The same of a packet with a tag. -/
theorem reachS_sound (op : OpSpec) (s : State) (via : Transport) (role code : Nat) (pay : List Byte)
    (h : reachTag true op s (sealed via role code pay) = true) (hl : pay.length < 65536) :
    Reaches op s (sealed via role code pay) (ctx (sealed via role code pay)) (base s (sealed via role code pay))
      (taken s (sealed via role code pay)) := reachTag_sound true op s _ h (fun _ =>
      ⟨sealed_tag via role code pay hl, sealed_crc via role code pay hl⟩)

end Sys2Proof.Tests
end

