-- ==== Sys2Proof/Tests/Packets.lean ====
section
/-! SUPPORT. Witnesses and small tests of the packet layer: states and packets that meet the hypotheses of its statements. -/

namespace Sys2Proof.Tests
open Sys2Proof Sys2Proof.Machine
set_option Elab.async false

/-- An ECHO with one field spoilt. -/
def echo : Packet := mgr 0x100 [1, 2, 3]
def resum (p : Packet) : Packet := { p with crc := BitVec.ofNat 32 (crc32c p.covered) }
/-- DETAIL and STATUS of the newest reply on SMBus. -/
def reply (s : State) : Nat × Nat := match s.cmd.mgmtOut.getLast? with
  | some r => (leAt r.body 0 2, leAt r.body 2 2)
  | none => (0xFFFF, 0xFFFF)

/-- CRC-32C of the digits 1 to 9 (the check value of the Castagnoli polynomial). -/
theorem test_crc32c : crc32c [0x31, 0x32, 0x33, 0x34, 0x35, 0x36, 0x37, 0x38, 0x39] = 0xE3069283 := by decide +kernel

theorem witness_identity_drop : commandOf on (.echo { echo with magic := 0 }) = some (echoOp, { echo with magic := 0 }) ∧
    (on.takePacket { echo with magic := 0 }).isSome = true ∧
    (aft (.echo { echo with magic := 0 }) on).get Reg.CMD_DROPS_COUNT = 1 ∧
    (aft (.echo { echo with flags := 1 }) on).get Reg.CMD_DROPS_COUNT = 1 ∧ (aft (.echo { echo with magic := 0 }) on).cmd.mgmtOut = [] := by
  refine ⟨rfl, ?_, ?_, ?_, ?_⟩ <;> decide +kernel
theorem witness_layer_errors :
    reply (aft (.echo { echo with body := [] }) on) = (3, 0xFFFF) ∧
    reply (aft (.echo { echo with crc := echo.crc + 1 }) on) = (4, 0) ∧
    reply (aft (.echo (resum { echo with ver := 2 })) on) = (2, 1) ∧
    reply (aft (.echo (resum { echo with flags := 16 })) on) = (2, 2) ∧
    reply (aft (.echo (resum { echo with role := 0 })) on) = (5, 2) ∧
    reply (aft (.echo (resum { echo with session := 9 })) on) = (5, 5) := by decide +kernel
theorem witness_duplicate :
    let s := aft (.echo echo) on
    (s.stream echo.stream).recs.any (fun r => r.seq == 0 && !r.running && r.crc == echo.crc.toNat) = true ∧
    (aft (.echo echo) s).cmd.mgmtOut.length = 2 ∧ reply (aft (.echo echo) s) = (0, 0) ∧
    reply (aft (.echo (mgr 0x100 [9])) s) = (0xE, 0xFF02) := by decide +kernel
theorem witness_command_runs : reach echoOp on echo = true ∧ reply (aft (.echo echo) on) = (0, 0) ∧
    ((aft (.echo echo) on).cmd.mgmtOut.map (fun r => (r.seq, r.body.drop 4))) = [(0, [1, 2, 3])] := by decide +kernel
theorem witness_session_with_tag : reachTag true echoOp (give on (sealed .smbus 1 0x100 [1])) (sealed .smbus 1 0x100 [1]) = true := by
  decide +kernel
/-- Role, AUTH, LEN and a parameter refused: LAMP_SET is not the manager's in this form, ENS_JOIN needs AUTH. -/
theorem witness_refused :
    reply (aft (.xdramConfig (mgr 0x400 (zeros 8))) on) = (5, 1) ∧ reply (aft (.ensLeave (mgr 0x611 [])) on) = (5, 3) ∧
    reply (aft (.getInfo (mgr 0x101 [1])) on) = (3, 0) ∧ reply (aft (.memStatus (mgr 0x405 [2, 0, 0, 0])) on) = (5, 1) ∧
    reply (aft (.lampRetry (mgr 0x802 [8, 0, 0, 0])) on) = (7, 0) := by decide +kernel
theorem witness_role_transport :
    let p := resum { echo with role := 2 }
    roleOnTransport p = false ∧ p.len.toNat ≤ 4064 ∧ p.body.length = p.len.toNat ∧ reply (aft (.echo p) on) = (5, 2) := by decide +kernel
theorem witness_brake :
    let s := st [(Reg.BUD_STAT_BRAKE, 2)]
    reply (aft (.bistStatus (mgr 0xA01 [])) s) = (9, 2) ∧
    reply (aft (.pwrSetState (mgr 0x200 [0, 0, 1, 0])) s) = (9, 2) := by decide +kernel

/-- A command waiting at the front of the queue runs. -/
theorem test_step : (match step { on with pending := [.ctrlFlitDue 0, .keyRowLow] } with
    | .next t => t.pending == [.keyRowLow]
    | _ => false) = true := by decide +kernel

end Sys2Proof.Tests
end

