-- ==== Sys2Proof/Tests/Vault.lean ====
section
/-! SUPPORT. Witnesses and small tests of the vault and the sealed match engine. -/

namespace Sys2Proof.Tests
open Sys2Proof Sys2Proof.Machine
set_option Elab.async false

/-- A part of the vault changed. -/
def vt (f : VaultUnit → VaultUnit) (s : State) : State := { s with vault := f s.vault }
/-- A vector whose first element is one, and a vault that holds it in slot 3. -/
def ones : List Byte := [0x00, 0x3C] ++ zeros 1022
def tmpl : Template := { mdata := zeros 64, vec := ones, desc := 0, block := 0 }
def vault : State := 
  let d : VDesc := { slot := 3, seq := 1, kind := 1, block := 0, mdata := zeros 64, gen := 0, good := true, live := true }
  vt (fun v => { v with keyed := true, filled := true, slots := [(3, tmpl)], seq := 1, descs := [(0, d)], blocks := [(0, ⟨3, 1, ones, true⟩)] }) (st [(Reg.VLT_STATUS_STATE, 1), (Reg.VLT_POLICY_ENROL_ROLES, 3)])
def row : List Byte := List.replicate 64 9

theorem witness_ports :
    let s := vault
    let b := aft (.queryRowWrite 1 191 15 row) s
    let q := aft (.querySubmit 1 191 row) b
    s.fabricPowered = true ∧ s.vault.ports.length = 2 ∧ row.length = 64 ∧ (191 : Nat) / 96 = 1 ∧ (s.vport 1).bufs.length < 8 ∧
    ((tfind (b.vport 1).bufs 191).bind (fun r => tfind r 15)) = some row ∧ (s.vport 1).queue.length < 4 ∧
    ((q.vport 1).queue.map (fun x => (x.tile, x.vec.isSome))) = [(191, false)] ∧ (tfind (q.vport 1).bufs 191).isNone = true ∧
    (aft (.queryRowWrite 0 191 15 row) s).log.inQ.length = 1 ∧ (aft (.vaultPortStale 1 191) b).vault.ports.length = 2 ∧
    (tfind ((aft (.vaultPortStale 1 191) b).vport 1).bufs 191).isNone = true := by decide +kernel
theorem witness_match :
    let q : Query := { tile := 5, desc := [1, 0, 0, 0, 0, 1, 0, 0] ++ zeros 56, vec := none, order := 0 }
    let s := vt (fun v => { v with ports := [{ bufs := [], queue := [q] }, { bufs := [], queue := [] }] }) vault
    let z := s.put Reg.VLT_STATUS_STATE 2
    s.vault.headPort = some 0 ∧ bit q.flags 0 = false ∧ s.bist.isNone = true ∧ s.vaultState = 1 ∧ s.vault.filled = true ∧
    (aft .match s).vaultBusy = false ∧ ((aft .match s).out.map (fun o => match o with | .matchResult d r => (d, leAt r 4 2) | _ => (9, 9))) = [(0, 2)] ∧
    ((aft .match z).out.map (fun o => match o with | .matchResult d r => (d, leAt r 4 2) | _ => (9, 9))) = [(0, 3)] := by decide +kernel
theorem witness_fill_and_commit :
    let k : VCommit := { slot := 7, kind := 1, replace := some false, head := zeros 12, user := [], vec := ones, who := .enrol (mgr 0x701 []) }
    let e : VCommit := { k with slot := 3, kind := 2, replace := none, who := .erase (mgr 0x702 []) }
    let s := vt (fun v => { v with commits := [k] }) vault
    let u := vt (fun v => { v with commits := [e] }) vault
    let f := vault.put Reg.VLT_STATUS_STATE 0
    (aft .vaultFillDone f).vaultState = 1 ∧ (s.forceReclaim true).vault.freeDesc 1024 = some 1 ∧ s.takeSeq.isSome = true ∧
    ((tfind (aft (.vaultCommit 0) s).vault.slots 7).map (fun x => (x.desc, x.block))) = some (1, 1) ∧
    (tfind (aft (.vaultCommit 0) u).vault.slots 3).isNone = true ∧ (tfind u.vault.slots 3).isSome = true := by decide +kernel
/-- A vault with few free blocks and a sector that holds a released one. -/
def worn : State := vt (fun v => { v with retB := (List.range 3505).map (· + 63), blocks := [(0, ⟨3, 1, ones, true⟩), (1, ⟨9, 0, [], false⟩)] }) vault
theorem witness_reclaim : worn.vault.blocksFree < 64 ∧ worn.vault.victim true = some 132 ∧ (worn.reclaim 132).isSome = true := by decide +kernel
theorem witness_scrub_and_capture :
    let e : VErase := { req := mgr 0x702 [], slots := [3], done := 1, left := 0, scrub := true }
    let s := vt (fun v => { v with erasing := [e] }) vault
    let c : VCapture := { req := mgr 0x701 [], tag := 4, slot := 1, replace := false, head := [], user := [] }
    let x := vt (fun v => { v with exps := [(mgr 0x705 [], 2, [(3, 7), (4, 8)])] }) vault
    s.vault.erasing.find? (fun e => e.scrub && e.left == 0) = some e ∧ (s.reclaimAll (s.vault.copySectors e.slots)).isSome = true ∧
    (aft .vaultScrubDone s).vault.erasing.length = 0 ∧ (aft .enrolCaptureTimeout (vt (fun v => { v with capture := some c }) vault)).vault.capture.isNone = true ∧
    (aft (.vaultExportDone [0, 0xE]) x).vault.exps.length = 0 := by decide +kernel

/-- A payload whose last part is sealed, in the session of the tests. -/
def hides (via : Transport) (role code : Nat) (pre pt : List Byte) : List Byte :=
  let p := sealed via role code (pre ++ zeros (pt.length + 16))
  pre ++ gcmSeal (payloadKey tkey) (p.iv 3) (p.header 0) pt
theorem seal_length (k iv a pt : List Byte) : (gcmSeal k iv a pt).length = pt.length + 16 := by
  have h3 : pt.length ≤ 16 * ceilDiv pt.length 16 := by unfold ceilDiv; omega
  simp [gcmSeal, gcmTag, beBytes, leBytes_length, ctr_length _ _ _ _ _ h3]
theorem sealed_payload (via : Transport) (role code : Nat) (pay : List Byte) (h : pay.length < 65536) :
    (sealed via role code pay).payload = pay := by
  simp only [sealed, Packet.payload, BitVec.toNat_ofNat]
  rw [Nat.mod_eq_of_lt (by simpa using h)]
  simp
/-- What `hides` seals, the request unseals. -/
theorem unseal_hides (via : Transport) (role code : Nat) (pre pt : List Byte) :
    (ctx (sealed via role code (hides via role code pre pt))).unseal (slice (hides via role code pre pt) pre.length (pt.length + 16)) = some pt := by
  have h1 : slice (hides via role code pre pt) pre.length (pt.length + 16) =
      gcmSeal (payloadKey tkey) ((sealed via role code (pre ++ zeros (pt.length + 16))).iv 3)
        ((sealed via role code (pre ++ zeros (pt.length + 16))).header 0) pt := by
    unfold hides slice
    rw [List.drop_left, List.take_of_length_le (by rw [seal_length])]
  have h2 : (hides via role code pre pt).length = (pre ++ zeros (pt.length + 16)).length := by
    simp [hides, seal_length, zeros]
  rw [h1]
  have h3 : (sealed via role code (hides via role code pre pt)).header 0 = (sealed via role code (pre ++ zeros (pt.length + 16))).header 0 := by
    simp only [sealed, Packet.header, h2]
  have h4 : (sealed via role code (hides via role code pre pt)).iv 3 = (sealed via role code (pre ++ zeros (pt.length + 16))).iv 3 := rfl
  rw [← h3, ← h4]
  unfold Ctx.unseal
  have h5 : (ctx (sealed via role code (hides via role code pre pt))).auth = true := by simp [ctx, sealed, Packet.fAuth]
  have h6 : (ctx (sealed via role code (hides via role code pre pt))).key = tkey := rfl
  rw [h5, h6]
  exact gcm_round _ _ _ _

theorem test_ones_norm : (vecNormBits ones).isSome = true := by decide +kernel
/-- VAULT_ENROL of a sealed vector into slot 7. -/
def enrolPre : List Byte := [7, 0, 1, 0] ++ zeros 12 ++ [1, 0] ++ zeros 34
def enrol : Packet := sealed .smbus 1 0x701 (hides .smbus 1 0x701 enrolPre ones)
theorem witness_enrol :
    let s := { give vault enrol with regs := vault.regs }
    reachTag true (vaultEnrolOp s) s enrol = true ∧ (ctx enrol).at 2 1 = 1 ∧ (taken s enrol).vaultOpen = true ∧
    (tfind (taken s enrol).vault.slots ((ctx enrol).at 0 2)).isSome = bit ((ctx enrol).at 3 1) 0 := by decide +kernel

theorem witness_vault_commands :
    let cap := sealed .smbus 1 0x701 ([7, 0, 0, 0] ++ zeros 12 ++ [1, 0] ++ zeros 34)
    let er := sealed .smbus 1 0x702 ([3, 0, 0, 0] ++ zeros 4)
    let li := sealed .smbus 1 0x703 [3, 0, 1, 0]
    let po := sealed .smbus 1 0x704 [1, 3, 0, 0]
    let g (p : Packet) := give vault p
    reachTag true (vaultEnrolOp (g cap)) (g cap) cap = true ∧ (taken (g cap) cap).vault.capture.isNone = true ∧
    reachTag true (vaultEraseOp (g er)) (g er) er = true ∧ (tfind (taken (g er) er).vault.slots 3).isSome = true ∧
    reachTag true vaultListOp (g li) li = true ∧ reachTag true vaultPolicyOp (g po) po = true ∧
    reach vaultStatusOp vault (mgr 0x700 (zeros 4)) = true ∧ reply (aft (.vaultStatus (mgr 0x700 (zeros 4))) vault) = (0, 0) := by decide +kernel
/-- A device whose neighbour over port 0 is device 1 of a row of two. -/
def pair : State :=
  let s := st [(Reg.ENS_STAT_STATE, 2), (Reg.ENS_STAT_ID, 0), (Reg.ENS_ACTIVE_SET, 3), (Reg.ENS_SHAPE_X, 2), (Reg.ENS_SHAPE_Y, 1), (Reg.ENS_SHAPE_Z, 1),
    (Reg.ENS_SHAPE_N, 2), (Reg.HL_STAT_STATE 0, 2), (Reg.HL_STAT_PEER_ID 0, 1), (Reg.HL_STAT_WIDTH 0, 4), (Reg.VLT_STATUS_STATE, 1),
    (Reg.VLT_POLICY_ENROL_ROLES, 3)]
  { s with vault := vault.vault, ens := { s.ens with recs := [(1, zeros 4 ++ [Config.fwVersion.1 % 256].map (BitVec.ofNat 8) ++ zeros 59)] } }
/-- VAULT_IMPORT of a wrapped template into slot 7 from device 1. -/
def importPre : List Byte := [5, 0, 0, 0, 1, 0, 7, 0] ++ zeros 16
def imports : Packet := sealed (.holwell 1) 2 0x706 (importPre ++ gcmSeal (pair.wrapKey 1 0 0) (wrapIv 7 0 1 0) [] (ones ++ zeros 64))
/-- The pair with the session of the import, its packet taken. -/
def pair' : State := { pair with cmd := { pair.cmd with served := [3], sessions := [{ num := 1, role := 2, key := tkey, started := false, fails := 0, verified := 0, last := 0 }] } }
theorem witness_export :
    let x := sealed .smbus 1 0x705 [1, 0, 0, 0, 8, 0, 0, 0]
    let s := give pair x
    reachTag true vaultExportOp s x = true ∧ (taken s x).vaultOpen = true ∧ (taken s x).routePort 1 = some 0 ∧ (taken s x).isUp 0 = true := by
  decide +kernel
theorem witness_import :
    reachT true vaultImportOp pair' imports = true ∧ (ctx imports).at 8 8 = (takenT pair' imports).get Reg.ENS_EPOCH_EPOCH ∧
    (takenT pair' imports).dupCheck 1 5 = .fresh ∧ (tfind (takenT pair' imports).vault.slots 7).isNone = true ∧
    (pair'.put Reg.ENS_EPOCH_EPOCH 1).get Reg.ENS_EPOCH_EPOCH ≠ (ctx imports).at 8 8 := by decide +kernel
theorem take_peer (s : State) (p : Packet) (i : Fin 64) (hv : p.via = .holwell i) (hs : p.session ≠ 0) (hu : s.stewardUp = true)
    (h1 : s.cmd.spiReq = []) (h2 : s.cmd.mbxReq = []) (h3 : s.cmd.peerIn = []) (h6 : s.cmd.served = []) :
    (give s p).takePacket p =
      some { s with cmd := { s.cmd with served := [3], sessions := [{ num := 1, role := p.role.toNat, key := tkey, started := false, fails := 0, verified := 0, last := 0 }] } } := by
  have h4 : (give s p).stewardUp = true := hu
  have h5 : (give s p).cmd.peerIn = [p] := by simp [give, hv]
  have h10 : (give s p).cmd.spiReq = [] := by simp [give, hv]
  have h11 : (give s p).cmd.mbxReq = [] := by simp [give, hv]
  have h12 : (give s p).cmd.served = [] := h6
  have h7 : (give s p).waiting = [3] := by simp [State.waiting, h4, h5, h10, h11]
  have h8 : (give s p).inTurn 3 = true := by simp [State.inTurn, h7, h12]
  have h9 : (give s p).fromTransport p = some { give s p with cmd := { (give s p).cmd with peerIn := [] } } := by
    unfold State.fromTransport
    simp only [hv, h5, h4, List.find?, beq_self_eq_true, and_self, if_true]
    simp
  unfold State.takePacket
  simp only [hv, turnOf, h8, h9]
  simp only [State.takeTurn, give, hv, h1, h2, h3, h6, hs]
  simp
theorem witness_import_taken : (give pair imports).takePacket imports = some pair' :=
  take_peer pair imports 1 rfl (by decide) (by decide +kernel) rfl rfl rfl rfl
theorem witness_import_opens :
    gcmOpen (pair.wrapKey 1 0 0) (wrapIv 7 0 1 0) [] (slice imports.payload 24 1104) = some (ones ++ zeros 64) := by
  have h : (importPre ++ gcmSeal (pair.wrapKey 1 0 0) (wrapIv 7 0 1 0) [] (ones ++ zeros 64)).length < 65536 := by
    rw [List.length_append, seal_length]; decide +kernel
  have h1 : slice (importPre ++ gcmSeal (pair.wrapKey 1 0 0) (wrapIv 7 0 1 0) [] (ones ++ zeros 64)) 24 1104 =
      gcmSeal (pair.wrapKey 1 0 0) (wrapIv 7 0 1 0) [] (ones ++ zeros 64) := by
    unfold slice
    rw [List.drop_left' (by decide +kernel), List.take_of_length_le (by rw [seal_length]; decide +kernel)]
  rw [show imports.payload = _ from sealed_payload _ _ _ _ h, h1]
  exact gcm_round _ _ _ _

end Sys2Proof.Tests
end

