-- ==== Sys2Proof/Tests/Links.lean ====
section
/-! SUPPORT. Witnesses and small tests of Holwell links. -/

namespace Sys2Proof.Tests
open Sys2Proof Sys2Proof.Machine
set_option Elab.async false

/-- Port 6 in a state with epoch 3, and a part of its record changed. -/
def lk (state : Nat) (l : List (Fld × Nat) := []) : State :=
  st ([(Reg.HL_STAT_STATE 6, state), (Reg.HL_STAT_WIDTH 6, if state = 2 then 4 else 0), (Reg.HL_EPOCH_EPOCH 6, 3)] ++ l)
def px (f : Port → Port) (s : State) : State := s.setPort 6 (f (s.port 6))
/-- A port 6 of Holwell, as the strap Q6_SEL gives it. -/
def q6 : List (Fld × Nat) := [(Reg.LANE_REF_Q6_SEL, 1), (Reg.QUAD_CFG_OWNER 6, 0)]
def bad (f : List Byte) : List Byte := f.take 31 ++ [f.getD 31 0 ^^^ 1]
def hlOf (i : Instr) (s : State) : Nat := (aft i s).hlState 6
def data : List Byte := flit 4 1 0 0 [1, 2, 3]
theorem witness_flit_receive :
    let s := lk 2
    let x := px (fun x => { x with nakked := true }) s
    let t := aft (.flitReceive 6 data) s
    let n := aft (.flitReceive 6 (bad data)) s
    s.isUp 6 = true ∧ (lk 3).isUp 6 = false ∧ flitOk data = true ∧ flitOk (bad data) = false ∧ fFt data = 4 ∧ fSeq data = (s.port 6).rxSeq ∧
    (t.port 6).rxSeq = 1 ∧ (t.port 6).rxq.length = 1 ∧ t.get (Reg.HL_RXFLITS_COUNT 6) = 1 ∧ n.get (Reg.HL_CRC_COUNT 6) = 1 ∧
    n.get (Reg.HL_REPLAY_NAKS 6) = 1 ∧ (n.port 6).wire.length = 1 ∧ (aft (.flitReceive 6 (bad data)) x).get (Reg.HL_REPLAY_NAKS 6) = 0 ∧
    (aft (.flitReceive 6 (flit 4 1 0 1 [])) s).get (Reg.HL_RXFLITS_COUNT 6) = 0 := by decide +kernel
/-- A CTRL flit: ACKSEQ with NAK and PARK, an epoch, credits. -/
def ctrl (ack epoch : Nat) : List Byte := flit 5 0 0 0 (leBytes 2 ack ++ leBytes 2 epoch ++ [1, 2] ++ zeros 22)
theorem witness_ctrl_flit :
    let s := px (fun x => { x with replay := [(510, data), (511, data), (0, data)] }) (lk 2)
    let c (ack ep : Nat) := aft (.ctrlFlit 6 (ctrl ack ep)) s
    flitOk (ctrl 511 3) = true ∧ fFt (ctrl 511 3) = 5 ∧ leAt (fPay (ctrl 511 3)) 2 2 = 3 ∧ ((c 511 3).port 6).replay.length = 1 ∧
    tget 0 ((c 511 3).port 6).credits 1 = 2 ∧ ((c 511 4).port 6).replay.length = 3 ∧ (c (511 + 2 ^ 14) 3).hlState 6 = 4 ∧
    (c (511 + 2 ^ 14) 3).get (Reg.HL_DOWN_WHY_REASON 6) = 5 ∧ (c (511 + 2 ^ 15) 3).get (Reg.HL_REPLAY_ROUNDS 6) = 1 ∧
    (aft (.ctrlFlit 6 (bad (ctrl 511 3))) s).get (Reg.HL_CRC_COUNT 6) = 1 := by decide +kernel
theorem witness_ctrl_due :
    let s := px (fun x => { x with accepted := 31, rxSeq := 0 }) (lk 2)
    let t := aft (.ctrlFlitDue 6) s
    (t.port 6).wire.length = 1 ∧ (t.port 6).accepted = 0 ∧ leAt (fPay ((t.port 6).wire.headD [])) 0 2 = 511 ∧
    ((aft (.ctrlFlitDue 6) (lk 2)).port 6).wire.length = 0 := by decide +kernel
theorem witness_replay :
    let s (n : Nat) := px (fun x => { x with replay := [(510, data), (511, data)], rounds := n }) (lk 2)
    let t := aft (.replayTimeout 6) (s 3)
    (t.port 6).wire.length = 2 ∧ (t.port 6).rounds = 4 ∧ t.get (Reg.HL_REPLAY_ROUNDS 6) = 1 ∧
    (aft (.replayTimeout 6) (s 4)).get (Reg.HL_DOWN_WHY_REASON 6) = 2 ∧ hlOf (.replayTimeout 6) (lk 2) = 2 := by decide +kernel
theorem witness_link_down :
    let s := lk 2 q6
    (s.linkDown 6 4).hlState 6 = 1 ∧ (s.linkDown 6 5).hlState 6 = 4 ∧ (s.linkDown 6 6).hlState 6 = 3 ∧
    ((s.put (Reg.HL_CTRL_ADMIN 6) 1).linkDown 6 1).hlState 6 = 5 ∧ (s.linkDown 6 1).get (Reg.HL_DOWNS_DOWNS 6) = 1 := by decide +kernel
theorem witness_link_retrain_and_wake :
    let s := lk 2 q6
    let p := lk 4 q6
    let w := aft (.hlWake 6) p
    s.linkMay 6 = true ∧ hlOf (.hlRetrain 6) s = 1 ∧ hlOf (.hlRetrain 6) (lk 0 q6) = 0 ∧ (w.port 6).bursts = 1 ∧ (w.port 6).lastBurst = some 0 ∧
    ((aft (.hlWake 6) w).port 6).bursts = 1 ∧ ((aft (.hlWake 6) s).port 6).bursts = 0 := by decide +kernel
/-- A TRAIN flit of lane 3: MASK 15, W 4 and READY where told, of an epoch. -/
def trainf (ready epoch : Nat) : List Byte := flit 6 0 0 0 ([9, 5, 3] ++ leBytes 1 (15 + 64 + 128 * ready) ++ leBytes 2 epoch ++ [0, 0] ++ offerBytes ++ zeros 10)
/-- The port in an attempt with its four lanes in a state. -/
def trying (state : Nat) : State := lk 1 (q6 ++ (quadLanes 6).map (fun l => (Reg.LN_STAT_STATE l, state)))
theorem witness_train_flit :
    let up := lk 2 q6
    let a := trying 5
    let f := (trying 4).setLn 27 { LaneX.fresh with fast := true, trains := 2 }
    let g := (trying 4).setLn 27 { LaneX.fresh with fast := true, trains := 3 }
    let t := aft (.trainFlit 6 (trainf 1 7)) a
    flitOk (trainf 1 7) = true ∧ fFt (trainf 1 7) = 6 ∧ hlOf (.trainFlit 6 (trainf 0 3)) up = 1 ∧ hlOf (.trainFlit 6 (trainf 1 7)) up = 2 ∧
    (lk 3 q6).linkMay 6 = true ∧ hlOf (.trainFlit 6 (trainf 0 3)) (lk 3 q6) = 1 ∧ hlOf (.trainFlit 6 (trainf 0 3)) a = 1 ∧ t.isUp 6 = true ∧
    t.hlWidth 6 = 4 ∧ t.get (Reg.HL_EPOCH_EPOCH 6) = 8 ∧ t.get (Reg.HL_STAT_PEER_ID 6) = 9 ∧
    ((aft (.trainFlit 6 (trainf 0 3)) f).ln 27).trains = 3 ∧ (aft (.trainFlit 6 (trainf 0 3)) g).lnState 27 = 5 ∧
    (aft (.trainFlit 6 (bad (trainf 0 3))) a).get (Reg.HL_CRC_COUNT 6) = 1 := by decide +kernel
theorem witness_link_attempts :
    let s (n : Nat) := px (fun x => { x with attempts := n, checked := true }) (trying 2)
    let f := (trying 2).setLn 27 { LaneX.fresh with fast := true }
    let r := px (fun x => { x with lastUp := some 0 }) (lk 3 q6)
    (s 1).flag (Reg.HL_CTRL_ADMIN 6) = false ∧ ((aft (.trainingTimeout 6) (s 1)).port 6).attempts = 2 ∧ hlOf (.trainingTimeout 6) (s 1) = 1 ∧
    hlOf (.trainingTimeout 6) (s 2) = 3 ∧ (aft (.trainingTimeout 6) (s 2)).get (Reg.HL_DOWN_WHY_REASON 6) = 6 ∧
    hlOf (.trainingTimeout 6) (s 3) = 3 ∧ hlOf (.linkRetryTimer 6) (lk 3 q6) = 1 ∧ hlOf (.linkRetryTimer 6) (lk 4 q6) = 4 ∧
    ((r.attempt 6).flag (Reg.HL_STAT_FAST 6), ((lk 3 q6).attempt 6).flag (Reg.HL_STAT_FAST 6)) = (true, false) ∧
    ((s 1).port 6).checked = true ∧ ((s 1).linkUp 6 1).isUp 6 = true ∧ (f.ln 27).fast = true ∧
    (aft (.retrainFastTimeout 27) f).lnState 27 = 1 ∧ ((aft (.retrainFastTimeout 27) f).ln 27).fast = false := by decide +kernel

/-- The pair with a window of 4 KB at 0x100000, all permissions, and a packet at the head of port 0's buffer. -/
def windowed : State :=
  let d := zeros 32 ++ leBytes 8 0x100000 ++ leBytes 6 0x1000 ++ [3] ++ zeros 70
  { pair with ens := { pair.ens with desc := d } }
def rxIn (s : State) (k : LinkPacket) : State :=
  let q : RxPacket := { cls := opClass (hOp k.header), vc := 0, bytes := (packetFlits k).flatMap (fun f => f.2), flits := (packetFlits k).length }
  s.setPort 0 { s.port 0 with rxq := [q], credits := [(0, 9), (2, 9), (4, 9), (8, 9)] }
def pkOf (op addr n : Nat) (pay : List Byte) (dst : Nat := 0) : LinkPacket := ⟨header dst 1 op 2 0 7 0 n 0 0 addr, pay⟩
/-- The packet is taken and its target may be reached. -/
def pkOk (s : State) (k : LinkPacket) (write : Bool) : Bool := s.isUp 0 && (match s.takeRx 0 k with
  | some r => r.1.peerMay k.header write && !r.1.mustWait (hAddr k.header) (hLen k.header)
  | none => false)
theorem witness_link_read_and_write :
    let w := pkOf 1 0x100FFE 2 [7, 8]
    let r := pkOf 0 0x100FFE 2 []
    let x := pkOf 0 0x100FFF 2 []
    let s := rxIn windowed w
    let t := aft (.write 0 w) s
    hDst w.header = s.ensId ∧ hOp w.header = 1 ∧ pkOk s w true = true ∧ t.bytesAt 0x100FFE 2 = [7, 8] ∧ (t.port 0).wire.length = 1 ∧
    pkOk (rxIn t r) r false = true ∧ leAt (((aft (.read 0 r) (rxIn t r)).port 0).wire.getLastD []) 18 2 = 0x807 ∧
    (match (rxIn windowed x).takeRx 0 x with | some u => u.1.peerMay x.header false | none => true) = false ∧
    leAt (((aft (.read 0 x) (rxIn windowed x)).port 0).wire.getLastD []) 5 1 = 2 := by decide +kernel
theorem witness_link_passes :
    let k := pkOf 0 0x100000 2 [] 1
    let s := rxIn windowed k
    hDst k.header ≠ s.ensId ∧ (s.takeRx 0 k).isSome = true ∧ ((aft (.read 0 k) s).port 0).wire.length = 1 ∧
    (on.takeRx 0 k).isNone = true := by decide +kernel
theorem witness_link_sync :
    let k := pkOf 4 0x1000005 12 (leBytes 4 9 ++ leBytes 8 2)
    let e := pkOf 4 0x101000005 12 (leBytes 4 9 ++ leBytes 8 2)
    let s := rxIn windowed k
    let w (l : List Nat) : State := { s with sync := { s.sync with windows := [(1, ⟨5000, l⟩)] } }
    let code (s : State) (k : LinkPacket) : Nat := leAt (((aft (.sync 0 k) s).port 0).wire.getLastD []) 5 1
    (s.takeRx 0 k).isSome = true ∧ s.ensActive = true ∧ s.inActive 1 = true ∧ objDev (leAt k.header 10 3 % 2 ^ 23) = s.ensId ∧
    leAt k.header 14 2 = s.get Reg.ENS_EPOCH_EPOCH % 65536 ∧ leAt k.header 13 1 ≠ 9 ∧ code (rxIn windowed e) e = 7 ∧
    (w []).dupCheck 1 9 = .stale ∧ code (w []) k = 6 ∧ code (s.put Reg.ENS_STAT_STATE 1) k = 3 := by decide +kernel
/-- A fresh signal that its object takes, one that it refuses, a wait, and FN 9. -/
theorem witness_link_sync_fresh :
    let k (fn : Nat) := pkOf 4 (fn * 0x1000000 + 5) 12 (leBytes 4 9 ++ leBytes 8 2)
    let s (fn : Nat) := (rxIn windowed (k fn)).put (Reg.SO_CFG_EN 5) 1
    let t (fn : Nat) := aft (.sync 0 (k fn)) (s fn)
    (s 0).isUp 0 = true ∧ (s 0).dupCheck 1 9 = .fresh ∧ ((s 0).soApply 5 0 2).2 = 0 ∧ ((s 1).soApply 5 1 2).2 ≠ 0 ∧ (t 0).soVal 5 = 2 ∧
    (t 0).dupCheck 1 9 = .repeated ∧ (t 1).dupCheck 1 9 = .fresh ∧ (t 8).sync.waiters.length = 1 ∧ goes (.sync 0 (k 9)) (s 9) = true ∧
    leAt (k 8).header 13 1 = 8 ∧ leAt (k 9).header 13 1 = 9 := by decide +kernel
/-- SYNC_SIGNAL and SYNC_WAIT of an object of device 1. -/
theorem witness_sync_remote :
    let o := leBytes 4 131077
    let si := host 0x601 (o ++ [0, 0, 0, 0] ++ leBytes 8 2)
    let wt := host 0x603 (o ++ [1, 0, 0, 0] ++ leBytes 8 2)
    let u := taken (give pair si) si
    let v := taken (give pair wt) wt
    let a := u.issueSync (.cmd si) 131077 false 0 2 none
    let b := v.issueSync (.cmd wt) 131077 true 0 2 none
    reach syncSignalOp (give pair si) si = true ∧ reach syncWaitOp (give pair wt) wt = true ∧ objDev 131077 ≠ u.ensId ∧
    (a.1.op a.2).isSome = true ∧ (b.1.op b.2).isSome = true := by decide +kernel
theorem witness_line_out : (lk 2).hlWidth 6 ≤ 4 ∧ 4 ≤ (lk 2).hlWidth 6 := by decide +kernel
theorem witness_link_sync_repeated :
    let k := pkOf 4 0x1000005 12 (leBytes 4 4999 ++ leBytes 8 2)
    let s := rxIn windowed k
    let t : State := { s with sync := { s.sync with windows := [(1, ⟨5000, [4999]⟩)] } }
    t.dupCheck 1 4999 = .repeated ∧ leAt (((aft (.sync 0 k) t).port 0).wire.getLastD []) 5 1 = 0 := by decide +kernel
theorem witness_link_response :
    let k := pkOf 3 0 1 []
    let r : TagRec := ⟨7, 2, 0, 1, false, .stream 0 0⟩
    let s := rxIn windowed k
    let t := s.setPort 0 { s.port 0 with tags := [r] }
    let u := aft (.writeRsp 0 k) t
    (t.takeRx 0 k).isSome = true ∧ (u.port 0).tags = [] ∧ tget 0 (u.port 0).gens 7 = 1 ∧ (aft (.writeRsp 0 k) s).get (Reg.HL_STALE_STALE 0) = 1 ∧
    ((aft (.tagTimeout 0 7) t).port 0).tags = [] ∧ (aft (.tagTimeout 0 7) t).get (Reg.HL_STALE_TAG_TO 0) = 1 ∧
    ((aft (.tagTimeout 0 7) (t.setPort 0 { t.port 0 with tags := [{ r with wait := true }] })).port 0).tags.length = 1 := by decide +kernel
theorem witness_link_commands :
    let q := mk (.holwell 1) 2 1 []
    let h (len n : Nat) := header 0 1 7 0 0 0 0 n 0 0 (2 ^ 16 * len)
    let t := windowed.segment (h 20 16) (q.bytes.take 16)
    let u := windowed.segment (h 16 16) q.bytes
    q.bytes.length = 16 ∧ leAt (h 20 16) 12 2 = 20 ∧ t.link.parts.length = 1 ∧ u.cmd.peerIn = [q] ∧ u.link.parts = [] ∧
    (aft (.cmdReassemblyTimeout 1 0) t).link.parts = [] ∧ (aft (.cmdReassemblyTimeout 1 0) t).get Reg.CMD_DROPS_COUNT = 1 ∧ windowed.link.parts = [] := by
  decide +kernel

end Sys2Proof.Tests
end

