-- ==== Sys2Proof/Tests/Accord.lean ====
section
/-! SUPPORT. Witnesses and small tests of the accord. -/

namespace Sys2Proof.Tests
open Sys2Proof Sys2Proof.Machine
set_option Elab.async false

/-- A part of the ensemble unit changed. -/
def ac (f : EnsUnit → EnsUnit) (s : State) : State := { s with ens := f s.ens }
/-- Device 1 of an ensemble of four in a state under epoch 5, without a key, which has heard device 0. -/
def member (state : Nat) (l : List (Fld × Nat) := []) : State :=
  let s := st ([(Reg.ENS_STAT_ID, 1), (Reg.ENS_STAT_STATE, state), (Reg.ENS_SHAPE_N, 4), (Reg.ENS_SHAPE_X, 4), (Reg.ENS_SHAPE_Y, 1), (Reg.ENS_SHAPE_Z, 1),
    (Reg.ENS_EPOCH_EPOCH, 5)] ++ l)
  ac (fun e => { e with recs := [(0, [0, 0, 2, 0, BitVec.ofNat 8 Config.fwVersion.1] ++ zeros 123)], heardAt := [(0, 0)] }) s
/-- A message of device 0: its kind, flags, epoch, set and held set. -/
def msg (kind flags epoch set held : Nat) (id : Nat := 0) : List Byte :=
  leBytes 1 kind ++ leBytes 1 id ++ [2] ++ leBytes 1 flags ++ leBytes 1 Config.fwVersion.1 ++ zeros 3 ++ leBytes 8 epoch ++ zeros 88 ++
    leBytes 8 set ++ leBytes 8 held ++ zeros 8
theorem witness_accord_record :
    let d := (member 2).takeRecord (msg 0 2 5 1 0 1)
    mId (msg 0 2 5 1 0 3) = 3 ∧ mId (msg 0 2 5 1 0 1) = (member 2).ensId ∧ d.ens.dup = true ∧
    d.get Reg.ENS_STAT_STATE = 4 ∧ d.get Reg.ENS_REASON_REASON = 5 := by decide +kernel
/-! The firmware version is a free value of Config, so that the view is worked out by lemmas. -/

theorem majority_one {α : Type} [DecidableEq α] (i : Nat) (k : α) : majority [(i, k)] = [i] := by 
  simp [majority, List.eraseDups, List.eraseDupsBy, List.eraseDupsBy.loop]
theorem majority_two {α : Type} [DecidableEq α] (i j : Nat) (k : α) : majority [(i, k), (j, k)] = [i, j] := by
  simp [majority, List.eraseDups, List.eraseDupsBy, List.eraseDupsBy.loop]
theorem active_one (s : State) (i : Nat) (r : List Byte) (h : s.eligible = [(i, r)]) : s.viewActive = [i] := by
  unfold State.viewActive; rw [h]; simp [majority_one]
theorem active_two (s : State) (i j : Nat) (r q : List Byte) (h : s.eligible = [(i, r), (j, q)]) (hm : mMajor r = mMajor q) (hc : mCdig r = mCdig q) :
    s.viewActive = [i, j] := by
  unfold State.viewActive; rw [h]; simp [hm, hc, majority_two]
/-- A device is eligible in a view. -/
def fit (s : State) (e : Nat × List Byte) : Bool :=
  mCfg e.2 == s.cfgDigest && mKcv e.2 == s.kcv && mState e.2 != 5 && (e.1 != s.ensId || (!s.ens.dup && !s.ens.out))
theorem eligible_one (s : State) (h : s.heardIds.filter (fun i => i != s.ensId && decide (i < s.ensN)) = [])
    (hp : fit s (s.ensId, s.ownRecord) = true) : s.eligible = [(s.ensId, s.ownRecord)] := by
  have h1 : s.view = [(s.ensId, s.ownRecord)] := by unfold State.view; rw [h]; rfl
  unfold State.eligible; rw [h1]
  exact List.filter_eq_self.mpr (by intro e he; rw [List.mem_singleton.mp he]; exact hp)
theorem eligible_two (s : State) (j : Nat) (h : s.heardIds.filter (fun i => i != s.ensId && decide (i < s.ensN)) = [j])
    (hp : fit s (s.ensId, s.ownRecord) = true) (hq : fit s (j, tget [] s.ens.recs j) = true) :
    s.eligible = [(s.ensId, s.ownRecord), (j, tget [] s.ens.recs j)] := by
  have h1 : s.view = [(s.ensId, s.ownRecord), (j, tget [] s.ens.recs j)] := by unfold State.view; rw [h]; rfl
  unfold State.eligible; rw [h1]
  refine List.filter_eq_self.mpr (fun e he => ?_)
  rcases List.mem_cons.mp he with h2 | h2
  · rw [h2]; exact hp
  · rw [List.mem_singleton.mp h2]; exact hq
theorem own_major (s : State) : mMajor s.ownRecord = Config.fwVersion.1 % 256 := by
  simp [mMajor, State.ownRecord, State.accordBody, leAt, slice, leBytes, leNat]
theorem member_active (state : Nat) (l : List (Fld × Nat)) (s : State) (h : s = member state l)
    (h1 : s.heardIds.filter (fun i => i != s.ensId && decide (i < s.ensN)) = [0]) (h2 : fit s (s.ensId, s.ownRecord) = true)
    (h3 : fit s (0, tget [] s.ens.recs 0) = true) (h4 : s.ensId = 1) (h5 : mCdig s.ownRecord = mCdig (tget [] s.ens.recs 0)) :
    s.viewActive = [1, 0] := by
  have h6 : mMajor (tget [] s.ens.recs 0) = Config.fwVersion.1 % 256 := by
    rw [h]; simp [member, ac, tget, tfind, mMajor, leAt, slice, leNat]
  have := active_two s s.ensId 0 _ _ (eligible_two s 0 h1 h2 h3) ((own_major s).trans h6.symm) h5
  rwa [h4] at this
theorem witness_accord_view : (member 1).viewLeader = some 0 := by
  unfold State.viewLeader
  rw [member_active 1 [] (member 1) rfl (by decide +kernel) (by decide +kernel) (by decide +kernel) (by decide +kernel) (by decide +kernel)]
  rfl
theorem witness_accord_commit :
    let s := member 1
    mId (msg 1 2 6 3 0) = 0 ∧ s.get Reg.ENS_STAT_STATE = 1 ∧ s.ens.dup = false ∧ s.ens.out = false ∧ (0 : Nat) ≠ s.ensId ∧
    s.get Reg.ENS_EPOCH_EPOCH = 5 ∧ mEpoch (msg 1 2 6 3 0) = 6 ∧ mEpoch (msg 1 2 4 3 0) = 4 ∧ mRunning (msg 1 2 4 3 0) = true ∧
    mRunning (msg 1 0 4 3 0) = false ∧ ((member 5).heardCommit (msg 1 2 6 3 0)).ens.adopting = none := by decide +kernel
theorem witness_accord_share :
    let t := (member 2).takeShare 900000 250000
    t.get Reg.BUD_TRAY_TRAY_CAP = 9000 ∧ t.get Reg.BUD_TRAY_SHARE = 2500 ∧ t.bud.traySrc = 3 ∧ t.bud.trayLim = 2500 := by decide +kernel
/-- A device that hears no other: the leader of its view, of an ensemble of n. -/
def single (n : Nat) : State := ac (fun e => { e with heardAt := [] }) (member 1 [(Reg.ENS_SHAPE_N, n)])
theorem single_active (n : Nat) (h1 : (single n).heardIds.filter (fun i => i != (single n).ensId && decide (i < (single n).ensN)) = [])
    (h2 : fit (single n) ((single n).ensId, (single n).ownRecord) = true) (h3 : (single n).ensId = 1) : (single n).viewActive = [1] := by
  have := active_one (single n) (single n).ensId _ (eligible_one _ h1 h2)
  rwa [h3] at this
/-- It leads; nothing has been committed yet; alone of one it has a quorum, alone of four none. -/
theorem witness_accord_leads :
    (single 1).viewLeader = some (single 1).ensId ∧ (single 1).quorum (single 1).viewActive.length = true ∧
    (single 4).quorum (single 4).viewActive.length = false := by
  have a : (single 1).viewActive = [1] := single_active 1 (by decide +kernel) (by decide +kernel) (by decide +kernel)
  have b : (single 4).viewActive = [1] := single_active 4 (by decide +kernel) (by decide +kernel) (by decide +kernel)
  refine ⟨?_, ?_, ?_⟩
  · unfold State.viewLeader; rw [a, show (single 1).ensId = 1 by decide +kernel]; rfl
  · rw [a]; decide +kernel
  · rw [b]; decide +kernel
theorem witness_accord_due :
    let s := single 1
    s.ens.leader ≠ some s.ensId ∧ s.ens.adopting = none ∧ s.missMs * unitMs ≤ s.time.up - s.ens.formedAt := by decide +kernel
/-- A commit to adopt, of a firmware so far from this device's. -/
def adopting (set held d : Nat) : State :=
  ac (fun e => { e with adopting := some ((msg 1 2 7 set held).set 4 (BitVec.ofNat 8 (Config.fwVersion.1 + d))) }) (member 1)
theorem witness_accord_adopt :
    let a (set held : Nat) := let t := aft .accordEpochAdopt (adopting set held 0); (t.get Reg.ENS_STAT_STATE, t.get Reg.ENS_REASON_REASON)
    (adopting 3 0 0).sync.ops = [] ∧ (aft .accordEpochAdopt (adopting 3 0 0)).get Reg.ENS_EPOCH_EPOCH = 7 ∧ a 3 0 = (2, 0) ∧ a 1 2 = (5, 6) ∧
    (aft .accordEpochAdopt (adopting 3 0 0)).get Reg.ENS_COMMITS_COUNT = 1 ∧ (aft .accordEpochAdopt on).get Reg.ENS_COMMITS_COUNT = 0 := by
  decide +kernel
/-- Outside both sets, of the same firmware or another, of the same cast or another. -/
theorem witness_accord_others :
    let m := fun d => (msg 1 2 7 1 0).set 4 (BitVec.ofNat 8 (Config.fwVersion.1 + d))
    (adopting 1 0 1).ens.adopting = some (m 1) ∧ mMajor (m 1) ≠ Config.fwVersion.1 % 256 ∧ mMajor (m 0) = Config.fwVersion.1 % 256 ∧
    bit (mSet (m 0)) 1 = false ∧ bit (mHeld (m 0)) 1 = false ∧ mCdig (m 0) = (adopting 1 0 0).cdig ∧
    mCdig (m 0) ≠ ((adopting 1 0 0).put (Reg.CDIG_DIG 0) 9).cdig := by
  refine ⟨rfl, ?_, ?_, ?_, ?_, ?_, ?_⟩
  · simp [msg, mMajor, leAt, slice, leBytes, leNat]; omega
  · simp [msg, mMajor, leAt, slice, leBytes, leNat]
  all_goals decide +kernel
theorem witness_accord_waits :
    let o : SyncOp := ⟨0, .cmd echo, 5, true, 0, 1, 0, 0, .sent 0 7, false⟩
    let s := ac (fun e => { e with adopting := some (msg 1 2 7 3 0) }) (member 1)
    let y := { s.sync with ops := [o] }
    let t := { s with sync := y }
    (t.sync.ops.length, (aft .accordEpochAdopt t).get Reg.ENS_EPOCH_EPOCH) = (1, 5) := by decide +kernel
theorem witness_accord_losses :
    let l := ac (fun e => { e with leader := some 0 }) (member 2)
    let x := ac (fun e => { e with desc := zeros 11 ++ [4] ++ zeros 116 }) ((member 2 [(Reg.BUD_TRAY_TRAY_CAP, 9000)]).setTrayLim 3 2500)
    (aft .leaderLost l).get Reg.ENS_STAT_STATE = 1 ∧ (aft .leaderLost l).ens.leader = none ∧
    (aft .leaderLost (l.put Reg.ENS_STAT_STATE 5)).get Reg.ENS_STAT_STATE = 5 ∧ x.bud.traySrc = 3 ∧ x.trayT = 4 ∧
    (aft .shareTimeout x).bud.traySrc = 4 ∧ (aft .shareTimeout x).bud.trayLim = 2250 ∧
    (aft .shareTimeout (x.put Reg.BUD_TRAY_TRAY_CAP 0)).bud.traySrc = 0 := by decide +kernel
theorem witness_heartbeat :
    let s := ac (fun e => { e with desc := zeros 128 }) (member 2)
    s.ens.desc ≠ [] ∧ s.stewardUp = true ∧ s.cur ≤ 1 := by decide +kernel
/-- A message with its tag, as a peer command, under the ensemble key. -/
def accord (s : State) (m : List Byte) : Packet := mk (.holwell 0) 2 0x6F0 (m ++ (hmac s.accordKey m).take 16)
def keyed : State := { (ac (fun e => { e with desc := zeros 128 }) (member 2)) with cmd := { (member 2).cmd with ensKey := List.replicate 32 3 } }
theorem step_length (r : ShaRun) (k : Nat) (h : r.up.length = 4 ∧ r.down.length = 4) :
    (r.step k).up.length = 4 ∧ (r.step k).down.length = 4 := by simp [ShaRun.step, h.1, h.2]
theorem steps_length (l : List Nat) (r : ShaRun) (h : r.up.length = 4 ∧ r.down.length = 4) :
    (l.foldl ShaRun.step r).up.length = 4 ∧ (l.foldl ShaRun.step r).down.length = 4 := by
  induction l generalizing r with
  | nil => exact h
  | cons k l ih => exact ih _ (step_length r k h)
theorem blocks_length (n : Nat) (h : List Nat) (m : List Byte) (hh : h.length = 8) : (shaBlocks n h m).length = 8 := by
  induction n generalizing h m with
  | zero => exact hh
  | succ n ih =>
    have hs := steps_length (List.zipWith (· + ·) shaK (shaSched 48 ((List.range 16).reverse.map (fun i => beNat (slice (m.take 64) (4 * i) 4)))).reverse)
      { up := h.take 4, down := h.drop 4 } (by simp [hh])
    exact ih _ _ (by unfold shaBlock; rw [List.length_zipWith, List.length_append, hs.1, hs.2, hh]; rfl)
theorem hmac_length (k m : List Byte) : (hmac k m).length = 32 := by
  have h : ∀ l : List Nat, (l.flatMap (beBytes 4)).length = 4 * l.length := by
    intro l
    induction l with
    | nil => rfl
    | cons a l ih => simp [List.flatMap_cons, ih, beBytes, leBytes_length]; omega
  simp only [hmac, sha256, h]; rw [blocks_length _ _ _ rfl]
/-- A message so made passes the checks of its layer and of its tag. -/
theorem witness_accord_message (s : State) (m : List Byte) (hm : m.length = 128) :
    let p := accord s m
    p.payload.length = 144 ∧ p.payload.take 128 = m ∧ (hmac s.accordKey m).take 16 = p.payload.drop 128 ∧ p.body.length = p.len.toNat ∧
    crc32c p.covered = p.crc.toNat := by
  intro p
  have hl : (m ++ (hmac s.accordKey m).take 16).length = 144 := by simp [hm, hmac_length]
  have hp : p.payload = m ++ (hmac s.accordKey m).take 16 := by
    simp only [p, accord, mk, Packet.payload, hl]
    exact List.take_of_length_le (by rw [hl]; decide)
  refine ⟨by rw [hp, hl], by rw [hp, List.take_left' hm], by rw [hp, List.drop_left' hm], ?_, ?_⟩
  · simp only [p, accord, mk, hl]; rfl
  · simp only [Packet.covered, hp]
    simp only [p, accord, mk, Packet.covered, Packet.payload, Packet.header, BitVec.toNat_ofNat, hl]
    rw [Nat.mod_eq_of_lt (crc32c_lt _), show List.take (144 % 2 ^ 16) (m ++ (hmac s.accordKey m).take 16) = m ++ (hmac s.accordKey m).take 16 from
      List.take_of_length_le (by rw [hl]; decide)]
theorem witness_accord_taken (m : List Byte) : (give keyed (accord keyed m)).takePacket (accord keyed m) =
    some { keyed with cmd := { keyed.cmd with served := [3] } } := by
  have h5 : (give keyed (accord keyed m)).cmd.peerIn = [accord keyed m] := rfl
  have h4 : (give keyed (accord keyed m)).stewardUp = true := show keyed.stewardUp = true by decide +kernel
  have h6 : (give keyed (accord keyed m)).cmd.served = [] := rfl
  have h7 : (give keyed (accord keyed m)).waiting = [3] := by
    have a : (give keyed (accord keyed m)).cmd.mbxReq = [] := rfl
    have b : (give keyed (accord keyed m)).cmd.spiReq = [] := rfl
    simp [State.waiting, h4, h5, a, b]
  have h8 : (give keyed (accord keyed m)).inTurn 3 = true := by simp [State.inTurn, h7, h6]
  unfold State.takePacket State.fromTransport
  simp only [show (accord keyed m).via = .holwell 0 from rfl, turnOf, h8, h5, h4, List.find?, beq_self_eq_true, and_self, if_true, List.erase_cons_head]
  rfl
theorem witness_accord_keyed : keyed.cmd.ensKey ≠ [] ∧ keyed.ens.desc ≠ [] ∧ on.cmd.ensKey = [] ∧ mKind (msg 3 0 5 0 0) = 3 := by decide +kernel
/-- From any other requester than the steward: DENIED 1. -/
theorem witness_accord_denied :
    let p := mgr 0x6F0 (zeros 144)
    (on.takePacket p).isSome = true ∧ p.fChain = false ∧ reply (aft (.accordShare p) on) = (5, 1) := by decide +kernel

end Sys2Proof.Tests
end

