-- ==== Sys2Proof/Tests/Cast.lean ====
section
/-! SUPPORT. Witnesses and small tests of casts, recasts, queue blocks and banks. -/

namespace Sys2Proof.Tests
open Sys2Proof Sys2Proof.Machine
set_option Elab.async false

/-- A run, an image header of no segments over region 0, and a complete run. -/
def hdr : List Byte := padTo 256 ([0x43, 0x41, 0x53, 0x54] ++ zeros 20 ++ [1, 0, 0, 0])
def runOf (r : CastRun) (s : State) : State := s.setCr r
def whole : CastRun := { CastRun.blank with header := hdr, table := [[0]], ended := 1, cwall := true }
theorem witness_cast_source :
    let s := runOf { CastRun.blank with req := some (mgr 0x300 []) } (st [(Reg.CAST_STATUS_STATE, 1)])
    s.castReads = true ∧ s.cr.src ≤ 1 ∧ (aft (.castSourceRead [1, 2, 3] .ok) s).cr.buf.length = 3 ∧
    (aft (.castSourceRead [] .flashFailed) s).get Reg.CAST_ERR_CODE = 0xC := by decide +kernel
theorem witness_cast_complete :
    let s := runOf { whole with req := some (mgr 0x300 []) } (st [(Reg.CAST_STATUS_STATE, 1)])
    let bad := { Personality.blank with cmdPort := [(0, 0, 1)] }
    s.cast.run.isSome = true ∧ s.cr.complete = true ∧ s.cr.holdAt.isNone = true ∧ s.fabricPowered = true ∧ s.cr.recast = false ∧ s.cr.pass = 0 ∧
    (aft (.castLoadComplete Personality.blank) s).get Reg.CAST_STATUS_STATE = 3 ∧ (aft (.castLoadComplete bad) s).get Reg.CAST_ERR_CODE = 0x15 ∧
    (s.castFails 65535 3 none).get Reg.CAST_ERR_CODE = 65535 ∧ (s.castFails 65535 3 none).get Reg.CAST_STATUS_STATE = 5 := by decide +kernel
/-- A relay stream in progress on port 6, and a block of it. -/
def relaying : State :=
  let s := runOf { CastRun.blank with src := 4 } (st [(Reg.SYS_STRAP_CFG_MODE, 2), (Reg.CAST_STATUS_STATE, 1)])
  { s with cast := { s.cast with relayPort := some 6 } }
def rblock : List Byte := List.replicate 256 7
theorem witness_relay :
    relaying.cast.relayPort = some 6 ∧ relaying.cast.relayNo = 0 ∧ relaying.fabricPowered = true := by decide +kernel
theorem test_relay_bad : (aft (.relayBlock 6 0 [] 0) relaying).get Reg.CAST_ERR_CODE = 0xD := by decide +kernel
theorem witness_relay_other : (aft (.relayBlock 5 0 [] 0) relaying).cast.relayDup = true ∧ relaying.cr.complete = false ∧
    (aft .relayTimeout relaying).get Reg.CAST_ERR_CODE = 0xD := by decide +kernel
theorem witness_relay_block : rblock.length = 256 := List.length_replicate
theorem crc_fits (l : List Byte) : crc32c l = (BitVec.ofNat 32 (crc32c l)).toNat := by
  rw [BitVec.toNat_ofNat, Nat.mod_eq_of_lt (crc32c_lt _)]
theorem witness_relay_crc : crc32c rblock = (BitVec.ofNat 32 (crc32c rblock)).toNat := crc_fits rblock
theorem witness_recast :
    let r (pass rb : Nat) : CastRun := { whole with recast := true, pass := pass, rollback := rb }
    let s (pass rb ph : Nat) := runOf (r pass rb) (st [(Reg.CAST_STATUS_STATE, 4), (Reg.RCST_STATUS_PHASE, ph)])
    (s 1 0 1).recastIn 1 = true ∧ (aft (.recastVerifyDone Personality.blank) (s 1 0 1)).get Reg.RCST_STATUS_PHASE = 3 ∧
    (aft (.recastVerifyDone Personality.blank) (s 1 64 1)).get Reg.RCST_STATUS_PHASE = 2 ∧
    bit ((aft (.recastVerifyDone Personality.blank) (s 1 0 1)).get Reg.CWALL_MASK) 0 = true ∧ (s 2 64 2).regionsQuiet 1 = true ∧
    (aft .recastRelease (s 2 0 3)).get Reg.CAST_STATUS_STATE = 3 ∧ (aft .recastRelease (s 2 0 3)).get Reg.RCST_STATUS_PHASE = 0 ∧
    (aft .recastTimeout (s 2 0 3)).get Reg.RCST_STATUS_PHASE = 0 := by decide +kernel
theorem witness_cast_commands :
    let ld := host 0x300 ([1, 1, 0, 0] ++ zeros 20)
    let g (s : State) (p : Packet) := give s p
    let run := st [(Reg.CAST_STATUS_STATE, 3)]
    let held := runOf whole (st [(Reg.CAST_STATUS_STATE, 2)])
    let re := st [(Reg.CAST_STATUS_STATE, 4)]
    reach castLoadOp (g on ld) ld = true ∧ (aft (.castLoad ld) (g on ld)).get Reg.CAST_STATUS_STATE = 1 ∧ (aft (.castLoad ld) (g on ld)).cr.hold = true ∧
    reach castLoadOp (g re ld) ld = true ∧ reach castStatusGetOp on (mgr 0x301 []) = true ∧ reach castReleaseOp held (mgr 0x302 []) = true ∧
    (aft (.castRelease (mgr 0x302 [])) held).get Reg.CAST_STATUS_STATE = 3 ∧ reach castReleaseOp run (mgr 0x302 []) = true ∧
    reply (aft (.castRelease (mgr 0x302 [])) run) = (0xE, 2) ∧ reach castUnloadOp run (mgr 0x303 []) = true := by decide +kernel
theorem test_unload : (aft (.castUnload (mgr 0x303 [])) (st [(Reg.CAST_STATUS_STATE, 3)])).get Reg.CAST_STATUS_STATE = 0 := by decide +kernel
def keySet : Packet := sealed .smbus 1 0x304 (hides .smbus 1 0x304 [] (List.replicate 32 5))
theorem witness_key_set : reachTag true castKeySetOp (give on keySet) keySet = true := by decide +kernel
theorem witness_key_set_opens : (ctx keySet).unseal (slice (hides .smbus 1 0x304 [] (List.replicate 32 5)) 0 48) = some (List.replicate 32 5) :=
  unseal_hides .smbus 1 0x304 [] (List.replicate 32 5)
theorem witness_cast_settings :
    let sg := sealed .smbus 1 0x305 ([3, 0, 0, 0] ++ List.replicate 32 1)
    let po := sealed .smbus 1 0x306 [0, 1, 0, 0]
    let fp := sealed .smbus 1 0x307 [1, 0, 0, 0]
    let rl := host 0x308 ([3, 0, 0, 0] ++ leBytes 8 0x1000 ++ leBytes 8 256 ++ leBytes 8 0 ++ [16, 39, 0, 0])
    let run := st [(Reg.CAST_STATUS_STATE, 3)]
    let rec1 := runOf { whole with recast := true, pass := 2 } (st [(Reg.CAST_STATUS_STATE, 4)])
    reachTag true castSignerSetOp (give on sg) sg = true ∧ reachTag true castPolicySetOp (give on po) po = true ∧
    reachTag true castFlashPreferOp (give on fp) fp = true ∧ reach recastAbortOp on (mgr 0x309 []) = true ∧
    reply (aft (.recastAbort (mgr 0x309 [])) on) = (0xE, 5) ∧ reach recastAbortOp rec1 (mgr 0x309 []) = true ∧ rec1.recastIn 2 = true ∧
    reach recastStatusOp on (mgr 0x30A []) = true ∧ (give run rl).cast.chain.isNone = true := by decide +kernel

/-- A running cast with a FIFO, a RAM block and a handle queue block. -/
def qcfg (n : Nat) (m : QbMode) : QbCfg :=
  { qb := n, mode := m, width := 8, prot := false, ckA := 8, ckB := 9, latA := 1, latB := 1, rdw := 0, afT := 0, aeT := 0, fwft := false, hqn := 9, depth := 64 }
def qs : State :=
  let s := st [(Reg.CAST_STATUS_STATE, 3), (Reg.HQ_CFG_EN 9, 1), (Reg.HQ_CFG_FABRIC 9, 1), (Reg.HQ_CFG_DEPTH 9, 3)]
  { s with fab := { s.fab with pers := { Personality.blank with qbs := [qcfg 2303 .fifo, qcfg 1 .ram, qcfg 2 .handle, { qcfg 3 .fifo with ckA := 7, ckB := 7 }] } } }
theorem witness_fifo :
    let s := aft (.fifoWrite 2303 0x1FF) qs
    let full := qs.setQb 2303 { QbX.fresh with entries := List.replicate 65536 1 }
    (qs.qbCfg 2303).isSome = true ∧ (qcfg 2303 .fifo).isFifo = true ∧ qs.frozen (qbRegion 2303) = false ∧ (qs.qb 2303).wLevel = 0 ∧
    (s.qb 2303).entries = [255] ∧ ((aft (.fifoRead 2303) ((aft (.fifoPointerCross 2303 true) (aft (.fifoPointerCross 2303 false) s)))).qb 2303).outA = 255 ∧
    ((aft (.fifoRead 2303) qs).qb 2303).udf = true ∧ ((aft (.qbRst 2303) s).qb 2303).entries = [] ∧ (full.qb 2303).wLevel = 65536 ∧
    qs.clockRuns 8 = true ∧ qs.clockRuns 9 = true ∧ ((aft (.qbRst 2303) s).qb 2303).wRst = true ∧ ((aft (.qbRst 2303) s).qb 2303).rRst = true ∧
    qs.clockRuns 7 = false ∧ (qs.qbCfg 3).isSome = true := by decide +kernel
theorem witness_ram :
    let o : RamOp := { addr := 0, data := 0xAB, be := 1, write := true }
    (qs.qbCfg 1).isSome = true ∧ (qcfg 1 .ram).mode = .ram ∧ qs.frozen (qbRegion 1) = false ∧ 0 < (qcfg 1 .ram).size ∧ 0 < (qcfg 1 .ram).lanes ∧
    ((aft (.ramAccess 1 (some o) none) qs).qb 1).word (qcfg 1 .ram) 0 = [0xAB] := by decide +kernel
theorem witness_fabric_queue : (qs.hqBlock 9).isSome = true ∧ qs.hqHeld 9 = [] ∧ qs.flag (Reg.HQ_CFG_EN 9) = true ∧ qs.hqFrozen 9 = false ∧
    0 < qs.hqFree 9 true ∧ (7 : Nat) ≠ nullHandle := by decide +kernel
theorem witness_banks :
    let s := aft (.bankSupplyReturn 15 3) qs
    s.fab.supply.getD 15 4 = 3 ∧ (aft (.ioBankLoss 15) s).fab.supply.getD 15 0 = 4 ∧ (aft (.ioBankLoss 15) s).log.inQ.length = 1 := by decide +kernel

end Sys2Proof.Tests
end

