-- ==== Sys2Proof/Tests/Csr.lean ====
section
/-! SUPPORT. Witnesses and small tests of CSR accesses and of BAR4. -/

namespace Sys2Proof.Tests
open Sys2Proof Sys2Proof.Machine
set_option Elab.async false

/-- The address unit changed. -/
def ad (f : AddrUnit → AddrUnit) (s : State) : State := { s with addr := f s.addr }
theorem witness_csr_wide_read :
    let s := on.wput 0x1009140 9
    let r := Requester.tile 191
    let t := aft (.wideValueLowRead r ⟨0x1009140, 4⟩) s
    let u := aft (.wideValueHighRead r ⟨0x100917C, 4⟩) t
    let v := aft (.wideValueHighRead r ⟨0x100917C, 4⟩) u
    s.csrLive = true ∧ wideOf 0x1009140 = some (0x1009140, 16) ∧ wideOf 0x100917C = some (0x1009140, 16) ∧ t.addr.readData = 9 ∧
    t.addr.shadows.length = 1 ∧ u.addr.stale = [] ∧ v.addr.stale = [r] ∧ (aft (.wideValueHighRead .host ⟨0x14, 4⟩) s).addr.stale = [.host] ∧
    (aft (.sysStaleRead r) v).addr.readData = 1 ∧ (aft (.sysStaleRead r) v).addr.stale = [] ∧ (aft (.sysStaleRead .host) v).addr.readData = 0 ∧
    (aft (.sysStaleRead .host) v).addr.stale = [r] ∧ natural 0x1009142 2 = true ∧ natural 0x1009141 2 = false ∧
    (aft (.wideValueLowRead r ⟨0x1009140, 1⟩) (on.wput 0x1009140 0x1234)).addr.readData = 0x34 ∧
    (aft (.wideValueLowRead r ⟨0x1009142, 2⟩) (on.wput 0x1009140 0x12345678)).addr.readData = 0x1234 := by decide +kernel
theorem witness_csr_reads :
    let k := { on with door := { on.door with keyFifo := [5, 6] } }
    let l := st [(Reg.LOG_SEL_SEQ, 7)]
    let l := { l with log := { l.log with ring := [⟨7, ⟨0x503, 2, 0, 9, 5, 1, [1]⟩⟩] } }
    (aft .keyFifoRead k).addr.readData = 5 ∧ (aft .keyFifoRead k).door.keyFifo = [6] ∧ (aft .keyFifoRead on).addr.readData = 0 ∧
    captureAddr 15 = 0x901F0 ∧ captureAddr 16 = 0x90200 ∧ (aft (.captureRead .host 19) on).addr.shadows.length = 1 ∧
    (aft (.logDataRead .host) l).addr.readData = leAt (logBytes ⟨7, ⟨0x503, 2, 0, 9, 5, 1, [1]⟩⟩) 0 4 ∧ (aft (.logDataRead .host) on).addr.readData = 0 ∧
    State.reset.csrLive = false := by decide +kernel
theorem witness_csr_rc :
    let s := st [(Reg.STEEP_STAT_UE 191 1, 3), (Reg.STEEP_STAT_PC 191 1, 9), (Reg.CMD_DROPS_COUNT, 8)]
    let a := 0x1BFB004
    let t := aft (.rcFieldRead .host ⟨a, 4⟩) s
    (csrWord a).any (fun b => b.acc == .rc) = true ∧ wideOf a = none ∧ inSealed a = false ∧ t.addr.readData = 9 * 2 ^ 24 + 3 ∧
    t.get (Reg.STEEP_STAT_UE 191 1) = 0 ∧ t.get (Reg.STEEP_STAT_PC 191 1) = 9 ∧ (aft (.rcFieldRead .host ⟨0x11C, 4⟩) s).get Reg.CMD_DROPS_COUNT = 0 ∧
    (aft (.rcFieldRead .host ⟨0x11C, 4⟩) s).addr.readData = 8 ∧ (aft (.rcFieldRead .host ⟨0x11D, 1⟩) s).get Reg.CMD_DROPS_COUNT = 0 ∧
    (aft (.rcFieldRead .host ⟨0x11D, 1⟩) s).addr.readData = 0 := by decide +kernel
theorem witness_csr_rc_own :
    let k := { on with door := { on.door with keyFifo := [5, 6] }, addr := { on.addr with stale := [.host] } }
    (csrWord 8).any (fun b => b.acc == .rc) = true ∧ (aft (.rcFieldRead .host ⟨8, 4⟩) k).addr.readData = 1 ∧
    (aft (.rcFieldRead .host ⟨8, 4⟩) k).addr.stale = [] ∧ (aft (.rcFieldRead .host ⟨0xB0308, 1⟩) k).addr.readData = 5 ∧
    (aft (.rcFieldRead .host ⟨0xB0308, 1⟩) k).door.keyFifo = [6] := by decide +kernel
theorem witness_csr_write :
    let a := aft (.wideValueWrite .host 0x1009100 7) on
    let b := aft (.wideValueWrite .host 0x100913C 8) a
    let h := 0x1009104
    (wideOf 0x1009100).isSome = true ∧ (inFabricWin 0x1009100 && !on.fabricPowered) = false ∧ on.runningWin 0x1009100 = none ∧
    a.addr.held = [⟨.host, 0x1009100, 7⟩] ∧ b.wget 0x1009100 = 7 ∧ b.wget 0x100913C = 8 ∧ b.addr.held = [] ∧
    (aft (.wideValueWrite (.tile 0) 0x100913C 8) a).wget 0x1009100 = 0 ∧ (on.hold .host h 5).addr.held = [⟨.host, h, 5⟩] ∧
    (aft (.registerWrite .host 0x10008 2 0xF0) on).get Reg.PWR_WAKE_EN_EN = on.get Reg.PWR_WAKE_EN_EN ∧
    (aft (.registerWrite .host 0x10008 4 0xF0) on).get Reg.PWR_WAKE_EN_EN = 0xF8 ∧
    (aft (.registerWrite .host 0x1000A 4 0xF0) on).get Reg.PWR_WAKE_EN_EN = on.get Reg.PWR_WAKE_EN_EN ∧ inSealed 0xA8002 = true ∧
    (aft (.registerWrite .host 0xA8002 2 0) on).log.inQ ≠ [] := by decide +kernel
theorem witness_csr_fields :
    csrWord 0x3FFFFFC = [] ∧ wideOf 0x3FFFFFC = none ∧ wideOf 0x30000 = none ∧ (on.fieldsPut 0x11C 5).get Reg.CMD_DROPS_COUNT = 0 := by
  decide +kernel
theorem witness_peek_poke :
    let p := host 0x106 [0x1C, 1, 0, 0, 1, 0, 0, 0]
    let k := host 0x106 [0xFC, 0xFF, 2, 0, 2, 0, 0, 0]
    let w := host 0x107 [0, 0, 2, 0, 1, 0, 0, 0, 1, 2, 3, 4]
    let s := st [(Reg.CMD_DROPS_COUNT, 8)]
    reach peekOp (give s p) p = true ∧ (ctx p).at 0 4 + 4 * (ctx p).at 4 2 ≤ 0x30000 ∧ (aft (.peek p) (give s p)).get Reg.CMD_DROPS_COUNT = 8 ∧
    reach peekOp (give s k) k = true ∧ meets 0x2FFFC 2 0x30000 0x40000 = true ∧ meets 0x2FFFC 1 0x30000 0x40000 = false ∧
    reach pokeOp (give s w) w = true ∧ pokeRefused 0x20000 1 = true ∧ pokeRefused 0x1FFFC 1 = false := by decide +kernel
theorem witness_poke_goes :
    let w := host 0x107 [8, 0, 1, 0, 1, 0, 0, 0, 0xF0, 0, 0, 0]
    reach pokeOp (give on w) w = true ∧ pokeRefused ((ctx w).at 0 4) (pokeData (ctx w)).length = false ∧
    (aft (.poke w) (give on w)).get Reg.PWR_WAKE_EN_EN = 0xF8 := by decide +kernel
theorem witness_bar4 :
    let w := aft (.bar4Access 0x100000 0 (some [1, 2, 3])) on
    let r := aft (.bar4Access 0x100000 3 none) w
    on.csrLive = true ∧ on.allMem 0x100000 3 = true ∧ on.mustWait 0x100000 3 = false ∧ (on.admitAll .pcie (blocks64 0x100000 3)).2 = true ∧
    w.bytesAt 0x100000 3 = [1, 2, 3] ∧ w.addr.bar4 = (0, false, []) ∧ r.addr.bar4.2.2 = [1, 2, 3] ∧ on.allMem (2 ^ 34 - 1) 1 = false ∧
    (aft (.bar4Access (2 ^ 34 - 1) 1 none) on).addr.bar4 = (1, false, []) ∧
    (aft (.bar4Access 0x100000 1 none) (st [(Reg.PWR_STATE_CUR, 2)])).addr.bar4 = (1, false, []) := by decide +kernel
/-- External DRAM of four channels of 1 GB, their states as given, with a linear window. -/
def withX (states lin : Nat) (s : State) : State :=
  let m := { s.mu with live := 0x4000F000 + 4 * lin }
  State.put { s with mu := m } Reg.XDRAM_STAT_CH states
theorem witness_bar4_waits :
    let s := withX 0x2221 0 (st [(Reg.SYS_BAR4_BASE, 4)])
    (s.allMem (2 ^ 36) 1, s.mustWait (2 ^ 36) 1, s.mustWait (2 ^ 36 + 256) 1) = (true, true, false) := by decide +kernel

end Sys2Proof.Tests
end

