-- ==== Sys2Proof/Tests/Door.lean ====
section
/-! SUPPORT. Witnesses and small tests of the door side, the log, the transports and the system commands. -/

namespace Sys2Proof.Tests
open Sys2Proof Sys2Proof.Machine
set_option Elab.async false

theorem witness_lamp_short :
    let s := (st [(Reg.LMP_STAT_PHASE 7, 2), (Reg.LMP_SET_SET 7, 100), (Reg.LMP_STAT_RETRIES 7, 3), (Reg.LMP_CTRL_SHORT_V 7, 0)]).putLamp 7 { Lamp.off with target := 100 }
    let t := aft (.lampShort ⟨7, 499⟩) s
    s.kettleOn = true ∧ s.get (Reg.LMP_STAT_PHASE 7) ∈ [1, 2, 3] ∧ 499 < 500 * (s.get (Reg.LMP_CTRL_SHORT_V 7) + 1) ∧
    s.lampSetpoint 7 = 62500 ∧ s.lampTarget 7 = 62500 ∧ t.get (Reg.LMP_STAT_PHASE 7) = 4 ∧ t.get (Reg.LMP_STAT_HOLD 7) = 1 ∧
    t.get (Reg.LMP_STAT_RETRIES 7) = 3 ∧ bit (t.get Reg.HMI_EVT_LAMP) 7 = true ∧
    (aft (.lampShort ⟨7, 500⟩) s).get (Reg.LMP_STAT_PHASE 7) = 2 := by decide +kernel
theorem witness_lamp_auto_retry :
    let s := st [(Reg.LMP_STAT_PHASE 0, 4), (Reg.LMP_STAT_RETRIES 0, 2), (Reg.LMP_CTRL_EN 0, 1), (Reg.LMP_SET_SET 0, 100)]
    let u := st [(Reg.LMP_STAT_PHASE 0, 4), (Reg.LMP_STAT_RETRIES 0, 3)]
    s.get (Reg.LMP_STAT_PHASE 0) = 4 ∧ s.flag (Reg.LMP_STAT_HOLD 0) = false ∧ s.lampWanted 0 = true ∧
    (aft (.lampAutoRetry 0) s).get (Reg.LMP_STAT_RETRIES 0) = 3 ∧ (aft (.lampAutoRetry 0) s).get (Reg.LMP_STAT_PHASE 0) = 1 ∧
    (aft (.lampAutoRetry 0) u).get (Reg.LMP_STAT_HOLD 0) = 1 ∧ (aft (.lampAutoRetry 0) u).get (Reg.LMP_STAT_PHASE 0) = 4 := by decide +kernel
theorem witness_lamp_on :
    let s := st [(Reg.LMP_STAT_PHASE 2, 2), (Reg.LMP_STAT_ON 2, 1), (Reg.LMP_STAT_RETRIES 2, 2)]
    (aft (.lampRetriesReset 2) s).get (Reg.LMP_STAT_RETRIES 2) = 0 ∧ (aft (.lampOpen 2) s).flag (Reg.LMP_STAT_OPEN 2) = true ∧
    (aft (.lampOpen 2) s).get (Reg.LMP_STAT_PHASE 2) = 2 ∧
    (aft (.inrushWindowEnd ⟨2, 0⟩) (st [(Reg.LMP_STAT_PHASE 2, 1)])).get (Reg.LMP_STAT_PHASE 2) = 2 := by decide +kernel
theorem witness_lamp_window :
    let s := (st [(Reg.LMP_STAT_PHASE 2, 1)]).putLamp 2 { Lamp.off with near := true }
    let t := aft (.inrushWindowEnd ⟨2, 7000⟩) s
    (s.lamp 2).near = true ∧ (s.lamp 2).extended = false ∧ t.get (Reg.LMP_STAT_PHASE 2) = 1 ∧ (t.lamp 2).until_ = 5000000 * unitNs ∧
    (aft (.inrushWindowEnd ⟨2, 7000⟩) t).get (Reg.LMP_STAT_PHASE 2) = 2 := by decide +kernel
theorem witness_lamp_gate_off :
    let s := st [(Reg.LMP_STAT_PHASE 0, 4), (Reg.LMP_STAT_RETRIES 0, 2)]
    s.lampWanted 0 = false ∧ (aft (.lampAutoRetry 0) s).get (Reg.LMP_STAT_PHASE 0) = 4 ∧ ((aft (.lampAutoRetry 0) s).lamp 0).due = true := by
  decide +kernel
theorem witness_ramp_end :
    let s := st [(Reg.LMP_STAT_PHASE 1, 3)]
    let r := (s.putLamp 1 { s.lamp 1 with toRange := some true, fresh := false })
    (s.lamp 1).toRange = none ∧ (aft (.rampEnd 1) s).get (Reg.LMP_STAT_PHASE 1) = 0 ∧ (r.lamp 1).toRange = some true ∧
    (r.lamp 1).fresh = false ∧ ((aft (.rampEnd 1) r).lamp 1).range = true ∧
    ((aft (.rampEnd 1) (r.putLamp 1 { r.lamp 1 with fresh := true })).get (Reg.LMP_STAT_PHASE 1)) = 1 := by decide +kernel
theorem witness_rails :
    let s := st [(Reg.LMP_STAT_PHASE 6, 2), (Reg.LMP_STAT_ON 6, 1), (Reg.LMP_CTRL_EN 6, 1), (Reg.LMP_STAT_PHASE 7, 6)]
    let u := aft (.lampRailUv 3) s
    let v := aft (.railUvRelease 3) u
    let w := aft (.railRestartWaitEnd 3) v
    u.get (Reg.LMP_STAT_PHASE 6) = 5 ∧ bit u.door.railTrip 3 = true ∧ bit (u.get Reg.HMI_EVT_RAIL_UV) 3 = true ∧
    v.get (Reg.LMP_STAT_PHASE 6) = 6 ∧ bit v.door.railWait 3 = true ∧ bit v.door.railTrip 3 = false ∧
    w.get (Reg.LMP_STAT_PHASE 6) = 1 ∧ s.lampWanted 6 = true ∧ s.lampWanted 7 = false ∧ w.get (Reg.LMP_STAT_PHASE 7) = 0 := by decide +kernel
theorem witness_lgate :
    let s := st [(Reg.CAST_STATUS_STATE, 3), (Reg.LMP_CTRL_EN 4, 1), (Reg.LMP_CTRL_SRC 4, 1), (Reg.LMP_SET_SET 4, 9)]
    s.fabricReleased = true ∧ bit (s.get Reg.CWALL_MASK) (s.door.lgateRegion.getD 4 0) = false ∧
    bit (aft (.lgateEdge 4 true) s).door.lgate 4 = true ∧ (aft (.lgateEdge 4 true) s).get (Reg.LMP_STAT_PHASE 4) = 1 := by decide +kernel
theorem witness_touch :
    let s := st [(Reg.TCH_CFG_EN 11, 1), (Reg.TCH_CFG_RECAL, 1), (Reg.TCH_TOUCHED_T, 0x800), (Reg.TCH_DATA_COUNT 11, 77)]
    s.flag (Reg.TCH_CFG_EN 11) = true ∧ (aft (.touchScan (List.replicate 12 [500])) s).get (Reg.TCH_DATA_COUNT 11) = 500 ∧
    (aft (.touchScan (List.replicate 12 (List.replicate 9 500))) (s.put (Reg.TCH_CFG_PROX 11) 1)).get (Reg.TCH_DATA_COUNT 11) = 4000 ∧
    s.touched 11 = true ∧ s.get Reg.TCH_CFG_RECAL ≠ 0 ∧ (aft (.touchRecal 11) s).get (Reg.TCH_DATA_BASE 11) = 77 ∧
    (aft (.touchRecal 11) s).touched 11 = false := by decide +kernel
theorem witness_keys_and_plugs :
    let s := st [(Reg.KEY_CFG_EN, 1)]
    let k := aft .keyRowLow s
    k.door.keyScan = true ∧ (aft (.keyScan 0x0007 5) k).get Reg.KEY_STATE_GHOST = 1 ∧ (aft (.keyScan 0x0003 5) k).get Reg.KEY_STATE_GHOST = 0 ∧
    (aft (.keyScan 0x0003 5) k).door.keyMs = 5 ∧
    (bit (s.get Reg.PLG_STAT_PRESENT) 1 == false) = true ∧ bit ((aft (.plugChange 1 true) s).get Reg.PLG_STAT_PRESENT) 1 = true ∧
    bit ((aft (.plugChange 1 true) s).get Reg.PLG_STAT_CHANGED) 1 = true := by decide +kernel
theorem witness_door_commands :
    let a := mgr 0x800 [7, 1, 0, 1, 40, 6, 7, 0]
    let lat := st [(Reg.LMP_STAT_PHASE 7, 4)]
    reach lampSetOp on a = true ∧ (aft (.lampSet a) on).get (Reg.LMP_SET_SET 7) = 256 ∧
    (aft (.lampSet a) on).flag (Reg.LMP_CTRL_EN 7) = true ∧
    reply (aft (.lampRetry (mgr 0x802 [7, 0, 0, 0])) on) = (0xE, 1) ∧ reach lampRetryOp lat (mgr 0x802 [7, 0, 0, 0]) = true ∧
    reply (aft (.lampRetry (mgr 0x802 [7, 0, 0, 0])) lat) = (0, 0) ∧
    reach keyConfigOp on (mgr 0x805 [1, 1, 0, 0, 9, 0, 0, 0]) = true ∧
    (aft (.keyConfig (mgr 0x805 [1, 1, 0, 0, 9, 0, 0, 0])) on).get Reg.KEY_CFG_DEB = 16 := by decide +kernel
theorem witness_key_read_and_audio :
    let k := { st [(Reg.KEY_FIFO_STAT_LEVEL, 2)] with door := { on.door with keyFifo := [5, 6] } }
    let d := st [(Reg.PWR_STATE_CUR, 2)]
    reach keyReadOp k (mgr 0x806 [1, 0, 0, 0]) = true ∧ (aft (.keyRead (mgr 0x806 [1, 0, 0, 0])) k).door.keyFifo = [6] ∧
    (aft (.keyRead (mgr 0x806 [1, 0, 0, 0])) k).get Reg.KEY_FIFO_STAT_LEVEL = 1 ∧
    reach doorStatusOp on (mgr 0x807 [255, 0, 0, 0]) = true ∧ reach audioMuteOp onPort (fabr 0x809 [1, 0, 0, 0]) = true ∧ onPort.mayUnmute = true ∧
    d.mayUnmute = false ∧ (aft (.audioMute (fabr 0x809 [1, 0, 0, 0])) onPort).flag Reg.AUD_CTRL_UNMUTE = true ∧
    reach audioMuteOp d (mgr 0x809 [1, 0, 0, 0]) = true ∧ reply (aft (.audioMute (mgr 0x809 [1, 0, 0, 0])) d) = (0xE, 0x102) := by
  decide +kernel

/-! ### The log -/

def sub0 : LogSub := { code := 0x0502, sev := 3, flags := 0, ns := 0, sec := 0, src := 1, data := zeros 10 }
theorem witness_log :
    let s := { on with log := { on.log with inQ := [sub0] } }
    let e : LogEntry := { seq := 5, sub := sub0 }
    let p := { on with log := { on.log with toPersist := [e], ring := [e] } }
    let f := { on with log := { on.log with inQ := List.replicate 64 sub0 } }
    s.log.lost = 0 ∧ (aft .logSubmit s).log.inQ = [] ∧ (aft .logSubmit s).get Reg.LOG_HEAD_SEQ = 1 ∧
    (aft .logSubmit s).log.ring.map (fun e => e.seq) = [1] ∧
    p.log.eraseIntent = none ∧ p.bud.trip = none ∧ (aft (.logPersist true) p).log.toPersist = [] ∧
    ((aft (.logPersist true) p).log.sectors.flatMap (fun c => c.slots)).length = 1 ∧
    kettleRaises 0x0502 = false ∧ (f.logEvent 0x0502 0 []).get Reg.LOG_DROPS_COUNT = 1 ∧ (f.logEvent 0x0502 0 []).log.lost = 1 := by
  decide +kernel
theorem witness_log_erased :
    let s := { on with log := { on.log with eraseIntent := some 1 } }
    s.log.eraseIntent = some 1 ∧ (aft .logErased s).log.eraseIntent = none ∧
    (aft .logErased s).log.ring.map (fun e => e.sub.code) = [0x0C03] := by decide +kernel
theorem witness_log_commands :
    let s := aft .logSubmit { on with log := { on.log with inQ := [sub0] } }
    let er := { on with log := { on.log with eraseIntent := some 1 } }
    let wr := mgr 0xC02 ([0x34, 0xF0, 2, 0, 9, 0] ++ zeros 12)
    reach logStatusOp on (mgr 0xC00 []) = true ∧ reach logReadOp s (mgr 0xC01 [0, 0, 4, 0, 0, 0, 0, 0]) = true ∧
    (s.logSelect 0 4 0).length = 1 ∧ (on.logSelect 0 4 0) = [] ∧ reach logReadOp on (mgr 0xC01 [0, 0, 4, 0, 0, 0, 0, 0]) = true ∧
    reach logWriteOp on wr = true ∧ (aft (.logWrite wr) on).log.ring.map (fun e => e.sub.code) = [0xF034] ∧
    reach logConfigOp on (mgr 0xC03 [3, 1, 0, 0]) = true ∧ (aft (.logConfig (mgr 0xC03 [3, 1, 0, 0])) on).get Reg.LOG_CFG_PSEV = 3 ∧
    er.log.eraseIntent ≠ none := by decide +kernel
theorem witness_log_erase : reachTag true logEraseOp (give on (sealed .smbus 1 0xC04 [])) (sealed .smbus 1 0xC04 []) = true ∧
    reachTag true logEraseOp (give { on with log := { on.log with eraseIntent := some 1 } } (sealed .smbus 1 0xC04 []))
      (sealed .smbus 1 0xC04 []) = true := by decide +kernel

end Sys2Proof.Tests
end

