-- ==== Sys2Proof/Tests/Engines.lean ====
section
/-! SUPPORT. Witnesses and small tests of the signal engines, engine 95. -/

namespace Sys2Proof.Tests
open Sys2Proof Sys2Proof.Machine
set_option Elab.async false

/-- An engine that runs in a released cast with a word at PC, its banks 1, 2, 3, 4 and 10, -20, 30, 40. -/
def en (w : Nat) (l : List (Fld × Nat) := []) : State :=
  let s := ((st ([(Reg.CAST_STATUS_STATE, 3), (Reg.ENG_STAT_RUN 95, 1), (Reg.ENG_STAT_PC 95, 2047)] ++ l)).wput (engWin 95 + 4 * 2047) w)
  let x := [1, 2, 3, 4].zipIdx.foldl (fun s p => s.setElem 95 0 p.2 p.1) s
  [10, -20, 30, 40].zipIdx.foldl (fun s p => s.setElem 95 1 p.2 p.1) x
/-- A part of the engine changed. -/
def ee (f : EngX → EngX) (s : State) : State := s.setEx 95 (f (s.ex 95))
/-- A word of an OP with fields (value, place). -/
def ew (op : Nat) (l : List (Nat × Nat)) : Nat := l.foldl (fun a p => a + p.1 * 2 ^ p.2) (op * 2 ^ 27)
/-- `EngReady` as a check. -/
def engOk (w : Nat) (s : State) : Bool :=
  s.engRuns 95 && (s.ex 95).stall.isNone && !(s.ex 95).haltReq && s.engDue 95 == 0 && s.engWord 95 (s.get (Reg.ENG_STAT_PC 95)) == w && !engIllegal w &&
    (!usesIn w || s.inReady 95) && (!usesOut w || s.outReady 95)

theorem witness_engine_arith :
    let a (i : Instr) (s : State) := (aft i s).ex 95
    let big := ee (fun x => { x with acc := [2147483647, 0, 0, 0] })
    engOk (ew 0 []) (en 0) = true ∧ (aft (.engNop 95) (en 0)).get (Reg.ENG_STAT_PC 95) = 0 ∧
    engOk (ew 1 [(1, 19)]) (en (ew 1 [(1, 19)])) = true ∧ (a (.mpy 95) (en (ew 1 [(1, 19)]))).acc = [10, -40, 90, 160] ∧
    (a (.mac 95) (big (en (ew 2 [(1, 26)])))).acc = [2147483647, -40, 90, 160] ∧
    bit ((aft (.mac 95) (big (en (ew 2 [(1, 26)])))).get (Reg.ENG_STAT_OVF 95)) 0 = true ∧ (a (.msu 95) (en (ew 3 []))).acc = [-10, 40, -90, -160] ∧
    (a (.mpy 95) (en (ew 1 [(1, 24)]))).acc = [50, 0, 0, 0] := by decide +kernel
theorem witness_engine_moves :
    let a (i : Instr) (s : State) := (aft i s).ex 95
    let acc := ee (fun x => { x with acc := [5, -7, 40000, 1] })
    let ext := ew 5 [(1, 21), (1, 26)]
    let mov := ew 6 [(1, 22), (1, 21)]
    engOk (ew 4 [(1, 24)]) (acc (en (ew 4 [(1, 24)]))) = true ∧ (a (.engAcc 95) (acc (en (ew 4 [(1, 24)])))).acc.headD 0 = 39999 ∧
    (a (.engAcc 95) (en (ew 4 [(2, 24), (1, 17), (3, 19)]))).acc = [80, -160, 240, 320] ∧
    engOk ext (acc (en ext)) = true ∧ ((List.range 4).map (fun k => (aft (.ext 95) (acc (en ext))).elem 95 0 k)) = [3, -3, 20000, 1] ∧
    engOk mov (en mov) = true ∧ ((List.range 4).map (fun k => (aft (.mov 95) (en mov)).elem 95 1 k)) = [1, 2, 3, 4] ∧
    (a (.setag 95) (en (ew 7 [(1, 26), (1, 23), (4095, 0)]))).ag1.m = -1 ∧ (a (.setag 95) (en (ew 7 [(3, 23), (7, 0)]))).ag0.l = 8 := by decide +kernel
/-- R257's addresses: a buffer of 8 at 4090, past the end of the bank, from element 4094 on. -/
theorem test_generator :
    let g : Ag := { p := 4094, m := 3, b := 4090, l := 8 }
    (List.range 6).map g.addr = [4094, 4095, 0, 1, 4090, 4091] ∧ (g.step 3).p = 1 ∧ (g.step (-5)).p = 1 := by decide
theorem witness_engine_sequence :
    let rpt := en (ew 0x10 [(9, 0)])
    let bad := (en (ew 0x10 [(9, 0)])).wput (engWin 95) (ew 0x16 [])
    let blk := ew 0x11 [(5, 16), (2, 0)]
    let deep := ee (fun x => { x with blocks := List.replicate 3 ⟨0, 9, 2⟩ }) (en blk)
    let nest := ee (fun x => { x with blocks := [⟨0, 4, 2⟩] }) (en blk)
    (rpt.ex 95).rpt = 0 ∧ engOk (ew 0x10 [(9, 0)]) rpt = true ∧ repeatable (rpt.engWord 95 0) = true ∧ ((aft (.rpt 95) rpt).ex 95).rpt = 10 ∧
    (aft (.rpt 95) bad).get (Reg.ENG_STAT_FAULT 95) = 1 ∧ engOk blk (en blk) = true ∧ ((aft (.blk 95) (en blk)).ex 95).blocks = [⟨0, 5, 3⟩] ∧
    (aft (.blk 95) deep).get (Reg.ENG_STAT_FAULT 95) = 3 ∧ (aft (.blk 95) nest).get (Reg.ENG_STAT_FAULT 95) = 2 := by decide +kernel
theorem witness_engine_jumps :
    let j := ew 0x12 [(1, 24), (3, 21), (77, 0)]
    let w := ew 0x13 [(8, 0)]
    let p := [(Reg.ENG_EVT_PEND 95, 8)]
    engOk j (en j p) = true ∧ (en j p).jmpTaken 95 j = true ∧ (aft (.engJmp 95) (en j p)).get (Reg.ENG_STAT_PC 95) = 77 ∧
    (aft (.engJmp 95) (en j p)).get (Reg.ENG_EVT_PEND 95) = 0 ∧ (en j).jmpTaken 95 j = false ∧ (aft (.engJmp 95) (en j)).get (Reg.ENG_STAT_PC 95) = 0 ∧
    engOk w (en w) = true ∧ ((aft (.wait 95) (en w)).ex 95).stall = some .event ∧ (aft (.wait 95) (en w p)).get (Reg.ENG_EVT_PEND 95) = 0 ∧
    ((aft (.sigo 95) (en (ew 0x14 [(9, 0)]))).ex 95).eo = 9 ∧ (aft (.engStop 95) (en (ew 0x16 []))).flag (Reg.ENG_STAT_RUN 95) = false := by decide +kernel
theorem witness_engine_returns :
    let r := en (ew 0x15 []) [(Reg.ENG_STAT_INTR 95, 1), (Reg.ENG_IPC_IPC 95, 12)]
    let bad := ee (fun x => { x with blocks := [⟨0, 4, 2⟩] }) r
    let h := ew 0x18 [(1023, 16), (1, 26)]
    let g := ew 0x19 [(3, 16)]
    engOk (ew 0x15 []) r = true ∧ (aft (.reti 95) r).get (Reg.ENG_STAT_PC 95) = 12 ∧ (aft (.reti 95) r).flag (Reg.ENG_STAT_INTR 95) = false ∧
    (aft (.reti 95) bad).get (Reg.ENG_STAT_FAULT 95) = 2 ∧ engOk h (en h) = true ∧ (((aft (.engHpop 95) (en h)).hq.ops).map (fun o => o.q)) = [1023] ∧
    engOk g (en g) = true ∧ (((aft (.engHpush 95) (en g)).hq.ops).map (fun o => o.push)) = [some 0] ∧
    engIllegal (ew 0x1F []) = true ∧ (aft (.engNop 95) (en (ew 0x1F []))).get (Reg.ENG_STAT_FAULT 95) = 1 := by decide +kernel
theorem witness_engine_release :
    let h := ew 0x18 [(1023, 16), (1, 26)]
    let o (code : Nat) : HqOp := { key := 4, who := .engine 95, q := 1023, push := none, phase := .resp code 0x7FF000, withdrawn := false }
    let s (code : Nat) := ee (fun x => { x with stall := some (.hq 4) }) { en h with hq := { (en h).hq with ops := [o code], next := 5 } }
    (s 0).engRuns 95 = true ∧ (s 0).engDue 95 = 0 ∧ (s 0).hqOp 4 = some (o 0) ∧ ((s 0).ex 95).rpt = 0 ∧
    (s 1).hqOp 4 = some (o 1) := by decide +kernel
theorem witness_engine_events :
    let i := en 0 [(Reg.ENG_EVT_IEN 95, 0x80)]
    let off := (en 0).put (Reg.ENG_STAT_RUN 95) 0
    i.coresRun = true ∧ i.castRuns = true ∧ i.frozen (engRegion 95) = false ∧ (aft (.engEventEdge 95 7) i).get (Reg.ENG_STAT_PC 95) = 0x7FF ∧
    (aft (.engEventEdge 95 7) i).get (Reg.ENG_IPC_IPC 95) = 2047 ∧ (aft (.engEventEdge 95 6) off).get (Reg.ENG_EVT_PEND 95) = 0x40 ∧
    (aft (.goEdge 95) off).flag (Reg.ENG_STAT_RUN 95) = true ∧ (aft (.goEdge 95) (off.put (Reg.ENG_STAT_FAULT 95) 2)).flag (Reg.ENG_STAT_RUN 95) = false := by
  decide +kernel
theorem witness_engine_control :
    let off := (en 0).put (Reg.ENG_STAT_RUN 95) 0
    let f := off.put (Reg.ENG_STAT_FAULT 95) 4
    let q : State := { off with pwr := { off.pwr with stage := .quiesce } }
    q.quiescing = true ∧ (aft (.goEdge 95) q).pwr.haltedEng = [95] ∧ (aft (.engStart 95 0x07FF0002) q).pwr.haltedEng = [95] ∧
    (aft (.engStart 95 0x07FF0002) q).flag (Reg.ENG_STAT_RUN 95) = false ∧
    (aft (.engStart 95 0x07FF0002) off).get (Reg.ENG_STAT_PC 95) = 2047 ∧ (aft (.engStart 95 0x07FF0002) off).flag (Reg.ENG_STAT_RUN 95) = true ∧
    (aft (.engHalt 95 1) (en 0)).flag (Reg.ENG_STAT_RUN 95) = false ∧ (aft (.engClrFault 95 4) f).get (Reg.ENG_STAT_FAULT 95) = 0 ∧
    (aft (.engMemoryAccess 95 24575 none) (off.wput (engWin 95 + 0x5FFC) 7)).addr.readData = 7 ∧
    (aft (.engMemoryAccess 95 0x2000 (some 9)) (en 0)).wget (engWin 95 + 0x2000) = 9 ∧
    (aft (.engMemoryAccess 95 0x1FFF (some 9)) (en 0)).flag (Reg.ENG_STAT_WERR 95) = true := by decide +kernel
/-- An engine between two FIFOs: MOV from IN to OUT. -/
def piped (w : Nat) : State :=
  let c (n : Nat) : QbCfg := { qb := n, mode := .fifo, width := 64, prot := false, ckA := 8, ckB := 8, latA := 1, latB := 1, rdw := 0, afT := 1, aeT := 0,
                               fwft := true, hqn := 0, depth := 0 }
  let s := en w
  { s with fab := { s.fab with pers := { Personality.blank with qbs := [c 5, c 6], inQb := [(95, 5)], outQb := [(95, 6)] } } }
theorem witness_engine_ports :
    let w := ew 6 [(2, 24), (2, 22)]
    let s := (piped w).setQb 5 { QbX.fresh with entries := [0x0004000300020001, 7] }
    engOk w s = true ∧ ((aft (.mov 95) s).qb 6).entries = [0x0004000300020001] ∧ ((aft (.mov 95) s).qb 5).entries = [7] ∧
    ((aft (.mov 95) (piped w)).ex 95).stall = some .port := by decide +kernel

end Sys2Proof.Tests
end

