-- ==== Sys2Proof/Tests/Lanes.lean ====
section
/-! SUPPORT. Witnesses and small tests of serial lanes, lane 27 of quad 6. -/

namespace Sys2Proof.Tests
open Sys2Proof Sys2Proof.Machine
set_option Elab.async false

/-- A lane of quad 6 with its PLL locked, in a state, of a rate. -/
def la (state rate : Nat) (l : List (Fld × Nat) := []) : State :=
  st ([(Reg.QUAD_CFG_PLL_LOCK 6, 1), (Reg.QUAD_CFG_RATE 6, rate), (Reg.LN_STAT_STATE 27, state)] ++ l)
/-- A part of the lane changed. -/
def lx (f : LaneX → LaneX) (s : State) : State := s.setLn 27 (f (s.ln 27))
def stOf (i : Instr) (s : State) : Nat := (aft i s).lnState 27
theorem witness_lane_training :
    let s := la 5 8 [(Reg.LN_STAT_CDR 27, 1)]
    let t := la 1 8
    let c := la 2 8 [(Reg.LN_STAT_SIG 27, 1)]
    s.laneUsed 27 = true ∧ on.laneUsed 29 = true ∧ on.laneUsed 30 = false ∧ (s.laneTrain 27 true).get (Reg.LN_STAT_LOST 27) = 1 ∧ s.cur = 0 ∧
    stOf (.laneRestart 27) s = 1 ∧ t.laneLive 27 = true ∧ stOf (.laneSignalDetect 27) t = 2 ∧ stOf (.laneCdrLock 27) c = 3 ∧
    stOf (.laneCdrLock 27) (lx (fun x => { x with fast := true }) c) = 4 ∧
    stOf (.laneCdrLock 27) (la 6 8 [(Reg.LN_STAT_SIG 27, 1)]) = 5 ∧ t.flag (Reg.LN_STAT_SIG 27) = false ∧
    ((aft (.laneSignalDetect 27) (lx (fun x => { x with rx := { x.rx with seen := 9 } }) t)).ln 27).rx.seen = 0 ∧
    ((aft (.laneSignalDetect 27) (lx (fun x => { x with rx := { x.rx with seen := 9 } }) c)).ln 27).rx.seen = 9 := by decide +kernel
theorem witness_lane_adapt :
    let s := la 3 8
    let f := la 3 8 [(Reg.LN_CTRL_FREEZE 27, 1), (Reg.LN_EQ_CTLE 27, 4)]
    let w : List (Fin 65 × Fin 65) := List.replicate 9 (8, 8) ++ [(64, 20), (20, 64)]
    let t := aft (.laneAdaptDone 27 w 0xABCDEF 64 64) s
    t.lnState 27 = 4 ∧ t.get (Reg.LN_STAT_EYEQ 27) = 255 ∧ t.get (Reg.LN_EQ_CTLE 27) = 9 ∧ t.get (Reg.LN_EQ_DFE 27) = 0xABCDEF ∧
    (aft (.laneAdaptDone 27 w 0xABCDEF 8 62) s).lnState 27 = 7 ∧ (aft (.laneAdaptDone 27 w 0xABCDEF 8 64) s).lnState 27 = 4 ∧
    (aft (.laneAdaptDone 27 w 0 64 64) f).get (Reg.LN_EQ_CTLE 27) = 4 ∧ stOf (.alignRetry 27) (la 7 8) = 1 := by decide +kernel
theorem witness_lane_comma :
    let s (c : Nat) := la 4 7 [(Reg.LN_STAT_CDR 27, 1), (Reg.LN_STAT_COMMA 27, c)]
    let k := symbol10 true 28 5 false
    let bad := List.replicate 10 true
    (s 0).holwellCoded 27 = false ∧ stOf (.commaAlign ⟨27, k⟩) (s 0) = 5 ∧ stOf (.commaAlign ⟨27, bad⟩) (s 0) = 4 ∧
    (aft (.commaAlign ⟨27, k ++ symbol10 false 21 5 true⟩) (s 0)).get (Reg.LN_ERR_CODE 27) = 0 ∧
    (aft (.commaAlign ⟨27, bad⟩) (s 1)).get (Reg.LN_ERR_CODE 27) = 1 ∧
    (aft (.commaAlign ⟨27, bad.map (fun b => !b)⟩) (lx (fun x => { x with rx8 := { x.rx8 with errs := 0 } }) (s 1))).get (Reg.LN_ERR_CODE 27) = 1 := by
  decide +kernel
/-- Symbols as IEEE 802.3 Tables 36–1 and 36–2 print them: D0.0, K28.5 both ways, D21.5, D17.7 and D11.7. -/
theorem test_symbols :
    let b (l : List Nat) : List Bool := l.map (· == 1)
    symbol10 false 0 0 false = b [1, 0, 0, 1, 1, 1, 0, 1, 0, 0] ∧ symbol10 true 28 5 false = b [0, 0, 1, 1, 1, 1, 1, 0, 1, 0] ∧
    symbol10 true 28 5 true = b [1, 1, 0, 0, 0, 0, 0, 1, 0, 1] ∧ symbol10 false 21 5 true = b [1, 0, 1, 0, 1, 0, 1, 0, 1, 0] ∧
    symbol10 false 17 7 false = b [1, 0, 0, 0, 1, 1, 0, 1, 1, 1] ∧ symbol10 false 11 7 true = b [1, 1, 0, 1, 0, 0, 1, 0, 0, 0] ∧
    validSymbol false (b [1, 0, 0, 1, 1, 1, 0, 1, 0, 0]) = true ∧ validSymbol false (b [0, 1, 1, 0, 0, 0, 1, 0, 1, 1]) = false := by decide +kernel
theorem witness_lane_search :
    let s := la 4 8
    let m := la 4 8 [(Reg.LN_CTRL_MANUAL 27, 1), (Reg.LN_STAT_MARK 27, 1)]
    let g := lx (fun x => { x with sighted := true }) s
    s.searching 27 = true ∧ stOf (.alignSearchStep 27 (some true)) s = 4 ∧ (aft (.alignSearchStep 27 (some true)) s).get (Reg.LN_CTRL_RX_INV 27) = 1 ∧
    stOf (.alignSearchStep 27 (some false)) g = 5 ∧ ((aft (.alignSearchStep 27 none) g).ln 27).slips = 1 ∧
    ((s.slip 27).ln 27).slips = 1 ∧ ((lx (fun x => { x with slips := 62 }) s).slip 27).lnState 27 = 4 ∧
    (m.searching 27 && m.flag (Reg.LN_CTRL_MANUAL 27)) = true ∧ ((aft (.laneSlip 27) m).ln 27).slips = 1 ∧
    ((aft (.laneSlip 27) s).ln 27).slips = 0 := by decide +kernel
/-- A marker of device 63, port 6, lane 3 (Table LANE-4), one complemented, and the line bits of a word behind another one. -/
def mark : Nat := 0xB7A68F1CD2E4FF60
def inverted : Nat := 0x485970E32D1B0000
def lineOf (w : Nat) : List Bool := (LaneTx.fresh.bits (wordBits 0x123456789ABCDEF ++ wordBits w)).2
theorem witness_lane_marker :
    let a := la 5 8
    let s := la 4 8
    let m := la 4 8 [(Reg.LN_CTRL_MANUAL 27, 1), (Reg.LN_STAT_MARK 27, 1)]
    let t := aft (.markerReceived 27 (lineOf mark) true) a
    bits mark 16 48 = 0xB7A68F1CD2E4 ∧ bits inverted 16 48 = 2 ^ 48 - 1 - 0xB7A68F1CD2E4 ∧ t.get (Reg.LN_STAT_REM_ID 27) = 63 ∧
    t.get (Reg.LN_STAT_REM_PORT 27) = 6 ∧ t.get (Reg.LN_STAT_REM_LANE 27) = 3 ∧ stOf (.markerReceived 27 (lineOf inverted) true) a = 1 ∧
    stOf (.markerReceived 27 (lineOf mark) false) a = 1 ∧ (aft (.markerReceived 27 (lineOf inverted) true) s).get (Reg.LN_STAT_MARK_INV 27) = 1 ∧
    stOf (.markerReceived 27 (lineOf mark) true) s = 4 ∧ stOf (.markerReceived 27 (lineOf mark) true) m = 5 ∧
    ((aft (.markerReceived 27 ((lineOf mark).map (fun b => !b)) true) (a.put (Reg.LN_CTRL_RX_INV 27) 1)).ln 27).rx.word = mark ∧
    (aft (.markerReceived 27 (wordBits 5) true) a).get (Reg.LN_STAT_REM_ID 27) = 0 ∧
    (aft (.markerReceived 27 (List.replicate 48 true) true) a).get (Reg.LN_ERR_CODE 27) = 1 := by decide +kernel
/-- A stuffed bit follows 47 equal line bits, and the receiver takes it out again (R455). -/
theorem test_stuffing :
    let x : LaneTx := { LaneTx.fresh with sc := 0 }
    let r := x.bits (List.replicate 48 false)
    r.2 = List.replicate 47 false ++ [true, false] ∧ (LaneRx.fresh.take r.2).2 = 0 ∧ (LaneRx.fresh.take r.2).1.seen = 48 := by decide +kernel
theorem witness_lane_align_timeout :
    let q := mgr 0xB04 [27]
    let c := { on.cmd with longOps := [⟨q, false, false, false⟩] }
    let s := { on with cmd := c }
    ((s.cmd.longOps.map (fun o => o.req)).find? (fun q => q.opcode == 0x0B04 && leAt q.payload 0 1 == 27)) = some q ∧
    (aft (.laneAlignTimeout 27) s).cmd.longOps.length = 0 := by decide +kernel
theorem witness_lane_holdover :
    let s := la 5 8
    let t := aft (.laneHoldover 27 2) s
    let h := la 6 8 [(Reg.LN_STAT_SIG 27, 1), (Reg.LN_STAT_CDR 27, 1)]
    t.lnState 27 = 6 ∧ t.get (Reg.LN_ERR_CODE 27) = 8 ∧ t.get (Reg.LN_STAT_LOST 27) = 1 ∧ stOf (.laneHoldover 27 0) (la 4 8) = 1 ∧
    (aft (.laneHoldover 27 0) h).get (Reg.LN_STAT_SIG 27) = 0 ∧ stOf (.laneHoldover 27 0) h = 6 ∧ stOf (.laneHoldover 27 1) (la 5 7) = 1 ∧
    stOf (.laneHoldover 27 2) (la 5 7) = 5 ∧ stOf (.laneHoldoverTimeout 27) h = 1 ∧ (h.alignLost 27).get (Reg.LN_ERR_MARKER 27) = 1 ∧
    (h.isUp 6) = false := by decide +kernel
/-- A lane of an UP Holwell link. -/
def up1 : State := st [(Reg.QUAD_CFG_PLL_LOCK 1, 1), (Reg.QUAD_CFG_RATE 1, 8), (Reg.LN_STAT_STATE 7, 6), (Reg.HL_STAT_STATE 1, 2), (Reg.HL_STAT_WIDTH 1, 4)]
theorem witness_lane_of_link : up1.owner 1 = 0 ∧ up1.isUp 1 = true ∧ 7 % 4 < up1.hlWidth 1 ∧ (aft (.laneHoldoverTimeout 7) up1).isUp 1 = false ∧
    (aft (.laneHoldoverTimeout 7) up1).get (Reg.HL_DOWN_WHY_REASON 1) = 1 ∧ (aft (.laneRestart 7) up1).isUp 1 = false := by decide +kernel
theorem witness_lane_eye :
    let s := la 5 8
    let l := lx (fun x => { x with lows := 2 }) s
    (aft (.eyeqMeasure 27 8 62) s).get (Reg.LN_STAT_EYEQ 27) = 31 ∧ ((aft (.eyeqMeasure 27 8 62) s).ln 27).lows = 1 ∧
    ((aft (.eyeqMeasure 27 8 62) l).ln 27).lows = 0 ∧ (aft (.eyeqMeasure 27 8 62) l).log.inQ.length = 1 := by decide +kernel
theorem witness_lane_prbs :
    let s := la 5 8 [(Reg.LN_PRBS_CHK 27, 1), (Reg.LN_PRBS_CHK_LOCK 27, 1)]
    let s := lx (fun x => { x with prbs := { x.prbs with chk := x.prbs.gen } }) s
    let g := (LanePrbs.generate 0 LaneX.fresh.prbs 135).2
    let t := aft (.prbsCheckerLock 27 ((g.take 64).map (fun b => !b))) s
    let u := aft (.prbsCheckerLock 27 g) (la 5 8 [(Reg.LN_PRBS_CHK 27, 1)])
    s.laneLive 27 = true ∧ t.get (Reg.LN_PRBS_CHK_LOCK 27) = 0 ∧ t.get (Reg.LN_PRBS_ERR_COUNT 27) = 64 ∧
    u.get (Reg.LN_PRBS_CHK_LOCK 27) = 1 ∧ u.get (Reg.LN_PRBS_ERR_COUNT 27) = 0 ∧
    (aft (.prbsCheckerLock 27 [true]) (la 5 8)).get (Reg.LN_PRBS_CHK_LOCK 27) = 0 := by decide +kernel
/-- The 7-bit pattern repeats after 127 bits. -/
theorem test_prbs7 :
    let g := (LanePrbs.generate 0 LaneX.fresh.prbs 254).2
    g.take 7 = [false, false, false, false, false, false, true] ∧ g.take 127 = g.drop 127 ∧ (g.take 127).count true = 64 := by decide +kernel
theorem witness_lane_reference :
    let s := la 5 8 [(Reg.LANE_REF_LREF1_OK, 1), (Reg.QUAD_CFG_REF 6, 1)]
    let t := aft (.laneRefLoss 1) s
    let u := aft (.lrefclkReturn 1) t
    s.flag (lrefOk 1) = true ∧ 6 ∈ s.quadsOn 1 ∧ t.lnState 27 = 1 ∧ t.flag (Reg.QUAD_CFG_PLL_LOCK 6) = false ∧ t.flag (lrefOk 1) = false ∧
    u.flag (Reg.QUAD_CFG_PLL_LOCK 6) = true ∧ u.flag (lrefOk 1) = true := by decide +kernel
theorem witness_pcie_reset :
    let s := st [(Reg.MBX_REQ_TAIL_TAIL, 5), (Reg.MBX_CTRL_ENABLE, 1)]
    s.plinthPowered = true ∧ s.nativeOwner 6 = 1 ∧ s.cast.chain = none ∧ (aft (.pcieReset 3) s).get Reg.MBX_REQ_TAIL_TAIL = 0 ∧
    (aft (.pcieReset 3) s).log.inQ.length = 1 := by decide +kernel

end Sys2Proof.Tests
end

