-- ==== Sys2Proof/Tests/Mem.lean ====
section
/-! SUPPORT. Witnesses and small tests of the events of memory channels. -/

namespace Sys2Proof.Tests
open Sys2Proof Sys2Proof.Machine
set_option Elab.async false

/-- The memory unit changed. -/
def mm (f : MemUnit → MemUnit) (s : State) : State := { s with mu := f s.mu }
theorem witness_refresh :
    let s (d : Nat) := withX 0x2222 0 (st [(Reg.XCH_REF_DEBT 3, d), (Reg.XCH_REF_MAXDEBT 3, 5)])
    let t := aft (.refreshDue (.xdram 3) true) (s 7)
    (s 7).chRuns 3 = true ∧ on.chRuns 3 = false ∧ t.get (Reg.XCH_REF_DEBT 3) = 8 ∧ t.get (Reg.XCH_REF_MAXDEBT 3) = 8 ∧
    (aft (.refreshDue (.xdram 3) true) (s 8)).get (Reg.XCH_REF_DEBT 3) = 0 ∧ (aft (.refreshDue (.xdram 3) false) (s 2)).get (Reg.XCH_REF_DEBT 3) = 0 ∧
    (aft (.refreshDue (.xdram 3) false) (s 2)).get (Reg.XCH_REF_MAXDEBT 3) = 5 ∧
    (aft (.refreshDue (.xdram 3) true) (mm (fun m => { m with owed := [(3, 7, [1]), (2, 9, [])] }) (s 7))).mu.owed = [(2, 9, [])] ∧ (aft (.mr4Poll 3 9) (s 0)).mu.mr4[3]? = some 9 := by decide +kernel
theorem witness_throttle :
    let s := mm (fun m => { m with acts := [(195, .pcie, 1, 7), (194, .pcie, 1, 5)], waits := [(195, .pcie, 1), (2, .csi 3, 0)] }) on
    let t := aft (.throttleWindowEnd (.caddy 191)) s
    chKey (.caddy 191) = 195 ∧ s.actsOf 195 .pcie 1 = 7 ∧ t.actsOf 195 .pcie 1 = 0 ∧ t.actsOf 194 .pcie 1 = 5 ∧ t.mu.waits = [(2, .csi 3, 0)] := by decide +kernel
theorem witness_scrub :
    let a := 0x2FFFFFFC0 - 64
    let s := (st [(Reg.CADDY_STAT_STATE, 1), (Reg.CCH_SCRUB_PERIOD 191, 24)])
    let e (v : Nat) : State := { s with ecc := [(a, v)] }
    s.chRuns 195 = true ∧ (s.place a).key = some 195 ∧ s.canPoison a = true ∧ s.lastBlock (s.place a) = false ∧
    tget 0 (aft (.scrubRead (.caddy 191) a) (e 1)).ecc a = 0 ∧ tget 0 (aft (.scrubRead (.caddy 191) a) (e 3)).ecc a = 3 ∧
    (aft (.scrubRead (.caddy 191) (a + 64)) s).get (Reg.CCH_SCRUB_PASSES 191) = 1 := by decide +kernel
theorem witness_training :
    let s (k : Training) := mm (fun m => { m with training := k }) (withX 0x1111 0 (st [(Reg.XDRAM_CFG_GEN, 1)]))
    let ok := padTo 128 [1]
    let bad := padTo 128 [1, 0, 0, 0, 0, 0, 0, 0, 0, 3]
    let stored := (mm (fun m => { m with stored := [ok, ok, ok, ok] }) (s .restart)).put Reg.XDRAM_STAT_STORED 1
    (aft (.xdramTrainDone [ok, ok, ok, bad]) (s .full)).get Reg.XDRAM_STAT_CH = 0x4222 ∧
    (s .full).xP = 4 ∧ stored.retrainCause [ok, ok, ok, ok] = 0 ∧ stored.retrainCause [ok, ok, ok, bad] = 4 ∧
    (aft (.xdramTrainDone [ok, ok, ok, ok]) stored).get Reg.XDRAM_STAT_CH = 0x2222 ∧
    (aft (.xdramTrainDone [ok, ok, ok, bad]) stored).mu.training = .full ∧
    (aft (.xdramTrainDone [ok, ok, ok, bad]) stored).get Reg.XDRAM_STAT_STORED = 0 := by decide +kernel
theorem witness_self_refresh :
    let s := withX 0x3333 0 (st [(Reg.XDRAM_CFG_GEN, 1)])
    s.xState 3 = 3 ∧ s.stewardUp = true ∧ (aft (.xdramSelfRefreshExit 3 false) s).get Reg.XDRAM_STAT_CH = 0x2333 ∧
    (aft (.xdramSelfRefreshExit 3 true) s).mu.training = .restart := by decide +kernel
def inject (a : Nat) : Packet := host 0x406 (leBytes 8 a ++ [1, 0, 0, 0])
theorem witness_inject :
    let p := inject 0x1000
    let q := inject 0x1000000000
    let s := give on p
    reach memInjectOp s p = true ∧ s.mustWait 0x1000 1 = false ∧ tget 0 (aft (.memInject p) s).ecc 0x1000 = 2 ∧
    (give (withX 0x2221 0 on) q).mustWait (leAt q.payload 0 8) 1 = true := by decide +kernel
theorem witness_camera :
    let s := let s := withX 0x2333 1 (st [(Reg.PWR_STATE_CUR, 2)])
             { s with pwr := { s.pwr with doze := 0xE8 } }
    let w := s.linearWindow 3
    s.cur = 2 ∧ s.dozeCam = some 2 ∧ s.dozeChannel = 3 ∧ 3 < s.xP ∧ s.xState 3 = 2 ∧ s.xIecc = false ∧ s.plinthPowered = true ∧
    (withX 0x1333 1 s).xState 3 = 1 ∧ w.1 < w.2 ∧ (aft (.cameraRingWrite 2 (w.2 - 2) [7, 8]) s).bytesAt (w.2 - 2) 2 = [7, 8] ∧
    (aft (.cameraRingWrite 2 (w.2 - 1) [7, 8]) s).mu.dozeDrop = true ∧ (aft (.cameraRingWrite 2 (w.1 - 1) [7, 8]) s).mu.dozeDrop = true := by
  decide +kernel
theorem witness_camera_run :
    let s (n : Nat) := withX n 1 on
    let ok (n : Nat) : Bool := (blocks64 0x1000000000 2).all (fun b => match (s n).place b with | .xdram c _ => (s n).xState c == 2 | _ => false)
    ok 0x2222 = true ∧ ok 0x2221 = false := by decide +kernel

end Sys2Proof.Tests
end

