-- ==== Sys2Proof/Tests/Power.lean ====
section
/-! SUPPORT. Witnesses and small tests of power states, wakes, rails, boots, tamper and the thermal trip. -/

namespace Sys2Proof.Tests
open Sys2Proof Sys2Proof.Machine
set_option Elab.async false

/-- A part of the power unit changed. -/
def pw (f : PwrUnit → PwrUnit) (s : State) : State := { s with pwr := f s.pwr }
/-- Boot pins, with the straps sampled three times. -/
def pins (test tamper : Bool) : BootPins := { s0 := 0x06, s1 := 0x06, s2 := 0x05, vio33 := true, test := test, tamper := tamper }

theorem witness_power_entry :
    let p := mgr 0x200 [3, 0, 1, 0]
    let q (tgt : Nat) := pw (fun x => { x with stage := .quiesce, req := some p }) (st [(Reg.PWR_STATE_MOVING, 1), (Reg.PWR_STATE_TGT, tgt)])
    let busy := (q 3).put Reg.CAST_STATUS_STATE 1
    busy.isQuiet = false ∧ (aft .pwrQuiesceTimeout busy).moving = false ∧ (aft .pwrQuiesceTimeout busy).cur = 0 ∧
    (q 2).isQuiet = true ∧ (aft .pwrQuiesceDone (q 3)).pwr.stage = .prepare ∧ (aft .pwrQuiesceDone (q 3)).pwr.saveKey = false ∧
    (aft .pwrQuiesceDone (q 2)).pwr.saveKey = true := by decide +kernel
theorem witness_entry_commit :
    let q (tgt : Nat) := pw (fun x => { x with stage := .prepare }) (st [(Reg.PWR_STATE_MOVING, 1), (Reg.PWR_STATE_TGT, tgt)])
    let d := aft .pwrEntryCommit (q 2)
    let l := aft .pwrEntryCommit (q 3)
    (q 2).vault.commits = [] ∧ (q 2).pwr.wakeAfter = none ∧ d.cur = 2 ∧ d.moving = false ∧ d.pwr.enF = false ∧ d.pwr.enB = true ∧
    l.cur = 3 ∧ l.moving = false ∧ l.pwr.enB = false ∧ l.pwr.enL = false := by decide +kernel
/-- An entry that the host asked for, its reply without a place in a full ring. -/
theorem witness_entry_waits :
    let p := { mk .pcie 0 0x200 [3, 0, 1, 0] with flags := 2 }
    let q := pw (fun x => { x with stage := .prepare, req := some p })
      (st [(Reg.PWR_STATE_MOVING, 1), (Reg.PWR_STATE_TGT, 3), (Reg.MBX_CTRL_ENABLE, 1)])
    let s := { q with cmd := { q.cmd with longOps := [⟨p, false, false, false⟩], mbxRing := List.replicate 8 p } }
    s.pwr.req = some p ∧ s.vault.commits = [] ∧ s.entryReply.repliesWait p.via = true := by decide +kernel
theorem witness_idle_and_limit :
    let w : Word := 0x00050300
    let i := st [(Reg.PWR_STATE_CUR, 1)]
    let a := st [(Reg.PWR_CTRL_AUTO_IDLE, 1)]
    let d := pw (fun x => { x with doze := 0x10000 }) (st [(Reg.PWR_STATE_CUR, 2)])
    (aft (.pwrWake w) i).cur = 0 ∧ (aft (.pwrWake w) i).get Reg.PWR_CTRL_IDLE_DELAY = 5 ∧ (aft (.pwrWake w) i).flag Reg.PWR_CTRL_AUTO_IDLE = true ∧
    (aft .autoIdleExpire a).cur = 1 ∧ a.get Reg.CAST_STATUS_STATE ≠ 4 ∧ a.bist.isNone = true ∧
    (aft .dozeLimitExpire d).moving = true ∧ (aft .dozeLimitExpire d).get Reg.PWR_STATE_TGT = 3 ∧ d.pwr.stage = .none ∧
    bits d.pwr.doze 16 16 = 1 := by decide +kernel
theorem witness_wakes :
    let z (c : Nat) := st [(Reg.PWR_WAKE_EN_EN, 0x10080), (Reg.PWR_STATE_CUR, c)]
    bit ((z 0).get Reg.PWR_WAKE_EN_EN) 4 = false ∧ bit ((z 0).get Reg.PWR_WAKE_EN_EN) 7 = true ∧ (z 0).bud.trip = none ∧
    (aft (.wakePin 0) (z 0)).get Reg.PWR_WAKE_SRC_SRC = 0 ∧ (aft (.wakePin 3) (z 0)).get Reg.PWR_WAKE_SRC_SRC = 0x80 ∧
    (aft (.hlinkWakeBurst 6) (z 1)).cur = 0 ∧ (aft (.hlinkWakeBurst 6) (z 1)).get Reg.PWR_WAKE_FIRST_FIRST = 16 ∧
    (aft (.hlinkWakeBurst 6) (z 2)).pwr.stage = .railsFC ∧ (aft (.hlinkWakeBurst 6) (z 2)).get Reg.PWR_WAKE_FIRST_FIRST = 16 ∧
    (aft (.wakePin 3) (z 3)).pwr.stage = .ref ∧ (aft (.wakePin 3) (z 3)).flag Reg.PWR_CLK_STATUS_REF_REQ = true := by decide +kernel
theorem witness_rails_and_clocks :
    let r := pw (fun x => { x with stage := .ref, enL := false }) (st [(Reg.PWR_CLK_STATUS_REF_REQ, 1), (Reg.PWR_STATE_MOVING, 1), (Reg.PWR_STATE_CUR, 3)])
    let n := pw (fun x => { x with stage := .pllN, upF := false }) on
    let c := pw (fun x => { x with stage := .pllC }) on
    let f := pw (fun x => { x with stage := .pllF }) on
    let t := pw (fun x => { x with retried := true }) r
    (aft .refclkValid r).pwr.stage = .railsBL ∧ (aft .refclkValid r).pwr.enL = true ∧
    (aft (.railUp .f) (pw (fun x => { x with upF := false }) on)).pwr.upF = true ∧
    (aft (.pgFall .c) on).cur = 3 ∧ (aft (.pgFall .c) on).pwr.enB = false ∧
    (aft (.railUpTimeout .b) (pw (fun x => { x with upB := false }) on)).pwr.enL = false ∧
    (aft (.pllLock .nclk true []) n).pwr.stage = .railsFC ∧ (aft (.pllLock .nclk true []) n).cur = 0 ∧
    (aft (.pllLock .cclk true []) c).pwr.stage = .pllF ∧ (aft (.pllLock .fab true []) f).flag Reg.PWR_CLK_STATUS_FAB_LOCK = true ∧
    (aft (.pllLock .fab false []) f).pwr.retried = true ∧ (aft .refclkFail r).pwr.retried = true ∧ (aft .refclkFail t).pwr.stage = .none ∧
    (aft .refclkFail t).moving = false ∧
    (aft .clkLoss (st [(Reg.PWR_CLK_STATUS_REF_OK, 1)])).pwr.stage = .ref ∧ (aft .clkLoss (st [(Reg.PWR_CLK_STATUS_REF_OK, 1)])).pwr.enL = true := by
  decide +kernel
theorem witness_restore :
    let a := st [(Reg.PWR_CLK_STATUS_CCLK_LOCK, 1), (Reg.CADDY_STAT_STATE, 2)]
    let r (key : Bool) := pw (fun x => { x with stage := .restore, saveKey := key })
      (st [(Reg.CADDY_STAT_STATE, 1), (Reg.PWR_STATE_CUR, 2), (Reg.PWR_STATE_MOVING, 1), (Reg.CAST_STATUS_STATE, 2)])
    a.bist.isNone = true ∧ (aft (.caddySrExitDone [0, 1]) a).get Reg.CADDY_STAT_STATE ≠ 2 ∧
    (aft (.dozeRestoreDone .ok) (r true)).cur = 0 ∧ (aft (.dozeRestoreDone .ok) (r true)).get Reg.PWR_STATE_RESTORE = 1 ∧
    (aft (.dozeRestoreDone .digest) (r true)).get Reg.PWR_STATE_RESTORE ≠ 1 ∧ (aft (.dozeRestoreDone .ok) (r false)).pwr.failedRestore = true := by
  decide +kernel
theorem witness_off :
    let s := (st [(Reg.LMP_CTRL_EN 3, 1), (Reg.PWR_CTRL_AUTO_IDLE, 1)])
    (Reg.LMP_CTRL_EN 3).key ∉ nvmFields.map Fld.key ∧ (aft .resetNFall s).pwr.kettle = .off ∧ (aft .resetNFall s).get (Reg.LMP_CTRL_EN 3) = 0 ∧
    (aft .supplyMonitorTrip s).pwr.enB = false ∧ goes .supplyMonitorTrip s = true := by decide +kernel
theorem witness_boot :
    let t := { State.reset with pwr := { State.reset.pwr with resetLow := false, supplyTrip := true } }
    State.reset.pwr.resetLow = true ∧ State.reset.pwr.supplyTrip = false ∧ State.reset.pwr.stage = .none ∧
    (aft (.resetNRise (pins true false)) State.reset).pwr.kettle = .noBoot ∧
    (aft (.resetNRise (pins false false)) State.reset).pwr.stage = .ref ∧ (aft (.resetNRise (pins false false)) State.reset).moving = true ∧
    (aft (.supplyMonitorRelease (pins false false)) t).get Reg.PWR_WAKE_FIRST_FIRST = 0x11 ∧
    (aft (.supplyMonitorRelease (pins false false)) t).get Reg.SYS_STRAP_CFG_MODE = 2 := by decide +kernel
theorem witness_tamper :
    let s := give on (mgr 0x100 [])
    let o := pw (fun x => { x with kettle := .thermalOff }) on
    (aft .tamper on).get Reg.TMP_STAT_LATCH = 1 ∧ (aft .tamper on).get Reg.TMP_STAT_COUNT = 1 ∧ (aft .tamper s).cmd.sessions = [] ∧
    (aft .tamper o).pwr.tampered = true ∧ (aft .tamper o).get Reg.TMP_STAT_LATCH = 0 := by decide +kernel
theorem witness_tamper_clear :
    let p := sealed .smbus 1 0x808 []
    let s := (give on p).put Reg.TMP_STAT_LATCH 1
    reachTag true tamperClearOp (s.setFlag Reg.TMP_STAT_INPUT false) p = true ∧ reachTag true tamperClearOp (s.setFlag Reg.TMP_STAT_INPUT true) p = true ∧
    (taken (s.setFlag Reg.TMP_STAT_INPUT true) p).flag Reg.TMP_STAT_INPUT = true ∧
    (taken (s.setFlag Reg.TMP_STAT_INPUT false) p).flag Reg.TMP_STAT_INPUT = false := by decide +kernel
theorem witness_trip :
    let s := st [(Reg.LMP_STAT_PHASE 2, 2), (Reg.LMP_STAT_ON 2, 1)]
    let u := aft (.thermalShutdown 5 500) s
    let o := aft (.thermalOffEntry 10) u
    let d := { o with time := { o.time with up := 10 * unitSec } }
    u.cur = 3 ∧ u.bud.trip = some (5, 500, 0) ∧ u.get (Reg.LMP_STAT_PHASE 2) = 0 ∧ u.pwr.enF = false ∧ o.pwr.kettle = .thermalOff ∧
    o.bud.deferral = 10 ∧ d.bud.trip = some (5, 500, 0) ∧ (aft (.thermalOffExit (pins false false) 380) d).kettleOn = true ∧
    (aft (.thermalOffExit (pins false false) 380) d).get Reg.PWR_WAKE_FIRST_FIRST = 0x13 ∧
    (aft (.thermalOffExit (pins false false) 380) d).get Reg.THERM_TRIPS_COUNT = 1 ∧
    (aft (.thermalOffExit (pins false false) 381) d).kettleOn = false := by decide +kernel
theorem witness_power_commands :
    let idle := mgr 0x200 [1, 0, 1, 0]
    let doze := mgr 0x200 [2, 0, 1, 0]
    let sleep := mgr 0x200 [3, 1, 0x10, 0x27]
    let mov := st [(Reg.PWR_STATE_MOVING, 1)]
    let en := st [(Reg.PWR_DOZE_CFG_ENABLE, 1)]
    reach pwrSetStateOp on idle = true ∧ (aft (.pwrSetState idle) on).cur = 1 ∧ reply (aft (.pwrSetState doze) on) = (0xE, 0x11) ∧
    reach pwrSetStateOp en doze = true ∧ (reply (aft (.pwrSetState doze) en)).1 = 1 ∧ (reply (aft (.pwrSetState sleep) on)).1 = 1 ∧
    reach pwrSetStateOp mov sleep = true ∧ (reply (aft (.pwrSetState sleep) mov)).1 = 6 ∧ (taken en doze).get Reg.RCST_STATUS_PHASE ≠ 4 := by
  decide +kernel
theorem witness_power_settings :
    let wc := mgr 0x202 [0, 0, 1, 0, 0x31, 0, 0, 0]
    let dc := mgr 0x203 [0x0F, 0, 9, 0, 1, 0, 0, 0]
    let cl := mgr 0x204 [0x80, 0, 0, 0]
    let w := st [(Reg.PWR_WAKE_SRC_SRC, 0x180)]
    reach pwrGetStateOp on (mgr 0x201 []) = true ∧ reach pwrWakeConfigOp on wc = true ∧ reach pwrDozeConfigOp on dc = true ∧
    reach pwrWakeClearOp w cl = true ∧ (aft (.pwrWakeConfig wc) on).get Reg.PWR_WAKE_EN_EN = 0x10008 ∧
    (aft (.pwrWakeConfig wc) on).get Reg.PWR_WAKE_POL_HIGH = 1 ∧ (aft (.pwrDozeConfig dc) on).get Reg.PWR_DOZE_CFG_DOZE_LIMIT = 9 ∧
    (aft (.pwrWakeClear cl) w).get Reg.PWR_WAKE_SRC_SRC = 0x100 := by decide +kernel

end Sys2Proof.Tests
end

