-- ==== Sys2Proof/Tests/Sync.lean ====
section
/-! SUPPORT. Witnesses and small tests of sync objects and handle queues. -/

namespace Sys2Proof.Tests
open Sys2Proof Sys2Proof.Machine
set_option Elab.async false

/-- Object 131071 enabled as a kind with a value and parties. -/
def so (kind val parties : Nat) : State :=
  st [(Reg.SO_CFG_EN 131071, 1), (Reg.SO_CFG_KIND 131071, kind), (Reg.SO_VAL_VALUE 131071, val), (Reg.SO_CFG_PARTIES 131071, parties)]
/-- A SO_OP word. -/
def sow (fn v : Nat) : Word := BitVec.ofNat 32 (fn + 16 * v)
theorem witness_so_op :
    let j : Fin 131072 := 131071
    let v (s : State) (w : Word) := (aft (.soOpWrite j w) s).soVal j
    (so 0 0 0).plinthPowered = true ∧ (so 0 0 0).flag (Reg.SO_CFG_EN j) = true ∧ (so 0 0 0).waiterOn j = [] ∧
    v (so 0 (2 ^ 64 - 1) 0) (sow 0 2) = 1 ∧ v (so 1 0 0) (sow 1 0) = 1 ∧ v (so 1 1 0) (sow 2 0) = 0 ∧ v (so 2 2 3) (sow 3 1) = 65536 ∧
    v (so 2 1 3) (sow 3 1) = 2 ∧ v (so 3 (2 ^ 32 - 2) 0) (sow 4 1) = 2 ^ 32 - 1 ∧
    (aft (.soOpWrite j (sow 1 0)) (so 0 5 0)).flag (Reg.SO_CFG_ERR j) = true ∧ (aft (.soOpWrite j (sow 0 1)) on).flag (Reg.SO_CFG_ERR j) = true ∧
    (aft (.soValWrite .host j 7) (so 0 5 0)).soVal j = 7 * 2 ^ 32 + 5 := by decide +kernel
theorem witness_so_cfg :
    let j : Fin 131072 := 131071
    let w : Word := 0xA0000002
    on.flag (Reg.SO_CFG_EN j) = false ∧ bit w.toNat 31 = true ∧ bit w.toNat 26 = false ∧ bits w.toNat 28 3 = 2 ∧
    (aft (.soCfgWrite j w) on).get (Reg.SO_CFG_KIND j) = 2 ∧ (aft (.soCfgWrite j w) on).get (Reg.SO_CFG_PARTIES j) = 2 ∧
    (aft (.soCfgWrite j 0) (so 0 5 0)).soVal j = 0 ∧ (aft (.soCfgWrite j 0) (so 0 5 0)).flag (Reg.SO_CFG_EN j) = false := by decide +kernel

/-- An operation on object 131071. -/
def sop (who : SyncWho) (wait : Bool) (fn v : Nat) (ph : SyncPhase) : SyncOp :=
  { key := 4, who := who, obj := 131071, wait := wait, fn := fn, v := v, opid := 2 ^ 32, epoch := 0, phase := ph, withdrawn := false }
def withSync (o : SyncOp) (s : State) : State := { s with sync := { s.sync with ops := [o], next := 5 } }
theorem witness_sync_arrive :
    let sig := withSync (sop (.steeper 3 1) false 0 2 .flight) (so 0 5 0)
    let done := withSync (sop (.tile 3 1) true 0 5 .flight) (so 0 5 0)
    let hold := withSync (sop (.tile 3 1) true 0 6 .retry) (so 0 5 0)
    let err := withSync (sop (.tile 3 1) true 0 6 .flight) on
    (aft (.syncOpArrive 0) sig).soVal 131071 = 7 ∧ ((aft (.syncOpArrive 0) sig).sync.ops.map (fun o => o.phase)) = [.resp 0 7] ∧
    ((aft (.syncOpArrive 0) done).sync.ops.map (fun o => o.phase)) = [.resp 0 5] ∧
    (aft (.syncWaitRetry 0) hold).sync.waiters = [4] ∧ ((aft (.syncOpArrive 0) err).sync.ops.map (fun o => o.phase)) = [.resp 1 0] := by decide +kernel
theorem witness_sync_response :
    let a (who : SyncWho) (w : Bool) := withSync (sop who w 0 0 (.resp 0 5)) on
    let t := withSync (sop (.cmd (mgr 0x603 [])) true 0 9 .waiter) (so 0 5 0)
    ((aft (.syncWaitResponse 0) (a (.tile 191 7) true)).sync.ops.length) = 0 ∧ ((aft (.syncWaitResponse 0) (a (.steeper 191 1) true)).sync.ops.length) = 0 ∧
    ((aft (.syncWaitResponse 0) (a (.done 191 1) false)).sync.ops.length) = 0 ∧ (t.op 4).isSome = true ∧
    (aft (.syncWaitTimeout 0) t).sync.ops.length = 0 := by decide +kernel
theorem witness_sync_commands :
    let o := leBytes 4 131071
    let cf := host 0x600 (o ++ [1, 3, 0, 0])
    let dis := host 0x600 (o ++ [0, 0, 0, 0])
    let g (p : Packet) (s : State) := give s p
    let h (code : Nat) (pay : List Byte) := host code pay
    reach syncConfigOp (g (h 0x600 (o ++ [1, 3, 0, 0])) on) (h 0x600 (o ++ [1, 3, 0, 0])) = true ∧
    reach syncConfigOp (g (h 0x600 (o ++ [0, 0, 0, 0])) (so 0 5 0)) (h 0x600 (o ++ [0, 0, 0, 0])) = true ∧
    (aft (.syncConfig (h 0x600 (o ++ [1, 3, 0, 0]))) (g (h 0x600 (o ++ [1, 3, 0, 0])) on)).get (Reg.SO_CFG_KIND 131071) = 3 ∧
    objDev 131071 = on.ensId ∧ cf.len = dis.len := by decide +kernel
theorem witness_sync_use :
    let o := leBytes 4 131071
    let g (p : Packet) (s : State) := give s p
    let si := host 0x601 (o ++ [0, 0, 0, 0] ++ leBytes 8 2)
    let rd := host 0x602 o
    let wt (v : Nat) := host 0x603 (o ++ [1, 0, 0, 0] ++ leBytes 8 v)
    reach syncSignalOp (g si (so 0 5 0)) si = true ∧ (aft (.syncSignal si) (g si (so 0 5 0))).soVal 131071 = 7 ∧
    reach syncReadOp (g rd (so 0 5 0)) rd = true ∧ reach syncWaitOp (g (wt 5) (so 0 5 0)) (wt 5) = true ∧
    reach syncWaitOp (g (wt 6) (so 0 5 0)) (wt 6) = true ∧ (aft (.syncWait (wt 6)) (g (wt 6) (so 0 5 0))).sync.waiters.length = 1 := by decide +kernel

/-- Queue 1023 enabled with a depth and held handles. -/
def hq (d : Nat) (l : List Nat) : State :=
  let s := st [(Reg.HQ_CFG_EN 1023, 1), (Reg.HQ_CFG_DEPTH 1023, d)]
  { s with hq := { s.hq with held := if l = [] then [] else [(1023, l)] } }
theorem witness_hq_commands :
    let g (p : Packet) (s : State) := give s p
    let cf := host 0x515 [0xFF, 3, 1, 7]
    let sr := host 0x516 [0xFF, 3, 0, 0]
    let pu := host 0x517 ([0xFF, 3, 2, 0] ++ leBytes 4 10 ++ leBytes 4 11)
    let po := host 0x518 [0xFF, 3, 2, 0]
    let fabric := on.put (Reg.HQ_CFG_FABRIC 1023) 1
    reach hqConfigOp (g cf on) cf = true ∧ (aft (.hqConfig cf) (g cf on)).get (Reg.HQ_CFG_DEPTH 1023) = 7 ∧ reach hqConfigOp (g cf fabric) cf = true ∧
    reach hqStatusOp (g sr on) sr = true ∧ reach hqPushOp (g pu (hq 0 [])) pu = true ∧ (aft (.hqPush pu) (g pu (hq 0 []))).hqHeld 1023 = [10] ∧
    reach hqPushOp (g pu on) pu = true ∧ reach hqPopOp (g po (hq 3 [4, 5, 6])) po = true ∧ reach hqPopOp (g po on) po = true ∧
    (aft (.hqPop po) (g po (hq 3 [4, 5, 6]))).hqHeld 1023 = [6] := by decide +kernel
theorem witness_hq_accesses :
    let q : Fin 1024 := 1023
    let w : Word := 0x80000005
    (hq 0 []).plinthPowered = true ∧ (hq 0 []).hqFree q true = 1 ∧ (aft (.hqPushWrite q 9) (hq 0 [])).hqHeld q = [9] ∧
    (aft (.hqPushWrite q 9) (hq 0 [1])).flag (Reg.HQ_STAT_OVF q) = true ∧ (aft (.hqPushWrite q 0xFFFFFFFF) (hq 0 [])).flag (Reg.HQ_STAT_OVF q) = true ∧
    (aft (.hqPopRead q) (hq 0 [8])).addr.readData = 8 ∧ (aft (.hqPopRead q) (hq 0 [])).addr.readData = nullHandle ∧
    (aft (.hqCfgWrite q w) on).get (Reg.HQ_CFG_DEPTH q) = 5 ∧ (aft (.hqCfgWrite q 0) (hq 3 [1])).hqHeld q = [] ∧
    (hq 0 []).hqFrozen q = false ∧ (hq 0 []).flag (Reg.HQ_CFG_FABRIC q) = false := by decide +kernel
/-- An operation on queue 1023. -/
def hop (who : HqWho) (push : Option Nat) (ph : HqPhase) : HqOp := { key := 4, who := who, q := 1023, push := push, phase := ph, withdrawn := false }
def withHq (o : HqOp) (s : State) : State := { s with hq := { s.hq with ops := [o], next := 5 } }
theorem witness_hq_operations :
    let p (s : State) := ((s.hq.ops.map (fun o => o.phase)), s.hqHeld 1023)
    let a (push : Option Nat) (s : State) := p (aft (.hqOpArrive 0) (withHq (hop (.tile 5 9 1) push .flight) s))
    let w := withHq (hop (.tile 5 9 1) (some 7) .reserved) (hq 3 [])
    let full := (aft (.hqOpArrive 0) (withHq (hop (.tile 5 9 1) (some 7) .flight) (hq 0 [1])))
    a (some 7) on = ([.resp 1 0], []) ∧ a (some nullHandle) (hq 3 []) = ([.resp 3 0], []) ∧ (a (some 7) (hq 3 [])).2 = [7] ∧
    a (some 7) (hq 0 [1]) = ([.waiter], [1]) ∧ full.hqList 1023 true = [4] ∧ (aft (.hqRetry 0) w).hqHeld 1023 = [7] ∧
    (aft (.hqRetry 0) (withHq (hop (.tile 5 9 1) (some 7) .retry) (hq 3 []))).hqHeld 1023 = [7] ∧
    (aft (.hqResponse 0) (withHq (hop (.tile 5 9 1) none (.resp 0 3)) on)).hq.ops.length = 0 ∧
    (aft (.hqResponse 0) (withHq (hop (.steeper 5 1 0 0) none (.resp 0 3)) on)).hq.ops.length = 0 := by decide +kernel
theorem witness_hq_expire :
    let w := { hq 0 [1] with hq := { (hq 0 [1]).hq with ops := [hop (.tile 5 9 1) (some 7) .reserved], pushW := [(1023, [4])] } }
    (w.hqList 1023 true).find? (fun k => w.hqReserved k) = some 4 ∧
    ((aft (.hqReservationExpire 1023 true) w).hq.ops.map (fun o => o.phase)) = [.waiter] := by decide +kernel

end Sys2Proof.Tests
end

