-- ==== Sys2Proof/Tests/Steep.lean ====
section
/-! SUPPORT. Witnesses and small tests of steepers and streams, steeper 1 of tile 191. -/

namespace Sys2Proof.Tests
open Sys2Proof Sys2Proof.Machine
set_option Elab.async false

/-- A steeper that runs in a released cast with a program of one word at every place, from a PC. -/
def sp (w pc : Nat) (l : List (Fld × Nat) := []) : State :=
  let s := st ([(Reg.CAST_STATUS_STATE, 3), (Reg.STEEP_STAT_STATE 191 1, 1), (Reg.STEEP_STAT_PC 191 1, pc)] ++ l)
  s.setSx 191 1 { SteepX.idle with prog := List.replicate 64 w, param := 5 }
/-- A part of the steeper changed. -/
def se (f : SteepX → SteepX) (s : State) : State := s.setSx 191 1 (f (s.sx 191 1))
/-- A word of an OP with fields (value, place). -/
def xw (op : Nat) (l : List (Nat × Nat)) : Nat := l.foldl (fun a p => a + p.1 * 2 ^ p.2) (op * 2 ^ 60)
def spOk (w : Nat) (s : State) : Bool := s.steepWord 191 1 == some w && steepLegal s.ensId w
def pcOf (s : State) : Nat := s.get (Reg.STEEP_STAT_PC 191 1)

theorem witness_steep_bases :
    let b := xw 1 [(7, 57), (1, 56), (0xFFFFFFFFFFFF, 0)]
    let a := xw 2 [(1, 57), (0xFFFFFFFFFFFF, 0)]
    spOk b (sp b 62) = true ∧ (aft (.setb 191 1) (sp b 62)).get (Reg.STEEP_B_B 191 1 6) = 4 ∧ pcOf (aft (.setb 191 1) (sp b 62)) = 63 ∧
    spOk a (sp a 0) = true ∧ (aft (.addb 191 1) (sp a 0 [(Reg.STEEP_B_B 191 1 0, 3)])).get (Reg.STEEP_B_B 191 1 0) = 2 ∧
    (sp (xw 1 []) 7).steepWord 191 1 = some (xw 1 []) ∧ steepLegal 0 (xw 1 []) = false := by decide +kernel
theorem witness_steep_loops :
    let l := xw 3 [(63, 54), (0xFFFFFF, 0)]
    let e := xw 3 [(9, 54), (1, 0)]
    let six := se (fun x => { x with loops := List.replicate 6 ⟨1, 63, 2⟩ }) (sp l 62)
    let d := xw 2 [(1, 57)]
    let again := se (fun x => { x with loops := [⟨3, 62, 1⟩] }) (sp d 62)
    spOk l (sp l 62) = true ∧ ((aft (.loop 191 1) (sp l 62)).sx 191 1).loops = [⟨63, 63, 0xFFFFFF⟩] ∧ spOk e (sp e 9) = true ∧ spOk l six = true ∧
    (loopNext (again.sx 191 1).loops.reverse 62).2 = 3 ∧
    pcOf (aft (.addb 191 1) again) = 3 := by decide +kernel
/-- A descriptor of one access of 64 bytes at a base, and the state whose row 1 holds one at 0 and row 2 one at 64, in the store. -/
def one (a : Nat) : List Byte := leBytes 6 a ++ [0, 0, 1, 6] ++ zeros 54
def xf (drow : Nat) : Nat := xw 4 [(1, 12), (drow, 0)]
def withDesc (s : State) : State := ((s.setBytes (storeAddr 191 64) (one (storeAddr 191 0))).setBytes (storeAddr 191 128) (one (storeAddr 191 4096))).setBytes (storeAddr 191 0) [7, 8]
theorem witness_steep_transfer :
    let s := withDesc (sp (xf 2) 62)
    let t := aft (.xfer 191 1) s
    let u := aft (.transferComplete 191 1) t
    let bad := withDesc (sp (xf 3) 0)
    spOk (xf 2) s = true ∧ (s.readDesc 191 1).2.2 = false ∧ ((s.readDesc 191 1).1.readDesc 191 2).2.2 = false ∧
    layoutFault (one (storeAddr 191 0)) (one (storeAddr 191 4096)) = none ∧ ((t.sx 191 1).walk.map (fun w => w.phase)) = some .ready ∧
    u.bytesAt (storeAddr 191 4096) 2 = [7, 8] ∧ pcOf u = 63 ∧ (u.sx 191 1).walk = none ∧ spOk (xf 3) bad = true ∧
    (layoutFault (one (storeAddr 191 0)) (zeros 64)).isSome = true ∧ ((t.sx 191 1).walk.map (fun w => (t.destReady 191 (w.requester 191 1) w.dstPa (Desc.w w.dst)).2)) = some true := by decide +kernel
/-- A descriptor row that is poisoned, on either side. -/
theorem witness_steep_poison :
    let s (a : Nat) := { withDesc (sp (xf 2) 62) with ecc := [(storeAddr 191 a, 3)] }
    spOk (xf 2) (s 64) = true ∧ ((s 64).readDesc 191 1).2.2 = true ∧ ((s 128).readDesc 191 1).2.2 = false ∧
    (((s 128).readDesc 191 1).1.readDesc 191 2).2.2 = true ∧ (aft (.xfer 191 1) (s 128)).get (Reg.STEEP_FAULT_CODE 191 1) = 0xB := by decide +kernel
/-- Four accesses of 16 bytes in one block of each side: one transfer (R342, R354). -/
def four (a : Nat) : List Byte := leBytes 6 a ++ [0, 0, 1, 4] ++ zeros 6 ++ [3, 0, 0, 0] ++ zeros 20 ++ [16, 0, 0, 0] ++ zeros 20
theorem test_steep_merge :
    let s := ((sp (xf 2) 62).setBytes (storeAddr 191 64) (four (storeAddr 191 0))).setBytes (storeAddr 191 128) (four (storeAddr 191 4096))
    let s := s.setBytes (storeAddr 191 0) ((List.range 64).map (fun k => BitVec.ofNat 8 (k + 1)))
    let u := aft (.transferComplete 191 1) (aft (.xfer 191 1) s)
    u.get (Reg.STEEP_XFERS_COUNT 191 1) = 1 ∧ u.bytesAt (storeAddr 191 4096) 64 = u.bytesAt (storeAddr 191 0) 64 ∧ pcOf u = 63 := by decide +kernel
/-- A remote write answered, and a remote read that came back with an error. -/
theorem witness_steep_remote :
    let k (w : Nat) (p : AccPhase) := se (fun x => { x with walk := some ⟨w, one 0, one 0, 0, 1, 0, 0, 0, none, none, 0, false, none, p⟩ }) (sp 0 3)
    let wr := xw 4 [(1, 50), (9, 44)]
    let rd := xw 4 [(1, 51), (9, 44)]
    xRdst wr = true ∧ pcOf (aft (.transferComplete 191 1) (k wr (.back 0 9 false []))) = 4 ∧ xRdst rd = false ∧
    goes (.transferComplete 191 1) (k rd (.back 5 6 false [])) = true ∧
    ((aft (.transferComplete 191 1) (k (xf 2) .idle)).sx 191 1).walk.isSome = true := by decide +kernel
theorem witness_steep_sync :
    let w := xw 5 [(3, 57), (0xFFFFFFFFFFFF, 0)]
    let g := xw 6 [(3, 57), (4, 53), (1, 0)]
    let o := [(Reg.STEEP_B_B 191 1 2, 16383)]
    spOk w (sp w 0 o) = true ∧ objDev 16383 = (sp w 0 o).ensId ∧ ((aft (.steepSwait 191 1) (sp w 0 o)).sync.ops.map (fun q => q.obj)) = [16383] ∧
    spOk g (sp g 0 o) = true ∧ ((aft (.steepSsig 191 1) (sp g 0 o)).sync.ops.map (fun q => q.fn)) = [4] ∧
    (sp g 0 [(Reg.STEEP_B_B 191 1 2, 2 ^ 23)]).breg 191 1 3 = 2 ^ 23 := by decide +kernel
theorem witness_steep_handles :
    let p := xw 7 [(7, 57), (3, 55), (1023, 0)]
    let h := xw 8 [(3, 55), (1023, 0)]
    let sh (n : Nat) := [(Reg.HPOOL_SHIFT 191 1, n)]
    spOk p (sp p 0 (sh 6)) = true ∧ ((aft (.steepHpop 191 1) (sp p 0 (sh 6))).hq.ops.map (fun q => q.q)) = [1023] ∧
    spOk p (sp p 0 (sh 5)) = true ∧ spOk p (sp p 0 (sh 31)) = true ∧ spOk h (sp h 0) = true ∧
    ((aft (.steepHpush 191 1) (sp h 0 [(Reg.STEEP_H_HANDLE 191 1 3, 12)])).hq.ops.map (fun q => q.push)) = [some 12] := by decide +kernel
theorem witness_steep_end :
    let d := [(Reg.STEEP_DONE_EN 191 1, 1), (Reg.STEEP_DONE_OBJ 191 1, 77)]
    spOk 0 (sp 0 5) = true ∧ (aft (.steepEnd 191 1) (sp 0 5)).steepState 191 1 = 0 ∧ (aft (.steepEnd 191 1) (sp 0 5)).flag (Reg.STEEP_STAT_DONE 191 1) = true ∧
    objDev ((sp 0 5 d).get (Reg.STEEP_DONE_OBJ 191 1)) = (sp 0 5 d).ensId ∧ ((aft (.steepEnd 191 1) (sp 0 5 d)).sync.ops.map (fun q => q.v)) = [1] ∧
    (sp (xw 15 []) 5).steepWord 191 1 = some (xw 15 []) ∧ steepLegal 0 (xw 15 []) = false := by decide +kernel
/-- A walk of ASID 1 from the base 0x1000: three tables and a leaf of 2 MB. -/
theorem witness_steep_walk :
    let q : XlatWalk := ⟨191, 1, 0, 1, 0x1000, true⟩
    let s := (((sp 0 0).setBytes 0x1008 (leBytes 8 0x2001)).setBytes 0x2000 (leBytes 8 0x3001)).setBytes 0x3000 (leBytes 8 0x4001)
    let s := s.setBytes 0x4000 (leBytes 8 0x20000F)
    let a := { s.addr with walkQ := [q], xlatBase := 0x1000 }
    let s := { s with addr := a }
    let r := s.runWalk 0 q
    r.2 = .leaf ⟨1, 0, true, 0x200000, true, true⟩ ∧ (r.1.sx 191 1).walk = none ∧ s.addr.invals = [] ∧ r.1.addr.invals = [] ∧
    (aft (.xlatWalkDone 191 1) s).addr.walkQ = [] ∧ (aft (.xlatWalkDone 191 1) s).addr.walks = 1 := by decide +kernel
theorem witness_steep_control :
    let idle := st [(Reg.CAST_STATUS_STATE, 3), (Reg.STEEP_PARAM_PARAM 191 1, 9)]
    let halted := sp 0 5 [(Reg.STEEP_STAT_STATE 191 1, 2)]
    let s (w : Word) := aft (.steepStart 191 1 w) idle
    (s 63).steepState 191 1 = 1 ∧ pcOf (s 63) = 63 ∧ ((s 63).sx 191 1).param = 9 ∧ (idle.rowPoison 191 0 8).2 = false ∧
    (aft (.steepHalt 191 1 2) (sp 0 5)).steepState 191 1 = 2 ∧ (aft (.steepHalt 191 1 2) (sp 0 5)).get (Reg.STEEP_FAULT_CODE 191 1) = 0xC ∧
    (aft (.steepResume 191 1 4) halted).steepState 191 1 = 1 ∧ (aft (.steepClrFault 191 1 1) halted).steepState 191 1 = 0 ∧
    halted.frozen (tileRegion 191) = false ∧ halted.quiescing = false ∧ (halted.sx 191 1).walk = none := by decide +kernel
theorem witness_stream_start :
    let p := host 0x510 [191, 1, 63, 0, 1, 2, 3, 4]
    let idle := give (st [(Reg.CAST_STATUS_STATE, 3)]) p
    let busy := give (sp 0 5) p
    reach streamStartOp idle p = true ∧ (aft (.streamStart p) idle).steepState 191 1 = 1 ∧
    ((aft (.streamStart p) idle).sx 191 1).param = 0x04030201 ∧ reach streamStartOp busy p = true := by decide +kernel

end Sys2Proof.Tests
end

