-- ==== Sys2Proof/Tests/Tiles.lean ====
section
/-! SUPPORT. Witnesses and small tests of the matrix tiles, tile 191. -/

namespace Sys2Proof.Tests
open Sys2Proof Sys2Proof.Machine
set_option Elab.async false

/-- Fields (value, place) of an instruction of an OP. -/
def tw (op : Nat) (l : List (Nat × Nat)) : Nat := l.foldl (fun a p => a + p.1 * 2 ^ p.2) (op * 2 ^ 58)
/-- A tile that runs in a released cast with a word at PC 4095, s1 = 5, s2 = -1, s3 = 2^18. -/
def tl (w : Nat) (l : List (Fld × Nat) := []) : State :=
  let s := st ([(Reg.CAST_STATUS_STATE, 3), (Reg.CAST_REGIONS_LOADED, 0xFFFFFFFF), (Reg.TSTAT_RUN 191, 1), (Reg.TSTAT_PC 191, 4095)] ++ l)
  let u := (s.wput (tileWin 191 + 8 * 4095) (w % 2 ^ 32)).wput (tileWin 191 + 8 * 4095 + 4) (w / 2 ^ 32)
  ((u.setSreg 191 1 5).setSreg 191 2 (2 ^ 32 - 1)).setSreg 191 3 0x40000
/-- `TileReady` as a check. -/
def tileOk' (w : Nat) (s : State) : Bool :=
  s.tileIssues 191 && s.tileWord 191 (s.get (Reg.TSTAT_PC 191)) == w && (tileIllegal w).isNone && !(s.tx 191).step
/-- A tile register or accumulator with a type, a shape and rows. -/
def wr (o : Opnd) (ty rows colb : Nat) (vs : List Nat) (s : State) : State :=
  let u := if o.acc then (s.setAtype 191 o.k (aOfTy ty)).setEmpty 191 o false
    else ((s.put (Reg.TSHAPE_TYPE 191 o.k) ty).setShape 191 o.k rows colb).setEmpty 191 o false
  vs.zipIdx.foldl (fun s p => s.setRow 191 o p.2 p.1) u

theorem witness_scalar :
    let r (fn : Nat) := let w := tw 0x10 [(31, 53), (1, 48), (2, 43), (fn, 39)]
      (tileOk' w (tl w), (aft (.salu 191) (tl w)).sreg 191 31, (aft (.salu 191) (tl w)).get (Reg.TSTAT_PC 191))
    let i := tw 0x11 [(0, 53), (1, 48), (8, 39), (3, 0)]
    (List.range 13).map r = [(true, 4, 0), (true, 6, 0), (true, 2 ^ 32 - 5, 0), (true, 5, 0), (true, 2 ^ 32 - 1, 0), (true, 2 ^ 32 - 6, 0),
      (true, 5 * 2 ^ 31 % 2 ^ 32, 0), (true, 0, 0), (true, 0, 0), (true, 0, 0), (true, 1, 0), (true, 2 ^ 32 - 1, 0), (true, 5, 0)] ∧
    tileOk' i (tl i) = true ∧ (aft (.salui 191) (tl i)).sreg 191 0 = 0 := by decide +kernel
theorem witness_pset_and_store :
    let p := tw 0x14 [(7, 55), (1, 48)]
    let q := tw 0x14 [(7, 55), (1, 54), (1, 48), (2, 43)]
    let ld := tw 0x12 [(4, 53), (1, 48), (3, 0)]
    let sv := tw 0x13 [(2, 53), (1, 48), (3, 0)]
    let out := tw 0x13 [(2, 53), (3, 48)]
    let m := (tl ld).setBytes (storeAddr 191 8) [1, 2, 3, 4]
    tileOk' p (tl p) = true ∧ (aft (.pset 191) (tl p)).preg 191 7 = 31 ∧ (aft (.pset 191) (tl q)).preg 191 7 = 5 + (2 ^ 32 - 1) * 2 ^ 32 ∧
    tileOk' ld m = true ∧ m.scalarAddr 191 ld = 8 ∧ (m.readMem 1 (storeAddr 191 8) 4).2.2 = false ∧ (aft (.sld 191) m).sreg 191 4 = 0x04030201 ∧
    tileOk' sv (tl sv) = true ∧ (tl sv).scalarAddr 191 sv = 8 ∧ tget 0 (tl sv).ecc (storeAddr 191 8) = 0 ∧
    (aft (.sst 191) (tl sv)).byteAt (storeAddr 191 8 + 3) = 0xFF ∧ tileOk' out (tl out) = true ∧ 0x40000 ≤ (tl out).scalarAddr 191 out := by decide +kernel
theorem test_store_poison :
    let ld := tw 0x12 [(4, 53), (1, 48), (3, 0)]
    let m := { tl ld with ecc := [(storeAddr 191 8, 3)] }
    (m.readMem 1 (storeAddr 191 8) 4).2.2 = true := by decide +kernel
theorem witness_branches :
    let br (c : Nat) := tw 0x18 [(c, 55), (2, 48), (1, 43), (77, 0)]
    let j := tw 0x19 [(4095, 0)]
    let h := tw 0x1A []
    ((List.range 6).map (fun c => (aft (.br 191) (tl (br c))).get (Reg.TSTAT_PC 191))) = [0, 77, 77, 0, 0, 77] ∧ tileOk' (br 5) (tl (br 5)) = true ∧
    tileOk' j (tl j) = true ∧ (aft (.tileJmp 191) (tl j)).get (Reg.TSTAT_PC 191) = 4095 ∧ (aft (.tileNop 191) (tl 0)).get (Reg.TSTAT_PC 191) = 0 ∧
    tileOk' 0 (tl 0) = true ∧ tileOk' h (tl h) = true ∧ (aft (.tileStop 191) (tl h)).flag (Reg.TSTAT_RUN 191) = false ∧
    (aft (.tileStop 191) (tl h)).get (Reg.TSTAT_CAUSE 191) = 1 ∧ (tl h).tu.halts = [] := by decide +kernel
theorem witness_tcfg_and_trel :
    let c := tw 1 [(7, 53), (5, 49), (15, 45), (63, 39)]
    let a := tw 1 [(1, 57), (3, 53), (9, 49)]
    let r := tw 9 [(0x881, 46)]
    let s := wr ⟨false, 7⟩ 5 2 4 [7] (wr ⟨false, 0⟩ 5 2 4 [9] (tl r))
    tileOk' c (tl c) = true ∧ (aft (.tcfg 191) (tl c)).oRows 191 ⟨false, 7⟩ = 16 ∧ (aft (.tcfg 191) (tl c)).oColb 191 ⟨false, 7⟩ = 64 ∧
    (aft (.tcfg 191) (tl c)).oEmpty 191 ⟨false, 7⟩ = true ∧ tileOk' a (tl a) = true ∧ (aft (.tcfg 191) (tl a)).oType 191 ⟨true, 3⟩ = 9 ∧
    tileOk' r s = true ∧ s.oRow 191 ⟨false, 0⟩ 0 = 9 ∧ (aft (.trel 191) s).oRow 191 ⟨false, 0⟩ 0 = 0 ∧ (aft (.trel 191) s).oType 191 ⟨false, 7⟩ = 5 ∧
    (aft (.trel 191) s).oRows 191 ⟨false, 7⟩ = 2 ∧ (aft (.trel 191) s).oEmpty 191 ⟨true, 3⟩ = true := by decide +kernel
theorem witness_tile_waits :
    let sr := tw 0x24 [(1, 57), (4, 43), (63, 0)]
    let sw := tw 0x20 [(1, 48), (4, 44)]
    let si := tw 0x21 [(1, 48), (2, 54)]
    let po := tw 0x22 [(9, 53), (1023, 0)]
    let pu := tw 0x23 [(1, 48), (1023, 0)]
    tileOk' sr (tl sr) = true ∧ (tl sr).steepState 191 1 = 0 ∧ (aft (.srun 191) (tl sr)).sreg 191 4 = 1 ∧
    (aft (.srun 191) (tl sr [(Reg.STEEP_STAT_STATE 191 1, 1)])).sreg 191 4 = 0 ∧ tileOk' sw (tl sw) = true ∧ objDev 5 = (tl sw).ensId ∧
    ((tl sw).tx 191).kept.isNone = true ∧ ((aft (.tileSwait 191) (tl sw)).sync.ops.map (fun o => (o.obj, o.wait))) = [(5, true)] ∧
    (aft (.tileSwait 191) (tl sw)).flag (Reg.TSTAT_STALL 191) = true ∧ tileOk' si (tl si) = true ∧
    ((aft (.tileSsig 191) (tl si)).sync.ops.map (fun o => (o.obj, o.fn))) = [(5, 2)] ∧ tileOk' po (tl po) = true ∧
    ((aft (.tileHpop 191) (tl po)).hq.ops.map (fun o => (o.q, o.push))) = [(1023, none)] ∧ tileOk' pu (tl pu) = true ∧
    ((aft (.tileHpush 191) (tl pu)).hq.ops.map (fun o => (o.q, o.push))) = [(1023, some 5)] := by decide +kernel
theorem witness_bad_object :
    let sw := tw 0x20 [(2, 48)]
    tileOk' sw (tl sw) = true ∧ 2 ^ 23 ≤ (tl sw).sreg 191 2 := by decide +kernel

/-- A2 takes T0 (2 × 4 INT8) times T1 (2 × 4 INT8). -/
def mma : Nat := tw 4 [(2, 56), (0, 53), (1, 50)]
def mmas : State := wr ⟨false, 1⟩ 2 2 4 [0x01010101, 0xFF000002] (wr ⟨false, 0⟩ 2 2 4 [0x04030201, 0x000000FF] (tl mma [(Reg.TACC_EMPTY 191, 15)]))
theorem witness_tmma :
    let u := aft (.tmma 191 16) mmas
    tileOk' mma mmas = true ∧ tmmaType 2 2 0 = some (9, 4) ∧ mmas.oElems 191 ⟨false, 0⟩ = 4 ∧ mmas.oElems 191 ⟨false, 1⟩ = 4 ∧
    mmas.oEmpty 191 ⟨true, 2⟩ = true ∧ u.oRow 191 ⟨true, 2⟩ 0 = 10 + (2 ^ 32 - 2) * 2 ^ 32 ∧
    u.oRow 191 ⟨true, 2⟩ 1 = 2 ^ 32 - 1 + (2 ^ 32 - 2) * 2 ^ 32 ∧ u.get (Reg.TSTAT_PC 191) = 0 ∧
    (aft (.tmma 191 1) mmas).get (Reg.TSTART_ROW 191) = 1 ∧ (aft (.tmma 191 1) mmas).get (Reg.TSTAT_PC 191) = 4095 := by decide +kernel
theorem witness_tmma_faults :
    let e := tl mma
    let x := wr ⟨false, 1⟩ 1 2 4 [] (wr ⟨false, 0⟩ 2 2 4 [] (tl mma))
    tileOk' mma e = true ∧ e.oType 191 ⟨false, 0⟩ = 0 ∧
    tmmaType (x.oType 191 ⟨false, 0⟩) (x.oType 191 ⟨false, 1⟩) 0 = none := by decide +kernel
theorem witness_tew :
    let w := tw 5 [(2, 53), (0, 49), (1, 45)]
    let s := wr ⟨false, 2⟩ 2 2 4 [] (wr ⟨false, 1⟩ 2 2 4 [0x01010101] (wr ⟨false, 0⟩ 2 2 4 [0x04030201] (tl w)))
    tileOk' w s = true ∧ s.tewShape 191 w = .inl 2 ∧ (aft (.tew 191 2) s).oRow 191 ⟨false, 2⟩ 0 = 0x05040302 ∧ tileOk' w (tl w) = true ∧
    (tl w).tewShape 191 w = .inr 1 := by decide +kernel
theorem witness_tred :
    let w := tw 6 [(1, 53), (3, 49)]
    let c := tw 6 [(1, 53), (3, 49), (1, 48)]
    let s := wr ⟨false, 1⟩ 2 2 4 [0x04030201, 0x01010101] (tl w)
    let b := wr ⟨false, 1⟩ 2 2 32 [] (tl c)
    tileOk' w s = true ∧ (aft (.tred 191 2) s).vreg 191 3 % 2 ^ 64 = 10 + 4 * 2 ^ 32 ∧ tileOk' w (tl w) = true ∧
    (tl w).oType 191 ⟨false, 1⟩ = 0 ∧ tileOk' c b = true ∧ 16 < b.oElems 191 ⟨false, 1⟩ := by decide +kernel
theorem witness_tcvt :
    let w := tw 7 [(1, 53), (2, 50)]
    let s (d : Nat) := wr ⟨false, 2⟩ d 2 4 [] (wr ⟨false, 1⟩ 2 2 4 [0xFF030201] (tl w))
    let big := wr ⟨false, 2⟩ 9 2 4 [] (wr ⟨false, 1⟩ 2 2 32 [] (tl w))
    tileOk' w (s 9) = true ∧ (aft (.tcvt 191 2) (s 9)).oRow 191 ⟨false, 2⟩ 0 = 1 + 2 * 2 ^ 32 + 3 * 2 ^ 64 + (2 ^ 32 - 1) * 2 ^ 96 ∧
    (aft (.tcvt 191 2) (s 9)).oColb 191 ⟨false, 2⟩ = 16 ∧ tileOk' w (s 8) = true ∧ tileOk' w big = true := by decide +kernel
theorem witness_tpair :
    let w := tw 8 [(0, 56), (2, 51), (1, 47)]
    let ty := tpairTypes 0
    let s := wr ⟨false, 2⟩ ty.2.2 2 4 [] (wr ⟨false, 1⟩ ty.1 2 4 [] (tl w))
    tileOk' w (tl w) = true ∧ (tl w).tpairShape 191 w ≠ 0 ∧
    s.oType 191 ⟨false, 1⟩ = ty.1 := by decide +kernel
theorem witness_tload :
    let w := tw 2 [(7, 52), (1, 46), (1, 28), (1, 24), (3, 18)]
    let s := (wr ⟨false, 7⟩ 5 1 4 [] (tl w)).setBytes (storeAddr 191 5) [1, 2, 3, 4]
    let sv := tw 3 [(7, 52), (0, 46)]
    let m := wr ⟨false, 7⟩ 5 1 4 [0x04030201] (tl sv)
    let far := tw 2 [(7, 52), (3, 46), (1, 28), (1, 24), (3, 18)]
    tileOk' w s = true ∧ s.ldstBeyond 191 w (s.ldstParts 191 w) = none ∧ tileOk' sv m = true ∧
    (State.tstoreRow 191 sv (m.ldstParts 191 sv) m 0).1.byteAt (storeAddr 191 0 + 3) = 4 ∧
    tileOk' far (wr ⟨false, 7⟩ 5 1 4 [] (tl far)) = true := by decide +kernel
theorem witness_tile_illegal :
    tileIllegal (tw 0x3F []) = some 1 ∧ tileIllegal (tw 0 [(1, 0)]) = some 3 ∧ (tl (tw 0 [(1, 0)])).tileIssues 191 = true ∧
    (tl (tw 0x3F [])).tileIssues 191 = true := by decide +kernel

theorem witness_tile_control :
    let h := (tl 0).put (Reg.TSTAT_RUN 191) 0
    let k : CtxRun := { save := true, addr := 0, mode := 0, req := mgr 0x502 [] }
    let c := h.setTx 191 { TileX.idle with ctx := some k }
    let w : Word := BitVec.ofNat 32 (1 + 16 + 0x123 * 256)
    h.tileShut 191 = false ∧ h.quiescing = false ∧ (aft (.tctrlStart 191 w) h).get (Reg.TSTAT_PC 191) = 0x123 ∧
    (aft (.tctrlStart 191 w) h).flag (Reg.TSTAT_RUN 191) = true ∧ ((aft (.tctrlStep 191 4) h).tx 191).step = true ∧
    ((aft (.tctrlStart 191 w) c).tx 191).startWait = [false] ∧ (aft (.tctrlHalt 191 2) (tl 0)).flag (Reg.TSTAT_RUN 191) = false ∧
    (aft (.tctrlClrFault 191 8) (h.put (Reg.TSTAT_FAULTED 191) 1)).flag (Reg.TSTAT_FAULTED 191) = false := by decide +kernel
theorem witness_tile_memory :
    let h := (tl 0).put (Reg.TSTAT_RUN 191) 0
    let l := aft (.tileInstrWrite .host 191 0 false 7) h
    l.addr.held = [{ req := .host, addr := tileWin 191, word := 7 }] ∧ (aft (.tileInstrWrite .host 191 0 true 9) l).tileWord 191 0 = 7 + 9 * 2 ^ 32 ∧
    (aft (.tileInstrWrite .host 191 0 true 9) (tl 0)).flag (Reg.TSTAT_WERR 191) = true := by decide +kernel
theorem witness_context :
    let h := (tl 0).put (Reg.TSTAT_RUN 191) 0
    let k (save : Bool) : CtxRun := { save := save, addr := 0x1000, mode := 0, req := mgr 0x502 [] }
    let c (save : Bool) := h.setTx 191 { TileX.idle with ctx := some (k save) }
    let x := { c false with ecc := [(0x1000, 3)] }
    (c true).coresRun = true ∧ (c true).mustWait 0x1000 ((c true).ctxRecord 191 false).length = false ∧
    (aft (.tileCtxComplete 191) (c true)).byteAt 0x1000 = 0x54 ∧ ((aft (.tileCtxComplete 191) (c true)).tx 191).ctx.isNone = true ∧
    (c false).mustWait 0x1000 1280 = false ∧ (x.readMem 2 0x1000 1280).2.2 = true := by decide +kernel
theorem witness_tile_commands :
    let f (code : Nat) (pay : List Byte) := host code pay
    let h := (tl 0).put (Reg.TSTAT_RUN 191) 0
    let g (s : State) (p : Packet) := give s p
    let sp := f 0x500 [191, 0, 9, 0]
    let hp := f 0x501 [191, 0, 0, 0]
    let shut := h.put Reg.CAST_REGIONS_LOADED 0
    reach tileStartOp (g (tl 0) sp) sp = true ∧ (taken (g (tl 0) sp) sp).startRefused 191 = some 1 ∧ reach tileStartOp (g h sp) sp = true ∧
    (aft (.tileStart sp) (g h sp)).flag (Reg.TSTAT_RUN 191) = true ∧ reach tileHaltOp (g shut hp) hp = true ∧ shut.tileShut 191 = true := by
  decide +kernel
theorem witness_tile_commands' :
    let f (code : Nat) (pay : List Byte) := host code pay
    let h := (tl 0).put (Reg.TSTAT_RUN 191) 0
    let g (s : State) (p : Packet) := give s p
    let cs := f 0x503 ([191, 0, 0, 0] ++ leBytes 8 0x1000)
    let ss := f 0x502 [191, 0, 0, 0]
    let fc := f 0x505 [191, 0, 0, 0]
    let bad := h.put (Reg.TSTAT_FAULTED 191) 1
    reach tileCtxSaveOp (g h cs) cs = true ∧ (taken (g h cs) cs).ctxRefused 191 = none ∧ reach tileStatusOp (g h ss) ss = true ∧
    reach tileFaultClearOp (g bad (f 0x505 [0xFF, 0, 0, 0])) (f 0x505 [0xFF, 0, 0, 0]) = true ∧
    reach tileStartOp (g h (f 0x500 [0xFF, 0, 9, 0])) (f 0x500 [0xFF, 0, 9, 0]) = true ∧ h.ctxRuns 0xFF = false ∧
    reach tileFaultClearOp (g bad fc) fc = true ∧ (aft (.tileFaultClear fc) (g bad fc)).flag (Reg.TSTAT_FAULTED 191) = false := by decide +kernel

end Sys2Proof.Tests
end

