-- ==== Sys2Proof/Tests/Time.lean ====
section
/-! SUPPORT. Witnesses and small tests of time, budgets and the self-test. -/

namespace Sys2Proof.Tests
open Sys2Proof Sys2Proof.Machine
set_option Elab.async false

/-- A part of the time unit changed. -/
def tm (f : TimeUnit → TimeUnit) (s : State) : State := { s with time := f s.time }
/-- A part of the budget unit changed. -/
def bd (f : BudUnit → BudUnit) (s : State) : State := { s with bud := f s.bud }

theorem witness_captures :
    let s := tm (fun x => { x with tod := 3 * unitSec + 7 * unitNs }) (st [(Reg.TCAP_NEW 15, 1)])
    s.fabricPowered = true ∧ (aft (.tcapCapture 15) s).get (Reg.TCAP_OVR 15) = 1 ∧ (aft (.tcapCapture 0) s).get (Reg.TCAP_OVR 0) = 0 ∧
    (aft (.tcapCapture 0) s).get (Reg.TCAP_NEW 0) = 1 ∧ (aft (.tcapCapture 15) s).get (Reg.TCAP_SEC 15) = 3 ∧
    (aft (.tcapCapture 15) s).get (Reg.TCAP_NS 15) = 7 ∧ (aft (.csiFrameStart 3) s).get (Reg.CSI_FS_NS 3) = 7 ∧
    (aft (.csiFrameStart 3) (s.put (Reg.CSI_FS_NEW 3) 1)).get (Reg.CSI_FS_OVR 3) = 1 ∧ (aft (.todPps true) s).time.pps = true ∧
    (aft (.todPps true) (s.put Reg.PWR_STATE_CUR 3)).time.pps = false := by decide +kernel
theorem witness_time_sources :
    let p := tm (fun x => { x with cfg := { x.cfg with src := 1 } }) (st [(Reg.QUAD_CFG_OWNER 7, 2)])
    let f := st [(Reg.ENS_STAT_STATE, 2), (Reg.ENS_STAT_LEADER, 1)]
    p.follows = false ∧ (aft (.ptpEventMessage ⟨1, false, 10, none, none⟩) p).time.macStamps.length = 1 ∧ (aft (.ptpEventMessage ⟨0, true, 1000, some (-5), some 37⟩) p).get Reg.TIME_STAT_SET = 1 ∧
    (aft (.ptpEventMessage ⟨0, true, 1000, some (-5), none⟩) p).get Reg.TIME_OFFSET_OFFSET = 2 ^ 32 - 5 ∧ f.follows = true ∧
    (aft (.timeSyncExchange 0 (131072 * 1000001) (131072 * 1000001) (2000 * 65536) true true) f).flag Reg.TIME_STAT_TIME_UNSURE = true ∧
    (aft (.timeSyncExchange 0 196608 196608 131072 true true) f).get Reg.TIME_OFFSET_OFFSET = 2 := by decide +kernel
theorem witness_holdover :
    let l := st [(Reg.TIME_STAT_LOCKED, 1)]
    let x := tm (fun x => { x with slew := 5 }) (st [(Reg.TIME_STAT_XTAL, 1), (Reg.TIME_STAT_HOLDOVER, 1)])
    let y := st [(Reg.TIME_STAT_XTAL, 1)]
    (aft .holdoverTimeout l).get Reg.TIME_STAT_LOCKED = 0 ∧ (aft .holdoverTimeout l).flag Reg.TIME_STAT_HOLDOVER = true ∧
    (aft (.xtalCompensation 35) x).time.comp = 3738339 ∧ (aft .slewComplete x).time.slew = 0 ∧
    (aft (.xtalOkChange false) y).flag Reg.TIME_STAT_HOLDOVER = true ∧ (aft (.xtalOkChange true) y).flag Reg.PWR_CLK_STATUS_XTAL_OK = true := by
  decide +kernel
theorem witness_alarm :
    let a (per : Nat) := tm (fun x => { x with tod := unitSec }) (st [(Reg.ALM0_EN, 1), (Reg.ALM_PERIOD_PERIOD, per)])
    (a 0).alarmDue = true ∧ (aft .alarmFire (a 0)).get Reg.TIME_EVT_ALARM = 1 ∧ (aft .alarmFire (a 0)).flag Reg.ALM0_EN = false ∧
    (aft .alarmFire (a 9)).flag Reg.ALM0_EN = true ∧ (aft .alarmFire (a 9)).alarmSec = 9 := by decide +kernel
theorem witness_time_commands :
    let t := mgr 0x901 ([0, 0, 37, 0] ++ leBytes 8 100 ++ leBytes 4 999999999 ++ leBytes 4 50)
    let f := st [(Reg.ENS_STAT_STATE, 2), (Reg.ENS_STAT_LEADER, 1)]
    let a := mgr 0x902 (leBytes 8 (2 ^ 64 - 3))
    let so := mgr 0x903 ([0, 20, 40, 0] ++ leBytes 4 7 ++ leBytes 4 8)
    let al := mgr 0x904 ([1, 0, 0, 0] ++ leBytes 8 (2 ^ 47) ++ leBytes 4 5 ++ leBytes 4 65535)
    let pt := mgr 0x905 [127, 3, 0xFC, 0, 0, 0, 0, 0]
    let ca := mgr 0x906 [15, 2, 0, 0]
    let n := st [(Reg.TCAP_NEW 15, 1), (Reg.CSI_FS_NEW 0, 1), (Reg.CSI_FS_NEW 1, 1)]
    reach timeGetOp on (mgr 0x900 []) = true ∧ reach timeSetOp on t = true ∧ (aft (.timeSet t) on).time.tod = 100 * unitSec + 999999999 * unitNs ∧
    (aft (.timeSet t) on).get Reg.TIME_UTC_UTC = 37 ∧ (aft (.timeSet t) on).get Reg.TIME_UNCERT_US = 50 ∧ reach timeSetOp f t = true ∧
    reply (aft (.timeSet t) f) = (0xE, 1) ∧ reach timeAdjustOp on a = true ∧ (aft (.timeAdjust a) on).time.slew = -3 * 2 ^ 40 ∧
    reach timeSourceOp on so = true ∧ (aft (.timeSource so) on).time.cfg.driftXtal = 8 ∧ reach timeAlarmOp on al = true ∧
    (aft (.timeAlarm al) on).time.alarmBase = 2 ^ 47 ∧ reach timePtpConfigOp on pt = true ∧ (aft (.timePtpConfig pt) on).time.ptpLive.domain = 127 ∧
    reach timeCaptureOp n ca = true ∧ (aft (.timeCapture ca) n).flag (Reg.TCAP_NEW 15) = false ∧
    (aft (.timeCapture ca) n).flag (Reg.CSI_FS_NEW 0) = false ∧ (aft (.timeCapture ca) n).flag (Reg.CSI_FS_NEW 1) = true := by decide +kernel
theorem witness_time_sync :
    let p (k : Byte) : Packet := { mk (.holwell 3) 2 0x9F0 ([k, 0, 0, 0] ++ List.replicate 20 5) with flags := 0 }
    let s := tm (fun x => { x with tod := 9 * unitSec }) on
    roleOnTransport (p 0) = true ∧ ((give s (p 0)).takePacket (p 0)).isSome = true ∧
    ((aft (.timeSync (p 0)) (give s (p 0))).cmd.peerOut.map (fun q => q.body.take 24)) = [[1, 0, 0, 0] ++ List.replicate 20 5] ∧
    (aft (.timeSync (p 1)) (give s (p 1))).time.syncResp = (p 1).payload := by decide +kernel
theorem witness_periods :
    let m : PowerSample := { u := 20000, tile0 := 30000, tile1 := 10000, f0 := 5000, f1 := 127500, b := 0, c := 0 }
    let s := st [(Reg.BUD_STAT_LIM_F0, 15), (Reg.BUD_STAT_LIM_F1, 3), (Reg.BUD_STAT_STEP_F0, 4), (Reg.BUD_STAT_STEP_F1, 3), (Reg.BUD_CAP_EFF_EFF, 1100)]
    let b := s.put Reg.BUD_STAT_BRAKE 1
    let t := aft (.thermalPeriod (List.replicate 24 (-4))) (bd (fun x => { x with failed := [23] }) s)
    (aft (.budgetPeriod m) s).get Reg.BUD_DIE_F0 = 10 ∧ (aft (.budgetPeriod m) s).get Reg.BUD_DIE_F1 = 255 ∧
    (aft (.budgetPeriod m) s).bud.powers = [61000] ∧ (aft (.budgetPeriod m) s).get Reg.BUD_STAT_STEP_F0 = 6 ∧
    (aft (.budgetPeriod m) s).get Reg.BUD_STAT_STEP_F1 = 3 ∧ (aft (.budgetPeriod m) b).get Reg.BUD_STAT_STEP_F0 = 0 ∧
    (aft .brakeTimeout (bd (fun x => { x with timed := true }) b)).get Reg.BUD_STAT_BRAKE = 0 ∧
    t.get (Reg.THERM_T 0) = 4092 ∧ t.get (Reg.THERM_VALID 23) = 0 ∧ t.get (Reg.THERM_VALID 22) = 1 := by decide +kernel
theorem witness_cap_hold :
    let h := bd (fun x => { x with powers := List.replicate 100 100000 }) (st [(Reg.BUD_CAP_EFF_EFF, 1000), (Reg.BUD_STAT_STEP_F0, 0), (Reg.BUD_STAT_STEP_F1, 0)])
    let u := st [(Reg.BUD_CAP_EFF_EFF, 1000), (Reg.BUD_STAT_HOLD, 1)]
    h.capTarget < meanNat h.bud.powers ∧ (aft (.budCapHold true 8) h).get Reg.BUD_STAT_HOLD = 1 ∧ (aft (.budCapHold true 8) h).bud.onFraction = 8 ∧
    meanNat u.bud.powers ≤ u.capTarget ∧ u.bud.hotHold.any id = false ∧ (aft (.budCapHold false 8) u).get Reg.BUD_STAT_HOLD = 0 ∧
    sensorThrottles 18 0 = true ∧ sensorThrottles 18 1 = false ∧ (aft (.thermSensorFail 18) u).get Reg.BUD_STAT_LIM_F0 ≤ 7 ∧
    (aft (.thermSensorFail 18) u).bud.failed = [18] := by decide +kernel
theorem witness_budget_commands :
    let cap := mgr 0x210 [150, 0, 0, 0]
    let br := mgr 0x211 [1, 0, 5, 0]
    let cf := mgr 0x215 [1, 1, 0, 0]
    reach budSetCapOp on cap = true ∧ (aft (.budSetCap cap) on).get Reg.BUD_CAP_EFF_EFF = 150 ∧ (aft (.budSetCap cap) on).get Reg.BUD_STAT_CAP_SRC = 1 ∧
    reach budSetCapOp on (host 0x210 [0x4C, 4, 0, 0]) = false ∧ reach budSetCapOp (give on (host 0x210 [0x4C, 4, 0, 0])) (host 0x210 [0x4C, 4, 0, 0]) = true ∧
    reach budBrakeOp on br = true ∧ (aft (.budBrake br) on).get Reg.BUD_STAT_BRAKE = 1 ∧ (aft (.budBrake br) on).bud.timed = true ∧
    reach budStatusOp on (mgr 0x212 []) = true ∧ reach thermReadOp on (mgr 0x214 [23, 1, 0, 0]) = true ∧ reach budConfigOp on cf = true ∧
    (aft (.budConfig cf) on).get Reg.BUD_CFG_SPLIT = 1 := by decide +kernel

/-- A self-test run over tests 0 and 1. -/
def brun : BistRun := { req := mgr 0xA00 [3, 0, 0, 0], sel := 3, quads := 0, flags := 0, left := [0, 1], cur := [], ran := 0, failed := 0,
                        first := 0xFF, place := [], tj := 0, start := 0, cause := 0, begun := 0, owners := [] }
theorem witness_self_test :
    let r (v : Nat) (x : BistRun) := { st [(Reg.BIST_STAT_STATE, v)] with bist := some x }
    let e := aft .bistEntryDone (r 1 brun)
    let c := aft (.bistTestComplete 1 (some [1, 2]) 300) (r 2 { brun with cur := [1], left := [] })
    let d := aft (.bistRunEnd 12 []) (r 3 brun)
    e.get Reg.BIST_STAT_STATE = 2 ∧ e.get Reg.BIST_STAT_TEST = 0 ∧ (e.bist.any (fun x => x.cur.contains 0)) = true ∧
    (c.bist.any (fun x => bit x.ran 1 && bit x.failed 1 && x.first == 1 && x.place == padTo 12 [1, 2] && x.tj == 300)) = true ∧
    bit brun.flags 0 = false ∧ d.bist.isNone = true ∧ d.get Reg.BIST_STAT_STATE = 0 := by decide +kernel
theorem witness_self_test_commands :
    let p := sealed .smbus 1 0xA00 [3, 0, 0, 0]
    let a := sealed .smbus 1 0xA03 []
    let s := { give on a with bist := some brun }
    reachTag true bistRunOp (give on p) p = true ∧ (taken (give on p) p).bist.isNone = true ∧ reach bistStatusOp on (mgr 0xA01 []) = true ∧
    reach bistResultOp on (mgr 0xA02 []) = true ∧ reachTag true bistAbortOp s a = true ∧ (taken s a).bist.isSome = true := by decide +kernel

/-- O1: with no command waiting the counter ticks, 4 ns from REFCLK, 30,517.578125 ns from the crystal and 62.5 ns from RCCLK (Table TIME-1). -/
theorem witness_tick :
    let f := st [(Reg.TIME_STAT_RC, 0)]
    let c := st [(Reg.TIME_STAT_RC, 0), (Reg.TIME_STAT_XTAL, 1)]
    let r := st [(Reg.TIME_STAT_RC, 1)]
    f.pending = [] ∧ f.kettleOn = true ∧ c.kettleOn = true ∧ r.kettleOn = true ∧
      (match step f with | .next t => t.time.tod == 4 * 2 ^ 40 && t.time.up == 4 * 2 ^ 40 | _ => false) = true ∧
      (match step c with | .next t => t.time.tod == 30517578125 * 2 ^ 40 / 1000000 | _ => false) = true ∧
      (match step r with | .next t => t.time.tod == 625 * 2 ^ 40 / 10 | _ => false) = true := by decide +kernel
end Sys2Proof.Tests
end

