-- ==== Sys2Proof/Tests/Transports.lean ====
section
/-! SUPPORT. Witnesses and small tests of sessions, chains, the transports and the system commands. -/

namespace Sys2Proof.Tests
open Sys2Proof Sys2Proof.Machine
set_option Elab.async false

/-- A stream with a chain open, and a session. -/
def sid : StreamId := { via := .smbus, role := 1, session := 0 }
def chained : State := on.putStream { id := sid, last := some 0, recs := [], chain := some ⟨0x300, 1, 0, [], false⟩ }
theorem witness_sessions :
    let s := give on (sealed .smbus 1 0x100 [])
    s.cmd.sessions.length = 1 ∧ (aft (.sessionIdleTimeout 1) s).cmd.sessions.length = 0 ∧ (chained.stream sid).chain.isSome = true ∧
    ((aft (.chainTimeout sid) chained).stream sid).chain = some ⟨0x300, 1, 0, [], true⟩ ∧
    on.plinthPowered = true ∧ (aft .mctpMessageTimeout on).get Reg.CMD_DROPS_COUNT = 1 ∧
    (aft (.setEndpointId 9) on).cmd.eid = 9 ∧ (aft .getEndpointId on).cmd.mctpOut = [.getEid 0] ∧
    (aft (.entdaa 5) on).cmd.i3cAddr = some 5 ∧ (aft .getMessageTypeSupport on).cmd.mctpOut = [.types [0x7E]] ∧
    (aft (.getMctpVersionSupport 0) on).draws = 1 := by decide +kernel
theorem witness_spi :
    let b := (host 0x100 []).bytes
    let r := { on with cmd := { on.cmd with spiRpl := [echo] } }
    (aft (.writePacket b) on).cmd.spiReq = [host 0x100 []] ∧ packetOf .spi b = some (host 0x100 []) ∧
    (aft (.writePacket b) { on with cmd := { on.cmd with spiReq := [echo, echo] } }).cmd.spiErr = true ∧
    (aft (.readReply true) r).cmd.spiRpl = [] ∧ (aft (.readReply false) r).cmd.spiRpl = [echo] ∧ (aft (.readReply true) r).cmd.spiOut = echo.bytes ∧
    (aft (.readReply true) on).cmd.spiOut = [0, 0] ∧ (aft .readStatus { r with cmd := { r.cmd with spiErr := true } }).cmd.spiOut = [11] := by
  decide +kernel
theorem witness_mailbox :
    let e := { echo with via := .pcie }
    let r := { st [(Reg.MBX_RPL_TAIL_TAIL, 2)] with cmd := { on.cmd with mbxRing := [echo, e] } }
    (aft (.mbxDoorbell 1 [echo]) on).cmd.mbxReq = [e] ∧ (aft (.mbxDoorbell 1 [echo]) on).get Reg.MBX_REQ_TAIL_TAIL = 1 ∧
    (aft (.mbxDoorbell 8 [echo]) on).get Reg.MBX_REQ_TAIL_TAIL = 8 ∧
    (aft (.mbxDoorbell 9 [echo]) on).get Reg.CMD_DROPS_COUNT = 1 ∧ (aft (.mbxDoorbell 9 [echo]) on).cmd.mbxReq = [] ∧
    (aft (.mbxRplHeadWrite 1) r).cmd.mbxRing = [e] ∧ r.cmd.mbxWait = [] ∧ (aft (.mbxRplHeadWrite 1) r).get Reg.MBX_RPL_HEAD_HEAD = 1 ∧
    (aft (.mbxReset 2) r).cmd.mbxRing = [] ∧ (aft (.mbxReset 2) r).get Reg.MBX_RPL_TAIL_TAIL = 0 ∧ r.cast.chain = none := by decide +kernel
theorem witness_system_commands :
    let k := { on with cmd := { on.cmd with mgrKey := tkey } }
    let so := mgr 0x102 (List.replicate 16 3)
    let kp := host 0x105 ([0, 0, 0, 0] ++ List.replicate 32 1 ++ zeros 16)
    let ds := aft (.echo echo) on
    let poll : Packet := resum { mgr 0x104 [0, 0, 0, 0] with seq := 1 }
    reach getInfoOp on (mgr 0x101 []) = true ∧ reach sessionOpenOp k so = true ∧ k.rootKey 1 ≠ [] ∧
    (aft (.sessionOpen so) k).cmd.sessions.length = 1 ∧
    reach cmdPollOp ds poll = true ∧ ((taken ds poll).stream poll.stream).recorded 0 ≠ none ∧
    reach keyProvisionOp (give on kp) kp = true ∧ (aft (.keyProvision kp) (give on kp)).cmd.hostKey = List.replicate 32 1 := by decide +kernel
theorem witness_session_close : reachTag true sessionCloseOp (give on (sealed .smbus 1 0x103 [])) (sealed .smbus 1 0x103 []) = true := by
  decide +kernel
theorem test_session_close : let p := sealed .smbus 1 0x103 []
    (aft (.sessionClose p) (give on p)).cmd.sessions.length = 0 ∧ reply (aft (.sessionClose p) (give on p)) = (0, 0) := by decide +kernel

end Sys2Proof.Tests
end

