-- ==== Sys2Proof/Tests/Slice0.lean ====
section
/-! SUPPORT. The smoke test of well-formedness, and witnesses of the statements about the whole machine; the other files of this folder
hold the witnesses of one group of statements each. -/

namespace Sys2Proof.Tests
open Sys2Proof Sys2Proof.Machine
set_option Elab.async false

/-! ### A term that each check refuses, beside one that it takes -/

theorem test_wf_packet :
    (mgr 0x100 (zeros 4080)).wf = true ∧ (mgr 0x100 (zeros 4081)).wf = false ∧ (Instr.echo (mgr 0x100 [])).wf = true ∧
    (Instr.echo (mgr 0x101 [])).wf = false ∧ (Instr.echo (mgr 0xFFFF [])).wf = true ∧ (Instr.mbxDoorbell 0 [mgr 0x100 []]).wf = false ∧
    (Instr.writePacket (List.replicate 17 0)).wf = true ∧ (Instr.chainTimeout ⟨.smbus, 256, 0⟩).wf = false ∧
    (Instr.chainTimeout ⟨.smbus, 1, 256⟩).wf = false := by decide +kernel
theorem test_wf_lengths :
    (Instr.relayBlock 6 0 (zeros 255) 0).wf = false ∧ (Instr.queryRowWrite 0 0 0 (zeros 63)).wf = false ∧
    (Instr.querySubmit 0 0 (zeros 65)).wf = false ∧ (Instr.flitReceive 0 (zeros 31)).wf = false ∧ (Instr.ctrlFlit 0 (zeros 33)).wf = false ∧
    (Instr.trainFlit 0 []).wf = false ∧ (Instr.heartbeat (List.replicate 65 (0, 0))).wf = false ∧
    (Instr.vaultExportDone (List.replicate 65 0)).wf = false ∧ (Instr.touchScan []).wf = false ∧
    (Instr.xdramTrainDone [zeros 127]).wf = false ∧ (Instr.xdramTrainDone [[], [], [], [], []]).wf = false ∧
    (Instr.read 0 ⟨zeros 15, []⟩).wf = false ∧ (Instr.write 0 ⟨zeros 16, zeros 257⟩).wf = false ∧
    (Instr.cameraRingWrite 0 0 (zeros 4097)).wf = false ∧ (Instr.bistTestComplete 0 (some (zeros 11)) 0).wf = false ∧
    (Instr.bar4Access 0 0 (some (zeros 4097))).wf = false ∧ (Instr.bar4Access 0 4096 (some (zeros 4096))).wf = true := by decide +kernel
theorem test_wf_writePacket : ∀ l : List Byte, l.length = 65536 → (Instr.writePacket l).wf = false := by
  intro l h
  show decide (l.length < 65536) = false
  rw [h]; decide
theorem test_wf_castSource : ∀ l : List Byte, l.length = 65537 → (Instr.castSourceRead l .ok).wf = false := by
  intro l h
  show decide (l.length ≤ 65536) = false
  rw [h]; decide
theorem test_wf_addresses :
    (Instr.wideValueLowRead .host ⟨0x12, 4⟩).wf = false ∧ (Instr.wideValueHighRead .host ⟨0x12, 3⟩).wf = false ∧
    (Instr.wideValueLowRead .host ⟨0x12, 2⟩).wf = true ∧ (Instr.rcFieldRead .host ⟨0x4000000, 1⟩).wf = false ∧ (Instr.registerWrite .host 2 4 0).wf = false ∧
    (Instr.registerWrite .host 0 3 0).wf = false ∧ (Instr.registerWrite .host 2 2 0).wf = true ∧ (Instr.scrubRead (.caddy 0) 32).wf = false ∧
    (Instr.bar4Access (2 ^ 34) 1 none).wf = false ∧ (Instr.cameraRingWrite 0 (2 ^ 48) []).wf = false ∧ (Instr.vaultReclaim 512).wf = false := by
  decide +kernel
theorem test_wf_values :
    (Instr.tload 0 0).wf = false ∧ (Instr.tload 0 17).wf = false ∧ (Instr.tmma 0 16).wf = true ∧ (Instr.mr4Poll 0 8).wf = false ∧
    (Instr.timeSyncExchange (2 ^ 118) 0 0 0 0 false).wf = false ∧ (Instr.ptpEventMessage ⟨0, false, 10, some (2 ^ 63), none⟩).wf = false ∧
    (Instr.ptpEventMessage ⟨0, false, 11, none, none⟩).wf = false ∧
    (Instr.xtalCompensation 2048).wf = false ∧ (Instr.thermalPeriod (List.replicate 24 2048)).wf = false ∧ (Instr.thermalPeriod []).wf = false ∧
    (Instr.thermalShutdown 0 (-2049)).wf = false ∧ (Instr.thermalOffExit ⟨0, 0, 0, false, false, false⟩ 2048).wf = false ∧ (Instr.bistTestComplete 0 none 128).wf = false ∧
    (Instr.bistRunEnd (2 ^ 32) []).wf = false ∧ (Instr.budgetPeriod ⟨2 ^ 24, 0, 0, 0, 0, 0, 0⟩).wf = false ∧
    (Instr.ramAccess 0 (some ⟨4608, 0, 0, false⟩) none).wf = false ∧ (Instr.ramAccess 0 none (some ⟨0, 2 ^ 72, 0, true⟩)).wf = false ∧
    (Instr.ramAccess 0 none (some ⟨0, 0, 256, true⟩)).wf = false := by decide +kernel
theorem test_wf_personality :
    let q : QbCfg := ⟨2304, .fifo, 32, false, 8, 9, 1, 1, 0, 8, 8, false, 0, 0⟩
    let r : QbCfg := { q with qb := 5 }
    Personality.blank.wf = true ∧ ({ Personality.blank with qbs := [q] }).wf = false ∧ ({ Personality.blank with qbs := [r, r] }).wf = false ∧
    ({ Personality.blank with lgateRegion := [] }).wf = false ∧
    (Instr.recastVerifyDone { Personality.blank with qbs := [q] }).wf = false := by decide +kernel

/-! ### The whole machine -/

/-- A queue of well-formed commands over a memory in canonical form. -/
theorem witness_step :
    let m := on.setBytes 0x1000 [1, 2, 3]
    let s : State := { m with pending := [.hlWake 6, .echo (mgr 0x100 [1])] }
    s.queueWf = true ∧ s.memWf = true ∧ (match step s with | .next t => t.pending.length == 1 && t.memWf | _ => false) = true ∧
    (match step m with | .next t => t.pending.length == 0 | _ => false) = true := by decide +kernel
theorem witness_memory_kept :
    mayStore (.echo (mgr 0x100 [1])) = false ∧ goes (.echo (mgr 0x100 [1])) on = true ∧ mayStore (.transferComplete 0 0) = true := by decide +kernel
/-- What the decoder reads: no row of the table gives bits. -/
theorem test_decode : decodeTableWord 32 0 = none ∧ (on.withFetchWord 32 5).pending = [] := by decide +kernel

end Sys2Proof.Tests
end

/-! SUPPORT. What each step of a CSR access can change, said once: the bits of a field after it is set, the tile network, the shadows of
wide values, RC fields and measured values. -/

namespace Sys2Proof.Machine

/-! ### Bits of a field that is written -/

theorem testBit_bits (x l w i : Nat) : (bits x l w).testBit i = (decide (i < w) && x.testBit (l + i)) := by
  rw [bits, Nat.testBit_mod_two_pow, Nat.testBit_shiftRight]

/-- Bits set to 0 read 0, whatever the width that the number is cut to. -/
theorem bits_cut_setBits_zero (W x l w : Nat) : bits (cut W (setBits x l w 0)) l w = 0 := by
  have low : x = x % 2 ^ l + 2 ^ l * bits x l w + 2 ^ (l + w) * (x / 2 ^ (l + w)) := by
    rw [bits, Nat.shiftRight_eq_div_pow, pow_add, ← Nat.div_div_eq_div_mul, mul_assoc, add_assoc, ← mul_add, Nat.mod_add_div, Nat.mod_add_div]
  have cleared : setBits x l w 0 = x % 2 ^ l + 2 ^ (l + w) * (x / 2 ^ (l + w)) := by
    rw [setBits, Nat.shiftLeft_eq, Nat.zero_mod, Nat.zero_shiftLeft, mul_comm (bits x l w)]
    omega
  have none : bits (setBits x l w 0) l w = 0 := by
    rw [cleared, bits, Nat.shiftRight_eq_div_pow, pow_add, mul_assoc, Nat.add_mul_div_left _ _ (Nat.two_pow_pos l),
      Nat.div_eq_of_lt (Nat.mod_lt _ (Nat.two_pow_pos l)), zero_add, Nat.mul_mod_right]
  refine Nat.eq_of_testBit_eq fun i => ?_
  have hi := congrArg (Nat.testBit · i) none
  simp only [testBit_bits, Nat.zero_testBit] at hi ⊢
  rw [cut, Nat.testBit_mod_two_pow, Bool.and_left_comm, hi, Bool.and_false]

/-- The low bits set read as what they were set to. -/
theorem cut_setBits_low (x w v : Nat) : cut w (setBits x 0 w v) = v % 2 ^ w := by
  have h : x - x % 2 ^ w = 2 ^ w * (x / 2 ^ w) := by have := Nat.mod_add_div x (2 ^ w); omega
  simp only [cut, setBits, bits, Nat.shiftRight_zero, Nat.shiftLeft_zero, h, Nat.mul_add_mod, Nat.mod_mod]

/-! ### The tile network -/

/-- A request and its answer change the tile network and nothing else. -/
theorem State.netAsk_mesh (s : State) (src dst c data back : Nat) : ∃ m, s.netAsk src dst c data back = { s with mesh := m } := by
  obtain ⟨m, hm⟩ := State.netSend_mesh s src dst c data
  obtain ⟨m', hm'⟩ := State.netSend_mesh (s.netSend src dst c data) dst src clsRsp back
  exact ⟨m', by rw [State.netAsk, hm', hm]⟩

/-- The packets of a CSR access change the tile network and nothing else. -/
theorem State.netCsr_mesh (s : State) (src a : Nat) (write : Bool) : ∃ m, s.netCsr src a write = { s with mesh := m } :=
  State.netAsk_mesh s _ _ _ _ _

/-- The packets of a memory access change the tile network and nothing else. -/
theorem State.netAccess_mesh (s : State) (src a n : Nat) (write : Bool) : ∃ m, s.netAccess src a n write = { s with mesh := m } := by
  unfold State.netAccess
  split
  · exact ⟨_, rfl⟩
  · generalize ceilDiv (a % 64 + n) 64 = k
    induction k with
    | zero => exact ⟨_, rfl⟩
    | succ k ih =>
      obtain ⟨m, hm⟩ := ih
      rw [List.range_succ, List.foldl_append, hm]
      obtain ⟨m', hm'⟩ := State.netAsk_mesh { s with mesh := m } src (placeOf (a / 64 * 64 + 64 * k)) clsReq
        (if write then min (a + n) (a / 64 * 64 + 64 * k + 64) - max a (a / 64 * 64 + 64 * k) else 0)
        (if write then 0 else min (a + n) (a / 64 * 64 + 64 * k + 64) - max a (a / 64 * 64 + 64 * k))
      exact ⟨m', hm'⟩

/-- What a CSR word reads as does not depend on the tile network. -/
theorem State.csrShow_mesh (s : State) (m : NetUnit) (a : Nat) : ({ s with mesh := m } : State).csrShow a = s.csrShow a := rfl

/-! ### RC fields and measured values -/

/-- A field's bits of a word set to 0. -/
def State.rcZero (s : State) (b : Bitf) : State := s.put b.home (setBits (s.get b.home) b.off b.width 0)

/-- Clearing a word's RC fields sets each of them to 0 in turn and, at THERM_PEAK, drops the budget unit's mark of a peak. -/
theorem State.rcClear_eq (s : State) (a : Nat) :
    ∃ b, s.rcClear a = { ((csrWord a).filter (fun f => f.acc == .rc)).foldl State.rcZero s with bud := b } := by
  rw [List.foldl_filter]
  unfold State.rcClear
  dsimp only
  split <;> exact ⟨_, rfl⟩

/-- Clearing a word's RC fields changes registers and the budget unit's mark of a peak. -/
theorem State.rcClear_frame (s : State) (a : Nat) : ∃ r b, s.rcClear a = { s with regs := r, bud := b } := by
  have fields (l : List Bitf) (s : State) : ∃ r, l.foldl State.rcZero s = { s with regs := r } := by
    induction l generalizing s with
    | nil => exact ⟨_, rfl⟩
    | cons b l ih =>
      obtain ⟨r, hr⟩ := ih (s.rcZero b)
      exact ⟨r, hr⟩
  obtain ⟨b, hb⟩ := s.rcClear_eq a
  obtain ⟨r, hr⟩ := fields ((csrWord a).filter (fun f => f.acc == .rc)) s
  exact ⟨r, b, by rw [hb, hr]⟩

/-- The one RC field of a word reads 0 once the word's RC fields are cleared. -/
theorem State.rcClear_field (s : State) (a : Nat) (f : Bitf) (h : (csrWord a).filter (fun f => f.acc == .rc) = [f]) :
    bits ((s.rcClear a).get f.home) f.off f.width = 0 := by
  obtain ⟨b, hb⟩ := s.rcClear_eq a
  have zero : (s.rcClear a).get f.home = (s.rcZero f).get f.home := by rw [hb, h]; rfl
  rw [zero, State.rcZero, State.get_put_same]
  exact bits_cut_setBits_zero _ _ _ _

/-- A word outside the engine windows has no bank to serve. -/
theorem State.bankServe_outside (s : State) (a : Nat) (h : ¬ (0x1C00000 ≤ a ∧ a < 0x1F00000)) : s.bankServe a = s := by
  unfold State.bankServe
  exact if_neg (fun k => h ⟨k.1, k.2.1⟩)

/-- A read of words outside the HMI block and the engine windows measures nothing. -/
theorem State.measured_outside (s : State) (a n : Nat) (hmi : a + 4 * n ≤ 0xB0000 ∨ 0xC0000 ≤ a)
    (eng : a + 4 * n ≤ 0x1C00000 ∨ 0x1F00000 ≤ a) : s.measured a n = s := by
  unfold State.measured
  dsimp only
  rw [List.foldlRecOn (motive := (· = s)) (List.range 8) _ rfl]
  · split
    · refine List.foldlRecOn (motive := (· = s)) (List.range n) _ rfl fun u hu k hk => ?_
      have := List.mem_range.1 hk
      rw [hu, s.bankServe_outside _ (by omega)]
    · rfl
  · intro u hu k hk
    have := List.mem_range.1 hk
    rw [if_neg (by omega), hu]

end Sys2Proof.Machine

/-! SUPPORT. A packet that reaches its command is answered with what the command does: steps 1 to 14 of Table CMD-7 taken once. -/

namespace Sys2Proof.Machine

/-- Steps 1 to 7 let a rightly framed packet through to its session. -/
theorem servePacket_framed {p : Packet} (h : FramedRight p) (op : OpSpec) (s : State) : servePacket op s p = serveSession op s p := by
  obtain ⟨magic, reply, len, body, crc, ver, flags, role⟩ := h
  unfold servePacket
  rw [if_neg (by simp [magic, reply]), if_neg (by simp [body]; omega), if_neg (by simp [crc]), if_neg (by simp [ver]), if_neg (by omega),
    if_neg (by simp [role])]

/-- Step 8 lets a packet in its session through to the SEQ check. -/
theorem serveSession_inSession {s b : State} {p : Packet} {c : Ctx} (h : InSession s p c b) (op : OpSpec) :
    serveSession op s p = serveSeq op b c := by
  unfold serveSession
  obtain ⟨none, auth, rfl, rfl⟩ | ⟨some, x, found, ⟨auth, rfl, rfl⟩ | ⟨auth, tag, rfl, rfl⟩⟩ := h
  · rw [if_pos none, if_neg (by simp [auth])]
  · rw [if_neg some, found]
    simp [auth]
  · rw [if_neg some, found]
    simp [auth, tag]

/-- The request that goes on is of the packet taken. -/
theorem packet_of_inSession {s b : State} {p : Packet} {c : Ctx} (h : InSession s p c b) : c.p = p := by
  obtain ⟨-, -, rfl, -⟩ | ⟨-, x, -, ⟨-, rfl, -⟩ | ⟨-, -, rfl, -⟩⟩ := h <;> rfl

/-- Step 9 lets a fresh SEQ through. -/
theorem serveSeq_fresh {op : OpSpec} {b : State} {c : Ctx} (fresh : seqCheck (b.stream c.p.stream) (seqSession b c.p) c.p = .fresh) :
    serveSeq op b c = serveFresh op b c := by
  unfold seqSession at fresh
  unfold serveSeq Ctx.role
  dsimp only
  rw [fresh]

/-- Step 10 lets a packet that is no part of a chain through to its command, its SEQ taken. -/
theorem serveFresh_unchained {op : OpSpec} {b : State} {c : Ctx} (code : c.p.opcode.toNat = op.code) (known : opcodeKnown op.code = true)
    (chain : c.p.fChain = false) (noChain : (b.stream c.p.stream).chain = none) :
    serveFresh op b c = finish b (runOp op (seqTaken b c.p) c) c := by
  unfold serveFresh
  dsimp only
  rw [if_neg (by simp [code, known]), if_neg (by simp [chain])]
  unfold serveChain
  dsimp only
  rw [noChain]
  dsimp only
  rw [if_neg (by simp [chain])]
  rw [← noChain]
  rfl

/-- Steps 11 to 14 let a command run that nothing answers for. -/
theorem runOp_served {op : OpSpec} {s : State} {c : Ctx} (h : Served op s c) : runOp op s c = op.run s c := by
  obtain ⟨role, auth, len, range, up, long, nvm, brake, bist⟩ := h
  have stays (f : Bool) (h : f = true → c.auth = true) : ¬ (f && !c.auth) = true := by
    cases f <;> simp_all
  unfold runOp
  rw [if_neg (not_not.2 role), if_neg (stays _ auth), if_neg (by simp [len]), range]
  dsimp only
  rw [if_neg (by rcases up with h | h <;> simp [h]),
    if_neg (fun h => by have := of_decide_eq_true (Bool.and_elim_right h); have := long (Bool.and_elim_left h); omega),
    if_neg (fun h => by have := nvm (Bool.and_elim_right h); simp [this] at h), if_neg (fun h => brake h.2 h.1),
    if_neg (fun h => by have := bist (Bool.and_elim_right h); simp [this] at h)]

/-- A packet that reaches its command is answered with the command's run. -/
theorem serve_of_reaches {op : OpSpec} {s b u : State} {p : Packet} {c : Ctx} (h : Reaches op s p c b u) :
    serve op p s = .next (answered b c (op.run u c)) := by
  obtain ⟨code, framed, chain, known, ⟨s1, taken, session⟩, fresh, noChain, rfl, served⟩ := h
  have hp : c.p = p := packet_of_inSession session
  subst hp
  unfold serve
  rw [if_neg (by simp [code]), taken]
  dsimp only
  rw [servePacket_framed framed, serveSession_inSession session, serveSeq_fresh fresh, serveFresh_unchained code known chain noChain,
    runOp_served served]
  rfl

end Sys2Proof.Machine

/-! SUPPORT. Accesses to memory: what the controllers change as they let one in, which error blocks a range has, and what each byte reads
as after a write. -/

namespace Sys2Proof.Machine

/-! ### Accesses admitted (R439) -/

/-- Nothing but registers, the log, NVM records, the signals sent and the controllers' rows, segments, activates and waits differs. -/
def AdmitFrame (s t : State) : Prop := ∃ r l n o, ∃ m : MemUnit, t = { s with
  regs := r, log := l, nvm := n, out := o,
  mu := { s.mu with
    rows := m.rows, rowAt := m.rowAt, acted := m.acted, owed := m.owed, segs := m.segs, acts := m.acts, waits := m.waits,
    throttleAt := m.throttleAt } }

theorem AdmitFrame.refl (s : State) : AdmitFrame s s := ⟨s.regs, s.log, s.nvm, s.out, s.mu, rfl⟩
theorem AdmitFrame.trans {s t u : State} (h : AdmitFrame s t) (k : AdmitFrame t u) : AdmitFrame s u := by
  obtain ⟨_, _, _, _, _, rfl⟩ := h; obtain ⟨_, _, _, _, m, rfl⟩ := k; exact ⟨_, _, _, _, m, rfl⟩
theorem LogFrame.admission {s t : State} (h : LogFrame s t) : AdmitFrame s t := by
  obtain ⟨_, _, _, _, rfl⟩ := h; exact ⟨_, _, _, _, s.mu, rfl⟩

theorem State.touchRow_frame (s : State) (k b row : Nat) : AdmitFrame s (s.touchRow k b row) :=
  ⟨_, _, _, _, (s.touchRow k b row).mu, rfl⟩
theorem State.activate_frame (s : State) (k : Nat) (q : MemReq) (b row : Nat) : AdmitFrame s (s.activate k q b row) :=
  ⟨_, _, _, _, (s.activate k q b row).mu, rfl⟩

theorem State.useCheck_frame (s : State) (q : MemReq) (p : Place) : AdmitFrame s (s.useCheck q p) := by
  unfold State.useCheck
  split
  · rename_i c v
    split
    · exact AdmitFrame.refl s
    · dsimp only
      have cached (l : Tab (List Nat)) : AdmitFrame s { s with mu := { s.mu with segs := l } } := ⟨_, _, _, _, { s.mu with segs := l }, rfl⟩
      split
      · exact cached _
      · split
        · exact (cached _).trans (State.touchRow_frame _ _ _ _)
        · exact (cached _).trans (State.activate_frame _ _ _ _ _)
  · exact AdmitFrame.refl s

/-- A controller that admits an access or lets it wait changes its own books, and logs. -/
theorem State.grantBlock_frame (s : State) (r : MemReq) (a : Nat) : AdmitFrame s (s.grantBlock r a).1 := by
  unfold State.grantBlock
  dsimp only
  split
  · exact AdmitFrame.refl s
  · rename_i k _
    split
    · exact (State.touchRow_frame _ _ _ _).trans (State.useCheck_frame _ _ _)
    · split
      · split
        · exact AdmitFrame.refl s
        · have either (c : Prop) [Decidable c] (t u : State) (b : Bool) (ht : AdmitFrame s t) (hu : AdmitFrame s u) :
              AdmitFrame s (if c then (t, b) else (u, b)).1 := by split <;> assumption
          refine either _ _ _ _ (AdmitFrame.trans ?_ (State.logEvent_frame _ _ _ _).admission) ?_
          · exact ⟨_, _, _, _, { s.mu with waits := s.mu.waits ++ [_], throttleAt := tinsert s.mu.throttleAt k s.time.up }, rfl⟩
          · exact ⟨_, _, _, _, { s.mu with waits := s.mu.waits ++ [_] }, rfl⟩
      · exact (State.activate_frame _ _ _ _ _).trans (State.useCheck_frame _ _ _)

theorem State.admitAll_frame (s : State) (r : MemReq) (bs : List Nat) : AdmitFrame s (s.admitAll r bs).1 := by
  induction bs generalizing s with
  | nil => exact AdmitFrame.refl s
  | cons b bs ih =>
    unfold State.admitAll
    dsimp only
    split
    · exact (s.grantBlock_frame r b).trans (ih _)
    · exact s.grantBlock_frame r b

/-! ### What leaves every byte as it was -/

theorem sameMemory_trans {s t u : State} (h : SameMemory s t) (k : SameMemory t u) : SameMemory s u := fun a => (k a).trans (h a)
theorem AdmitFrame.sameMemory {s t : State} (h : AdmitFrame s t) : SameMemory s t := by
  obtain ⟨_, _, _, _, _, rfl⟩ := h; exact fun _ => rfl
theorem ReadFrame.sameMemory {s t : State} (h : ReadFrame s t) : SameMemory s t := by
  obtain ⟨_, _, _, _, _, rfl⟩ := h; exact fun _ => rfl
theorem State.netAccess_sameMemory (s : State) (src a n : Nat) (write : Bool) : SameMemory s (s.netAccess src a n write) := by
  obtain ⟨m, hm⟩ := s.netAccess_mesh src a n write
  rw [hm]; exact fun _ => rfl
theorem bytesAt_congr {s t : State} (h : SameMemory s t) (a n : Nat) : t.bytesAt a n = s.bytesAt a n := by
  induction n generalizing a with
  | zero => rfl
  | succ n ih => rw [State.bytesAt, State.bytesAt, h a, ih]

/-! ### The error blocks of a range (R422, R428) -/

/-- The error block of a byte holds every byte of that byte's eight, and is no longer than 64 bytes. -/
theorem State.unitOf_block {s : State} {x q sz : Nat} (h : s.unitOf x = some (q, sz)) {y : Nat} (hy : y / 8 = x / 8) :
    q ≤ y ∧ y < q + sz ∧ sz ≤ 64 := by
  unfold State.unitOf at h
  split_ifs at h <;> cases h <;> omega

/-- In a range that begins with error blocks and does not run out of caddy memory, every byte has one. -/
theorem State.unitOf_isSome {s : State} {a n x : Nat} (ecc : s.canPoison a = true) (caddy : a < 0x300000000 → a + n ≤ 0x300000000)
    (lo : a / 8 * 8 ≤ x) (hi : x < a + n) : ∃ u, s.unitOf x = some u := by
  unfold State.canPoison State.unitOf at ecc
  unfold State.unitOf
  by_cases ha : a < 0x300000000
  · rw [if_pos (by omega)]
    exact ⟨_, rfl⟩
  · rw [if_neg (by omega)]
    rw [if_neg ha] at ecc
    by_cases hs : x < 0x4000000000
    · rw [if_pos hs]
      by_cases on : s.xIecc = true
      · rw [if_pos on]
        exact ⟨_, rfl⟩
      · rw [if_neg on] at ecc
        have store : ¬ a < 0x4000000000 := fun h => by simp [h] at ecc
        omega
    · rw [if_neg hs]
      exact ⟨_, rfl⟩

/-- A block of a range's list is the error block of one of the range's eights. -/
theorem State.mem_unitsOf {s : State} {a n : Nat} {u : Nat × Nat} :
    u ∈ s.unitsOf a n ↔ ∃ i < ceilDiv (a % 8 + n) 8, s.unitOf (a / 8 * 8 + 8 * i) = some u := by
  simp [State.unitsOf]

/-- Every error block of a range that is not empty meets it. -/
theorem State.unitsOf_meets {s : State} {a n : Nat} {u : Nat × Nat} (h : u ∈ s.unitsOf a n) (pos : 0 < n) : a ≤ u.1 + 63 ∧ u.1 < a + n := by
  obtain ⟨i, hi, hu⟩ := State.mem_unitsOf.1 h
  unfold ceilDiv at hi
  obtain ⟨lo, hi', len⟩ := State.unitOf_block (q := u.1) (sz := u.2) hu (y := max a (a / 8 * 8 + 8 * i)) (by omega)
  omega

/-- The error blocks of a range cover it. -/
theorem State.unitsOf_covers {s : State} {a n y : Nat} (ecc : s.canPoison a = true) (caddy : a < 0x300000000 → a + n ≤ 0x300000000)
    (lo : a ≤ y) (hi : y < a + n) : ∃ u ∈ s.unitsOf a n, u.1 ≤ y ∧ y < u.1 + u.2 := by
  obtain ⟨u, hu⟩ := State.unitOf_isSome (x := y / 8 * 8) ecc caddy (by omega) (by omega)
  obtain ⟨h1, h2, -⟩ := State.unitOf_block (q := u.1) (sz := u.2) hu (y := y) (by omega)
  refine ⟨u, State.mem_unitsOf.2 ⟨y / 8 - a / 8, by unfold ceilDiv; omega, ?_⟩, h1, h2⟩
  rw [← hu]
  congr 1
  omega

/-- Memory that begins in the caddy ends in it: behind it lies a hole. -/
theorem State.allMem_caddy {s : State} {a n : Nat} (h : s.allMem a n = true) (caddy : a < 0x300000000) : a + n ≤ 0x300000000 := by
  by_contra out
  have all := (Bool.and_eq_true _ _ ▸ h).2
  have hole := List.all_eq_true.1 all 0x300000000 (List.mem_map.2 ⟨0x300000000 / 64 - a / 64, by simp [ceilDiv]; omega, by omega⟩)
  have place : s.place 0x300000000 = .hole := rfl
  rw [place] at hole
  exact Bool.false_ne_true hole

/-! ### Bytes written (R441) -/

/-- The bytes of a write to `a` that lie in an error block. -/
def partOf (a : Nat) (bs : List Byte) (u sz : Nat) : List Byte := slice bs (max a u - a) (min (a + bs.length) (u + sz) - max a u)

theorem partOf_length (a : Nat) (bs : List Byte) (u sz : Nat) :
    (partOf a bs u sz).length = min (a + bs.length) (u + sz) - max a u := by
  simp [partOf, slice]
  omega

/-- A block's own part of a write: the bytes written that lie in the block, and no other. -/
theorem State.byteAt_setPart (s : State) (a : Nat) (bs : List Byte) (u sz y : Nat) :
    (s.setBytes (max a u) (partOf a bs u sz)).byteAt y =
      if max a u ≤ y ∧ y < min (a + bs.length) (u + sz) then bs.getD (y - a) 0 else s.byteAt y := by
  rw [State.byteAt_setBytes, partOf_length]
  by_cases h : max a u ≤ y ∧ y < min (a + bs.length) (u + sz)
  · rw [if_pos h, if_pos (by omega)]
    have at' : (partOf a bs u sz)[y - max a u]? = bs[y - a]? := by
      rw [partOf, slice, List.getElem?_take_of_lt (by omega), List.getElem?_drop]
      congr 1
      omega
    simp [List.getD, at']
  · rw [if_neg h, if_neg (by omega)]

/-- A block of a write takes its part, or, where it is lost, none of it. -/
theorem State.writeUnit_cases (s : State) (writer a : Nat) (bs : List Byte) (u sz : Nat) : ∃ t, ReadFrame s t ∧
    (s.writeUnit writer a bs u sz = t.setBytes (max a u) (partOf a bs u sz) ∨ s.writeUnit writer a bs u sz = t) := by
  unfold State.writeUnit
  dsimp only
  split
  · exact ⟨_, ⟨_, _, _, _, _, rfl⟩, .inl rfl⟩
  · split
    · exact ⟨_, ReadFrame.refl s, .inl rfl⟩
    · exact ⟨_, s.correct_frame u, .inl rfl⟩
    · refine ⟨_, ?_, .inr rfl⟩
      refine ReadFrame.trans ?_ (State.logSubmit_frame _ _).read
      split
      · exact ReadFrame.trans ⟨_, _, _, _, _, rfl⟩ (State.countUe_frame _ u).read
      · exact ReadFrame.refl s

/-- A byte outside the range written stays. -/
theorem State.writeUnit_outside (s : State) (writer : Nat) {a : Nat} {bs : List Byte} (u sz : Nat) {x : Nat} (h : x < a ∨ a + bs.length ≤ x) :
    (s.writeUnit writer a bs u sz).byteAt x = s.byteAt x := by
  obtain ⟨t, frame, write⟩ := s.writeUnit_cases writer a bs u sz
  rw [← frame.sameMemory x]
  obtain write | write := write
  · rw [write, State.byteAt_setPart, if_neg (by omega)]
  · rw [write]

/-- A write changes no byte outside its range. -/
theorem State.writeMem_outside (s : State) (writer : Nat) {a : Nat} {bs : List Byte} {x : Nat} (h : x < a ∨ a + bs.length ≤ x) :
    (s.writeMem writer a bs).byteAt x = s.byteAt x := by
  unfold State.writeMem
  split
  · exact List.foldlRecOn (motive := fun t : State => t.byteAt x = s.byteAt x) _ _ rfl
      fun t ht u _ => (t.writeUnit_outside writer u.1 u.2 h).trans ht
  · rw [State.byteAt_setBytes, if_neg (by omega)]

/-- A block without error takes its part, and no block without error gains one. -/
theorem State.writeUnit_clean (s : State) (writer a : Nat) (bs : List Byte) (u sz : Nat) (clean : tget 0 s.ecc u = 0) :
    ∃ e, s.writeUnit writer a bs u sz = ({ s with ecc := e } : State).setBytes (max a u) (partOf a bs u sz) ∧
      ∀ x, tget 0 s.ecc x = 0 → tget 0 e x = 0 := by
  unfold State.writeUnit
  dsimp only
  split
  · refine ⟨_, rfl, fun x hx => ?_⟩
    by_cases h : x = u
    · rw [h, tget_tput_same]
    · rw [tget_tput_ne _ _ _ _ h, hx]
  · rw [clean]
    exact ⟨s.ecc, rfl, fun x hx => hx⟩

/-- Blocks without error, written in turn, leave what was written in each byte of the range that one of them holds or that held it before. -/
theorem State.writeUnits_clean (writer a : Nat) (bs : List Byte) (us : List (Nat × Nat)) (s : State) (clean : ∀ u ∈ us, tget 0 s.ecc u.1 = 0)
    {y : Nat} (lo : a ≤ y) (hi : y < a + bs.length) (h : s.byteAt y = bs.getD (y - a) 0 ∨ ∃ u ∈ us, u.1 ≤ y ∧ y < u.1 + u.2) :
    (us.foldl (fun s u => s.writeUnit writer a bs u.1 u.2) s).byteAt y = bs.getD (y - a) 0 := by
  induction us generalizing s with
  | nil => simpa using h
  | cons u us ih =>
    obtain ⟨e, write, still⟩ := s.writeUnit_clean writer a bs u.1 u.2 (clean u List.mem_cons_self)
    rw [List.foldl_cons, write]
    refine ih _ (fun v hv => still _ (clean v (List.mem_cons_of_mem _ hv))) ?_
    rw [State.byteAt_setPart]
    by_cases own : u.1 ≤ y ∧ y < u.1 + u.2
    · exact .inl (if_pos (by omega))
    · rw [if_neg (by omega)]
      exact h.imp id fun ⟨v, hv, hy⟩ => (List.mem_cons.1 hv).elim (fun e => absurd (e ▸ hy) own) (fun hv => ⟨v, hv, hy⟩)

/-- A write whose error blocks have no error leaves its bytes in its range. -/
theorem State.writeMem_inside (s : State) (writer : Nat) {a : Nat} {bs : List Byte} (caddy : a < 0x300000000 → a + bs.length ≤ 0x300000000)
    (clean : ∀ x, a ≤ x + 63 → x < a + bs.length → tget 0 s.ecc x = 0) {k : Nat} (hk : k < bs.length) :
    (s.writeMem writer a bs).byteAt (a + k) = bs.getD k 0 := by
  have offset : a + k - a = k := by omega
  unfold State.writeMem
  split
  · rename_i ecc
    have written := State.writeUnits_clean writer a bs (s.unitsOf a bs.length) s
      (fun u hu => have meets := State.unitsOf_meets hu (by omega); clean _ meets.1 meets.2) (y := a + k) (by omega) (by omega)
      (.inr (State.unitsOf_covers ecc caddy (by omega) (by omega)))
    rwa [offset] at written
  · rw [State.byteAt_setBytes, if_pos (by omega), offset]

end Sys2Proof.Machine

/-! SUPPORT. Reads of CSRs: wide values and their shadows, and what each row of reads answers. -/

namespace Sys2Proof.Machine

/-! ### Wide values -/

/-- The entry put in the place of those of its kind is the one found. -/
theorem find?_replaced {α : Type} {p : α → Bool} (l : List α) (x : α) (hx : p x = true) :
    (l.filter (fun y => !p y) ++ [x]).find? p = some x := by
  have gone : (l.filter (fun y => !p y)).find? p = none :=
    List.find?_eq_none.2 fun y hy => by simpa using (List.mem_filter.1 hy).2
  rw [List.find?_append, gone, Option.none_or, List.find?_cons_of_pos hx]

/-- A low word read puts one shadow in the place of the requester's own, and clears the low word's RC fields. -/
theorem State.wideLow_frame (s : State) (req : Requester) (lo n : Nat) : ∃ r b, (s.wideLow req lo n).1 = { s with
    regs := r, bud := b
    addr := { s.addr with shadows := s.addr.shadows.filter (fun h => !(h.req == req && h.addr == lo)) ++
      [{ req := req, addr := lo, words := (List.range n).map (fun k => s.csrShow (lo + 4 * k)), fresh := List.replicate n true }] } } := by
  obtain ⟨r, b, h⟩ := State.rcClear_frame { s with
    addr := { s.addr with shadows := s.addr.shadows.filter (fun h => !(h.req == req && h.addr == lo)) ++
      [{ req := req, addr := lo, words := (List.range n).map (fun k => s.csrShow (lo + 4 * k)), fresh := List.replicate n true }] } } lo
  exact ⟨r, b, h⟩

/-- A low word read answers it. -/
theorem State.wideLow_word (s : State) (req : Requester) (lo : Nat) {n : Nat} (h : n ≠ 0) : (s.wideLow req lo n).2 = s.csrShow lo := by
  obtain ⟨n, rfl⟩ := Nat.exists_eq_succ_of_ne_zero h
  simp [State.wideLow, List.range_succ_eq_map]

/-- The requester's shadow after a low word read: every word, each fresh. -/
theorem State.wideLow_shadow (s : State) (req : Requester) (lo n : Nat) :
    (s.wideLow req lo n).1.addr.shadows.find? (fun h => h.req == req && h.addr == lo) =
      some { req := req, addr := lo, words := (List.range n).map (fun k => s.csrShow (lo + 4 * k)), fresh := List.replicate n true } := by
  obtain ⟨r, b, h⟩ := s.wideLow_frame req lo n
  rw [h]
  exact find?_replaced _ _ (by simp)

/-- A shadow of another wide value or of another requester stays. -/
theorem State.wideLow_others (s : State) (req : Requester) (lo n : Nat) {h : Shadow} (mem : h ∈ s.addr.shadows)
    (other : ¬ (h.req = req ∧ h.addr = lo)) : h ∈ (s.wideLow req lo n).1.addr.shadows := by
  obtain ⟨r, b, hw⟩ := s.wideLow_frame req lo n
  rw [hw]
  refine List.mem_append_left _ (List.mem_filter.2 ⟨mem, ?_⟩)
  simpa only [Bool.not_eq_true', Bool.eq_false_iff, ne_eq, Bool.and_eq_true, beq_iff_eq] using other

/-- The RC field of a low word reads 0 after the low word is read. -/
theorem State.wideLow_field (s : State) (req : Requester) (lo n : Nat) (f : Bitf) (h : (csrWord lo).filter (fun f => f.acc == .rc) = [f]) :
    bits ((s.wideLow req lo n).1.get f.home) f.off f.width = 0 := State.rcClear_field _ lo f h

/-- STALE set: the requester's mark stands. -/
theorem State.setStale_mem (s : State) (req : Requester) : req ∈ (s.setStale req).addr.stale := by
  unfold State.setStale
  by_cases h : req ∈ s.addr.stale <;> simp [h]

/-- SYS_STALE read: the requester's own mark is dropped and every other stays. -/
theorem State.staleRead_marks (s : State) (req r : Requester) : r ∈ (s.staleRead req).1.addr.stale ↔ r ∈ s.addr.stale ∧ r ≠ req := by
  simp [State.staleRead]

/-- SYS_STALE read answers the requester's own mark. -/
theorem State.staleRead_word (s : State) (req : Requester) : (s.staleRead req).2 = if req ∈ s.addr.stale then 1 else 0 := by
  simp [State.staleRead, b2n]

/-- A higher word read while the requester has a shadow of the value: its word, no longer fresh, and STALE where it was not. -/
theorem State.wideHigh_latched (s : State) (req : Requester) (lo k : Nat) (h : Shadow)
    (found : s.addr.shadows.find? (fun h => h.req == req && h.addr == lo) = some h) :
    (s.wideHigh req lo k).2 = h.words.getD k 0 ∧ (h.fresh.getD k false = false → req ∈ (s.wideHigh req lo k).1.addr.stale) ∧
    (h.fresh.getD k false = true → (s.wideHigh req lo k).1.addr.stale = s.addr.stale) ∧
    (s.wideHigh req lo k).1 = { s with addr := (s.wideHigh req lo k).1.addr } := by
  unfold State.wideHigh
  rw [found]
  dsimp only
  cases h.fresh.getD k false
  · exact ⟨rfl, fun _ => State.setStale_mem _ req, nofun, rfl⟩
  · exact ⟨rfl, nofun, fun _ => rfl, rfl⟩

/-- A higher word read with nothing latched: 0, and STALE. -/
theorem State.wideHigh_unlatched (s : State) (req : Requester) (lo k : Nat)
    (found : s.addr.shadows.find? (fun h => h.req == req && h.addr == lo) = none) : s.wideHigh req lo k = (s.setStale req, 0) := by
  simp only [State.wideHigh, found]

/-! ### The rows of reads -/

/-- A row whose read is of its kind answers it while the CSR space is live. -/
theorem State.readBytes_live {s : State} (live : s.csrLive = true) (x : CsrRead) {ok : Bool} (r : State × Nat)
    (nat : natural x.addr x.width = true) (h : ok = true) : s.readBytes x ok r = .next (r.1.returns (narrowed x.addr x.width r.2)) := by
  simp only [State.readBytes, State.readRow, live, nat, h, Bool.and_self, if_true]

/-- A row that reads one CSR answers it while the CSR space is live. -/
theorem State.readRow_live {s : State} (live : s.csrLive = true) (r : State × Nat) : s.readRow true r = .next (r.1.returns r.2) := by
  simp only [State.readRow, live, Bool.and_self, if_true]

/-- While the CSR space is not live a row of reads does nothing. -/
theorem State.readRow_dead {s : State} (dead : s.csrLive = false) (ok : Bool) (r : State × Nat) : s.readRow ok r = .next s := by
  simp only [State.readRow, dead, Bool.false_and, Bool.false_eq_true, if_false]

theorem State.readBytes_dead {s : State} (dead : s.csrLive = false) (x : CsrRead) (ok : Bool) (r : State × Nat) :
    s.readBytes x ok r = .next s := s.readRow_dead dead _ _

theorem exec_wideValueLowRead {s : State} (live : s.csrLive = true) (req : Requester) {a width n : Nat} (nat : natural a width = true)
    (low : wideOf (a / 4 * 4) = some (a / 4 * 4, n)) (hn : n ≠ 0) :
    exec (.wideValueLowRead req ⟨a, width⟩) s =
      .next ((s.wideLow req (a / 4 * 4) n).1.returns (narrowed a width (s.csrShow (a / 4 * 4)))) := by
  change execWideValueLowRead req ⟨a, width⟩ s = _
  simp only [execWideValueLowRead, low, if_true]
  rw [State.readBytes_live live ⟨a, width⟩ _ nat (by simpa using hn), State.wideLow_word _ _ _ hn]

theorem exec_wideValueHighRead {s : State} (live : s.csrLive = true) (req : Requester) {a width lo n : Nat} (nat : natural a width = true)
    (high : wideOf (a / 4 * 4) = some (lo, n)) (hlo : lo ≠ a / 4 * 4) :
    exec (.wideValueHighRead req ⟨a, width⟩) s =
      .next ((s.wideHigh req lo ((a / 4 * 4 - lo) / 4)).1.returns (narrowed a width (s.wideHigh req lo ((a / 4 * 4 - lo) / 4)).2)) := by
  change execWideValueHighRead req ⟨a, width⟩ s = _
  simp only [execWideValueHighRead, high]
  exact State.readBytes_live live ⟨a, width⟩ _ nat (by simpa using hlo)

theorem exec_rcFieldRead {s : State} (live : s.csrLive = true) (req : Requester) {a width : Nat} (nat : natural a width = true)
    (rc : (csrWord (a / 4 * 4)).any (fun f => f.acc == .rc) = true) :
    exec (.rcFieldRead req ⟨a, width⟩) s =
      .next ((s.csrRead req (a / 4 * 4)).1.returns (narrowed a width (s.csrRead req (a / 4 * 4)).2)) :=
  State.readBytes_live live ⟨a, width⟩ _ nat rc

/-! ### The read of a word by its kind -/

/-- A word with no part in a wide value and no reading rule of its own, outside the HMI block and the engine windows: its value, and
its RC fields cleared. -/
theorem State.csrRead_plain (s : State) (req : Requester) {a : Nat} (wide : wideOf a = none) (sealedPort : inSealed a = false) (stale : a ≠ 8)
    (aligned : a % 4 = 0) (hq : ¬ (0x3000000 ≤ a ∧ a < 0x3010000)) (hmi : ¬ (0xB0000 ≤ a ∧ a < 0xC0000))
    (eng : ¬ (0x1C00000 ≤ a ∧ a < 0x1F00000)) :
    s.csrRead req a = ((s.netCsr (requesterPlace req) a false).rcClear a, s.csrShow a) := by
  obtain ⟨m, hm⟩ := s.netCsr_mesh (requesterPlace req) a false
  have key : a ≠ 0xB0308 := by omega
  have pop : ¬ (0x3000000 ≤ a ∧ a < 0x3010000 ∧ a % 0x40 = 0xC) := fun h => hq ⟨h.1, h.2.1⟩
  unfold State.csrRead
  simp only [sealedPort, wide, stale, key, pop, if_false, Bool.false_eq_true]
  rw [hm, State.measured_outside _ a 1 (by omega) (by omega), State.csrShow_mesh]

/-- SYS_STALE read answers the requester's own mark and clears it. -/
theorem State.csrRead_stale (s : State) (req : Requester) : s.csrRead req 8 = (s.netCsr (requesterPlace req) 8 false).staleRead req := by
  unfold State.csrRead
  rfl

/-- KEY_FIFO read takes the oldest entry. -/
theorem State.csrRead_keyFifo (s : State) (req : Requester) :
    s.csrRead req 0xB0308 = (s.netCsr (requesterPlace req) 0xB0308 false).keyFifoTake := by
  unfold State.csrRead
  rfl

/-- LOG_DATA reads the words of the entry that LOG_SEL names. -/
theorem State.csrShow_logData (s : State) (k : Nat) (h : k < 8) : s.csrShow (0xD0040 + 4 * k) = s.logSelected k := by
  have fab : inFabricWin (0xD0040 + 4 * k) = false := by simp [inFabricWin]; omega
  unfold State.csrShow
  rw [fab, Bool.false_and, if_neg (by decide), if_neg (by omega), if_neg (by omega), if_neg (by omega), if_neg (by omega), if_neg (by omega),
    if_neg (by omega), if_neg (by omega), if_pos (by omega)]
  congr 1
  omega

end Sys2Proof.Machine

/-! SUPPORT. The statement of CSR reads settled. -/

namespace Sys2Proof.Machine

/-- Settles O45: each row answers through the read of its kind (`wideLow`, `wideHigh`, `staleRead`, `csrRead`, `keyFifoTake`), and a row of
reads does nothing while the CSR space is not live. -/
theorem csrReads : Obligations.CsrReads := by
  unfold Obligations.CsrReads
  refine ⟨?low, ?high, ?stale, ?rc, ?own, ?key, ?capture, ?log, ?dead⟩
  case low =>
    intro req a width n s b live nat wide hn
    refine ⟨_, exec_wideValueLowRead live req nat wide hn, rfl, s.wideLow_shadow req b n, fun h mem other => s.wideLow_others req b n mem other,
      fun f hf => s.wideLow_field req b n f hf, ?_⟩
    obtain ⟨r, d, hw⟩ := s.wideLow_frame req b n
    rw [hw]
    exact ⟨rfl, rfl⟩
  case high =>
    intro req a width lo n s b live nat wide hlo k
    refine ⟨fun h found => ?_, fun found => ?_⟩
    · obtain ⟨word, spent, fresh, frame⟩ := s.wideHigh_latched req lo k h found
      exact ⟨_, exec_wideValueHighRead live req nat wide hlo, congrArg (narrowed a width) word, spent, fresh, by rw [frame]; rfl⟩
    · refine ⟨_, exec_wideValueHighRead live req nat wide hlo, ?_⟩
      rw [s.wideHigh_unlatched req lo k found]
      exact ⟨by simp [State.returns, narrowed], s.setStale_mem req, rfl, rfl⟩
  case stale =>
    intro req s live
    exact ⟨_, State.readRow_live live (s.staleRead req), s.staleRead_word req, fun h => ((s.staleRead_marks req req).1 h).2 rfl,
      fun r mem ne => (s.staleRead_marks req r).2 ⟨mem, ne⟩, rfl⟩
  case rc =>
    intro req a width s b live nat rc wide sealedPort stale hq hmi eng
    refine ⟨_, exec_rcFieldRead live req nat rc, ?_⟩
    rw [State.csrRead_plain s req wide sealedPort stale (by omega) hq hmi eng]
    obtain ⟨m, hm⟩ := s.netCsr_mesh (requesterPlace req) b false
    obtain ⟨r, d, hr⟩ := (s.netCsr (requesterPlace req) b false).rcClear_frame b
    refine ⟨rfl, fun f hf => State.rcClear_field _ b f hf, ?_⟩
    rw [hr, hm]
    exact ⟨rfl, rfl⟩
  case own =>
    intro req a width s b live nat
    refine ⟨fun hb => ⟨_, exec_rcFieldRead live req nat (by rw [show a / 4 * 4 = 8 from hb]; decide), ?_⟩,
      fun hb => ⟨_, exec_rcFieldRead live req nat (by rw [show a / 4 * 4 = 0xB0308 from hb]; decide), ?_⟩⟩
    · obtain ⟨m, hm⟩ := s.netCsr_mesh (requesterPlace req) 8 false
      rw [show a / 4 * 4 = 8 from hb, State.csrRead_stale, hm]
      exact ⟨congrArg (narrowed a width) (State.staleRead_word _ req), fun h => ((State.staleRead_marks _ req req).1 h).2 rfl⟩
    · obtain ⟨m, hm⟩ := s.netCsr_mesh (requesterPlace req) 0xB0308 false
      rw [show a / 4 * 4 = 0xB0308 from hb, State.csrRead_keyFifo, hm]
      exact ⟨rfl, rfl⟩
  case key =>
    intro s live
    have row := State.readRow_live live s.keyFifoTake
    exact ⟨fun k r hk => ⟨_, row, congrArg (·.headD 0) hk, congrArg (·.drop 1) hk⟩,
      fun hk => ⟨_, row, congrArg (·.headD 0) hk, congrArg (·.drop 1) hk⟩⟩
  case capture =>
    intro req c s live
    exact ⟨_, State.readRow_live live (s.wideLow req (captureAddr c) 4), s.wideLow_word req (n := 4) (captureAddr c) (by decide), _,
      List.mem_of_find?_eq_some (s.wideLow_shadow req (captureAddr c) 4), rfl, rfl, rfl, rfl⟩
  case log =>
    intro req s live
    have word : (s.wideLow req 0xD0040 8).2 = s.logSelected 0 := by
      rw [s.wideLow_word req _ (by decide)]
      exact s.csrShow_logData 0 (by decide)
    refine ⟨_, State.readRow_live live (s.wideLow req 0xD0040 8), fun e found => ⟨?_, _,
      List.mem_of_find?_eq_some (s.wideLow_shadow req 0xD0040 8), rfl, rfl, List.map_congr_left fun k hk => ?_⟩, fun found => ?_⟩
    · refine word.trans ?_
      rw [State.logSelected, found]
    · rw [s.csrShow_logData k (List.mem_range.1 hk), State.logSelected, found]
    · refine word.trans ?_
      rw [State.logSelected, found]
  case dead =>
    intro req a width c s dead
    simp only [List.forall_mem_cons]
    refine ⟨s.readBytes_dead dead _ _ _, ?high, s.readRow_dead dead _ _, s.readBytes_dead dead _ _ _, s.readRow_dead dead _ _,
      s.readRow_dead dead _ _, s.readRow_dead dead _ _, List.forall_mem_nil _⟩
    change execWideValueHighRead req ⟨a, width⟩ s = _
    unfold execWideValueHighRead
    dsimp only
    split
    · exact s.readBytes_dead dead _ _ _
    · rfl

end Sys2Proof.Machine

/-! SUPPORT. Writes of CSRs: what a register's fields take of a word, the words of wide values held, and what each write does. -/

namespace Sys2Proof.Machine

/-! ### The fields of a word written (R11) -/

/-- The RW field of a word, alone in it and whole, takes its bits. -/
theorem State.fieldsPut_rw (s : State) {a w : Nat} {b : Bitf} (word : csrWord a = [b]) (acc : b.acc = .rw) (off : b.off = 0)
    (width : b.width = b.home.width) : (s.fieldsPut a w).get b.home = bits w b.lsb b.width % 2 ^ b.width := by
  simp only [State.fieldsPut, word, List.foldl_cons, List.foldl_nil, acc, off]
  rw [State.get_put_same, width]
  exact cut_setBits_low _ _ _

/-- The RO field of a word, alone in it, and with it the state, stays. -/
theorem State.fieldsPut_ro (s : State) {a w : Nat} {b : Bitf} (word : csrWord a = [b]) (acc : b.acc = .ro) : s.fieldsPut a w = s := by
  simp only [State.fieldsPut, word, List.foldl_cons, List.foldl_nil, acc]

/-- The W1C bit of a word, alone in it, is cleared by a 1 and stays under a 0. -/
theorem State.fieldsPut_w1c (s : State) {a w : Nat} {b : Bitf} (word : csrWord a = [b]) (acc : b.acc = .w1c) (off : b.off = 0)
    (width : b.width = 1) (home : b.home.width = 1) (le : s.get b.home ≤ 1) :
    (s.fieldsPut a w).get b.home = if bit w b.lsb then 0 else s.get b.home := by
  simp only [State.fieldsPut, word, List.foldl_cons, List.foldl_nil, acc, off, State.clrBits, width]
  rw [State.get_put_same, home]
  have hw : bits w b.lsb 1 < 2 := Nat.mod_lt _ (by decide)
  unfold bit
  interval_cases bits w b.lsb 1 <;> interval_cases s.get b.home <;> rfl

/-- A word where nothing is defined has no field to write. -/
theorem State.fieldsPut_undefined (s : State) {a : Nat} (w : Nat) (word : csrWord a = []) : s.fieldsPut a w = s := by
  rw [State.fieldsPut, word, List.foldl_nil]

/-! ### Words held (R401) -/

theorem State.hold_found (s : State) (req : Requester) (a w : Nat) :
    (s.hold req a w).addr.held.find? (fun h => h.req == req && h.addr == a) = some { req := req, addr := a, word := w } :=
  find?_replaced _ _ (by simp)

theorem State.hold_others (s : State) (req : Requester) (a w : Nat) {h : Held} (mem : h ∈ s.addr.held) (other : ¬ (h.req = req ∧ h.addr = a)) :
    h ∈ (s.hold req a w).addr.held := by
  refine List.mem_append_left _ (List.mem_filter.2 ⟨mem, ?_⟩)
  simpa only [Bool.not_eq_true', Bool.eq_false_iff, ne_eq, Bool.and_eq_true, beq_iff_eq] using other

/-- The words taken are held no longer. -/
theorem State.takeHeld_taken (s : State) (req : Requester) (lo hi : Nat) {h : Held} (mem : h ∈ (s.takeHeld req lo hi).1.addr.held) :
    ¬ (h.req = req ∧ lo ≤ h.addr ∧ h.addr < hi) := by
  simpa only [Bool.not_eq_true', Bool.eq_false_iff, ne_eq, Bool.and_eq_true, beq_iff_eq, decide_eq_true_eq] using (List.mem_filter.1 mem).2

/-! ### A word written by a requester -/

/-- A word of a wide value that can be written is held, and the highest writes the value. -/
theorem State.csrWrite_wide (s : State) (req : Requester) {a lo n : Nat} (w : Nat) (sealedPort : inSealed a = false) (wide : wideOf a = some (lo, n))
    (on : (inFabricWin a && !s.fabricPowered) = false) (rest : s.runningWin lo = none) :
    s.csrWrite req a w =
      if a = lo + 4 * (n - 1) then
        (((s.netCsr (requesterPlace req) a true).takeHeld req lo a).1.wideStore lo
          (((s.netCsr (requesterPlace req) a true).takeHeld req lo a).2 ++ [some w]))
      else (s.netCsr (requesterPlace req) a true).hold req a w := by
  obtain ⟨m, hm⟩ := s.netCsr_mesh (requesterPlace req) a true
  have on' : (inFabricWin a && !({ s with mesh := m } : State).fabricPowered) = false := on
  have rest' : ({ s with mesh := m } : State).runningWin lo = none := rest
  unfold State.csrWrite
  dsimp only
  rw [hm, if_neg (by simp [sealedPort]), wide]
  dsimp only
  rw [if_neg (by simp [on']), rest']

/-- A write to a sealed port is refused and logged. -/
theorem State.csrWrite_sealed (s : State) (req : Requester) {a : Nat} (w : Nat) (h : inSealed a = true) :
    s.csrWrite req a w = (s.netCsr (requesterPlace req) a true).portDeny (if a < 0xAC000 then 0 else 1)
      (match req with | .tile t => t.val | .host => 0xFFFF) := by
  unfold State.csrWrite
  exact if_pos h

/-- A write where nothing is defined, in the blocks without a register of their own action, changes nothing but the network. -/
theorem State.csrWrite_undefined (s : State) (req : Requester) {a : Nat} (w : Nat) (wide : wideOf a = none) (word : csrWord a = [])
    (block : 0x30000 ≤ a ∧ a < 0x60000 ∨ 0x3010000 ≤ a) : s.csrWrite req a w = s.netCsr (requesterPlace req) a true := by
  have sealedPort : inSealed a = false := by simp [inSealed]; omega
  have fab : inFabricWin a = false := by simp [inFabricWin]; omega
  unfold State.csrWrite
  dsimp only
  rw [if_neg (by simp [sealedPort]), wide]
  dsimp only
  unfold State.csrPut
  rw [fab, Bool.false_and, if_neg (by omega), if_neg (by omega), if_neg (by omega), if_neg (by omega), if_neg (by omega), if_neg (by omega),
    if_neg (by omega), if_neg (by omega), if_neg (by omega), if_neg (by omega), if_neg (by decide), if_neg (by omega), if_neg (by omega),
    if_neg (by omega), if_neg (by omega), State.fieldsPut_undefined _ _ word]

/-! ### The rows of writes -/

theorem exec_registerWrite (req : Requester) (a width : Nat) (w : Word) (s : State) :
    exec (.registerWrite req a width w) s = .next (if !s.csrLive || decide (0x4000000 ≤ a) then s
      else if inSealed a || (width == 4 && natural a 4) then s.csrWrite req a w.toNat else s) := rfl

theorem exec_wideValueWrite (req : Requester) (a : Nat) (w : Word) (s : State) :
    exec (.wideValueWrite req a w) s =
      .next (if s.csrLive && (wideOf a).isSome && a % 4 == 0 then s.csrWrite req a w.toNat else s) := rfl

/-- An aligned word is written whole. -/
theorem natural_word {a : Nat} : natural a 4 = true ↔ a % 4 = 0 := by simp [natural]

theorem lt_of_inSealed {a : Nat} (h : inSealed a = true) : a < 0x4000000 := by
  have := of_decide_eq_true h
  omega

end Sys2Proof.Machine

/-! SUPPORT. Host access through BAR4, and the statement of CSR writes settled. -/

namespace Sys2Proof.Machine

/-! ### BAR4 (R398) -/

/-- In DOZE every access completes with Unsupported Request. -/
theorem exec_bar4Access_doze (off len : Nat) (wr : Option (List Byte)) {s : State} (plinth : s.plinthPowered = true)
    (kettle : s.kettleOn = true) (cur : s.cur = 2) : exec (.bar4Access off len wr) s = .next (s.bar4Ends 1 false []) := by
  change execBar4Access off len wr s = _
  unfold execBar4Access
  exact if_pos (by simp [plinth, kettle, cur])

/-- An access of `n` bytes from `a` inside the BAR: it ends with Unsupported Request outside memory, waits for a channel or for its
admission, or is done. -/
def State.bar4Go (s : State) (a n : Nat) (done : State → State) : Host.Outcome State Fault Refusal :=
  if !s.allMem a n then .next (s.bar4Ends 1 false [])
  else if s.mustWait a n then .next s
  else if !(s.admitAll .pcie (blocks64 a n)).2 then .next (s.admitAll .pcie (blocks64 a n)).1
  else .next (done (s.admitAll .pcie (blocks64 a n)).1)

/-- A write admitted and done. -/
def State.bar4Write (a : Nat) (b : List Byte) (v : State) : State :=
  ((v.netAccess plinthPlace a b.length true).writeMem 3 a b).bar4Ends 0 false []

/-- A read admitted and done: the state after it, its bytes and whether they are poisoned. -/
def State.bar4Read (a n : Nat) (v : State) : State :=
  let r := (v.netAccess plinthPlace a n false).readMem 3 a n
  r.1.bar4Ends 0 r.2.2 r.2.1

/-- While the CSR space is live BAR4 is not in DOZE. -/
theorem not_doze_of_live {s : State} (live : s.csrLive = true) : ¬ (s.plinthPowered && s.kettleOn && s.cur == 2) = true := by
  unfold State.csrLive at live
  simp at live ⊢
  omega

theorem exec_bar4Access_write {s : State} (live : s.csrLive = true) {off : Nat} (len : Nat) {b : List Byte} (inside : off + b.length ≤ 2 ^ 34) :
    exec (.bar4Access off len (some b)) s =
      s.bar4Go (s.get Reg.SYS_BAR4_BASE * 2 ^ 34 + off) b.length (State.bar4Write (s.get Reg.SYS_BAR4_BASE * 2 ^ 34 + off) b) := by
  change execBar4Access off len (some b) s = _
  unfold execBar4Access
  exact (if_neg (not_doze_of_live live)).trans (if_neg (by rw [live]; simpa using inside))

theorem exec_bar4Access_read {s : State} (live : s.csrLive = true) {off len : Nat} (inside : off + len ≤ 2 ^ 34) :
    exec (.bar4Access off len none) s =
      s.bar4Go (s.get Reg.SYS_BAR4_BASE * 2 ^ 34 + off) len (State.bar4Read (s.get Reg.SYS_BAR4_BASE * 2 ^ 34 + off) len) := by
  change execBar4Access off len none s = _
  unfold execBar4Access
  exact (if_neg (not_doze_of_live live)).trans (if_neg (by rw [live]; simpa using inside))

theorem State.bar4Go_outside {s : State} {a n : Nat} (out : s.allMem a n = false) (done : State → State) :
    s.bar4Go a n done = .next (s.bar4Ends 1 false []) := by
  rw [State.bar4Go, if_pos (by simpa using out)]

theorem State.bar4Go_waits {s : State} {a n : Nat} (mem : s.allMem a n = true) (wait : s.mustWait a n = true) (done : State → State) :
    s.bar4Go a n done = .next s := by
  rw [State.bar4Go, if_neg (by simpa using mem), if_pos wait]

theorem State.bar4Go_admitted {s v : State} {a n : Nat} (mem : s.allMem a n = true) (go : s.mustWait a n = false)
    (admitted : s.admitAll .pcie (blocks64 a n) = (v, true)) (done : State → State) : s.bar4Go a n done = .next (done v) := by
  rw [State.bar4Go, if_neg (by simpa using mem), if_neg (by simpa using go), admitted]
  rfl

/-- A write done through BAR4 changes no byte outside its range. -/
theorem State.bar4Write_outside {s v : State} (frame : AdmitFrame s v) {a : Nat} {b : List Byte} {x : Nat} (h : x < a ∨ a + b.length ≤ x) :
    (State.bar4Write a b v).byteAt x = s.byteAt x :=
  (State.writeMem_outside _ 3 h).trans (sameMemory_trans frame.sameMemory (v.netAccess_sameMemory _ _ _ _) x)

/-- A write done through BAR4 leaves its bytes in its range where no error block of the range has an error. -/
theorem State.bar4Write_inside {s v : State} (frame : AdmitFrame s v) {a : Nat} {b : List Byte} (mem : s.allMem a b.length = true)
    (clean : ∀ x, a ≤ x + 63 → x < a + b.length → tget 0 s.ecc x = 0) {k : Nat} (hk : k < b.length) :
    (State.bar4Write a b v).byteAt (a + k) = b.getD k 0 := by
  have ecc : (v.netAccess plinthPlace a b.length true).ecc = s.ecc := by
    obtain ⟨m, hm⟩ := v.netAccess_mesh plinthPlace a b.length true
    obtain ⟨_, _, _, _, _, rfl⟩ := frame
    rw [hm]
  exact State.writeMem_inside _ 3 (State.allMem_caddy mem) (by rwa [ecc]) hk

/-- A read done through BAR4 completes with the bytes that stood there and the mark of MEM_UE. -/
theorem State.bar4Read_answer {s v : State} (frame : AdmitFrame s v) (a n : Nat) :
    (State.bar4Read a n v).addr.bar4 = (0, ((v.netAccess plinthPlace a n false).readMem 3 a n).2.2, s.bytesAt a n) := by
  rw [← bytesAt_congr (sameMemory_trans frame.sameMemory (v.netAccess_sameMemory plinthPlace a n false)) a n]
  rfl

/-- A read done through BAR4 changes no byte. -/
theorem State.bar4Read_sameMemory {s v : State} (frame : AdmitFrame s v) (a n : Nat) : SameMemory s (State.bar4Read a n v) :=
  sameMemory_trans (sameMemory_trans frame.sameMemory (v.netAccess_sameMemory plinthPlace a n false)) (State.readMem_frame _ 3 a n).sameMemory

/-- Settles O46: each write through the lemma of its kind, PEEK and POKE as commands that reach their run, and BAR4 through the bytes that
an admitted access reads or writes. -/
theorem csrWritesAndBar4 : Obligations.CsrWritesAndBar4 := by
  unfold Obligations.CsrWritesAndBar4
  refine ⟨?rows, ?held, ?hold, ?highest, ?undefined, ?fields, ?commands, ?measured, ?doze, ?bar4⟩
  case rows =>
    intro req a width w s
    refine ⟨fun h => ?_, fun live port h => ?_, fun live port => ?_, fun h live aligned lt => ?_, fun live aligned wide => ?_, fun dead => ?_⟩
    · rw [exec_registerWrite, if_pos (by simpa using h)]
    · rw [exec_registerWrite, port, if_neg (c := (false || _) = true) (by simpa [natural_word, ← not_and_or] using h), ite_self]
    · rw [exec_registerWrite, live, port, if_neg (by simpa using lt_of_inSealed port), Bool.true_or, if_pos rfl]
      exact congrArg Host.Outcome.next (s.csrWrite_sealed req _ port)
    · rw [exec_registerWrite, live, h, if_neg (by simpa using lt), if_pos (by simp [natural_word, aligned])]
    · rw [exec_wideValueWrite, if_pos (by simp [live, wide, aligned])]
    · rw [exec_wideValueWrite, if_neg (by simp [dead])]
  case held =>
    intro req a lo n w s port wide on rest ne
    rw [State.csrWrite_wide s req w port wide on rest, if_neg ne]
  case hold =>
    intro req a w s u
    exact ⟨s.hold_found req a w, fun h mem other => s.hold_others req a w mem other, rfl⟩
  case highest =>
    intro req a lo n w s port wide on rest eq q
    exact ⟨by rw [State.csrWrite_wide s req w port wide on rest, if_pos eq], fun h mem => q.takeHeld_taken req lo a mem⟩
  case undefined =>
    intro req a w s wide word block
    exact s.csrWrite_undefined req w wide word block
  case fields =>
    intro a w s b word
    exact ⟨fun acc off width => s.fieldsPut_rw word acc off width, fun acc => s.fieldsPut_ro word acc,
      fun acc off width home le => s.fieldsPut_w1c word acc off width home le⟩
  case commands =>
    intro s b u p c
    have peek (h : Reaches peekOp s p c b u) : exec (.peek p) s = .next (answered b c (peekRun u c)) := serve_of_reaches h
    have poke (h : Reaches pokeOp s p c b u) : exec (.poke p) s = .next (answered b c (pokeRun u c)) := serve_of_reaches h
    refine ⟨fun h refused => ?_, fun h taken => ?_, fun h refused => ?_, fun h taken => ?_⟩
    · rw [peek h, peekRun, if_pos refused]
    · rw [peek h, peekRun, if_neg (by simp [taken])]
    · rw [poke h, pokeRun, if_pos refused]
    · rw [poke h, pokeRun, if_neg (by simp [taken])]
  case measured =>
    intro a n s hmi eng
    exact s.measured_outside a n hmi eng
  case doze =>
    intro off len wr s plinth kettle cur
    exact exec_bar4Access_doze off len wr plinth kettle cur
  case bar4 =>
    intro off len wr s live a n inside
    have row : ∃ done, exec (.bar4Access off len wr) s = s.bar4Go a n done := by
      cases wr with
      | none => exact ⟨_, exec_bar4Access_read live inside⟩
      | some b => exact ⟨_, exec_bar4Access_write live len inside⟩
    obtain ⟨done, row⟩ := row
    refine ⟨fun out => row.trans (State.bar4Go_outside out done), fun mem wait => row.trans (State.bar4Go_waits mem wait done),
      fun mem go v admitted => ?_⟩
    have frame : AdmitFrame s v := by simpa [admitted] using s.admitAll_frame .pcie (blocks64 a n)
    constructor
    · rintro b rfl
      exact ⟨_, (exec_bar4Access_write live len inside).trans (State.bar4Go_admitted mem go admitted _), rfl,
        fun x out => State.bar4Write_outside frame out, fun clean k hk => State.bar4Write_inside frame mem clean hk⟩
    · rintro rfl
      exact ⟨_, (exec_bar4Access_read live inside).trans (State.bar4Go_admitted mem go admitted _), State.bar4Read_answer frame a n,
        State.bar4Read_sameMemory frame a n⟩

end Sys2Proof.Machine

/-! SUPPORT. The packet layer's own answers: what each step of Table CMD-7 that stops a packet sends, and the statements that rest on them. -/

namespace Sys2Proof.Machine
set_option Elab.async false

/-! ### From a row to the packet layer -/

/-- The row of a command is served by its chapter's entry. -/
theorem exec_of_commandOf {s : State} {i : Instr} {op : OpSpec} {p : Packet} (h : commandOf s i = some (op, p)) :
    exec i s = serve op p s := by
  cases i <;> simp only [commandOf, Option.some.injEq, Prod.mk.injEq, reduceCtorEq] at h <;> obtain ⟨rfl, rfl⟩ := h <;> rfl

/-- A row's packet that its transport gives up enters the packet layer, and IDLE has ended. -/
theorem exec_of_taken {s s1 : State} {i : Instr} {op : OpSpec} {p : Packet} (h : commandOf s i = some (op, p))
    (code : p.opcode.toNat = op.code) (taken : s.takePacket p = some s1) :
    exec i s = .next (servePacket op s1.leaveIdle p).settleCastChain := by
  rw [exec_of_commandOf h, serve_answers op p s (by simp [code]), taken]

/-! ### Steps 1 to 7: what stops a packet -/

section
variable {p : Packet} (op : OpSpec) (s : State)

theorem servePacket_dropped (h : p.magic ≠ 0x4D37 ∨ p.fReply = true) : servePacket op s p = s.bumpSat Reg.CMD_DROPS_COUNT 1 :=
  if_pos h

/-- The length is wrong: LEN beyond its limit, or another number of bytes behind the header (R28). -/
abbrev lenBad (p : Packet) : Prop := 4064 < p.len.toNat ∨ p.body.length ≠ p.len.toNat + (if p.fAuth then 16 else 0)

variable (magic : p.magic = 0x4D37) (reply : p.fReply = false)
include magic reply

theorem servePacket_lenBad (len : lenBad p) : servePacket op s p = s.answerErr p false [] 3 op.expect := by
  unfold servePacket
  rw [if_neg (by simp [magic, reply]), if_pos len]

variable (len : ¬ lenBad p)
include len

theorem servePacket_crcBad (crc : crc32c p.covered ≠ p.crc.toNat) : servePacket op s p = s.answerErr p false [] 4 0 := by
  unfold servePacket
  rw [if_neg (by simp [magic, reply]), if_neg len, if_pos crc]

variable (crc : crc32c p.covered = p.crc.toNat)
include crc

theorem servePacket_verBad (ver : p.ver ≠ 1) : servePacket op s p = s.answerErr p false [] 2 1 := by
  unfold servePacket
  rw [if_neg (by simp [magic, reply]), if_neg len, if_neg (not_not.2 crc), if_pos ver]

variable (ver : p.ver = 1)
include ver

theorem servePacket_flagsBad (flags : 16 ≤ p.flags.toNat) : servePacket op s p = s.answerErr p false [] 2 2 := by
  unfold servePacket
  rw [if_neg (by simp [magic, reply]), if_neg len, if_neg (not_not.2 crc), if_neg (not_not.2 ver), if_pos flags]

theorem servePacket_roleBad (flags : p.flags.toNat < 16) (role : roleOnTransport p = false) :
    servePacket op s p = s.answerErr p false [] 5 2 := by
  unfold servePacket
  rw [if_neg (by simp [magic, reply]), if_neg len, if_neg (not_not.2 crc), if_neg (not_not.2 ver), if_neg (not_le.2 flags),
    if_pos (by simp [role])]

end

/-- Step 8: SESSION 0 with AUTH, or a SESSION that is no open one of the role. -/
theorem serveSession_none {p : Packet} (op : OpSpec) {s : State}
    (h : p.session = 0 ∧ p.fAuth = true ∨ p.session ≠ 0 ∧ s.session p.session.toNat p.role.toNat = none) :
    serveSession op s p = s.answerErr p false [] 5 5 := by
  unfold serveSession
  obtain ⟨zero, auth⟩ | ⟨nonzero, closed⟩ := h
  · rw [if_pos zero, if_pos auth]
  · rw [if_neg nonzero, closed]

/-- Settles O2: the row's packet enters the packet layer, and each step's own lemma tells what it sends. -/
theorem packetLayerErrors : Obligations.PacketLayerErrors := by
  unfold Obligations.PacketLayerErrors
  refine ⟨fun i s s1 op p row code taken drop => ?_, fun i s s1 op p row code taken magic reply => ?_⟩
  · rw [exec_of_taken row code taken, servePacket_dropped op _ drop]
  · intro err lenBad
    have answers {st d : Nat} (h : servePacket op s1.leaveIdle p = s1.leaveIdle.answerErr p false [] st d) : err st d := by
      change exec i s = _
      rw [exec_of_taken row code taken, h]
    refine ⟨fun len => answers ?_, fun len crc => answers ?_, fun len crc ver => answers ?_, fun len crc ver flags => answers ?_,
      fun len crc ver flags role => answers ?_, fun framed session => answers ?_⟩
    · exact servePacket_lenBad op _ magic reply len
    · exact servePacket_crcBad op _ magic reply len crc
    · exact servePacket_verBad op _ magic reply len crc ver
    · exact servePacket_flagsBad op _ magic reply len crc ver flags
    · exact servePacket_roleBad op _ magic reply len crc ver flags role
    · rw [servePacket_framed framed, serveSession_none op session]

/-- A role and a transport that are no pair of Table CMD-4 may not be used together. -/
theorem roleOnTransport_unlisted {p : Packet} (h : ∀ e : Nat × Transport, (e = (0, .pcie) ∨ e = (0, .spi) ∨ e = (1, .smbus) ∨
    e = (1, .i3c) ∨ (∃ d, e = (2, .holwell d)) ∨ (∃ d, e = (3, .fabric d))) → e ≠ (p.role.toNat, p.via)) : roleOnTransport p = false := by
  have other {n : Nat} {r : Byte} (hr : r.toNat = n) (k : n ≠ p.role.toNat) : (p.role == r) = false :=
    beq_eq_false_iff_ne.2 fun e => k (by rw [e, hr])
  have pair (n : Nat) (listed : ((n, p.via) : Nat × Transport) = (0, .pcie) ∨ (n, p.via) = (0, .spi) ∨ (n, p.via) = (1, .smbus) ∨
      (n, p.via) = (1, .i3c) ∨ (∃ d, (n, p.via) = (2, .holwell d)) ∨ (∃ d, (n, p.via) = (3, .fabric d))) : n ≠ p.role.toNat :=
    fun e => h (n, p.via) listed (by rw [e])
  unfold roleOnTransport
  split
  · rename_i via; exact other rfl (pair 0 (by simp [via]))
  · rename_i via; exact other rfl (pair 0 (by simp [via]))
  · rename_i via; exact other rfl (pair 1 (by simp [via]))
  · rename_i via; exact other rfl (pair 1 (by simp [via]))
  · rename_i d via; exact other rfl (pair 2 (by simp [via]))
  · rename_i d via
    have no : (p.role == 3) = false := other rfl (pair 3 (by simp [via]))
    rw [no, Bool.false_and, Bool.false_and]

/-- Settles O55: such a packet fails step 7 of Table CMD-7. -/
theorem rolesKeepToTheirTransports : Obligations.RolesKeepToTheirTransports := by
  unfold Obligations.RolesKeepToTheirTransports
  intro i s s1 op p row code taken magic reply len body crc ver flags unlisted
  rw [exec_of_taken row code taken, servePacket_roleBad op _ magic reply (by unfold lenBad; omega) crc ver flags
    (roleOnTransport_unlisted unlisted)]

/-! ### Step 9: duplicates -/

/-- A packet in its session comes to the SEQ check. -/
theorem exec_of_inSession {s s1 b : State} {i : Instr} {op : OpSpec} {p : Packet} {c : Ctx} (h : commandOf s i = some (op, p))
    (code : p.opcode.toNat = op.code) (taken : s.takePacket p = some s1) (framed : FramedRight p) (session : InSession s1.leaveIdle p c b) :
    exec i s = .next (serveSeq op b c).settleCastChain := by
  rw [exec_of_taken h code taken, servePacket_framed framed, serveSession_inSession session]

theorem seqCheck_duplicate {t : Stream} {p : Packet} {r : Record} (h : t.recs.find? (fun x => x.seq == p.seq.toNat) = some r)
    (crc : r.crc = p.crc.toNat) (sess : Option Session) : seqCheck t sess p = .dup r := by
  simp only [seqCheck, h, if_pos crc]

theorem seqCheck_otherCrc {t : Stream} {p : Packet} {r : Record} (h : t.recs.find? (fun x => x.seq == p.seq.toNat) = some r)
    (crc : r.crc ≠ p.crc.toNat) (sess : Option Session) : seqCheck t sess p = .refuse 0xFF02 := by
  simp only [seqCheck, h, if_neg crc]

theorem serveSeq_duplicate {op : OpSpec} {b : State} {c : Ctx} {r : Record}
    (dup : ∀ sess, seqCheck (b.stream c.p.stream) sess c.p = .dup r) :
    serveSeq op b c = if b.cmd.longOps.any (fun o => o.late && o.req == c.p) then b
      else if r.running then b.draw.deliver (replyTo c.p c.auth c.key 1 (Ans.code 1 b.estimate)) else b.deliver r.reply := by
  unfold serveSeq
  dsimp only
  rw [dup]

theorem serveSeq_refused {op : OpSpec} {b : State} {c : Ctx} {d : Nat}
    (refused : ∀ sess, seqCheck (b.stream c.p.stream) sess c.p = .refuse d) :
    serveSeq op b c = b.answerErr c.p c.auth c.key 0xE d := by
  unfold serveSeq
  dsimp only
  rw [refused]

/-- Settles O3: the record found decides the SEQ check, and what it finds is answered. -/
theorem duplicateIsAnsweredAgain : Obligations.DuplicateIsAnsweredAgain := by
  unfold Obligations.DuplicateIsAnsweredAgain
  intro i s s1 b op p c r row code taken framed session found unanswered
  have seq := exec_of_inSession row code taken framed session
  obtain rfl : c.p = p := packet_of_inSession session
  refine ⟨fun crc late => ?_, fun crc ended done => ?_, fun crc ended running => ?_, fun crc => ?_⟩
  · rw [seq, serveSeq_duplicate (seqCheck_duplicate found crc), if_pos late]
  · rw [seq, serveSeq_duplicate (seqCheck_duplicate found crc), if_neg (ne_true_of_eq_false ended), if_neg (ne_true_of_eq_false done)]
  · rw [seq, serveSeq_duplicate (seqCheck_duplicate found crc), if_neg (ne_true_of_eq_false ended), if_pos running]
  · rw [seq, serveSeq_refused (seqCheck_otherCrc found crc)]

/-! ### Steps 11 to 14 -/

/-- The reply to a request copies its VER, OPCODE, SEQ, ROLE and SESSION, is marked REPLY and is no part of a chain (R29). -/
theorem replyTo_header (p : Packet) (auth : Bool) (key : List Byte) (kind : Nat) (a : Ans) :
    let r := replyTo p auth key kind a
    r.ver = p.ver ∧ r.opcode = p.opcode ∧ r.seq = p.seq ∧ r.role = p.role ∧ r.session = p.session ∧ r.fReply = true ∧ r.fChain = false := by
  have marks (k : Bool) : (BitVec.ofNat 8 (1 + (if k then 2 else 0) + (if auth then 4 else 0))).getLsbD 0 = true ∧
      (BitVec.ofNat 8 (1 + (if k then 2 else 0) + (if auth then 4 else 0))).getLsbD 3 = false := by
    cases k <;> cases auth <;> decide
  have marks := marks (decide (kind = 2))
  simp only [decide_eq_true_eq] at marks
  unfold replyTo Packet.fReply Packet.fChain
  cases auth <;> exact ⟨rfl, rfl, rfl, rfl, rfl, marks⟩

/-- Settles O4: a packet that reaches its command is answered with the command's run. -/
theorem commandRunsWhenReached : Obligations.CommandRunsWhenReached := by
  unfold Obligations.CommandRunsWhenReached
  intro i s b u op p c row reaches
  exact ⟨by rw [exec_of_commandOf row, serve_of_reaches reaches], replyTo_header p c.auth c.key⟩

section
variable {op : OpSpec} {s : State} {c : Ctx}

theorem runOp_role (role : c.role ∉ op.roles) : runOp op s c = (s, Ans.code 5 1) := if_pos role

/-- A request that has the AUTH its command needs is not refused for it. -/
theorem authPasses (auth : op.auth s c = true → c.auth = true) : ¬ (op.auth s c && !c.auth) = true := by
  cases needs : op.auth s c
  · exact Bool.false_ne_true
  · simp [auth needs]

variable (role : c.role ∈ op.roles)
include role

theorem runOp_noAuth (needs : op.auth s c = true) (auth : c.auth = false) : runOp op s c = (s, Ans.code 5 3) := by
  unfold runOp
  rw [if_neg (not_not.2 role), if_pos (by simp [needs, auth])]

variable (auth : op.auth s c = true → c.auth = true)
include auth

theorem runOp_length (len : op.lenOk c.data = false) : runOp op s c = (s, Ans.code 3 op.expect) := by
  unfold runOp
  rw [if_neg (not_not.2 role), if_neg (authPasses auth), if_pos (by simp [len])]

theorem runOp_range (len : op.lenOk c.data = true) {d : Nat} (range : op.range s c = some d) : runOp op s c = (s, Ans.code 7 d) := by
  unfold runOp
  rw [if_neg (not_not.2 role), if_neg (authPasses auth), if_neg (by simp [len]), range]

end

/-- A fresh packet outside a chain is answered with what steps 11 to 14 make of it. -/
theorem exec_of_fresh {s s1 b : State} {i : Instr} {op : OpSpec} {p : Packet} {c : Ctx} (row : commandOf s i = some (op, p))
    (code : p.opcode.toNat = op.code) (known : opcodeKnown op.code = true) (taken : s.takePacket p = some s1) (framed : FramedRight p)
    (chain : p.fChain = false) (session : InSession s1.leaveIdle p c b)
    (fresh : seqCheck (b.stream p.stream) (seqSession b p) p = .fresh) (noChain : (b.stream p.stream).chain = none) :
    exec i s = .next (answered b c (runOp op (seqTaken b p) c)) := by
  obtain rfl : c.p = p := packet_of_inSession session
  rw [exec_of_inSession row code taken framed session, serveSeq_fresh fresh, serveFresh_unchained code known chain noChain]
  rfl

/-- Settles O5: each check of steps 11 and 12 by its own lemma. -/
theorem commandRefusedByItsChecks : Obligations.CommandRefusedByItsChecks := by
  unfold Obligations.CommandRefusedByItsChecks
  intro i s s1 b op p c d row code known taken framed chain session fresh noChain u err
  have answers {st d : Nat} (h : runOp op u c = (u, Ans.code st d)) : err st d := by
    change exec i s = _
    rw [exec_of_fresh row code known taken framed chain session fresh noChain, h]
  exact ⟨fun role => answers (runOp_role role), fun role needs auth => answers (runOp_noAuth role needs auth),
    fun role auth len => answers (runOp_length role auth len), fun role auth len range => answers (runOp_range role auth len range)⟩

end Sys2Proof.Machine

/-! SUPPORT. The transports of chapter 2: timeouts, the management port, the SPI target port and the PCIe mailbox. -/

namespace Sys2Proof.Machine
set_option Elab.async false

/-! ### Timeouts and the management port -/

/-- The management port answers while the kettle runs. -/
theorem State.mctpSay_on {s : State} (on : s.kettleOn = true) (o : MctpOut) :
    s.mctpSay o = { s with cmd := { s.cmd with mctpOut := s.cmd.mctpOut ++ [o] } } := if_pos on

/-- Settles O11: each event under the condition on which it acts. -/
theorem sessionsChainsAndManagementPort : Obligations.SessionsChainsAndManagementPort := by
  unfold Obligations.SessionsChainsAndManagementPort
  intro s
  refine ⟨fun n on => if_pos on, fun st ch chain => ?chain, fun plinth => congrArg Host.Outcome.next (if_pos plinth), fun on => ⟨?setEid,
    ?getEid, ?versions, ?types, fun a => if_pos on⟩⟩
  case chain =>
    change execChainTimeout st s = _
    unfold execChainTimeout
    dsimp only
    rw [chain]
  case setEid =>
    intro eid zero ones
    change execSetEndpointId eid s = _
    unfold execSetEndpointId
    rw [if_neg (not_or.2 ⟨zero, ones⟩), if_pos on, State.mctpSay_on (s := { s with cmd := { s.cmd with eid := eid } }) on]
  case getEid => exact congrArg Host.Outcome.next (State.mctpSay_on on _)
  case versions => exact fun ty => congrArg Host.Outcome.next (State.mctpSay_on (s := s.draw) on _)
  case types => exact congrArg Host.Outcome.next (State.mctpSay_on on _)

/-! ### The SPI target port (R53, R54) -/

theorem execWritePacket_packet {s : State} (up : s.stewardUp = true) {bytes : List Byte} {p : Packet} (packet : packetOf .spi bytes = some p) :
    execWritePacket bytes s = .next (if s.cmd.spiReq.length < 2 then
      { s with cmd := { s.cmd with spiReq := s.cmd.spiReq ++ [p], spiErr := false } } else s.spiDrop) := by
  unfold execWritePacket
  rw [if_neg (by simp [up]), packet, apply_ite Host.Outcome.next]

theorem execWritePacket_short {s : State} (up : s.stewardUp = true) {bytes : List Byte} (short : packetOf .spi bytes = none) :
    execWritePacket bytes s = .next s.spiDrop := by
  unfold execWritePacket
  rw [if_neg (by simp [up]), short]

theorem execReadReply_some {s : State} (up : s.stewardUp = true) {r : Packet} {rs : List Packet} (rpl : s.cmd.spiRpl = r :: rs) (whole : Bool) :
    execReadReply whole s =
      .next ({ s with cmd := { s.cmd with spiOut := r.bytes, spiRpl := if whole then rs else r :: rs } } : State).spiPlace := by
  unfold execReadReply
  rw [if_neg (by simp [up]), rpl]

theorem execReadReply_none {s : State} (up : s.stewardUp = true) (rpl : s.cmd.spiRpl = []) (whole : Bool) :
    execReadReply whole s = .next { s with cmd := { s.cmd with spiOut := [0, 0] } } := by
  unfold execReadReply
  rw [if_neg (by simp [up]), rpl]

theorem execReadStatus_up {s : State} (up : s.stewardUp = true) : execReadStatus s =
    .next { s with cmd := { s.cmd with spiErr := false, spiOut := [BitVec.ofNat 8 (8 * b2n s.cmd.spiErr +
      2 * b2n (decide (s.cmd.spiReq.length < 2)) + b2n (s.cmd.spiRpl != []))] } } := by
  unfold execReadStatus State.spiStatus
  rw [if_neg (by simp [up]), up]
  rfl

/-! ### Registers that a step may write -/

theorem regsBut_refl (fs : List Fld) (s : State) : RegsBut fs s s := fun _ _ => rfl

/-- A field outside the list keeps its value. -/
theorem get_of_regsBut {fs : List Fld} {s t : State} (h : RegsBut fs s t) {f : Fld} (out : ∀ g ∈ fs, g.key ≠ f.key) : t.get f = s.get f := by
  rw [State.get, State.get, tget, tget, h f.key out]

/-- A write of a listed field keeps the others. -/
theorem regsBut_put {fs : List Fld} {s t : State} (h : RegsBut fs s t) {f : Fld} (v : Nat) (mem : f ∈ fs) : RegsBut fs s (t.put f v) :=
  fun k hk => (t.regs_put_ne f v (hk f mem).symm).trans (h k hk)

/-- Ending IDLE changes PWR_STATE.CUR at most. -/
theorem regsBut_leaveIdle {fs : List Fld} {s t : State} (h : RegsBut fs s t) (mem : Reg.PWR_STATE_CUR ∈ fs) : RegsBut fs s t.leaveIdle := by
  unfold State.leaveIdle
  split
  · exact regsBut_put h 0 mem
  · exact h

theorem State.leaveIdle_regs (s : State) : ∃ r, s.leaveIdle = { s with regs := r } := by
  unfold State.leaveIdle
  split <;> exact ⟨_, rfl⟩

/-! ### The PCIe mailbox (R51, R52) -/

/-- The packets placed before TAIL wait in the ring, and TAIL is stored. -/
def State.ring (s : State) (tail : BitVec 16) (placed : List Packet) : State :=
  let n := (tail.toNat + 65536 - s.get Reg.MBX_REQ_TAIL_TAIL) % 65536
  ({ s with cmd := { s.cmd with mbxReq := s.cmd.mbxReq ++ (placed.take n).map (fun p => { p with via := .pcie }) } } : State).put
    Reg.MBX_REQ_TAIL_TAIL tail.toNat

theorem exec_mbxDoorbell {s : State} (plinth : s.plinthPowered = true) (tail : BitVec 16) (placed : List Packet) :
    exec (.mbxDoorbell tail placed) s = .next (if 8 < (tail.toNat + 65536 - s.get Reg.MBX_REQ_HEAD_HEAD) % 65536 then
      s.bumpSat Reg.CMD_DROPS_COUNT 1 else (s.ring tail placed).leaveIdle) := by
  change Host.Outcome.next (s.doorbell tail.toNat placed) = _
  unfold State.doorbell
  rw [if_neg (by simp [plinth])]
  rfl

/-- Where no reply waits none is placed. -/
theorem State.mbxPlaceN_noWait (n : Nat) {s : State} (h : s.cmd.mbxWait = []) : State.mbxPlaceN n s = s := by
  cases n with
  | zero => rfl
  | succ n => rw [State.mbxPlaceN, h]

theorem State.mbxPlace_noWait {s : State} (h : s.cmd.mbxWait = []) : s.mbxPlace = s.setFlag Reg.MBX_STATUS_HELD false := by
  unfold State.mbxPlace
  rw [State.mbxPlaceN_noWait 8 h]
  dsimp only
  rw [h]
  rfl

theorem exec_mbxRplHeadWrite {s : State} (plinth : s.plinthPowered = true) (wait : s.cmd.mbxWait = []) (head : BitVec 16) :
    exec (.mbxRplHeadWrite head) s = .next (({ s with cmd := { s.cmd with
      mbxRing := s.cmd.mbxRing.drop ((head.toNat + 65536 - s.get Reg.MBX_RPL_HEAD_HEAD) % 65536) } } : State).put
        Reg.MBX_RPL_HEAD_HEAD head.toNat |>.setFlag Reg.MBX_STATUS_HELD false) := by
  change Host.Outcome.next (s.rplHead head.toNat) = _
  unfold State.rplHead
  rw [if_neg (by simp [plinth])]
  exact congrArg Host.Outcome.next (State.mbxPlace_noWait wait)

/-- No cast hangs on a chain: nothing to settle. -/
theorem State.settleCastChain_none {s : State} (h : s.cast.chain = none) : s.settleCastChain = s := by
  unfold State.settleCastChain
  rw [h]

/-- The mailbox reset: rings and PCIe streams gone, the completions of PCIe operations silenced, the indices and HELD 0. -/
def State.mbxCleared (s : State) : State :=
  ((((({ s with cmd := { s.cmd with
    mbxReq := [], mbxRing := [], mbxWait := [], streams := s.cmd.streams.filter (fun t => t.id.via != .pcie)
    longOps := s.cmd.longOps.map (fun o => if o.req.via == .pcie then { o with silent := true } else o) } } : State).put
      Reg.MBX_REQ_TAIL_TAIL 0).put Reg.MBX_REQ_HEAD_HEAD 0).put Reg.MBX_RPL_TAIL_TAIL 0).put Reg.MBX_RPL_HEAD_HEAD 0).setFlag
        Reg.MBX_STATUS_HELD false

theorem exec_mbxReset {s : State} (plinth : s.plinthPowered = true) (chain : s.cast.chain = none) {w : Word} (reset : bit w.toNat 1 = true) :
    exec (.mbxReset w) s = .next ((s.put Reg.MBX_CTRL_IRQ_EN (bits w.toNat 2 1)).put Reg.MBX_CTRL_ENABLE (bits w.toNat 0 1)).mbxCleared := by
  change Host.Outcome.next (s.mbxCtrl w.toNat) = _
  unfold State.mbxCtrl
  rw [if_neg (by simp [plinth])]
  dsimp only
  rw [if_pos reset, State.settleCastChain_none]
  · rfl
  · exact chain

/-- After the reset the four indices read 0. -/
theorem State.mbxCleared_indices (s : State) : s.mbxCleared.get Reg.MBX_REQ_TAIL_TAIL = 0 ∧ s.mbxCleared.get Reg.MBX_REQ_HEAD_HEAD = 0 ∧
    s.mbxCleared.get Reg.MBX_RPL_TAIL_TAIL = 0 ∧ s.mbxCleared.get Reg.MBX_RPL_HEAD_HEAD = 0 := by
  unfold State.mbxCleared State.setFlag
  refine ⟨?_, ?_, ?_, ?_⟩
  · rw [State.get_put_ne _ _ (by decide), State.get_put_ne _ _ (by decide), State.get_put_ne _ _ (by decide),
      State.get_put_ne _ _ (by decide), State.get_put_same, Nat.zero_mod]
  · rw [State.get_put_ne _ _ (by decide), State.get_put_ne _ _ (by decide), State.get_put_ne _ _ (by decide), State.get_put_same, Nat.zero_mod]
  · rw [State.get_put_ne _ _ (by decide), State.get_put_ne _ _ (by decide), State.get_put_same, Nat.zero_mod]
  · rw [State.get_put_ne _ _ (by decide), State.get_put_same, Nat.zero_mod]

/-- Settles O12: each access through the lemma that says what it does. -/
theorem spiTargetAndMailbox : Obligations.SpiTargetAndMailbox := by
  unfold Obligations.SpiTargetAndMailbox
  refine ⟨fun s up => ⟨fun bytes p packet => ⟨fun free => ?kept, fun full => ?dropped⟩, fun bytes short => ?short,
    fun r rs rpl => ⟨?whole, ?partly⟩, fun whole rpl => ?noReply, ?status⟩,
    fun s plinth => ⟨fun tail placed near => ?taken, fun tail placed far => ?ahead, fun head wait => ?consumed, fun w reset chain => ?reset⟩⟩
  case kept => exact (execWritePacket_packet up packet).trans (by rw [if_pos free])
  case dropped => exact (execWritePacket_packet up packet).trans (by rw [if_neg (by omega)]; rfl)
  case short => exact execWritePacket_short up short
  case whole => exact ⟨_, execReadReply_some up rpl true, rfl, rfl, rfl⟩
  case partly =>
    refine ⟨_, execReadReply_some up rpl false, ?_, rfl⟩
    rw [rpl]
    exact List.take_append_drop 8 _
  case noReply => exact execReadReply_none up rpl whole
  case status => exact execReadStatus_up up
  case taken =>
    refine ⟨_, (exec_mbxDoorbell plinth tail placed).trans (by rw [if_neg (by omega)]), ?_, ?_, ?_, ?_⟩
    · rw [get_of_regsBut (regsBut_leaveIdle (regsBut_refl [Reg.PWR_STATE_CUR] _) (by simp)) (by decide)]
      exact (State.get_put_same _ _ _).trans (Nat.mod_eq_of_lt tail.isLt)
    · obtain ⟨r, hr⟩ := (s.ring tail placed).leaveIdle_regs
      rw [hr]
      rfl
    · obtain ⟨r, hr⟩ := (s.ring tail placed).leaveIdle_regs
      rw [hr]
      rfl
    · exact regsBut_leaveIdle (regsBut_put (fun _ _ => rfl) _ (by simp)) (by simp)
  case ahead => exact (exec_mbxDoorbell plinth tail placed).trans (by rw [if_pos far])
  case consumed =>
    refine ⟨_, exec_mbxRplHeadWrite plinth wait head, ?_, rfl, regsBut_put (regsBut_put (fun _ _ => rfl) _ (by simp)) _ (by simp)⟩
    rw [State.get_setFlag_ne _ _ (by decide), State.get_put_same]
    exact Nat.mod_eq_of_lt head.isLt
  case reset =>
    obtain ⟨reqTail, reqHead, rplTail, rplHead⟩ :=
      State.mbxCleared_indices ((s.put Reg.MBX_CTRL_IRQ_EN (bits w.toNat 2 1)).put Reg.MBX_CTRL_ENABLE (bits w.toNat 0 1))
    refine ⟨_, exec_mbxReset plinth chain reset, rfl, rfl, reqTail, reqHead, rplTail, rplHead, fun x hx => ?_⟩
    simpa using (List.mem_filter.1 hx).2

end Sys2Proof.Machine

/-! SUPPORT. The system commands of Table CMD-9: the session that is opened, the session that is closed, and what each answers. -/

namespace Sys2Proof.Machine
set_option Elab.async false

/-- A request that reaches its command is of the packet taken. -/
theorem packet_of_reaches {op : OpSpec} {s b u : State} {p : Packet} {c : Ctx} (h : Reaches op s p c b u) : c.p = p := by
  obtain ⟨-, -, -, -, ⟨_, -, session⟩, -⟩ := h
  exact packet_of_inSession session

/-! ### Opening a session (R46) -/

/-- A free number is one of 1 to 255 that no open session has. -/
theorem State.mem_freeSessions {s : State} {n : Nat} :
    n ∈ s.freeSessions ↔ (1 ≤ n ∧ n ≤ 255) ∧ ∀ y ∈ s.cmd.sessions, y.num ≠ n := by
  have range : (∃ k < 255, k + 1 = n) ↔ 1 ≤ n ∧ n ≤ 255 :=
    ⟨by rintro ⟨k, hk, rfl⟩; omega, fun ⟨_, _⟩ => ⟨n - 1, by omega, by omega⟩⟩
  simp [State.freeSessions, range]

/-- Fewer than 255 open sessions leave a number free. -/
theorem State.freeSessions_ne_nil {s : State} (h : s.cmd.sessions.length < 255) : s.freeSessions ≠ [] := by
  intro none
  have all : (List.range 255).map (· + 1) ⊆ s.cmd.sessions.map Session.num := by
    intro n hn
    obtain ⟨k, hk, rfl⟩ := List.mem_map.1 hn
    by_contra free
    have : k + 1 ∈ s.freeSessions := State.mem_freeSessions.2 ⟨by have := List.mem_range.1 hk; omega,
      fun y hy e => free (List.mem_map.2 ⟨y, hy, e⟩)⟩
    simp [none] at this
  have nodup : ((List.range 255).map (· + 1)).Nodup := List.nodup_range.map (add_left_injective 1)
  have := (nodup.subperm all).length_le
  simp only [List.length_map, List.length_range] at this
  omega

/-- The number drawn is a free one. -/
theorem State.drawnNumber_free {s : State} (h : s.cmd.sessions.length < 255) (k : Nat) :
    s.freeSessions.getD (k % s.freeSessions.length) 1 ∈ s.freeSessions := by
  have lt : k % s.freeSessions.length < s.freeSessions.length := Nat.mod_lt _ (List.length_pos_iff.2 (s.freeSessions_ne_nil h))
  rw [List.getD_eq_getElem _ _ lt]
  exact List.getElem_mem lt

/-- The session that SESSION_OPEN opens: a free number, the packet's role, a key derived from a fresh nonce. -/
def State.opened (s : State) (c : Ctx) : Session :=
  let n := s.freeSessions.getD (s.drawn 8 % s.freeSessions.length) 1
  { num := n, role := c.role, key := hmac (s.rootKey c.role) ([0x4D, 0x37, 0x53, 0x4B] ++ slice c.data 0 16 ++ s.draw.drawnBytes 16 ++ leBytes 1 n),
    started := false, last := 0, fails := 0, verified := s.time.up }

theorem sessionOpenRun_opens {s : State} {c : Ctx} (session : c.p.session = 0) (root : s.rootKey c.role ≠ [])
    (free : s.cmd.sessions.length < 8) : sessionOpenRun s c = (State.putSession { s with draws := s.draws + 2 } (s.opened c),
      Ans.ok (leBytes 1 (s.opened c).num ++ zeros 3 ++ s.draw.drawnBytes 16)) := by
  unfold sessionOpenRun
  dsimp only
  rw [if_neg (not_not.2 session), if_neg root, if_neg (by omega)]
  rfl

/-! ### Closing a session (R50) -/

@[simp] theorem State.logEvent_cmd (s : State) (code src : Nat) (data : List Byte) : (s.logEvent code src data).cmd = s.cmd := by
  obtain ⟨_, _, _, _, h⟩ := State.logEvent_frame s code src data
  rw [h]

/-- Settling the load that a chain opened leaves the command path as it is. -/
theorem State.settleCastChain_cmd (s : State) : s.settleCastChain.cmd = s.cmd := by
  unfold State.settleCastChain
  split
  · rfl
  · simp only [apply_ite State.cmd, State.logEvent_cmd, State.put_cmd, ite_self]

/-- After the reply to SESSION_CLOSE no session has its number. -/
theorem answered_sessionClose {b u : State} {c : Ctx} (code : c.p.opcode = 0x0103) (session : c.p.session ≠ 0) :
    ∀ x ∈ (answered b c (u, Ans.ok [])).cmd.sessions, x.num ≠ c.p.session.toNat := by
  intro x hx
  rw [answered, State.settleCastChain_cmd] at hx
  unfold finish at hx
  rw [if_neg (show ¬ (Ans.ok []).status = 6 by decide), if_pos (by exact ⟨session, .inr ⟨code, rfl⟩⟩)] at hx
  simpa using (List.mem_filter.1 hx).2

/-! ### KEY_PROVISION (R48) -/

/-- A root key stored, with its NVM record. -/
def State.provisioned (s : State) (role : Nat) (k : List Byte) : State :=
  if role = 0 then State.persist { s with cmd := { s.cmd with hostKey := k } } .hostKey
  else State.persist { s with cmd := { s.cmd with mgrKey := k } } .mgrKey

/-- The key in clear, or the sealed one opened under AUTH, is stored. -/
theorem keyProvisionRun_stores {s : State} {c : Ctx} {k : List Byte}
    (key : c.auth = false ∧ k = (slice c.data 4 48).take 32 ∨ c.auth = true ∧ c.unseal (slice c.data 4 48) = some k) :
    keyProvisionRun s c = (s.provisioned (c.at 0 1) k, Ans.ok []) := by
  unfold keyProvisionRun State.provisioned
  rw [apply_ite (fun t : State => (t, Ans.ok []))]
  obtain ⟨clear, rfl⟩ | ⟨auth, opened⟩ := key
  · exact if_neg (by simp [clear])
  · dsimp only
    rw [if_pos auth, opened]

/-- Settles O13: each command that reaches its run answers what its run says. -/
theorem systemCommands : Obligations.SystemCommands := by
  unfold Obligations.SystemCommands
  intro s b u p c
  refine ⟨fun reaches => ?echo, fun reaches => ?info, fun reaches session root free => ?opens, fun reaches session _ => ?closes,
    fun r reaches found => ?polls, fun k reaches key => ⟨fun host => ?host, fun mgr => ?mgr⟩⟩
  case echo => exact serve_of_reaches reaches
  case info =>
    obtain rfl := packet_of_reaches reaches
    exact serve_of_reaches reaches
  case opens =>
    obtain rfl := packet_of_reaches reaches
    obtain ⟨range, new⟩ := State.mem_freeSessions.1 (u.drawnNumber_free (by omega) (u.drawn 8))
    refine ⟨u.opened c, u.draws + 2, (serve_of_reaches reaches).trans ?_, rfl, range.1, range.2, new, rfl, rfl, rfl⟩
    exact congrArg (fun r => Host.Outcome.next (answered b c r)) (sessionOpenRun_opens session root free)
  case closes =>
    obtain rfl := packet_of_reaches reaches
    exact ⟨_, serve_of_reaches reaches, rfl, answered_sessionClose (BitVec.eq_of_toNat_eq reaches.1) session⟩
  case polls =>
    refine (serve_of_reaches reaches).trans (congrArg (fun r => Host.Outcome.next (answered b c r)) ?_)
    change cmdPollRun u c = _
    rw [cmdPollRun, found]
  case host =>
    refine (serve_of_reaches reaches).trans (congrArg (fun r => Host.Outcome.next (answered b c r)) ?_)
    exact (keyProvisionRun_stores key).trans (by rw [State.provisioned, if_pos host])
  case mgr =>
    refine (serve_of_reaches reaches).trans (congrArg (fun r => Host.Outcome.next (answered b c r)) ?_)
    exact (keyProvisionRun_stores key).trans (by rw [State.provisioned, if_neg (by omega)])

end Sys2Proof.Machine

/-! SUPPORT. What a tamper event sets lasts: the operations that follow it in the same step leave its register fields, the closed
sessions and the save key as they are. -/

namespace Sys2Proof.Machine
set_option Elab.async false

/-- The register fields that a tamper event sets (Table DOOR-4). -/
def tamperFields : List Fld := [Reg.TMP_STAT_LATCH, Reg.TMP_STAT_INPUT, Reg.TMP_STAT_COUNT, Reg.HMI_EVT_TAMPER]

/-- From `s` to `t` the fields of a tamper event and the save key stay as they are, and no session opens where none is open. -/
structure TamperKept (s t : State) : Prop where
  regs : ∀ f ∈ tamperFields, tfind t.regs f.key = tfind s.regs f.key
  sessions : s.cmd.sessions = [] → t.cmd.sessions = []
  saveKey : t.pwr.saveKey = s.pwr.saveKey

/-- A field is none of those that a tamper event sets. -/
abbrev Untampered (f : Fld) : Prop := ∀ g ∈ tamperFields, g.key ≠ f.key

theorem untampered_of_key {a l w r : Nat} (h : (a * 32 + l ≠ 0xB0320 * 32 ∧ a * 32 + l ≠ 0xB0320 * 32 + 1 ∧ a * 32 + l ≠ 0xB0320 * 32 + 16) ∧
    a * 32 + l ≠ 0xB0000 * 32 + 15) : Untampered ⟨a, l, w, r⟩ := by
  obtain ⟨⟨input, latch, count⟩, event⟩ := h
  simp only [Untampered, tamperFields, List.forall_mem_cons]
  exact ⟨latch.symm, input.symm, count.symm, event.symm, by simp⟩

/-- Fields above the kettle's blocks are none of a tamper event's. -/
theorem untampered_high {a l w r : Nat} (h : 0xC0000 ≤ a) : Untampered ⟨a, l, w, r⟩ :=
  untampered_of_key (by omega)

/-- Fields below the kettle's HMI block are none of a tamper event's. -/
theorem untampered_low {a l w r : Nat} (h : a * 32 + l < 0xB0000 * 32) : Untampered ⟨a, l, w, r⟩ :=
  untampered_of_key (by omega)

namespace TamperKept

variable {s t u : State}

theorem refl (s : State) : TamperKept s s := ⟨fun _ _ => rfl, id, rfl⟩

/-- What changes no register, no session and not the save key. -/
theorem others (h : TamperKept s t) {pending win mem ecc cmd log time pwr door addr mesh bud mu sync hq tu lanes link ens fab eng cast vault nvm
    bist out draws} (sessions : cmd.sessions = t.cmd.sessions := by rfl)
    (saveKey : pwr.saveKey = t.pwr.saveKey := by rfl) :
    TamperKept s ⟨pending, t.regs, win, mem, ecc, cmd, log, time, pwr, door, addr, mesh, bud, mu, sync, hq, tu, lanes, link, ens, fab, eng,
      cast, vault, nvm, bist, out, draws⟩ :=
  ⟨h.regs, fun empty => sessions.trans (h.sessions empty), saveKey.trans h.saveKey⟩

theorem put (h : TamperKept s t) {f : Fld} (v : Nat) (out : Untampered f) : TamperKept s (t.put f v) :=
  ⟨fun g hg => (t.regs_put_ne f v (out g hg)).trans (h.regs g hg), h.sessions, h.saveKey⟩

/-- Clearing registers above the kettle's blocks. -/
theorem clearRegs (h : TamperKept s t) {lo : Nat} (hi : Nat) (high : 0xC0000 ≤ lo) : TamperKept s (t.clearRegs lo hi) := by
  refine ⟨fun g hg => (tfind_tclear _ _ _ _).trans ((if_neg ?_).trans (h.regs g hg)), h.sessions, h.saveKey⟩
  have low : ∀ g ∈ tamperFields, g.key < 0xC0000 * 32 := by decide
  have := low g hg
  omega

theorem ite {c : Prop} [Decidable c] (h : TamperKept s t) (k : TamperKept s u) : TamperKept s (if c then t else u) := by
  split <;> assumption

theorem foldl {α : Type} {f : State → α → State} (h : TamperKept s t) (l : List α) (step : ∀ u a, TamperKept s u → TamperKept s (f u a)) :
    TamperKept s (l.foldl f t) :=
  List.foldlRecOn (motive := TamperKept s) l f h fun u hu a _ => step u a hu

/-- The fields of a tamper event read the same. -/
theorem get (h : TamperKept s t) {f : Fld} (mem : f ∈ tamperFields) : t.get f = s.get f := by
  rw [State.get, State.get, tget, tget, h.regs f mem]

/-! ### Events and the log -/

theorem event (h : TamperKept s t) {f : Fld} (m pos : Nat) (en : Fld) (vec : Nat) (fe : Out) (out : Untampered f) :
    TamperKept s (t.event f m pos en vec fe) := by
  have set : TamperKept s (t.orBits f m) := h.put _ out
  unfold State.event
  exact ite (set.others) set

theorem logOffer (h : TamperKept s t) (e : LogEntry) : TamperKept s (t.logOffer e) := by
  unfold State.logOffer
  dsimp only
  exact ite (ite (h.others) (ite (h.others) (h.put _ (by decide)))) h

theorem persist (h : TamperKept s t) (r : Rec) : TamperKept s (t.persist r) := by
  obtain ⟨n, hn⟩ := t.persist_nvm r
  rw [hn]
  exact h.others

theorem logPut (h : TamperKept s t) (e : LogSub) : TamperKept s (t.logPut e) := by
  have numbered : TamperKept s (t.put Reg.LOG_HEAD_SEQ t.nextSeq) := h.put _ (by decide)
  unfold State.logPut
  dsimp only
  refine ite (event ?new _ _ _ _ _ (by decide)) ?new
  exact event (logOffer (ite (numbered.others) (persist (numbered.others) _)) _) _ _ _ _ _ (by decide)

theorem logLost (h : TamperKept s t) : TamperKept s t.logLost := by
  unfold State.logLost
  exact ite (logPut (h.others) _) h

theorem logWrite (h : TamperKept s t) (e : LogSub) : TamperKept s (t.logWrite e) := h.logLost.logPut e

theorem logSubmit (h : TamperKept s t) (e : LogSub) : TamperKept s (t.logSubmit e) := by
  have dropped : TamperKept s ((t.bumpSat Reg.LOG_DROPS_COUNT 1).setFlag Reg.LOG_STAT_DROP true) := (h.put _ (by decide)).put _ (by decide)
  unfold State.logSubmit
  exact ite (h.others) (dropped.others)

theorem logEvent (h : TamperKept s t) (code src : Nat) (data : List Byte) : TamperKept s (t.logEvent code src data) := by
  unfold State.logEvent
  exact ite (h.logWrite _) (h.logSubmit _)

theorem logTake (h : TamperKept s t) : TamperKept s t.logTake := by
  unfold State.logTake
  split
  · exact h
  · exact logWrite (h.others) _

theorem logTakeN (n : Nat) (h : TamperKept s t) : TamperKept s (State.logTakeN n t) := by
  induction n generalizing t with
  | zero => exact h
  | succ n ih => exact ih h.logTake

theorem logNow (h : TamperKept s t) (code src : Nat) (data : List Byte) : TamperKept s (t.logNow code src data) :=
  (logTakeN _ h).logWrite _

end TamperKept

end Sys2Proof.Machine

/-! SUPPORT. What replies, completions and accesses to memory leave of a tamper event. -/

namespace Sys2Proof.Machine
set_option Elab.async false
namespace TamperKept

variable {s t u : State}

/-! ### Replies and completions -/

theorem netSend (h : TamperKept s t) (src dst c data : Nat) : TamperKept s (t.netSend src dst c data) := by
  obtain ⟨m, hm⟩ := t.netSend_mesh src dst c data
  rw [hm]
  exact h.others

theorem portSend (h : TamperKept s t) (d : Nat) (b : List Byte) : TamperKept s (t.portSend d b) := by
  have filled (u : State) (hu : TamperKept s u) : TamperKept s (u.portFill d) := by
    obtain ⟨f, hf⟩ := u.portFill_fab d
    rw [hf]
    exact hu.others
  unfold State.portSend
  dsimp only
  refine filled _ (others ?_)
  split
  · rename_i r _ _ _
    obtain ⟨m, hm⟩ := t.netBytes_mesh plinthPlace (regionPlace r) clsMgt b.length
    rw [hm]
    exact h.others
  · exact h

theorem mbxPlaceN (n : Nat) (h : TamperKept s t) : TamperKept s (State.mbxPlaceN n t) := by
  induction n generalizing t with
  | zero => exact h
  | succ n ih =>
    unfold State.mbxPlaceN
    split
    · exact h
    · rename_i r w _
      have moved : TamperKept s { t with cmd := { t.cmd with mbxWait := w, mbxRing := t.cmd.mbxRing ++ [r] } } := h.others
      have tail : TamperKept s (State.bumpWrap _ Reg.MBX_RPL_TAIL_TAIL 1) := moved.put _ (by decide)
      have placed := tail.put (f := Reg.MBX_IRQ_RPL) 1 (by decide)
      exact ite (ih (ite placed.others placed)) h

theorem mbxPlace (h : TamperKept s t) : TamperKept s t.mbxPlace := (mbxPlaceN 8 h).put _ (by decide)

theorem deliver (h : TamperKept s t) (r : Packet) : TamperKept s (t.deliver r) := by
  unfold State.deliver
  split
  · exact ite (mbxPlace (h.others)) h
  · exact ite (h.others) h
  · exact h.others
  · exact h.others
  · exact ite (h.others) h
  · exact ite h (ite (h.others) (portSend (h.others) _ _))

theorem closeSession (h : TamperKept s t) (n : Nat) : TamperKept s (t.closeSession n) :=
  ⟨h.regs, fun empty => List.filter_eq_nil_iff.2 (by simp [h.sessions empty]), h.saveKey⟩

theorem completeAt (h : TamperKept s t) (i : Nat) (a : Ans) : TamperKept s (t.completeAt i a) := by
  unfold State.completeAt
  split
  · exact h
  · rename_i o _
    have taken : TamperKept s { t with cmd := { t.cmd with longOps := t.cmd.longOps.eraseIdx i } } := h.others
    have amended (b : Bool) (r : Packet) (u : State) (hu : TamperKept s u) : TamperKept s (if b then u.amend o.req r else u) :=
      ite (hu.others) hu
    have sent (b : Bool) (r : Packet) (u : State) (hu : TamperKept s u) : TamperKept s (if b then u.deliver r else u) :=
      ite (hu.deliver r) hu
    have closed (b : Bool) (n : Nat) (u : State) (hu : TamperKept s u) : TamperKept s (if b then u.closeSession n else u) :=
      ite (hu.closeSession n) hu
    exact ite taken (closed _ _ _ (sent _ _ _ (amended _ _ _ taken)))

theorem completeReq (h : TamperKept s t) (p : Packet) (a : Ans) : TamperKept s (t.completeReq p a) := by
  unfold State.completeReq
  split
  · exact h
  · exact h.completeAt _ a

theorem complete (h : TamperKept s t) (code : Nat) (a : Ans) : TamperKept s (t.complete code a) := by
  unfold State.complete
  split
  · exact h
  · exact h.completeAt _ a

/-! ### Memory -/

theorem netAccess (h : TamperKept s t) (src a n : Nat) (write : Bool) : TamperKept s (t.netAccess src a n write) := by
  obtain ⟨m, hm⟩ := t.netAccess_mesh src a n write
  rw [hm]
  exact h.others

theorem correct (h : TamperKept s t) (a : Nat) : TamperKept s (t.correct a) := by
  have clean : TamperKept s { t with ecc := tput 0 t.ecc a 0 } := h.others
  unfold State.correct
  dsimp only
  split
  · rename_i n _ _
    have counted : TamperKept s ((State.bumpSat _ (Reg.CCH_ERR_CE n) 1).bumpSat Reg.CADDY_CE_COUNT 1) :=
      (clean.put _ (untampered_of_key (by omega))).put _ (by decide)
    exact ite (counted.logEvent _ _ _) counted
  · rename_i k _ _
    have counted : TamperKept s (State.bumpSat _ (Reg.XCH_ERR_CE k) 1) :=
      clean.put _ (untampered_of_key (by omega))
    exact ite (counted.logEvent _ _ _) counted
  · exact clean.put _ (untampered_high (by omega))
  · exact clean

theorem countUe (h : TamperKept s t) (a : Nat) : TamperKept s (t.countUe a) := by
  unfold State.countUe
  split
  · exact put (put (put (put h _ (untampered_of_key (by omega))) _ (by decide)) _
      (untampered_of_key (by omega))) _ (untampered_of_key (by omega))
  · exact put (put (put h _ (untampered_of_key (by omega))) _
      (untampered_of_key (by omega))) _ (untampered_of_key (by omega))
  · exact h

theorem writeUnit (h : TamperKept s t) (writer a : Nat) (bs : List Byte) (u sz : Nat) : TamperKept s (t.writeUnit writer a bs u sz) := by
  unfold State.writeUnit
  dsimp only
  refine ite h.others ?_
  split
  · exact h.others
  · exact (h.correct u).others
  · exact logSubmit (ite (countUe h.others u) h) _

theorem writeMem (h : TamperKept s t) (writer a : Nat) (bs : List Byte) : TamperKept s (t.writeMem writer a bs) :=
  ite (h.foldl _ fun _ _ hu => hu.writeUnit _ _ _ _ _) h.others

end TamperKept

end Sys2Proof.Machine

/-! SUPPORT. What links, tiles, sync operations, handle queues and cleared regions leave of a tamper event. -/

namespace Sys2Proof.Machine
set_option Elab.async false

/-- A route leaves by one of the seven ports. -/
theorem State.routePort_lt {s : State} {d p : Nat} (h : s.routePort d = some p) : p < 7 := by
  unfold State.routePort at h
  dsimp only at h
  split_ifs at h <;> cases h <;> omega

namespace TamperKept

variable {s t u : State}

/-! ### Links -/

theorem pumpPort (h : TamperKept s t) {p : Nat} (lt : p < 7) : TamperKept s (t.pumpPort p) := by
  unfold State.pumpPort State.lineOut
  dsimp only
  refine ite (put (foldl h.others _ fun u e hu => hu.others) _ (untampered_low ?_)) h
  omega

theorem enqueue (h : TamperKept s t) {p : Nat} (lt : p < 7) (vc : Nat) (pk : LinkPacket) : TamperKept s (t.enqueue p vc pk) :=
  pumpPort h.others lt

theorem burst (h : TamperKept s t) (p : Nat) : TamperKept s (t.burst p) := by
  unfold State.burst
  exact ite h.others h

theorem sendPacket (h : TamperKept s t) (pk : LinkPacket) (came : Option (Nat × Nat)) : TamperKept s (t.sendPacket pk came) := by
  unfold State.sendPacket
  split
  · exact h
  · rename_i p route
    have hu (c : Prop) [Decidable c] : TamperKept s (if c then t.burst p else t) := ite (h.burst p) h
    dsimp only
    refine ite (h.enqueue (State.routePort_lt route) _ _) (ite ?_ (hu _))
    split
    · rename_i q route'
      exact ite ((hu _).enqueue (State.routePort_lt route') _ _) (hu _)
    · exact hu _

theorem request (h : TamperKept s t) {p : Nat} (lt : p < 7) {dst op : Nat} {wait : Bool} {use : TagUse} {len addr : Nat} {data : List Byte}
    {r : State × Nat} (sent : t.request p dst op wait use len addr data = some r) : TamperKept s r.1 := by
  unfold State.request at sent
  dsimp only at sent
  split at sent
  · cases sent
  · cases sent
    exact enqueue (put h.others _ (untampered_low (by omega))) lt _ _

/-! ### Tiles -/

theorem tileEvent (h : TamperKept s t) (n pos : Nat) : TamperKept s (t.tileEvent n pos) := by
  unfold State.tileEvent
  dsimp only
  refine event h _ _ _ _ _ ?_
  split_ifs <;> exact untampered_high (by omega)

theorem settleHalts (h : TamperKept s t) : TamperKept s t.settleHalts :=
  foldl h.others _ fun _ _ hu => hu.completeReq _ _

theorem tileHalted (h : TamperKept s t) (n cause : Nat) : TamperKept s (t.tileHalted n cause) := by
  have stopped : TamperKept s (((t.put (Reg.TSTAT_RUN n) 0).put (Reg.TSTAT_STALL n) 0).put (Reg.TSTAT_CAUSE n) cause) :=
    put (put (put h _ (untampered_high (by omega))) _ (untampered_high (by omega))) _ (untampered_high (by omega))
  unfold State.tileHalted
  exact ite (settleHalts (tileEvent stopped.others _ _)) h

theorem putOperand (h : TamperKept s t) (n k : Nat) (o : Nat × Nat × Nat × Nat) : TamperKept s (t.putOperand n k o) :=
  put (put (put (put h _ (untampered_high (by omega))) _ (untampered_high (by omega))) _ (untampered_high (by omega))) _
    (untampered_high (by omega))

theorem tileFaultMark (h : TamperKept s t) (n code pc detail : Nat) (os : List (Nat × Nat × Nat × Nat)) :
    TamperKept s (t.tileFaultMark n code pc detail os) := by
  have said : TamperKept s (((t.put (Reg.TFAULT0_CODE n) code).put (Reg.TFAULT0_PC n) pc).put (Reg.TFAULT0_DETAIL n) detail) :=
    put (put (put h _ (untampered_high (by omega))) _ (untampered_high (by omega))) _ (untampered_high (by omega))
  exact tileEvent (put (tileHalted (put (putOperand (putOperand (putOperand said n 0 _) n 1 _) n 2 _) _ (untampered_high (by omega))) n 2) _
    (untampered_high (by omega))) n 0

theorem tileFault (h : TamperKept s t) (n code pc detail : Nat) : TamperKept s (t.tileFault n code pc detail) := by
  have cycles : TamperKept s (t.draw.tileCycles n (t.drawn 6)) := put (t := t.draw) h.others _ (untampered_high (by omega))
  unfold State.tileFault State.tileFaultOps
  exact logEvent (tileFaultMark (ite cycles h) n code pc detail []) _ _ _

/-! ### Sync operations -/

theorem answerOp (h : TamperKept s t) (key code value : Nat) : TamperKept s (t.answerOp key code value) := by
  unfold State.answerOp
  split
  · exact h
  · rename_i o _
    have sent := h.netSend plinthPlace o.who.place clsRsp 8
    dsimp only
    split
    · exact sendPacket sent.others _ _
    · exact completeReq sent.others _ _
    · exact sent.others
    · refine ite sent.others (ite sent.others ?_)
      refine ite (ite sent.others sent.others) (tileFault (ite sent.others sent.others) _ _ _ _)
    · exact sent.others
    · exact sent.others

theorem issueRemote (h : TamperKept s t) (o : SyncOp) : TamperKept s (t.issueRemote o) := by
  unfold State.issueRemote
  refine ite (h.answerOp _ _ _) ?_
  split
  · exact h.answerOp _ _ _
  · rename_i p route
    refine ite (answerOp (ite (h.burst p) h) _ _ _) (ite h.others ?_)
    dsimp only
    split
    · exact h.others
    · rename_i u tag sent
      have hu : TamperKept s u := h.request (State.routePort_lt route) sent
      exact ite hu.others hu.others

theorem issueSync (h : TamperKept s t) (who : SyncWho) (obj : Nat) (wait : Bool) (fn v : Nat) (kept : Option HeldOp) :
    TamperKept s (t.issueSync who obj wait fn v kept).1 := by
  unfold State.issueSync
  dsimp only
  split
  · exact netSend h.others _ _ _ _
  · exact issueRemote (netSend h.others _ _ _ _) _

theorem withdrawSync (h : TamperKept s t) (key : Nat) : TamperKept s (t.withdrawSync key) := by
  unfold State.withdrawSync
  split
  · exact h
  · dsimp only
    split
    · exact h.others
    · exact h.answerOp _ _ _
    · exact h.answerOp _ _ _
    · exact answerOp (put h.others _ (untampered_high (by omega))) _ _ _
    · split
      · exact sendPacket h.others _ _
      · exact h.others
    · exact h

/-! ### Handle queues -/

theorem showHq (h : TamperKept s t) (q : Nat) : TamperKept s (t.showHq q) :=
  put (put (put h _ (untampered_high (by omega))) _ (untampered_high (by omega))) _ (untampered_high (by omega))

theorem setHqList (h : TamperKept s t) (q : Nat) (push : Bool) (l : List Nat) : TamperKept s (t.setHqList q push l) := by
  unfold State.setHqList
  exact ite h.others h.others

theorem hqUnreserve (h : TamperKept s t) (o : HqOp) : TamperKept s (t.hqUnreserve o) := by
  unfold State.hqUnreserve State.hqReserve
  refine ite (ite h ?_) h
  split
  · exact h.others
  · exact h

theorem cancelHq (h : TamperKept s t) (key : Nat) : TamperKept s (t.cancelHq key) := by
  unfold State.cancelHq
  split
  · exact h
  · exact showHq (hqUnreserve (others (setHqList h _ _ _)) _) _

theorem hqAnswer (h : TamperKept s t) (o : HqOp) (code value : Nat) : TamperKept s (t.hqAnswer o code value) :=
  netSend (showHq (others (setHqList h _ _ _)) _) _ _ _ _

theorem hqFailWaiters (h : TamperKept s t) (q : Nat) : TamperKept s (t.hqFailWaiters q) := by
  refine h.foldl _ fun u k hu => ?_
  split
  · exact hu.hqAnswer _ _ _
  · exact hu

theorem setHeld (h : TamperKept s t) (q : Nat) (l : List Nat) : TamperKept s (t.setHeld q l) := by
  unfold State.setHeld
  split <;> exact h.others

theorem hqUnbind (h : TamperKept s t) (q : Nat) : TamperKept s (t.hqUnbind q) :=
  showHq (put (put (hqFailWaiters (setHeld h q []) q) _ (untampered_high (by omega))) _ (untampered_high (by omega))) q

/-! ### Regions cleared -/

theorem tileKill (h : TamperKept s t) (n : Nat) : TamperKept s (t.tileKill n) := by
  unfold State.tileKill
  dsimp only
  refine settleHalts (put (put (others ?_) _ (untampered_high (by omega))) _ (untampered_high (by omega)))
  split
  · exact others (h.withdrawSync _)
  · exact h.cancelHq _
  · exact h

theorem tileFromFrames (h : TamperKept s t) (n : Nat) : TamperKept s (t.tileFromFrames n) := by
  have win : 0xC0000 ≤ tileWin n := by unfold tileWin; omega
  refine others (put (put (put (put (clearRegs (clearRegs (others (tileKill h n)) _ ?_) _ ?_) _ (untampered_high (by omega))) _
    (untampered_high (by omega))) _ (untampered_high (by omega))) _ (untampered_high (by omega))) <;> omega

theorem engInit (h : TamperKept s t) (e : Nat) : TamperKept s (t.engInit e) := by
  have win : 0xC0000 ≤ engWin e := by unfold engWin; omega
  unfold State.engInit
  dsimp only
  refine clearRegs (others ?_) _ (by omega)
  split
  · exact h.cancelHq _
  · exact h

theorem xlatOver (h : TamperKept s t) (k : Nat) : TamperKept s (t.xlatOver k) :=
  foldl h.others _ fun _ _ hu => hu.completeReq _ _

theorem steepKill (h : TamperKept s t) (n st : Nat) : TamperKept s (t.steepKill n st) := by
  unfold State.steepKill
  dsimp only
  have dropped (w : Option (Nat × Bool)) : TamperKept s (match w with
      | some (k, true) => (t.withdrawSync k).dropOp k
      | some (k, false) => t.cancelHq k
      | none => t) := by
    split
    · exact others (h.withdrawSync _)
    · exact h.cancelHq _
    · exact h
  exact ite (dropped _) (xlatOver (put (put (others (dropped _)) _ (untampered_high (by omega))) _ (untampered_high (by omega))) _)

theorem clearRegions (h : TamperKept s t) (m : Nat) (walled : Bool) : TamperKept s (t.clearRegions m walled) := by
  have zeroed : TamperKept s ((maskRegions m).foldl State.zeroRegion t) := h.foldl _ fun _ _ hu => hu.others
  have killed : TamperKept s (State.eachSteeper _ (tilesIn m) State.steepKill) :=
    zeroed.foldl _ fun _ n hu => (hu.steepKill n 0).steepKill n 1
  have unbound : TamperKept s (State.unbindAll _ m) := killed.foldl _ fun _ _ hu => hu.hqUnbind _
  have tiles : TamperKept s ((tilesIn m).foldl State.tileFromFrames _) := unbound.foldl _ fun _ _ hu => hu.tileFromFrames _
  have engines : TamperKept s ((enginesIn m).foldl State.engInit _) := tiles.foldl _ fun _ _ hu => hu.engInit _
  exact put (put engines.others _ (by decide)) _ (by decide)

end TamperKept

end Sys2Proof.Machine

/-! SUPPORT. What the vault, a recast that ends and a wake leave of a tamper event, and how it closes the sessions. -/

namespace Sys2Proof.Machine
set_option Elab.async false
namespace TamperKept

variable {s t u : State}

/-! ### The vault -/

theorem showVault (h : TamperKept s t) : TamperKept s t.showVault :=
  put (put (put (put (put (put h _ (by decide)) _ (by decide)) _ (by decide)) _ (by decide)) _ (by decide)) _ (by decide)

theorem vaultFail (h : TamperKept s t) : TamperKept s t.vaultFail := by
  have held := h.logNow 0x0703 0 (leBytes 4 0)
  unfold State.vaultFail
  exact ite h (ite (put held.others _ (by decide)) held.others)

theorem takeSeq (h : TamperKept s t) {r : State × Nat} (given : t.takeSeq = some r) : TamperKept s r.1 := by
  unfold State.takeSeq at given
  dsimp only at given
  split at given
  · cases given
  · cases given
    exact ite (vaultFail h.others) h.others

theorem tornCommit (h : TamperKept s t) : TamperKept s t.tornCommit := by
  unfold State.tornCommit
  split
  · exact h
  · have drawn : TamperKept s t.draw := h.others
    dsimp only
    split
    · rename_i given
      exact ite drawn (showVault (others (takeSeq drawn given)))
    · exact drawn

theorem presentResult (h : TamperKept s t) (die : Nat) (r80 : List Byte) : TamperKept s (t.presentResult die r80) := by
  unfold State.presentResult
  exact ite h.others (ite h.others h)

theorem giveResult (h : TamperKept s t) (port : Nat) (q : Query) (status : Nat) (cs : List Cand) :
    TamperKept s (t.giveResult port q status cs) := by
  unfold State.giveResult
  dsimp only
  have written (c : Prop) [Decidable c] (w a : Nat) : TamperKept s (if c then
      ((t.presentResult port (resultRecord q.tag status cs)).draw.netAccess plinthPlace a 80 true).writeMem w a (resultRecord q.tag status cs)
      else t.presentResult port (resultRecord q.tag status cs)) :=
    ite (writeMem (netAccess (others (h.presentResult _ _)) _ _ _ _) _ _ _) (h.presentResult _ _)
  have signalled (c : Prop) [Decidable c] (u : State) (hu : TamperKept s u) : TamperKept s (if c then
      (u.issueSync (.matcher port) q.obj false 0 1 none).1 else u) := ite (hu.issueSync _ _ _ _ _ _) hu
  exact ite (logEvent (signalled _ _ (written _ _ _)) _ _ _) (signalled _ _ (written _ _ _))

theorem vaultTamper (h : TamperKept s t) : TamperKept s t.vaultTamper := by
  unfold State.vaultTamper
  dsimp only
  have emptied : TamperKept s t.tornCommit := h.tornCommit
  refine foldl (foldl (showVault (put emptied.others _ (by decide))) _ fun u q hu => ?_) _ fun u p hu => ?_
  · exact hu.giveResult _ _ _ _
  · exact hu.completeReq _ _

theorem vaultFill (h : TamperKept s t) : TamperKept s t.vaultFill := put h.others _ (by decide)

/-! ### A recast ended -/

theorem endRun (h : TamperKept s t) (a : State → Ans) : TamperKept s (t.endRun a) := by
  unfold State.endRun
  dsimp only
  split
  · exact completeReq h.others _ _
  · exact h.others

/-- A recast that may not roll back clears its regions. -/
theorem writeFails (h : TamperKept s t) (code seg : Nat) (a : Option Ans) (stays : t.cr.rollback = 0) :
    TamperKept s (t.writeFails code seg a) := by
  have failed : TamperKept s (((t.castErr code seg).put Reg.CAST_STATUS_STATE 3).put Reg.RCST_STATUS_PHASE 0) :=
    put (put (put (put h _ (by decide)) _ (by decide)) _ (by decide)) _ (by decide)
  unfold State.writeFails
  dsimp only
  rw [if_neg (by simp [stays])]
  dsimp only
  rw [if_neg (by simp [stays])]
  exact endRun (logNow (failed.clearRegions _ _) _ _ _) _

theorem tamperRecast (h : TamperKept s t) : TamperKept s t.tamperRecast := by
  unfold State.tamperRecast
  split
  · rename_i writes
    obtain ⟨⟨⟨-, recast⟩, pass⟩, -⟩ : ((t.cast.run.isSome = true ∧ t.cr.recast = true) ∧ t.cr.pass = 2) ∧ t.fabricPowered = true := by
      simpa [State.recastIn] using writes
    have run : (t.setCr { t.cr with rollback := 0 }).cr = { t.cr with rollback := 0 } := rfl
    unfold State.castFails
    dsimp only
    rw [run]
    dsimp only
    rw [if_neg (by omega), if_neg (by simp [recast]), if_neg (by omega)]
    exact writeFails (others h) _ _ _ (by rfl)
  · exact h

/-! ### The wake -/

theorem leaveIdle (h : TamperKept s t) : TamperKept s t.leaveIdle := by
  unfold State.leaveIdle
  exact ite (h.put _ (by decide)) h

theorem retick (h : TamperKept s t) : TamperKept s t.retick := by
  unfold State.retick
  dsimp only
  have moved (c : Prop) [Decidable c] : TamperKept s (if c then t else t.handover) := ite h (others h)
  exact put (put (put (moved _) _ (by decide)) _ (by decide)) _ (by decide)

theorem beginExit (h : TamperKept s t) (first : Nat) : TamperKept s (t.beginExit first) := by
  have moving : TamperKept s (((t.put Reg.PWR_WAKE_FIRST_FIRST first).setFlag Reg.PWR_STATE_MOVING true).put Reg.PWR_STATE_TGT 0) :=
    put (put (put h _ (by decide)) _ (by decide)) _ (by decide)
  unfold State.beginExit State.vaultWake
  dsimp only
  refine ite (retick (others (put (put moving.others _ (by decide)) _ (by decide)))) (retick (others (put ?_ _ (by decide))))
  exact ite (vaultFill moving.others) moving.others

theorem releaseEngines (h : TamperKept s t) : TamperKept s t.releaseEngines := by
  unfold State.releaseEngines
  exact foldl h.others _ fun u e hu => ite (hu.put _ (untampered_high (by omega))) hu

theorem releaseHalted (h : TamperKept s t) : TamperKept s t.releaseHalted :=
  h.foldl _ fun u n hu => hu.put _ (untampered_high (by omega))

theorem releaseHeld (h : TamperKept s t) (m : Nat) : TamperKept s (t.releaseHeld m) :=
  h.foldl _ fun u n hu => hu.foldl _ fun v st hv => ite (hv.put _ (untampered_high (by omega))) hv

theorem abortEntry (h : TamperKept s t) : TamperKept s t.abortEntry := by
  have unhalted : TamperKept s t.unhalt := h.others
  have released (m : Nat) : TamperKept s (t.unhalt.releaseEngines.releaseHalted.releaseHeld m) :=
    unhalted.releaseEngines.releaseHalted.releaseHeld m
  have ended (u : State) (hu : TamperKept s u) : TamperKept s
      { u with pwr := { u.pwr with stage := .none, halted := [], haltedEng := [], req := none, castAfter := false } } := hu.others
  unfold State.abortEntry
  exact ended _ (put (put (put (put (released _) _ (by decide)) _ (by decide)) _ (by decide)) _ (by decide))

theorem latchWake (h : TamperKept s t) (source : Nat) : TamperKept s (t.latchWake source) := by
  have latched : TamperKept s (t.orBits Reg.PWR_WAKE_SRC_SRC (2 ^ source)) := h.put _ (by decide)
  unfold State.latchWake
  dsimp only
  refine ite h (ite latched ?_)
  split
  · exact ite (leaveIdle (latched.put _ (by decide))) (ite (latched.beginExit _) latched)
  · exact ite latched.others (complete (abortEntry (latched.put _ (by decide))) _ _)
  · exact ite latched.others (complete (abortEntry (latched.put _ (by decide))) _ _)
  · exact latched

/-! ### TAMPER_CLEAR -/

theorem wipeFinish (h : TamperKept s t) : TamperKept s t.wipeFinish := by
  have intended : TamperKept s t.wipeIntend := persist h.others _
  unfold State.wipeFinish State.wipe
  exact ite (showVault (others (ite h intended))) h

theorem vaultClear (h : TamperKept s t) : TamperKept s t.vaultClear := by
  unfold State.vaultClear State.persistVault
  dsimp only
  refine ite h (ite (vaultFill h.wipeFinish) (showVault (vaultFill (persist (showVault (others (persist ?_ _))) _))))
  exact put (others h.wipeFinish) _ (by decide)

end TamperKept

/-! ### Every session closes (R64) -/

/-- Sessions closed by their numbers: what is left was open and has another number. -/
theorem mem_sessions_closeSessions (l : List Session) (s : State) {x : Session}
    (h : x ∈ (l.foldl (fun s y => s.closeSession y.num) s).cmd.sessions) : x ∈ s.cmd.sessions ∧ ∀ y ∈ l, x.num ≠ y.num := by
  induction l generalizing s with
  | nil => exact ⟨h, by simp⟩
  | cons y l ih =>
    obtain ⟨mem, others⟩ := ih _ h
    obtain ⟨wasOpen, other⟩ := List.mem_filter.1 mem
    exact ⟨wasOpen, List.forall_mem_cons.2 ⟨by simpa using other, others⟩⟩

theorem State.cutReplies_sessions (s : State) : s.cutReplies.cmd.sessions = s.cmd.sessions := by
  unfold State.cutReplies
  exact List.foldlRecOn (motive := fun t : State => t.cmd.sessions = s.cmd.sessions) _ _ rfl
    fun t ht r _ => by rw [State.logCut, State.logEvent_cmd, ht]

theorem TamperKept.tamperSessions {s t : State} (h : TamperKept s t) : TamperKept s t.tamperSessions ∧ t.tamperSessions.cmd.sessions = [] := by
  have cut : TamperKept s t.cutReplies := TamperKept.foldl h.others _ fun u r hu => hu.logEvent _ _ _
  have closed : (t.cmd.sessions.foldl (fun s x => s.closeSession x.num) t.cutReplies).cmd.sessions = [] := by
    refine List.eq_nil_iff_forall_not_mem.2 fun x hx => ?_
    obtain ⟨mem, other⟩ := mem_sessions_closeSessions _ _ hx
    exact other x (t.cutReplies_sessions ▸ mem) rfl
  have ended (u v : State) (h : TamperKept u v) (ops : List Packet) :
      TamperKept u (ops.foldl (fun s p => (s.completeReq p (Ans.code 5 5)).logCut p false) v) :=
    h.foldl ops fun w p hw => (hw.completeReq _ _).logEvent _ _ _
  exact ⟨ended _ _ (cut.foldl _ fun u x hu => hu.closeSession _) _, (ended _ _ (TamperKept.refl _) _).sessions closed⟩

end Sys2Proof.Machine

/-! SUPPORT. What a tamper event sets, and the statement of tamper events settled. -/

namespace Sys2Proof.Machine
set_option Elab.async false

/-! ### What a tamper event sets (R115) -/

/-- An event leaves every other field as it was. -/
theorem State.get_event_ne (s : State) {f g : Fld} (m pos : Nat) (en : Fld) (vec : Nat) (fe : Out) (h : g.key ≠ f.key) :
    (s.event f m pos en vec fe).get g = s.get g := by
  unfold State.event
  dsimp only
  rw [apply_ite (State.get · g), State.get_emit, ite_self]
  exact s.get_put_ne _ h

/-- The one bit of an event field is set. -/
theorem State.get_event_bit (s : State) {f : Fld} (width : f.width = 1) (pos : Nat) (en : Fld) (vec : Nat) (fe : Out) :
    (s.event f 1 pos en vec fe).get f = 1 := by
  unfold State.event
  dsimp only
  rw [apply_ite (State.get · f), State.get_emit, ite_self]
  refine (s.get_put_same f _).trans ?_
  rw [width]
  simp

@[simp] theorem State.event_cmd (s : State) (f : Fld) (m pos : Nat) (en : Fld) (vec : Nat) (fe : Out) :
    (s.event f m pos en vec fe).cmd = s.cmd := by
  obtain ⟨_, _, _, _, h⟩ := s.event_frame f m pos en vec fe
  rw [h]

@[simp] theorem State.event_pwr (s : State) (f : Fld) (m pos : Nat) (en : Fld) (vec : Nat) (fe : Out) :
    (s.event f m pos en vec fe).pwr = s.pwr := by
  obtain ⟨_, _, _, _, h⟩ := s.event_frame f m pos en vec fe
  rw [h]

@[simp] theorem State.persist_cmd (s : State) (r : Rec) : (s.persist r).cmd = s.cmd := by
  obtain ⟨n, hn⟩ := s.persist_nvm r
  rw [hn]

@[simp] theorem State.persist_pwr (s : State) (r : Rec) : (s.persist r).pwr = s.pwr := by
  obtain ⟨n, hn⟩ := s.persist_nvm r
  rw [hn]

@[simp] theorem State.get_persist (s : State) (r : Rec) (f : Fld) : (s.persist r).get f = s.get f := by
  obtain ⟨n, hn⟩ := s.persist_nvm r
  rw [hn]
  rfl

/-- A saturating count fits its field. -/
theorem satAdd_mod (w x n : Nat) : satAdd w x n % 2 ^ w = satAdd w x n := by
  refine Nat.mod_eq_of_lt ?_
  unfold satAdd satU
  have := Nat.two_pow_pos w
  split <;> omega

/-- The state with every session closed, once the save key is gone and the latch, the count and the event are set. -/
def State.tamperSet (s : State) (boot : Bool) : State :=
  let t := s.tamperSessions
  let u := { t with pwr := { t.pwr with saveKey := false } }
  ((((u.put Reg.TMP_STAT_LATCH 1).bumpSat Reg.TMP_STAT_COUNT 1).persist .tamperCount).setFlag Reg.TMP_STAT_BOOT
    (boot || u.flag Reg.TMP_STAT_BOOT)).hmi Reg.HMI_EVT_TAMPER 1 15

/-- The rest of a tamper event keeps what it has set. -/
theorem State.tamperEvent_kept (s : State) (boot : Bool) : TamperKept (s.tamperSet boot) (s.tamperEvent boot) :=
  ((((TamperKept.refl (s.tamperSet boot)).vaultTamper).logEvent _ _ _).tamperRecast).latchWake 3

/-- What a tamper event has set before the vault is told. -/
theorem State.tamperSet_parts (s : State) (boot : Bool) :
    (s.tamperSet boot).get Reg.TMP_STAT_LATCH = 1 ∧ (s.tamperSet boot).get Reg.TMP_STAT_INPUT = s.get Reg.TMP_STAT_INPUT ∧
    (s.tamperSet boot).get Reg.TMP_STAT_COUNT = satAdd Reg.TMP_STAT_COUNT.width (s.get Reg.TMP_STAT_COUNT) 1 ∧
    (s.tamperSet boot).get Reg.HMI_EVT_TAMPER = 1 ∧ (s.tamperSet boot).cmd.sessions = [] ∧ (s.tamperSet boot).pwr.saveKey = false := by
  obtain ⟨kept, closed⟩ := (TamperKept.refl s).tamperSessions
  unfold State.tamperSet State.hmi
  dsimp only
  refine ⟨?_, ?_, ?_, State.get_event_bit _ rfl _ _ _ _, ?_, ?_⟩
  · rw [State.get_event_ne _ _ _ _ _ _ (by decide), State.get_setFlag_ne _ _ (by decide), State.get_persist, State.bumpSat,
      State.get_put_ne _ _ (by decide), State.get_put_same]
    rfl
  · rw [State.get_event_ne _ _ _ _ _ _ (by decide), State.get_setFlag_ne _ _ (by decide), State.get_persist, State.bumpSat,
      State.get_put_ne _ _ (by decide), State.get_put_ne _ _ (by decide)]
    exact kept.get (by decide)
  · rw [State.get_event_ne _ _ _ _ _ _ (by decide), State.get_setFlag_ne _ _ (by decide), State.get_persist, State.bumpSat,
      State.get_put_same, State.get_put_ne _ _ (by decide), satAdd_mod]
    exact congrArg (satAdd _ · 1) (kept.get (by decide))
  · rw [State.event_cmd, State.setFlag_cmd, State.persist_cmd]
    exact closed
  · rw [State.event_pwr, State.setFlag_pwr, State.persist_pwr]
    rfl

theorem exec_tamper_on {s : State} (on : s.pwr.kettle = .on) :
    exec .tamper s = .next ((s.put Reg.TMP_STAT_INPUT 1).tamperEvent false) := by
  change execTamper s = _
  unfold execTamper
  rw [on]

theorem exec_tamper_thermalOff {s : State} (off : s.pwr.kettle = .thermalOff) :
    exec .tamper s = .next { s.put Reg.TMP_STAT_INPUT 1 with pwr := { s.pwr with tampered := true } } := by
  change execTamper s = _
  unfold execTamper
  rw [off]

/-- TAMPER_CLEAR is served on the state that shows the level of TAMPER. -/
theorem exec_tamperClear {s : State} (on : s.kettleOn = true) (p : Packet) (loopOpen : Bool) :
    exec (.tamperClear p loopOpen) s = serve tamperClearOp p (s.setFlag Reg.TMP_STAT_INPUT loopOpen) := by
  change execTamperClear p loopOpen s = _
  unfold execTamperClear
  rw [if_pos on]

/-- Settles O18: what the event sets stands in `State.tamperSet`, and the rest of the step keeps it. -/
theorem tamperEvents : Obligations.TamperEvents := by
  unfold Obligations.TamperEvents
  refine ⟨fun s on => ?event, fun s off => exec_tamper_thermalOff off, fun s b u p c loopOpen on reaches => ?clear⟩
  case event =>
    obtain ⟨latch, input, count, event, sessions, saveKey⟩ := (s.put Reg.TMP_STAT_INPUT 1).tamperSet_parts false
    have kept := (s.put Reg.TMP_STAT_INPUT 1).tamperEvent_kept false
    refine ⟨_, exec_tamper_on on, (kept.get (by decide)).trans latch, (kept.get (by decide)).trans (input.trans (s.get_put_same _ _)),
      (kept.get (by decide)).trans (count.trans ?_), (kept.get (by decide)).trans event, kept.sessions sessions, kept.saveKey.trans saveKey⟩
    rw [s.get_put_ne _ (by decide)]
  case clear =>
    have runs : exec (.tamperClear p loopOpen) s = .next (answered b c (tamperClearRun u c)) :=
      (exec_tamperClear on p loopOpen).trans (serve_of_reaches reaches)
    refine ⟨fun stillOpen => ?_, fun closed => ⟨_, ?_, ?_, rfl⟩⟩
    · rw [runs, tamperClearRun, if_pos stillOpen]
    · rw [runs, tamperClearRun, if_neg (by simp [closed])]
    · exact ((TamperKept.refl _).vaultClear.get (by decide)).trans (State.get_put_same _ _ _)

end Sys2Proof.Machine

/-! SUPPORT. The state at reset, and the power commands: what the registers of Table KET-6 take of a command's words. -/

namespace Sys2Proof.Machine
set_option Elab.async false

/-- Settles O57: nothing is listed in State.reset, so that every field reads its reset value and no byte has been written. -/
theorem resetIsOff : Obligations.ResetIsOff := by
  unfold Obligations.ResetIsOff
  exact ⟨State.reset_get, rfl, rfl, rfl, rfl, rfl, rfl, rfl, rfl, fun _ => rfl, Memory.wf_reset, rfl, rfl⟩

/-! ### Values that fit their fields -/

theorem bits_lt (x l w : Nat) : bits x l w < 2 ^ w := Nat.mod_lt _ (Nat.two_pow_pos w)

theorem leNat_lt (l : List Byte) : leNat l < 256 ^ l.length := by
  induction l with
  | nil => exact Nat.one_pos
  | cons b l ih =>
    have := b.isLt
    rw [leNat, List.length_cons, Nat.pow_succ]
    omega

theorem leAt_lt (l : List Byte) (off n : Nat) : leAt l off n < 256 ^ n :=
  (leNat_lt _).trans_le (Nat.pow_le_pow_right (by decide) (List.length_take_le _ _))

/-- A value that fits its field is read as it was written. -/
theorem State.get_put_fits (s : State) {f : Fld} {v : Nat} (fits : v < 2 ^ f.width) : (s.put f v).get f = v := by
  rw [State.get_put_same, Nat.mod_eq_of_lt fits]

/-- A list of parameter checks that finds nothing bad has found each of them good. -/
theorem firstBad_none {l : List (Nat × Bool)} (h : firstBad l = none) : ∀ e ∈ l, e.2 = true := by
  induction l with
  | nil => simp
  | cons e l ih =>
    obtain ⟨d, ok⟩ := e
    cases ok
    · cases h
    · exact List.forall_mem_cons.2 ⟨rfl, ih h⟩

/-- The parameters of a packet that reaches its command are in range. -/
theorem range_of_reaches {op : OpSpec} {s b u : State} {p : Packet} {c : Ctx} (h : Reaches op s p c b u) : op.range u c = none := by
  obtain ⟨-, -, -, -, -, -, -, -, served⟩ := h
  obtain ⟨-, -, -, range, -⟩ := served
  exact range

/-! ### PWR_SET_STATE (R74, R75, R77) -/

section
variable {s : State} {c : Ctx}

theorem pwrSetStateRun_moving (moving : s.moving = true) : pwrSetStateRun s c = busy s := by
  unfold pwrSetStateRun
  exact if_pos moving

variable (still : s.moving = false)
include still

theorem pwrSetStateRun_idle (run : s.cur = 0) (idle : c.at 0 1 = 1) : pwrSetStateRun s c = (s.put Reg.PWR_STATE_CUR 1, Ans.ok []) := by
  unfold pwrSetStateRun
  dsimp only
  rw [if_neg (by simp [still]), if_pos (by omega), if_neg (by omega), if_pos idle, if_pos run]

theorem pwrSetStateRun_dozeOff (run : s.cur = 0) (doze : c.at 0 1 = 2) (off : s.flag Reg.PWR_DOZE_CFG_ENABLE = false) :
    pwrSetStateRun s c = (s, Ans.code 0xE 0x11) := by
  unfold pwrSetStateRun
  dsimp only
  rw [if_neg (by simp [still]), if_pos (by omega), if_neg (by omega), if_neg (by omega), if_pos (by simp [doze, off])]

theorem pwrSetStateRun_begins (up : s.cur ≤ 1) (target : c.at 0 1 = 2 ∧ s.flag Reg.PWR_DOZE_CFG_ENABLE = true ∨ c.at 0 1 = 3)
    (phase : s.get Reg.RCST_STATUS_PHASE ≠ 4) :
    pwrSetStateRun s c = pend (s.beginEntry (c.at 0 1) (bit (c.at 1 1) 0) c.p) := by
  have enabled : ¬ (c.at 0 1 = 2 ∧ (!s.flag Reg.PWR_DOZE_CFG_ENABLE) = true) := by
    rintro ⟨doze, off⟩
    rcases target with ⟨-, on⟩ | sleep
    · simp [on] at off
    · omega
  unfold pwrSetStateRun
  dsimp only
  rw [if_neg (by simp [still]), if_pos up, if_neg (by omega), if_neg (by omega), if_neg enabled, if_neg (fun h => phase h.1)]

end

/-! ### The words stored (R85, R92, Table KET-6) -/

/-- The fields of PWR_DOZE_CFG and REFCLK_TO, each read back as the word gave it. -/
theorem State.putDozeCfg_fields (s : State) (w : Nat) {limit : Nat} (fits : limit < 256) :
    let t := (s.putDozeCfg w).put Reg.PWR_SLEEP_CFG_REFCLK_TO limit
    t.get Reg.PWR_DOZE_CFG_DOZE_LIMIT = bits w 16 16 ∧ t.get Reg.PWR_DOZE_CFG_ENABLE = bits w 0 1 ∧
    t.get Reg.PWR_DOZE_CFG_KEEP_QB = bits w 1 1 ∧ t.get Reg.PWR_DOZE_CFG_KEEP_TILE = bits w 2 1 ∧
    t.get Reg.PWR_DOZE_CFG_CAM_EN = bits w 3 1 ∧ t.get Reg.PWR_SLEEP_CFG_REFCLK_TO = limit := by
  dsimp only
  unfold State.putDozeCfg
  refine ⟨?limit, ?enable, ?keepQb, ?keepTile, ?camEn, State.get_put_fits _ fits⟩
  case limit =>
    iterate 7 rw [State.get_put_ne _ _ (by decide)]
    exact State.get_put_fits _ (bits_lt _ _ _)
  case enable =>
    rw [State.get_put_ne _ _ (by decide)]
    exact State.get_put_fits _ (bits_lt _ _ _)
  case keepQb =>
    iterate 2 rw [State.get_put_ne _ _ (by decide)]
    exact State.get_put_fits _ (bits_lt _ _ _)
  case keepTile =>
    iterate 3 rw [State.get_put_ne _ _ (by decide)]
    exact State.get_put_fits _ (bits_lt _ _ _)
  case camEn =>
    iterate 4 rw [State.get_put_ne _ _ (by decide)]
    exact State.get_put_fits _ (bits_lt _ _ _)

theorem pwrDozeConfigRun_stores {s : State} {c : Ctx} (kept : s.cur = 2 → bit (c.at 0 4) 0 = true) :
    pwrDozeConfigRun s c = ((s.putDozeCfg (c.at 0 4)).put Reg.PWR_SLEEP_CFG_REFCLK_TO (c.at 4 1), Ans.ok []) :=
  if_neg fun h => by simp [kept h.1] at h

/-- The mask with bit 3 set stays within the 17 sources. -/
theorem wakeMask_lt {m : Nat} (h : m < 2 ^ 17) : m ||| 8 < 2 ^ 17 := Nat.or_lt_two_pow h (by decide)

/-- Settles O20: each command that reaches its run does what its run says. -/
theorem powerCommands : Obligations.PowerCommands := by
  unfold Obligations.PowerCommands
  intro s b u p c
  have answers {op : OpSpec} {r : State × Ans} (h : Reaches op s p c b u) (run : op.run u c = r) :
      serve op p s = .next (answered b c r) := by rw [serve_of_reaches h, run]
  refine ⟨fun reaches => ⟨fun moving => ?busy, fun still run idle => ?idle, fun still run doze off => ?off,
    fun still up target phase => ?begins⟩, fun reaches => ?get, fun reaches => ?wake, fun reaches kept => ?doze, fun reaches => ?clear⟩
  case busy => exact ⟨_, answers reaches (pwrSetStateRun_moving moving)⟩
  case idle => exact answers reaches (pwrSetStateRun_idle still run idle)
  case off => exact answers reaches (pwrSetStateRun_dozeOff still run doze off)
  case begins =>
    obtain rfl := packet_of_reaches reaches
    exact ⟨_, _, answers reaches (pwrSetStateRun_begins still up target phase), rfl⟩
  case get => exact serve_of_reaches reaches
  case wake =>
    have checks := firstBad_none (range_of_reaches reaches)
    have mask : c.at 0 4 < 2 ^ 17 := of_decide_eq_true (checks _ (List.mem_cons_self ..))
    refine ⟨_, serve_of_reaches reaches, ?_, ?_, State.get_put_fits _ (bits_lt _ _ _), rfl, ?_⟩
    · rw [State.get_put_ne _ _ (by decide), State.get_put_ne _ _ (by decide), State.get_put_fits _ (wakeMask_lt mask)]
    · rw [State.get_put_ne _ _ (by decide)]
      exact State.get_put_fits _ (bits_lt _ _ _)
    · exact regsBut_put (regsBut_put (regsBut_put (regsBut_refl _ _) _ (by simp)) _ (by simp)) _ (by simp)
  case doze =>
    obtain ⟨limit, enable, keepQb, keepTile, camEn, refclk⟩ := u.putDozeCfg_fields (c.at 0 4) (leAt_lt c.data 4 1)
    exact ⟨_, answers reaches (pwrDozeConfigRun_stores kept), limit, enable, keepQb, keepTile, camEn, refclk, rfl⟩
  case clear => exact serve_of_reaches reaches

end Sys2Proof.Machine

/-! SUPPORT. Wakes: the tick source, the exit that begins, and the source that latches (R81, R82, R83, R86, R535). -/

namespace Sys2Proof.Machine
set_option Elab.async false

/-! ### The tick source (R535) -/

/-- The fields that follow the tick source. -/
def tickFields : List Fld := [Reg.TIME_STAT_XTAL, Reg.TIME_STAT_RC, Reg.PWR_CLK_STATUS_RC_ON]

/-- A choice of the tick source changes its fields, the counter and the free values drawn. -/
theorem State.retick_frame (s : State) : ∃ r x d, s.retick = { s with regs := r, time := { s.time with tod := x }, draws := d } := by
  unfold State.retick
  dsimp only
  split <;> exact ⟨_, _, _, rfl⟩

theorem regsBut_retick {fs : List Fld} {s t : State} (h : RegsBut fs s t) (tick : tickFields ⊆ fs) : RegsBut fs s t.retick := by
  have moved (c : Prop) [Decidable c] : RegsBut fs s (if c then t else t.handover) := by split <;> exact h
  exact regsBut_put (regsBut_put (regsBut_put (moved _) _ (tick (by simp [tickFields]))) _ (tick (by simp [tickFields]))) _
    (tick (by simp [tickFields]))

/-- Every other field keeps its value. -/
theorem State.get_retick (s : State) {f : Fld} (out : ∀ g ∈ tickFields, g.key ≠ f.key) : s.retick.get f = s.get f :=
  get_of_regsBut (regsBut_retick (regsBut_refl _ _) fun _ h => h) out

@[simp] theorem State.retick_pwr (s : State) : s.retick.pwr = s.pwr := by
  obtain ⟨_, _, _, h⟩ := s.retick_frame
  rw [h]

@[simp] theorem State.retick_cmd (s : State) : s.retick.cmd = s.cmd := by
  obtain ⟨_, _, _, h⟩ := s.retick_frame
  rw [h]

/-! ### Reading a register through a state written out -/

/-- A state written out field by field reads its registers from its table. -/
@[simp] theorem State.get_mk (pending regs win mem ecc cmd log time pwr door addr mesh bud mu sync hq tu lanes link ens fab eng cast vault nvm
    bist out draws) (f : Fld) : (State.mk pending regs win mem ecc cmd log time pwr door addr mesh bud mu sync hq tu lanes link ens fab eng cast
      vault nvm bist out draws).get f = tget f.reset regs f.key := rfl

@[simp] theorem State.tget_regs (s : State) (f : Fld) : tget f.reset s.regs f.key = s.get f := rfl

theorem State.get_setFlag_same (s : State) {f : Fld} (b : Bool) (h : f.width ≠ 0) : (s.setFlag f b).get f = b2n b := by
  have : 1 < 2 ^ f.width := Nat.one_lt_two_pow h
  rw [State.setFlag, State.get_put_same]
  cases b
  · exact Nat.zero_mod _
  · exact Nat.mod_eq_of_lt this

theorem State.get_orBits_ne (s : State) {f g : Fld} (m : Nat) (h : g.key ≠ f.key) : (s.orBits f m).get g = s.get g := s.get_put_ne _ h

/-! ### The exit that begins (R82, R83) -/

/-- The wake source and the move to RUN are shown, before the start order is entered. -/
def State.exitOpened (s : State) (first : Nat) : State :=
  let t := ((s.put Reg.PWR_WAKE_FIRST_FIRST first).setFlag Reg.PWR_STATE_MOVING true).put Reg.PWR_STATE_TGT 0
  { t with pwr := { t.pwr with wakeAt := t.time.up, retried := false, refLow := none, wakeAfter := none, failedRestore := false } }

theorem State.exitOpened_cur (s : State) (first : Nat) : (s.exitOpened first).cur = s.cur := by
  simp (disch := decide) [State.cur, State.exitOpened, State.get_put_ne, State.get_setFlag_ne]

/-- The start order from SLEEP: failed sensors count anew, the match buffer is filled and the reference is requested. -/
def State.exitAsked (s : State) (first : Nat) : State :=
  (State.vaultWake { s.exitOpened first with bud := { s.bud with failed := [] } }).setFlag Reg.PWR_CLK_STATUS_REF_REQ true

/-- The start order from DOZE: the steward answers again. -/
def State.exitAgain (s : State) (first : Nat) : State :=
  ((s.exitOpened first).setFlag Reg.MBX_STATUS_READY true).put Reg.PWR_STATE_CUR 0

theorem State.beginExit_doze {s : State} (doze : s.cur = 2) (first : Nat) : s.beginExit first =
    ({ s.exitAgain first with pwr := { (s.exitAgain first).pwr with stage := .railsFC, fromDoze := true, enF := true } } : State).retick :=
  if_pos ((s.exitOpened_cur first).trans doze)

theorem State.beginExit_sleep {s : State} (sleep : s.cur ≠ 2) (first : Nat) : s.beginExit first =
    ({ s.exitAsked first with pwr := { (s.exitAsked first).pwr with stage := .ref, fromDoze := false } } : State).retick :=
  if_neg fun doze => sleep ((s.exitOpened_cur first).symm.trans doze)

theorem State.get_vaultWake (s : State) {f : Fld} (out : f.key ≠ Reg.VLT_STATUS_STATE.key) : s.vaultWake.get f = s.get f := by
  unfold State.vaultWake
  split
  · exact (s.setVault _).get_put_ne _ out
  · rfl

/-- An exit shows its move and its wake source; the sources latched stay. -/
theorem State.beginExit_shows (s : State) {first : Nat} (fits : first < 32) : (s.beginExit first).moving = true ∧
    (s.beginExit first).get Reg.PWR_WAKE_FIRST_FIRST = first ∧ (s.beginExit first).get Reg.PWR_WAKE_SRC_SRC = s.get Reg.PWR_WAKE_SRC_SRC := by
  have moves : b2n true ≠ 0 := by decide
  have cutFirst : first % 2 ^ Reg.PWR_WAKE_FIRST_FIRST.width = first := Nat.mod_eq_of_lt fits
  unfold State.moving State.flag
  by_cases doze : s.cur = 2
  · rw [State.beginExit_doze doze]
    simp (disch := decide) [State.get_retick, State.exitAgain, State.exitOpened, State.get_put_ne, State.get_setFlag_ne, State.get_setFlag_same,
      moves, cutFirst]
  · rw [State.beginExit_sleep doze]
    simp (disch := decide) [State.get_retick, State.exitAsked, State.exitOpened, State.get_vaultWake, State.get_put_ne, State.get_setFlag_ne,
      State.get_setFlag_same, moves, cutFirst]

/-- From SLEEP the exit asks for the reference, and PWR_STATE.CUR stays until the plinth starts. -/
theorem State.beginExit_asks {s : State} (sleep : s.cur ≠ 2) (first : Nat) : (s.beginExit first).pwr.stage = .ref ∧
    (s.beginExit first).flag Reg.PWR_CLK_STATUS_REF_REQ = true ∧ (s.beginExit first).cur = s.cur := by
  have asks : b2n true ≠ 0 := by decide
  rw [State.beginExit_sleep sleep]
  refine ⟨congrArg PwrUnit.stage (State.retick_pwr _), ?_, ?_⟩
  · simp (disch := decide) [State.flag, State.get_retick, State.exitAsked, State.get_setFlag_same, asks]
  · simp (disch := decide) [State.cur, State.get_retick, State.exitAsked, State.exitOpened, State.get_vaultWake, State.get_put_ne,
      State.get_setFlag_ne]

/-! ### A source that latches (R81) -/

/-- A bit of a field read through its mask (R8). -/
theorem bit_eq_testBit (x k : Nat) : bit x k = x.testBit k := by
  have : bits x k 1 % 2 = bits x k 1 := Nat.mod_eq_of_lt (bits_lt x k 1)
  have low := testBit_bits x k 1 0
  rw [Nat.testBit_zero, this] at low
  simpa [bit, beq_eq_decide] using low

/-- A source that latches sets its bit of PWR_WAKE_SRC. -/
theorem State.orBits_wakeSrc (s : State) {k : Nat} (source : k < 17) :
    bit ((s.orBits Reg.PWR_WAKE_SRC_SRC (2 ^ k)).get Reg.PWR_WAKE_SRC_SRC) k = true := by
  rw [bit_eq_testBit, State.orBits, State.get_put_same, Nat.testBit_mod_two_pow, Nat.testBit_or, Nat.testBit_two_pow_self,
    Bool.or_true, Bool.and_true]
  exact decide_eq_true source

theorem State.latchWake_off {s : State} {k : Nat} (ne : k ≠ 3) (off : bit (s.get Reg.PWR_WAKE_EN_EN) k = false) : s.latchWake k = s :=
  if_pos (by simp [ne, off])

/-- With no trip and nothing in progress an enabled source latches and, outside RUN, starts the exit. -/
theorem State.latchWake_on {s : State} {k : Nat} (on : s.kettleOn = true) (enabled : bit (s.get Reg.PWR_WAKE_EN_EN) k = true)
    (trip : s.bud.trip = none) (stage : s.pwr.stage = .none) : s.latchWake k =
      let t := s.orBits Reg.PWR_WAKE_SRC_SRC (2 ^ k)
      if s.cur = 1 then (t.put Reg.PWR_WAKE_FIRST_FIRST k).leaveIdle else if s.cur = 2 ∨ s.cur = 3 then t.beginExit k else t := by
  have cur : (s.orBits Reg.PWR_WAKE_SRC_SRC (2 ^ k)).cur = s.cur := s.get_put_ne _ (by decide)
  unfold State.latchWake
  dsimp only
  rw [if_neg (by simp [on, enabled]), State.orBits_bud, trip, if_neg (by decide), State.orBits_pwr, stage]
  dsimp only
  rw [cur]

theorem State.leaveIdle_idle {s : State} (idle : s.cur = 1) (brake : s.get Reg.BUD_STAT_BRAKE ≠ 2) : s.leaveIdle = s.put Reg.PWR_STATE_CUR 0 :=
  if_pos ⟨idle, brake⟩

theorem State.get_leaveIdle (s : State) {f : Fld} (out : f.key ≠ Reg.PWR_STATE_CUR.key) : s.leaveIdle.get f = s.get f := by
  unfold State.leaveIdle
  split
  · exact s.get_put_ne _ out
  · rfl

/-- Settles O15: what an enabled source does, by the power state that it finds. -/
theorem wakesLatchAndStartExits : Obligations.WakesLatchAndStartExits := by
  unfold Obligations.WakesLatchAndStartExits
  intro i k s source on
  obtain ⟨latches, ne, lt⟩ : exec i s = .next (s.latchWake k) ∧ k ≠ 3 ∧ k < 17 := by
    obtain ⟨n, rfl, rfl⟩ | ⟨n, rfl, rfl⟩ := source
    · exact ⟨rfl, by omega, by omega⟩
    · exact ⟨rfl, by omega, by omega⟩
  refine ⟨fun off => by rw [latches, State.latchWake_off ne off], fun enabled trip stage => ⟨_, latches, ?_⟩⟩
  rw [State.latchWake_on on enabled trip stage]
  dsimp only
  have latched := s.orBits_wakeSrc lt
  obtain ⟨moving, first, kept⟩ := (s.orBits Reg.PWR_WAKE_SRC_SRC (2 ^ k)).beginExit_shows (first := k) (by omega)
  have cur : (s.orBits Reg.PWR_WAKE_SRC_SRC (2 ^ k)).cur = s.cur := s.get_put_ne _ (by decide)
  by_cases idle : s.cur = 1
  · rw [if_pos idle]
    refine ⟨?_, by omega, fun _ brake => ⟨?_, ?_⟩, by omega, by omega⟩
    · rwa [State.get_leaveIdle _ (by decide), State.get_put_ne _ _ (by decide)]
    · rw [State.leaveIdle_idle]
      · exact State.get_put_same _ _ _
      · exact (State.get_put_ne _ _ (by decide)).trans (cur.trans idle)
      · rwa [State.get_put_ne _ _ (by decide), State.get_orBits_ne _ _ (by decide)]
    · rw [State.get_leaveIdle _ (by decide)]
      exact State.get_put_fits _ (show k < 32 by omega)
  · rw [if_neg idle]
    by_cases asleep : s.cur = 2 ∨ s.cur = 3
    · rw [if_pos asleep]
      refine ⟨by rwa [kept], by omega, fun h => absurd h idle, fun doze => ⟨moving, first, ?_⟩, fun sleep => ⟨moving, first, ?_⟩⟩
      · rw [State.beginExit_doze (cur.trans doze), State.retick_pwr]
        exact ⟨rfl, rfl⟩
      · obtain ⟨ref, asked, -⟩ := State.beginExit_asks (s := s.orBits Reg.PWR_WAKE_SRC_SRC (2 ^ k)) (by omega) k
        exact ⟨ref, asked⟩
    · rw [if_neg asleep]
      exact ⟨latched, fun _ => rfl, fun h => absurd h idle, by omega, by omega⟩

end Sys2Proof.Machine

/-! SUPPORT. Operations that leave the power unit as it is: replies, links and lanes, tiles that fault, sync operations, the join
descriptor, lamps. -/

namespace Sys2Proof.Machine
set_option Elab.async false

/-- What each step of a fold leaves alone, the fold leaves alone. -/
theorem foldl_pwr {α : Type} {f : State → α → State} (step : ∀ u a, (f u a).pwr = u.pwr) (l : List α) (s : State) :
    (l.foldl f s).pwr = s.pwr := by
  induction l generalizing s with
  | nil => rfl
  | cons a l ih => rw [List.foldl_cons, ih, step]

theorem ite_pwr {c : Prop} [Decidable c] {s t u : State} (h : t.pwr = s.pwr) (k : u.pwr = s.pwr) : (if c then t else u).pwr = s.pwr := by
  split <;> assumption

namespace State

/-! ### The log, replies and the tile network -/

@[simp] theorem logEvent_pwr (s : State) (code src : Nat) (data : List Byte) : (s.logEvent code src data).pwr = s.pwr := by
  obtain ⟨_, _, _, _, h⟩ := s.logEvent_frame code src data
  rw [h]

@[simp] theorem completeReq_pwr (s : State) (p : Packet) (a : Ans) : (s.completeReq p a).pwr = s.pwr := by
  obtain ⟨_, _, _, _, _, h⟩ := s.completeReq_frame p a
  rw [h]

@[simp] theorem netSend_pwr (s : State) (src dst c data : Nat) : (s.netSend src dst c data).pwr = s.pwr := by
  obtain ⟨_, h⟩ := s.netSend_mesh src dst c data
  rw [h]

/-! ### Packets on the links (R482, R498) -/

@[simp] theorem setPort_pwr (s : State) (p : Nat) (x : Port) : (s.setPort p x).pwr = s.pwr := rfl

@[simp] theorem lineOut_pwr (s : State) (p n : Nat) (train : Bool) : (s.lineOut p n train).pwr = s.pwr := by
  unfold State.lineOut
  exact foldl_pwr (fun _ _ => by rfl) _ _

@[simp] theorem pumpPort_pwr (s : State) (p : Nat) : (s.pumpPort p).pwr = s.pwr := by
  unfold State.pumpPort
  exact ite_pwr (by simp) rfl

@[simp] theorem enqueue_pwr (s : State) (p vc : Nat) (pk : LinkPacket) : (s.enqueue p vc pk).pwr = s.pwr := by
  simp [State.enqueue]

@[simp] theorem burst_pwr (s : State) (p : Nat) : (s.burst p).pwr = s.pwr := ite_pwr rfl rfl

@[simp] theorem sendPacket_pwr (s : State) (pk : LinkPacket) (came : Option (Nat × Nat)) : (s.sendPacket pk came).pwr = s.pwr := by
  unfold State.sendPacket
  split
  · rfl
  · have woken (c : Prop) [Decidable c] (p : Nat) : (if c then s.burst p else s).pwr = s.pwr := ite_pwr (s.burst_pwr p) rfl
    refine ite_pwr (enqueue_pwr _ _ _ _) (ite_pwr ?_ (woken _ _))
    dsimp only
    split
    · exact ite_pwr ((enqueue_pwr _ _ _ _).trans (woken _ _)) (woken _ _)
    · exact woken _ _

@[simp] theorem sendCmd_pwr (s : State) (dst : Nat) (b : List Byte) : (s.sendCmd dst b).pwr = s.pwr :=
  foldl_pwr (fun u pk => u.sendPacket_pwr pk none) _ _

@[simp] theorem flushPeers_pwr (s : State) : s.flushPeers.pwr = s.pwr := by
  refine foldl_pwr (fun u r => ?_) _ _
  split
  · exact u.sendCmd_pwr _ _
  · rfl

@[simp] theorem sendPeer_pwr (s : State) (dst opcode : Nat) (payload : List Byte) : (s.sendPeer dst opcode payload).pwr = s.pwr :=
  sendCmd_pwr _ _ _

@[simp] theorem sendNotice_pwr (s : State) (p : Nat) : (s.sendNotice p).pwr = s.pwr := by
  unfold State.sendNotice State.sendAccord
  exact ite_pwr rfl (foldl_pwr (fun u i => u.sendPeer_pwr i _ _) _ _)

@[simp] theorem sendCtrl_pwr (s : State) (p : Nat) (nak park : Bool) : (s.sendCtrl p nak park).pwr = s.pwr := lineOut_pwr _ _ _ _

/-! ### Tags, tiles that fault and sync operations -/

@[simp] theorem completeTag_pwr (s : State) (p : Nat) (r : TagRec) (status : Nat) (data : List Byte) :
    (s.completeTag p r status data).pwr = s.pwr := by
  unfold State.completeTag State.tagEnds
  dsimp only
  split
  · split <;> rfl
  · exact ite_pwr rfl rfl

theorem tileEvent_pwr (s : State) (t pos : Nat) : (s.tileEvent t pos).pwr = s.pwr := event_pwr _ _ _ _ _ _ _

theorem settleHalts_pwr (s : State) : s.settleHalts.pwr = s.pwr := foldl_pwr (fun u _ => u.completeReq_pwr _ _) _ _

theorem tileHalted_pwr (s : State) (t cause : Nat) : (s.tileHalted t cause).pwr = s.pwr := by
  unfold State.tileHalted
  exact ite_pwr ((settleHalts_pwr _).trans (tileEvent_pwr _ _ _)) rfl

theorem putOperand_pwr (s : State) (t k : Nat) (o : Nat × Nat × Nat × Nat) : (s.putOperand t k o).pwr = s.pwr := rfl

theorem tileFaultMark_pwr (s : State) (t code pc detail : Nat) (os : List (Nat × Nat × Nat × Nat)) :
    (s.tileFaultMark t code pc detail os).pwr = s.pwr := by
  unfold State.tileFaultMark
  dsimp only
  rw [tileEvent_pwr, put_pwr, tileHalted_pwr, put_pwr, putOperand_pwr, putOperand_pwr, putOperand_pwr, put_pwr, put_pwr, put_pwr]

@[simp] theorem tileFault_pwr (s : State) (t code pc detail : Nat) : (s.tileFault t code pc detail).pwr = s.pwr := by
  unfold State.tileFault State.tileFaultOps
  dsimp only
  rw [logEvent_pwr, tileFaultMark_pwr]
  exact ite_pwr rfl rfl

@[simp] theorem answerOp_pwr (s : State) (key code value : Nat) : (s.answerOp key code value).pwr = s.pwr := by
  unfold State.answerOp
  split
  · rfl
  · rename_i o _
    have sent := s.netSend_pwr plinthPlace o.who.place clsRsp 8
    dsimp only
    split
    · exact (sendPacket_pwr _ _ _).trans sent
    · exact (completeReq_pwr _ _ _).trans sent
    · exact sent
    · rename_i t pc _
      have kept (c : Prop) [Decidable c] (u : State) (x : TileX) (hu : u.pwr = s.pwr) : (if c then u.setTx t x else u).pwr = s.pwr := ite_pwr hu hu
      refine ite_pwr sent (ite_pwr sent (ite_pwr (kept _ _ _ sent) ?_))
      exact (tileFault_pwr _ _ _ _ _).trans (kept _ _ _ sent)
    · exact sent
    · exact sent

theorem request_pwr {s : State} {p dst op : Nat} {wait : Bool} {use : TagUse} {len addr : Nat} {data : List Byte} {r : State × Nat}
    (sent : s.request p dst op wait use len addr data = some r) : r.1.pwr = s.pwr := by
  unfold State.request at sent
  dsimp only at sent
  split at sent
  · cases sent
  · cases sent
    exact enqueue_pwr _ _ _ _

@[simp] theorem issueRemote_pwr (s : State) (o : SyncOp) : (s.issueRemote o).pwr = s.pwr := by
  unfold State.issueRemote
  refine ite_pwr (s.answerOp_pwr _ _ _) ?_
  split
  · exact s.answerOp_pwr _ _ _
  · rename_i p _
    have woken (c : Prop) [Decidable c] : (if c then s.burst p else s).pwr = s.pwr := ite_pwr (s.burst_pwr p) rfl
    refine ite_pwr ((answerOp_pwr _ _ _ _).trans (woken _)) (ite_pwr rfl ?_)
    dsimp only
    split
    · rfl
    · rename_i u tag sent
      have hu := request_pwr sent
      exact ite_pwr hu hu

theorem settleCmds_pwr (s : State) : s.settleCmds.pwr = s.pwr := by
  refine foldl_pwr (fun u o => ?_) _ _
  split
  · exact u.answerOp_pwr _ _ _
  · rfl
  · exact ite_pwr rfl (u.answerOp_pwr _ _ _)
  · rfl

@[simp] theorem issueSlots_pwr (s : State) : s.issueSlots.pwr = s.pwr := foldl_pwr (fun u o => u.issueRemote_pwr o) _ _

theorem clearMark_pwr (s : State) (src opid : Nat) : (s.clearMark src opid).pwr = s.pwr := by
  unfold State.clearMark
  split <;> rfl

@[simp] theorem linkNotice_pwr (s : State) : s.linkNotice.pwr = s.pwr := by
  unfold State.linkNotice
  refine (issueSlots_pwr _).trans ((settleCmds_pwr _).trans ((foldl_pwr (fun u o => ?_) _ _).trans (foldl_pwr (fun u o => ?_) _ _)))
  · split
    · exact ite_pwr (clearMark_pwr (u.freeWaiter _ _) _ _) rfl
    · rfl
  · split
    · refine ite_pwr ?_ rfl
      split
      · exact u.completeTag_pwr _ _ _ _
      · rfl
    · rfl

/-- A port that goes down leaves the power unit as it is. -/
@[simp] theorem linkDrop_pwr (s : State) (p reason : Nat) : (s.linkDrop p reason).pwr = s.pwr := by
  have tags : (s.loseTags p).pwr = s.pwr := foldl_pwr (fun u r => u.completeTag_pwr _ _ _ _) _ _
  have forwards (fw : List FwdCmd) (u : State) : (fw.foldl (fun s f => s.completeReq f.req (Ans.code 8 p)) u).pwr = u.pwr :=
    foldl_pwr (fun u f => u.completeReq_pwr _ _) _ _
  unfold State.linkDrop
  dsimp only
  rw [linkNotice_pwr, sendNotice_pwr, foldl_pwr fun u k => u.sendPacket_pwr _ _, logEvent_pwr]
  exact (forwards _ _).trans tags

end State
end Sys2Proof.Machine

/-! SUPPORT. What the domains that power down and up do to the power unit: lanes, the plinth, the fabric dies, the caddy, the vault. -/

namespace Sys2Proof.Machine
set_option Elab.async false
namespace State

/-! ### Lanes (R465) -/

@[simp] theorem laneOff_pwr (s : State) (l : Nat) : (s.laneOff l).pwr = s.pwr := by
  unfold State.laneOff State.leave5
  exact ite_pwr rfl rfl

@[simp] theorem laneTrain_pwr (s : State) (l : Nat) (fast : Bool) : (s.laneTrain l fast).pwr = s.pwr := by
  have left : (s.leave5 l).pwr = s.pwr := ite_pwr rfl rfl
  unfold State.laneTrain
  exact ite_pwr (s.laneOff_pwr l) left

@[simp] theorem quadTrain_pwr (s : State) (q : Nat) (fast : Bool) : (s.quadTrain q fast).pwr = s.pwr :=
  foldl_pwr (fun u l => u.laneTrain_pwr l fast) _ _

@[simp] theorem attempt_pwr (s : State) (p : Nat) : (s.attempt p).pwr = s.pwr := by
  unfold State.attempt
  dsimp only
  rw [quadTrain_pwr, setPort_pwr, setFlag_pwr, bumpWrap_pwr, put_pwr, put_pwr]

@[simp] theorem quadUp_pwr (s : State) (q : Nat) : (s.quadUp q).pwr = s.pwr := by
  have fresh (x : Port) : (if (s.setPort q x).linkMay q then (s.setPort q x).attempt q
      else ((s.setPort q x).quadTrain q false).put (Reg.HL_STAT_STATE q) 5).pwr = s.pwr :=
    ite_pwr (attempt_pwr _ _) (quadTrain_pwr _ _ _)
  exact ite_pwr rfl (ite_pwr (fresh _) (s.quadTrain_pwr q false))

@[simp] theorem quadPll_pwr (s : State) (q : Nat) : (s.quadPll q).pwr = s.pwr := by
  unfold State.quadPll
  exact setFlag_pwr _ _ _

@[simp] theorem setQuad_pwr (s : State) (q owner rate ref : Nat) : (s.setQuad q owner rate ref).pwr = s.pwr := by
  unfold State.setQuad
  dsimp only
  split
  · rfl
  · simp only [apply_ite State.pwr, put_pwr, attempt_pwr, setPort_pwr, quadTrain_pwr, quadPll_pwr, ite_self]
    split
    · rfl
    · rw [foldl_pwr fun _ _ => by rfl, quadPll_pwr, put_pwr, put_pwr, put_pwr]

@[simp] theorem lanesDown_pwr (s : State) : s.lanesDown.pwr = s.pwr := by
  unfold State.lanesDown
  simp [apply_ite State.pwr, foldl_pwr]

/-! ### The plinth (R15, R37, R72, R498) -/

@[simp] theorem parkPort_pwr (s : State) (p : Nat) : (s.parkPort p).pwr = s.pwr :=
  ite_pwr ((linkDrop_pwr _ _ _).trans (foldl_pwr (fun u _ => u.sendCtrl_pwr _ _ _) _ _)) rfl

@[simp] theorem enterHoldover_pwr (s : State) : s.enterHoldover.pwr = s.pwr := by
  unfold State.enterHoldover
  exact ite_pwr rfl (event_pwr _ _ _ _ _ _ _)

@[simp] theorem plinthLeaves_pwr (s : State) : s.plinthLeaves.pwr = s.pwr := by
  unfold State.plinthLeaves
  exact foldl_pwr (fun _ _ => by rfl) _ _

@[simp] theorem plinthOut_pwr (s : State) : s.plinthOut.pwr = s.pwr := by
  unfold State.plinthOut
  rw [plinthLeaves_pwr, enterHoldover_pwr, lanesDown_pwr, foldl_pwr fun u p => u.parkPort_pwr p]

@[simp] theorem abandonOps_pwr (s : State) (keep : Packet → Bool) (a : Ans) : (s.abandonOps keep a).pwr = s.pwr := by
  unfold State.abandonOps
  exact foldl_pwr (fun u p => by rw [logEvent_pwr, completeReq_pwr]) _ _

theorem capRecalc_pwr (s : State) : s.capRecalc.pwr = s.pwr := by
  unfold State.capRecalc
  exact ite_pwr rfl (event_pwr _ _ _ _ _ _ _)

theorem applyDesc_pwr (s : State) : s.applyDesc.pwr = s.pwr := by
  unfold State.applyDesc
  dsimp only
  refine foldl_pwr (fun u q => ?_) _ _
  rw [setQuad_pwr]
  exact ite_pwr (u.linkDrop_pwr _ _) rfl

theorem trayFallback_pwr (s : State) : s.trayFallback.pwr = s.pwr := by
  unfold State.trayFallback State.setTrayLim
  simp only [apply_ite State.pwr, capRecalc_pwr, ite_self]

theorem forming_pwr (s : State) : s.forming.pwr = s.pwr := by
  unfold State.forming State.setSrcAct
  dsimp only
  rw [put_pwr, trayFallback_pwr]
  dsimp only
  rw [put_pwr, put_pwr, put_pwr]

theorem stillOut_pwr (s : State) : s.stillOut.pwr = s.pwr := ite_pwr rfl (ite_pwr rfl rfl)

theorem quadStart_pwr (s : State) (q : Nat) : (s.quadStart q).pwr = s.pwr := by
  unfold State.quadStart
  simp only [apply_ite State.pwr, setQuad_pwr, ite_self]

@[simp] theorem plinthStart_pwr (s : State) : s.plinthStart.pwr = s.pwr := by
  unfold State.plinthStart State.setSrcAct
  simp only [put_pwr, setFlag_pwr, apply_ite State.pwr, stillOut_pwr, forming_pwr, applyDesc_pwr, foldl_pwr quadStart_pwr, ite_self]

@[simp] theorem plinthAgain_pwr (s : State) : s.plinthAgain.pwr = s.pwr := by
  unfold State.plinthAgain
  dsimp only
  exact foldl_pwr quadUp_pwr _ _

@[simp] theorem losePlinth_pwr (s : State) : s.losePlinth.pwr = s.pwr := rfl

/-! ### Lamps and the fabric dies (R76, R368) -/

theorem putLamp_pwr (s : State) (n : Nat) (l : Lamp) : (s.putLamp n l).pwr = s.pwr := rfl
theorem lampRamp_pwr (s : State) (n target : Nat) : (s.lampRamp n target).pwr = s.pwr := rfl
theorem lampPhase_pwr (s : State) (n ph : Nat) : (s.lampPhase n ph).pwr = s.pwr := rfl

theorem lampApply_pwr (s : State) (n : Nat) : (s.lampApply n).pwr = s.pwr := by
  have reset : (s.lampReset n).pwr = s.pwr := ite_pwr rfl rfl
  unfold State.lampApply State.lampRetry State.lampSoft
  simp only [apply_ite State.pwr, lampRamp_pwr, lampPhase_pwr, putLamp_pwr, bumpSat_pwr, reset, ite_self]

@[simp] theorem lampsRegate_pwr (s : State) : s.lampsRegate.pwr = s.pwr := foldl_pwr (fun u n => u.lampApply_pwr n) _ _

@[simp] theorem fabricLost_pwr (s : State) : s.fabricLost.pwr = s.pwr := rfl

/-- The fabric dies lose their enable. -/
theorem fabricOff_pwr (s : State) : s.fabricOff.pwr = { s.pwr with enF := false, upF := false } := by
  unfold State.fabricOff
  dsimp only
  rw [lampsRegate_pwr, setFlag_pwr]

/-- The save of an entry to DOZE forgets halted tiles where contexts are not kept. -/
theorem fabricSaved_pwr (s : State) : s.fabricSaved.pwr = { s.pwr with halted := if s.dozeKeepTile then s.pwr.halted else [], haltedEng := [] } := by
  unfold State.fabricSaved
  dsimp only
  refine (foldl_pwr (fun _ _ => by rfl) _ _).trans (ite_pwr (s := { s with pwr := _ }) ?_ ?_)
  · exact ite_pwr (s := { s with pwr := _ }) rfl rfl
  · exact (foldl_pwr (fun _ _ => by rfl) _ _).trans (ite_pwr (s := { s with pwr := _ }) rfl rfl)

/-! ### The caddy, external DRAM and the vault -/

@[simp] theorem caddySleep_pwr (s : State) : s.caddySleep.pwr = s.pwr := by
  unfold State.caddySleep
  rw [put_pwr]
  exact foldl_pwr (fun _ _ => put_pwr _ _ _) _ _

@[simp] theorem xdramSleep_pwr (s : State) (keep : Option Nat) : (s.xdramSleep keep).pwr = s.pwr := by
  unfold State.xdramSleep
  refine foldl_pwr (fun u c => ?_) _ _
  split <;> rfl

@[simp] theorem loseCaddy_pwr (s : State) : s.loseCaddy.pwr = s.pwr := rfl

theorem loseSave_pwr (s : State) : s.loseSave.pwr = { s.pwr with saveKey := false, saveGen := none } := rfl

@[simp] theorem storeChanged_pwr (s : State) : s.storeChanged.pwr = s.pwr := by
  unfold State.storeChanged State.storeResults
  exact ite_pwr rfl (persist_pwr _ _)

@[simp] theorem setVault_pwr (s : State) (v : VaultUnit) : (s.setVault v).pwr = s.pwr := rfl
@[simp] theorem vaultDropBufs_pwr (s : State) : s.vaultDropBufs.pwr = s.pwr := rfl

@[simp] theorem vaultSleep_pwr (s : State) : s.vaultSleep.pwr = s.pwr := by
  unfold State.vaultSleep
  simp only [apply_ite State.pwr, put_pwr, setVault_pwr, vaultDropBufs_pwr, ite_self]

@[simp] theorem learn_pwr (s : State) : s.learn.pwr = s.pwr := by
  unfold State.learn
  split
  · rw [draw_pwr, persist_pwr]
  · rfl

/-! ### The states entered (R76, R78, R90) -/

/-- An entry to DOZE leaves the wakes that have latched meanwhile. -/
theorem enterDoze_wakeAfter (s : State) : s.enterDoze.pwr.wakeAfter = s.pwr.wakeAfter := by
  unfold State.enterDoze
  dsimp only
  rw [setFlag_pwr]
  dsimp only
  rw [xdramSleep_pwr, caddySleep_pwr, fabricOff_pwr, fabricSaved_pwr]

/-- Every enable falls. -/
theorem enablesFall_pwr (s : State) : s.enablesFall.pwr = { s.pwr with
    refLow := none, enB := false, enC := false, enL := false, enF := false, upB := false, upC := false, upL := false, upF := false } := by
  unfold State.enablesFall
  dsimp only
  rw [retick_pwr, setFlag_pwr, setFlag_pwr, setFlag_pwr, setFlag_pwr, setFlag_pwr]

/-- After an entry to SLEEP every enable is low, and the wakes that have latched meanwhile stand. -/
theorem enterSleep_pwr (s : State) : s.enterSleep.pwr.wakeAfter = s.pwr.wakeAfter ∧ s.enterSleep.pwr.enB = false ∧
    s.enterSleep.pwr.enF = false ∧ s.enterSleep.pwr.enC = false ∧ s.enterSleep.pwr.enL = false := by
  unfold State.enterSleep
  dsimp only
  rw [enablesFall_pwr]
  refine ⟨?_, rfl, rfl, rfl, rfl⟩
  dsimp only
  rw [learn_pwr, vaultSleep_pwr, loseSave_pwr, loseCaddy_pwr, losePlinth_pwr, fabricOff_pwr, fabricLost_pwr, storeChanged_pwr]

end State
end Sys2Proof.Machine

/-! SUPPORT. Entries: the abort, the save of DOZE, the commit, and the statement of entries settled (R77, R78, R80, R85, R86, R90). -/

namespace Sys2Proof.Machine
set_option Elab.async false

/-! ### Operations that leave the power states' fields as they are -/

/-- The fields of the power states (Table KET-6), the brake and the straps: they lie below the registers of every other unit. -/
def powerFields : List Fld := [Reg.PWR_STATE_CUR, Reg.PWR_STATE_MOVING, Reg.PWR_STATE_RESTORE, Reg.PWR_CLK_STATUS_CCLK_LOCK,
  Reg.BUD_STAT_BRAKE, Reg.SYS_STRAP_ENS_ID, Reg.SYS_STRAP_CFG_MODE]

/-- From `s` to `t` those fields read the same. -/
def PowerKept (s t : State) : Prop := ∀ f ∈ powerFields, t.get f = s.get f

/-- A field is none of those. -/
abbrev Aside (f : Fld) : Prop := ∀ g ∈ powerFields, g.key ≠ f.key

theorem aside_above {a l w r : Nat} (h : 0x20000 ≤ a) : Aside ⟨a, l, w, r⟩ := by
  have low : ∀ g ∈ powerFields, g.key < 0x20000 * 32 := by decide
  intro g hg same
  have := low g hg
  have high : Fld.key ⟨a, l, w, r⟩ = a * 32 + l := rfl
  omega

namespace PowerKept

variable {s t : State}

theorem refl (s : State) : PowerKept s s := fun _ _ => rfl

theorem put (h : PowerKept s t) {f : Fld} (v : Nat) (out : Aside f) : PowerKept s (t.put f v) :=
  fun g hg => (t.get_put_ne v (out g hg)).trans (h g hg)

theorem ite {c : Prop} [Decidable c] {u : State} (h : PowerKept s t) (k : PowerKept s u) : PowerKept s (if c then t else u) := by
  split <;> assumption

theorem foldl {α : Type} {f : State → α → State} (h : PowerKept s t) (l : List α) (step : ∀ u a, PowerKept s u → PowerKept s (f u a)) :
    PowerKept s (l.foldl f t) :=
  List.foldlRecOn (motive := PowerKept s) l f h fun u hu a _ => step u a hu

/-- Writes of other registers keep the fields. -/
theorem of_regsBut (h : PowerKept s t) {fs : List Fld} {u : State} (but : RegsBut fs t u) (out : ∀ f ∈ fs, Aside f) : PowerKept s u :=
  fun g hg => (get_of_regsBut but fun f hf => (out f hf g hg).symm).trans (h g hg)

theorem clearRegs (h : PowerKept s t) {lo : Nat} (hi : Nat) (high : 0x20000 ≤ lo) : PowerKept s (t.clearRegs lo hi) := by
  have low : ∀ g ∈ powerFields, g.key < 0x20000 * 32 := by decide
  refine fun g hg => Eq.trans ?_ (h g hg)
  have := low g hg
  rw [State.get, State.get, tget, tget, State.clearRegs, tfind_tclear, if_neg (by omega)]

/-! ### Tiles and engines that go on (R77, R86) -/

theorem releaseEngines (h : PowerKept s t) : PowerKept s t.releaseEngines := by
  unfold State.releaseEngines
  refine foldl ?_ _ fun u e hu => ite (hu.put (f := Reg.ENG_STAT_RUN e) 1 (aside_above (by omega))) hu
  exact h

theorem releaseTiles (h : PowerKept s t) (l : List Nat) : PowerKept s (t.releaseTiles l) :=
  h.foldl _ fun u n hu => hu.put _ (aside_above (by omega))

theorem releaseHeld (h : PowerKept s t) (m : Nat) : PowerKept s (t.releaseHeld m) :=
  h.foldl _ fun u n hu => hu.foldl _ fun v st hv => ite (hv.put _ (aside_above (by omega))) hv

end PowerKept

/-! ### The abort of an entry (R77, R86) -/

theorem State.runOrIdle_cur (s : State) : s.runOrIdle.cur = if s.get Reg.BUD_STAT_BRAKE = 2 then 1 else 0 :=
  State.get_put_fits _ (by split <;> decide)

/-- The M7 is back in RUN, or in IDLE under BRAKE 2, and nothing moves. -/
theorem State.abortEntry_shows (s : State) : s.abortEntry.cur = (if s.get Reg.BUD_STAT_BRAKE = 2 then 1 else 0) ∧
    s.abortEntry.moving = false ∧ s.abortEntry.pwr.stage = .none ∧ s.abortEntry.pwr.halted = [] := by
  have unhalted : PowerKept s s.unhalt := PowerKept.refl s
  have released : PowerKept s (s.unhalt.releaseEngines.releaseHalted.releaseHeld (s.get Reg.CWALL_MASK)) :=
    (unhalted.releaseEngines.releaseTiles _).releaseHeld _
  have brake := released Reg.BUD_STAT_BRAKE (by decide)
  unfold State.abortEntry State.moving State.flag
  refine ⟨?_, ?_, rfl, rfl⟩
  · simp (disch := decide) only [State.cur, State.get_mk, State.tget_regs, State.get_setFlag_ne]
    refine (State.runOrIdle_cur _).trans ?_
    rw [State.get_put_ne _ _ (by decide), State.get_setFlag_ne _ _ (by decide), brake]
  · simp (disch := decide) [State.get_setFlag_ne, State.get_setFlag_same, State.get_put_ne, State.runOrIdle, b2n]

/-! ### The save of DOZE (R76) -/

/-- Memory ranges forgotten change the bytes, their error states and the ciphertexts named. -/
theorem State.foldl_forget (l : List Nat) (lo hi : Nat → Nat) (s : State) :
    ∃ m e c, l.foldl (fun s n => s.forget (lo n) (hi n)) s = { s with mem := m, ecc := e, cast := c } := by
  induction l generalizing s with
  | nil => exact ⟨_, _, _, rfl⟩
  | cons n l ih =>
    obtain ⟨m, e, c, h⟩ := ih (s.forget (lo n) (hi n))
    exact ⟨m, e, c, h⟩

/-- A save has its key, and its generation names the ciphertext. -/
theorem State.dozeSave_parts (s : State) :
    s.dozeSave.regs = s.regs ∧ s.dozeSave.pwr = { s.pwr with saveKey := true, saveGen := some s.draws } := by
  unfold State.dozeSave
  obtain ⟨m, e, c, h⟩ := State.foldl_forget (List.range 192) (fun n => n * 0x4000000 + 0x3F00000) (fun n => (n + 1) * 0x4000000) s
  rw [h]
  exact ⟨rfl, rfl⟩

/-! ### The commit of an entry (R78, R90) -/

theorem State.entryReply_pwr (s : State) : s.entryReply.pwr = s.pwr := by
  unfold State.entryReply
  split
  · rw [State.flushPeers_pwr, State.completeReq_pwr]
  · rfl

/-- The target state as the commit reaches it, before PWR_STATE shows it. -/
def State.entryTarget (s : State) : State :=
  let s2 := (s.entryReply.abandonOps (fun _ => false) (Ans.code 0xE (0x100 + s.get Reg.PWR_STATE_TGT))).flushPeers
  let s3 := if s.pwr.fromDoze then s2 else s2.plinthOut
  if s.get Reg.PWR_STATE_TGT = 2 then s3.enterDoze else s3.enterSleep

/-- PWR_STATE shows the state reached, and the entry is over. -/
def State.entryEnds (s : State) (target : Nat) : State :=
  let s1 := ((s.put Reg.PWR_STATE_CUR target).setFlag Reg.PWR_STATE_MOVING false).put Reg.PWR_STATE_TGT 0
  State.retick { s1 with pwr := { s1.pwr with stage := .none, req := none, fromDoze := false } }

theorem State.entryTarget_wakeAfter (s : State) : s.entryTarget.pwr.wakeAfter = s.pwr.wakeAfter := by
  have out (c : Prop) [Decidable c] (u : State) : (if c then u else u.plinthOut).pwr = u.pwr := by
    split
    · rfl
    · exact u.plinthOut_pwr
  unfold State.entryTarget
  dsimp only
  split
  · rw [State.enterDoze_wakeAfter, out, State.flushPeers_pwr, State.abandonOps_pwr, s.entryReply_pwr]
  · obtain ⟨wakeAfter, -⟩ := State.enterSleep_pwr _
    rw [wakeAfter, out, State.flushPeers_pwr, State.abandonOps_pwr, s.entryReply_pwr]

theorem State.entryEnds_pwr (s : State) (target : Nat) :
    (s.entryEnds target).pwr = { s.pwr with stage := .none, req := none, fromDoze := false } := State.retick_pwr _

theorem State.entryEnds_shows (s : State) {target : Nat} (fits : target < 8) :
    (s.entryEnds target).cur = target ∧ (s.entryEnds target).moving = false := by
  have cutTarget : target % 2 ^ Reg.PWR_STATE_CUR.width = target := Nat.mod_eq_of_lt fits
  unfold State.cur State.moving State.flag State.entryEnds
  simp (disch := decide) [State.get_retick, State.get_put_ne, State.get_setFlag_ne, State.get_setFlag_same, cutTarget, b2n]

/-- The commit waits while the completion reply waits for its transport. -/
theorem execPwrEntryCommit_waits {s : State} {p : Packet} (req : s.pwr.req = some p) (waits : s.entryReply.repliesWait p.via = true) :
    execPwrEntryCommit s = .next s := by
  unfold execPwrEntryCommit
  exact if_pos (.inr (.inr (by simpa [req] using waits)))

/-- With no commit, no reply and no wake to wait for, the target is reached. -/
theorem execPwrEntryCommit_reached {s : State} (stage : s.pwr.stage = .prepare) (commits : s.vault.commits = [])
    (wake : s.pwr.wakeAfter = none) (sent : ∀ p, s.pwr.req = some p → s.entryReply.repliesWait p.via = false) :
    execPwrEntryCommit s = .next (s.entryTarget.entryEnds (s.get Reg.PWR_STATE_TGT)) := by
  have goes : ¬ (s.pwr.stage ≠ .prepare ∨ s.vault.commits ≠ [] ∨ (s.pwr.req.any (fun p => s.entryReply.repliesWait p.via)) = true) := by
    cases req : s.pwr.req with
    | none => simp [stage, commits]
    | some p => simp [stage, commits, sent p req]
  have none : (s.entryTarget.entryEnds (s.get Reg.PWR_STATE_TGT)).pwr.wakeAfter = none := by
    rw [State.entryEnds_pwr]
    exact s.entryTarget_wakeAfter.trans wake
  unfold execPwrEntryCommit
  refine (if_neg goes).trans (congrArg Host.Outcome.next ?_)
  split
  · rename_i b latched
    exact absurd (none.symm.trans latched) (Option.some_ne_none b).symm
  · rfl

/-! ### PWR_CTRL written (R85) -/

/-- The settings of PWR_CTRL stored, before its bit WAKE takes effect. -/
def State.pwrCtrlStored (s : State) (w : Nat) : State :=
  let t := if bits w 16 16 = 0 then s else s.put Reg.PWR_CTRL_IDLE_DELAY (bits w 16 16)
  (t.put Reg.PWR_CTRL_AUTO_IDLE (bits w 9 1)).put Reg.PWR_CTRL_IDLE_UCLK (bits w 0 8)

theorem State.pwrCtrlWrite_eq (s : State) (w : Nat) :
    s.pwrCtrlWrite w = if bit w 8 then (s.pwrCtrlStored w).leaveIdle else s.pwrCtrlStored w := rfl

/-- A longer list of fields that may change is the weaker statement. -/
theorem regsBut_mono {fs gs : List Fld} {s t : State} (h : RegsBut fs s t) (sub : fs ⊆ gs) : RegsBut gs s t :=
  fun k hk => h k fun f hf => hk f (sub hf)

theorem State.pwrCtrlStored_frame (s : State) (w : Nat) : s.pwrCtrlStored w = { s with regs := (s.pwrCtrlStored w).regs } ∧
    RegsBut [Reg.PWR_CTRL_AUTO_IDLE, Reg.PWR_CTRL_IDLE_UCLK, Reg.PWR_CTRL_IDLE_DELAY] s (s.pwrCtrlStored w) := by
  unfold State.pwrCtrlStored
  dsimp only
  split
  · exact ⟨rfl, regsBut_put (regsBut_put (regsBut_refl _ _) _ (by simp)) _ (by simp)⟩
  · exact ⟨rfl, regsBut_put (regsBut_put (regsBut_put (regsBut_refl _ _) _ (by simp)) _ (by simp)) _ (by simp)⟩

/-- What PWR_CTRL holds after its write. -/
theorem State.pwrCtrlStored_shows (s : State) (w : Nat) : (s.pwrCtrlStored w).get Reg.PWR_CTRL_AUTO_IDLE = bits w 9 1 ∧
    (s.pwrCtrlStored w).get Reg.PWR_CTRL_IDLE_UCLK = bits w 0 8 ∧
    (bits w 16 16 ≠ 0 → (s.pwrCtrlStored w).get Reg.PWR_CTRL_IDLE_DELAY = bits w 16 16) := by
  unfold State.pwrCtrlStored
  refine ⟨?_, State.get_put_fits _ (bits_lt _ _ _), fun delay => ?_⟩
  · rw [State.get_put_ne _ _ (by decide)]
    exact State.get_put_fits _ (bits_lt _ _ _)
  · rw [State.get_put_ne _ _ (by decide), State.get_put_ne _ _ (by decide), if_neg delay]
    exact State.get_put_fits _ (bits_lt _ _ _)

/-! ### DOZE_LIMIT (R90) -/

theorem State.dozeToSleep_shows (s : State) : (s.dozeToSleep none).moving = true ∧ (s.dozeToSleep none).get Reg.PWR_STATE_TGT = 3 := by
  unfold State.moving State.flag State.dozeToSleep
  simp (disch := decide) [State.get_put_ne, State.get_setFlag_ne, State.get_setFlag_same, b2n]
  decide

/-- Settles O14: each event through the lemma that says what it does. -/
theorem powerEntry : Obligations.PowerEntry := by
  unfold Obligations.PowerEntry
  refine fun s => ⟨fun p stage force moves req => ?timeout, fun stage quiet => ⟨fun other => ?sleep, fun doze => ?doze⟩,
    fun stage commits ⟨p, req, waits⟩ => ?waits, fun stage commits wake target sent => ?commit, fun w up => ?wake,
    fun up run still auto recast bist => ?idle, fun on cur stage limit => ?limit⟩
  case timeout =>
    refine ⟨?_, s.abortEntry_shows⟩
    change execPwrQuiesceTimeout s = _
    unfold execPwrQuiesceTimeout
    rw [if_neg (by simp [stage, force, moves]), req]
  case sleep =>
    change execPwrQuiesceDone s = _
    unfold execPwrQuiesceDone
    rw [if_neg (by simp [stage, quiet])]
    exact congrArg Host.Outcome.next (if_neg other)
  case doze =>
    obtain ⟨regs, pwr⟩ := State.dozeSave_parts { s with pwr := { s.pwr with stage := .prepare } }
    refine ⟨_, ?_, regs, pwr⟩
    change execPwrQuiesceDone s = _
    unfold execPwrQuiesceDone
    rw [if_neg (by simp [stage, quiet])]
    exact congrArg Host.Outcome.next (if_pos doze)
  case waits => exact execPwrEntryCommit_waits req waits
  case commit =>
    obtain ⟨cur, moving⟩ := s.entryTarget.entryEnds_shows (target := s.get Reg.PWR_STATE_TGT)
      (by rcases List.mem_pair.1 target with h | h <;> omega)
    refine ⟨_, execPwrEntryCommit_reached stage commits wake sent, cur, moving, ?_⟩
    rw [State.entryEnds_pwr]
    refine ⟨rfl, rfl, fun sleep => ?_⟩
    unfold State.entryTarget
    dsimp only
    rw [if_neg (by omega)]
    exact (State.enterSleep_pwr _).2
  case wake =>
    obtain ⟨auto, uclk, delay⟩ := s.pwrCtrlStored_shows w.toNat
    obtain ⟨frame, but⟩ := s.pwrCtrlStored_frame w.toNat
    refine ⟨s.pwrCtrlWrite w.toNat, congrArg Host.Outcome.next (if_pos up), ?_⟩
    have within := regsBut_mono (gs := [Reg.PWR_CTRL_AUTO_IDLE, Reg.PWR_CTRL_IDLE_UCLK, Reg.PWR_CTRL_IDLE_DELAY, Reg.PWR_STATE_CUR]) but (by simp)
    rw [State.pwrCtrlWrite_eq]
    split
    · rename_i wakes
      obtain ⟨r, hr⟩ := (s.pwrCtrlStored w.toNat).leaveIdle_regs
      refine ⟨?_, ?_, fun h => ?_, fun _ idle brake => ?_, ?_, regsBut_leaveIdle within (by simp)⟩
      · rw [State.get_leaveIdle _ (by decide), auto]
      · rw [State.get_leaveIdle _ (by decide), uclk]
      · rw [State.get_leaveIdle _ (by decide), delay h]
      · rw [State.leaveIdle_idle ((get_of_regsBut but (by decide)).trans idle) (by rwa [get_of_regsBut but (by decide)])]
        exact State.get_put_same _ _ _
      · rw [hr, frame]
    · rename_i stays
      exact ⟨auto, uclk, delay, fun wakes => absurd wakes stays, frame, within⟩
  case idle =>
    refine if_pos ?_
    simp [up, run, still, auto, recast, bist]
  case limit =>
    obtain ⟨moving, target⟩ := s.dozeToSleep_shows
    refine ⟨_, if_pos ?_, moving, target, rfl, rfl, rfl, ?_⟩
    · simp [on, cur, stage, State.dozeLimit, limit]
    · have moved : RegsBut [Reg.PWR_STATE_MOVING, Reg.PWR_STATE_TGT, Reg.PWR_CLK_STATUS_RC_ON] s
          (((s.setFlag Reg.PWR_STATE_MOVING true).put Reg.PWR_STATE_TGT 3).setFlag Reg.PWR_CLK_STATUS_RC_ON true) :=
        regsBut_put (regsBut_put (regsBut_put (regsBut_refl _ _) _ (by simp)) _ (by simp)) _ (by simp)
      exact moved

end Sys2Proof.Machine

/-! SUPPORT. What writing the log changes: its own registers and the reservation of its numbers (R602, R606, R607). -/

namespace Sys2Proof.Machine
set_option Elab.async false

/-- A record's place in the table finds it in the list of all records, so that no two records share a place. -/
theorem Rec.num_injective : Function.Injective Rec.num := by
  have found (r : Rec) : (allRecs ++ [Rec.bootPtr])[r.num]? = some r := by cases r <;> rfl
  intro r r' same
  exact Option.some.inj ((found r).symm.trans (same ▸ found r'))

/-- A record written leaves the others. -/
theorem State.recPair_putRec_ne (s : State) {r r' : Rec} (p : RecPair) (ne : r' ≠ r) : (s.putRec r p).recPair r' = s.recPair r' :=
  tget_tput_ne _ _ _ _ fun same => ne (Rec.num_injective same)

/-- The register fields that writing the log changes (Table FLT-10). -/
def logFields : List Fld := [Reg.LOG_HEAD_SEQ, Reg.LOG_STAT_PTHR, Reg.LOG_STAT_DROP, Reg.LOG_DROPS_COUNT, Reg.LOG_EVT_NEW, Reg.LOG_EVT_ALERT]

/-- From `s` to `t` only the log was written: of the registers its own, of the records the reservation of its numbers. -/
structure LogWrites (s t : State) : Prop where
  regs : RegsBut logFields s t
  recs : ∀ r, r ≠ .logReserve → t.recPair r = s.recPair r
  last : ∀ x, t.nvm.last = some x → x.1 = .logReserve ∨ s.nvm.last = some x

namespace LogWrites

variable {s t u : State}

theorem refl (s : State) : LogWrites s s := ⟨regsBut_refl _ _, fun _ _ => rfl, fun _ => .inr⟩

theorem log (h : LogWrites s t) (l : LogUnit) : LogWrites s { t with log := l } := ⟨h.regs, h.recs, h.last⟩

theorem put (h : LogWrites s t) {f : Fld} (v : Nat) (mem : f ∈ logFields) : LogWrites s (t.put f v) :=
  ⟨regsBut_put h.regs v mem, h.recs, h.last⟩

theorem ite {c : Prop} [Decidable c] (h : LogWrites s t) (k : LogWrites s u) : LogWrites s (if c then t else u) := by
  split <;> assumption

theorem event (h : LogWrites s t) {f : Fld} (m pos : Nat) (en : Fld) (vec : Nat) (fe : Out) (mem : f ∈ logFields) :
    LogWrites s (t.event f m pos en vec fe) := by
  have set : LogWrites s (t.orBits f m) := h.put _ mem
  exact ite ⟨set.regs, set.recs, set.last⟩ set

/-- The reservation of log numbers is written. -/
theorem reserve (h : LogWrites s t) : LogWrites s (t.persist .logReserve) :=
  ⟨h.regs, fun r ne => (t.recPair_putRec_ne _ ne).trans (h.recs r ne), fun x hx => .inl (by cases hx; rfl)⟩

theorem logOffer (h : LogWrites s t) (e : LogEntry) : LogWrites s (t.logOffer e) := by
  unfold State.logOffer
  exact ite (ite (h.log _) (ite (h.log _) (h.put _ (by decide)))) h

theorem logPut (h : LogWrites s t) (e : LogSub) : LogWrites s (t.logPut e) := by
  have numbered : LogWrites s (t.put Reg.LOG_HEAD_SEQ t.nextSeq) := h.put _ (by decide)
  unfold State.logPut
  refine ite (event ?_ _ _ _ _ _ (by decide)) ?_
  all_goals exact event (logOffer (ite (numbered.log _) (reserve (numbered.log _))) _) _ _ _ _ _ (by decide)

theorem logLost (h : LogWrites s t) : LogWrites s t.logLost := by
  unfold State.logLost
  exact ite ((h.log _).logPut _) h

theorem logWrite (h : LogWrites s t) (e : LogSub) : LogWrites s (t.logWrite e) := h.logLost.logPut e

theorem logSubmit (h : LogWrites s t) (e : LogSub) : LogWrites s (t.logSubmit e) := by
  have dropped : LogWrites s ((t.bumpSat Reg.LOG_DROPS_COUNT 1).setFlag Reg.LOG_STAT_DROP true) := (h.put _ (by decide)).put _ (by decide)
  unfold State.logSubmit
  exact ite (h.log _) (dropped.log _)

theorem logEvent (h : LogWrites s t) (code src : Nat) (data : List Byte) : LogWrites s (t.logEvent code src data) := by
  unfold State.logEvent
  exact ite (h.logWrite _) (h.logSubmit _)

theorem logTake (h : LogWrites s t) : LogWrites s t.logTake := by
  unfold State.logTake
  split
  · exact h
  · exact (h.log _).logWrite _

theorem logTakeN (n : Nat) (h : LogWrites s t) : LogWrites s (State.logTakeN n t) := by
  induction n generalizing t with
  | zero => exact h
  | succ n ih => exact ih h.logTake

theorem logNow (h : LogWrites s t) (code src : Nat) (data : List Byte) : LogWrites s (t.logNow code src data) :=
  (h.logTakeN _).logWrite _

/-- A field that is none of the log's keeps its value. -/
theorem get (h : LogWrites s t) {f : Fld} (out : ∀ g ∈ logFields, g.key ≠ f.key) : t.get f = s.get f := get_of_regsBut h.regs out

end LogWrites

/-- Logging an event keeps every field that is none of the log's. -/
theorem State.get_logEvent (s : State) (code src : Nat) (data : List Byte) {f : Fld} (out : ∀ g ∈ logFields, g.key ≠ f.key) :
    (s.logEvent code src data).get f = s.get f := ((LogWrites.refl s).logEvent _ _ _).get out

end Sys2Proof.Machine

/-! SUPPORT. Exits: rails and clocks, their failures, and the restore from DOZE (R68, R71, R72, R82, R83, R87, R88, R436, R637). -/

namespace Sys2Proof.Machine
set_option Elab.async false

/-! ### What calibration, training, lamps and engines leave of the power states -/

namespace PowerKept

variable {s t : State}

theorem logEvent (h : PowerKept s t) (code src : Nat) (data : List Byte) : PowerKept s (t.logEvent code src data) :=
  h.of_regsBut ((LogWrites.refl t).logEvent code src data).regs (by decide)

theorem calibrated (h : PowerKept s t) (fail : List Nat) : PowerKept s (t.calibrated fail) := by
  have shown (u : State) (n : Nat) (hu : PowerKept s u) : PowerKept s ((u.put Reg.CADDY_STAT_FAILED n).put Reg.CADDY_STAT_STATE 1) :=
    (hu.put _ (by decide)).put _ (by decide)
  unfold State.calibrated
  refine foldl (shown _ _ ?_) _ fun u n hu => hu.logEvent _ _ _
  exact h

theorem wakeTraining (h : PowerKept s t) : PowerKept s t.wakeTraining := by
  have trained (u : State) (hu : PowerKept s u) : PowerKept s ((u.put Reg.XDRAM_STAT_CH 0).setXAll 1) :=
    (hu.put _ (by decide)).foldl _ fun v c hv => hv.put _ (by decide)
  have untrained : PowerKept s (t.put Reg.XDRAM_STAT_CH 0) := h.put _ (by decide)
  unfold State.wakeTraining State.startTraining
  refine ite ?_ (trained _ ?_)
  · exact untrained
  · exact h

theorem lampPhase (h : PowerKept s t) (n ph : Nat) : PowerKept s (t.lampPhase n ph) :=
  (h.put _ (aside_above (by omega))).put _ (aside_above (by omega))

theorem lampRamp (h : PowerKept s t) (n target : Nat) : PowerKept s (t.lampRamp n target) :=
  lampPhase (t := t.putLamp n _) h n 3

theorem lampSoft (h : PowerKept s t) (n : Nat) : PowerKept s (t.lampSoft n) := lampPhase (t := t.putLamp n _) h n _

theorem lampReset (h : PowerKept s t) (n : Nat) : PowerKept s (t.lampReset n) :=
  ite h ((h.put _ (aside_above (by omega))).put _ (aside_above (by omega)))

theorem lampApply (h : PowerKept s t) (n : Nat) : PowerKept s (t.lampApply n) := by
  have start := h.lampReset n
  have set (l : Lamp) : PowerKept s ((t.lampReset n).putLamp n l) := start
  have retried : PowerKept s ((t.lampReset n).lampRetry n) := (start.put _ (aside_above (by omega))).lampSoft n
  unfold State.lampApply
  dsimp only
  refine ite (ite (start.lampPhase _ _) (ite retried start)) (ite (ite (start.lampSoft n) start) (ite (ite start (start.lampPhase _ _)) ?_))
  refine ite (ite start ((set _).lampRamp _ _)) (ite (ite start ((set _).lampRamp _ _)) (ite (set _) (ite start ((set _).lampRamp _ _))))

theorem lampsRegate (h : PowerKept s t) : PowerKept s t.lampsRegate := h.foldl _ fun _ n hu => hu.lampApply n

theorem cancelHq (h : PowerKept s t) (key : Nat) : PowerKept s (t.cancelHq key) := by
  have freed (u : State) (o : HqOp) (hu : PowerKept s u) : PowerKept s (u.hqUnreserve o) := by
    unfold State.hqUnreserve State.hqReserve
    refine ite (ite hu ?_) hu
    split <;> exact hu
  have listed (q : Nat) (push : Bool) (l : List Nat) : PowerKept s (t.setHqList q push l) := ite h h
  have shown (u : State) (q : Nat) (hu : PowerKept s u) : PowerKept s (u.showHq q) :=
    ((hu.put _ (aside_above (by omega))).put _ (aside_above (by omega))).put _ (aside_above (by omega))
  unfold State.cancelHq
  split
  · exact h
  · exact shown _ _ (freed _ _ (listed _ _ _))

theorem engInit (h : PowerKept s t) (e : Nat) : PowerKept s (t.engInit e) := by
  have win : 0x20000 ≤ engWin e := by unfold engWin; omega
  unfold State.engInit
  dsimp only
  refine clearRegs ?_ _ (by omega)
  split
  · exact h.cancelHq _
  · exact h

theorem engStart (h : PowerKept s t) (e : Nat) : PowerKept s (t.engStart e) := by
  have runs : PowerKept s (t.put (Reg.ENG_STAT_RUN e) 1) := h.put _ (aside_above (by omega))
  unfold State.engStart
  split
  · exact h
  · exact runs

end PowerKept

namespace State

theorem calibrated_pwr (s : State) (fail : List Nat) : (s.calibrated fail).pwr = s.pwr := by
  unfold State.calibrated
  dsimp only
  rw [foldl_pwr fun u n => u.logEvent_pwr _ _ _, put_pwr, put_pwr]

theorem wakeTraining_pwr (s : State) : s.wakeTraining.pwr = s.pwr := by
  unfold State.wakeTraining State.startTraining State.setXAll
  dsimp only
  split
  · rfl
  · rw [foldl_pwr (f := fun u c => u.setXState c 1) fun _ _ => by rfl, put_pwr]
    rfl

theorem cancelHq_pwr (s : State) (key : Nat) : (s.cancelHq key).pwr = s.pwr := by
  have listed (q : Nat) (push : Bool) (l : List Nat) : (s.setHqList q push l).pwr = s.pwr := ite_pwr rfl rfl
  have freed (u : State) (o : HqOp) : (u.hqUnreserve o).pwr = u.pwr := by
    unfold State.hqUnreserve State.hqReserve
    refine ite_pwr (ite_pwr rfl ?_) rfl
    split <;> rfl
  unfold State.cancelHq
  split
  · rfl
  · exact (freed _ _).trans (listed _ _ _)

theorem engInit_pwr (s : State) (e : Nat) : (s.engInit e).pwr = s.pwr := by
  unfold State.engInit
  dsimp only
  rw [clearRegs_pwr]
  dsimp only
  split
  · exact s.cancelHq_pwr _
  · rfl

/-- Engines that start leave the stage of the start order. -/
theorem enginesGo_stage (s : State) (l : List Nat) : (s.enginesGo l).pwr.stage = s.pwr.stage := by
  refine List.foldlRecOn (motive := fun u : State => u.pwr.stage = s.pwr.stage) l _ rfl fun u hu e _ => ?_
  unfold State.engStart
  split <;> exact hu

theorem releaseTiles_pwr (s : State) (l : List Nat) : (s.releaseTiles l).pwr = s.pwr := foldl_pwr (fun _ _ => by rfl) _ _

theorem releaseHeld_pwr (s : State) (m : Nat) : (s.releaseHeld m).pwr = s.pwr := by
  refine foldl_pwr (fun u n => foldl_pwr (fun v st => ?_) _ _) _ _
  split <;> rfl

/-! ### Rails -/

/-- A step along the start order leaves enables and rails. -/
theorem railsStep_rail (s : State) (r : Rail) : s.railsStep.pwr.rail r = s.pwr.rail r := by
  have stays (u : State) (hu : u.pwr = s.pwr) (g : Stage) : (u.setStage g).pwr.rail r = s.pwr.rail r := by
    rw [← hu]
    cases r <;> rfl
  unfold State.railsStep
  split
  · split
    · exact stays _ rfl _
    · rfl
  · split
    · exact stays _ (ite_pwr s.plinthAgain_pwr rfl) _
    · rfl
  · rfl

/-- A failed supply or clock leaves the M7 in SLEEP with every enable low (R68, R637). -/
theorem fallToSleep_shows (s : State) : s.fallToSleep.cur = 3 ∧ s.fallToSleep.moving = false ∧ s.fallToSleep.pwr.stage = .none ∧
    s.fallToSleep.pwr.enB = false ∧ s.fallToSleep.pwr.enF = false ∧ s.fallToSleep.pwr.enC = false ∧ s.fallToSleep.pwr.enL = false := by
  unfold State.fallToSleep
  dsimp only
  rw [enablesFall_pwr]
  refine ⟨?_, ?_, rfl, rfl, rfl, rfl, rfl⟩
  · unfold State.cur State.enablesFall
    simp (disch := decide) [State.get_retick, State.get_put_ne, State.get_setFlag_ne]
    decide
  · unfold State.moving State.flag State.enablesFall
    simp (disch := decide) [State.get_retick, State.get_setFlag_ne, State.get_setFlag_same, b2n]

/-! ### The restore and the end of an exit -/

/-- An exit that ends: RUN, or IDLE under BRAKE 2, and nothing moves. -/
theorem exitDone_shows {s : State} (stage : s.pwr.stage = .restore) :
    s.exitDone.cur = (if s.get Reg.BUD_STAT_BRAKE = 2 then 1 else 0) ∧ s.exitDone.moving = false ∧
    s.exitDone.get Reg.PWR_STATE_RESTORE = s.get Reg.PWR_STATE_RESTORE ∧ s.exitDone.pwr.stage = .none ∧ s.exitDone.pwr.halted = [] := by
  unfold State.exitDone
  rw [if_neg (by simp [stage])]
  dsimp only
  rw [retick_pwr]
  refine ⟨?_, ?_, ?_, rfl, rfl⟩
  · refine (State.get_retick _ (by decide)).trans ((State.runOrIdle_cur _).trans ?_)
    simp (disch := decide) only [State.get_mk, State.tget_regs, State.get_put_ne, State.get_setFlag_ne]
  · unfold State.moving State.flag State.runOrIdle
    simp (disch := decide) [State.get_retick, State.get_put_ne, State.get_setFlag_same, b2n]
  · unfold State.runOrIdle
    simp (disch := decide) [State.get_retick, State.get_put_ne, State.get_setFlag_ne]

/-- After a good restore engines start from their frames, and tiles and held streams go on. -/
def resumed (s : State) : State :=
  let m := s.get Reg.CWALL_MASK
  let live := (List.range 96).filter (fun e => bit (s.get Reg.CAST_REGIONS_LOADED) (e / 3))
  let s1 := live.foldl State.engInit s
  let s2 := if s.get Reg.CAST_STATUS_STATE = 3 then s1.enginesGo (live.filter (fun e => !bit m (e / 3))) else s1
  (s2.releaseTiles (s2.pwr.halted.filter (fun t => !bit m (tileRegion t)))).releaseHeld m

theorem restored_eq (s : State) : s.restored = (if s.get Reg.CAST_STATUS_STATE = 2 ∨ s.get Reg.CAST_STATUS_STATE = 3 then
    (s.resumed.put Reg.PWR_STATE_RESTORE 1).put Reg.CAST_STATUS_SRC 5 else s.resumed).lampsRegate.exitDone := rfl

theorem resumed_kept (s : State) : PowerKept s s.resumed ∧ s.resumed.pwr.stage = s.pwr.stage := by
  have inits (l : List Nat) : PowerKept s (l.foldl State.engInit s) := (PowerKept.refl s).foldl l fun _ e hu => hu.engInit e
  have goes (c : Prop) [Decidable c] (l k : List Nat) :
      PowerKept s (if c then (l.foldl State.engInit s).enginesGo k else l.foldl State.engInit s) :=
    PowerKept.ite ((inits l).foldl k fun _ e hu => hu.engStart e) (inits l)
  unfold State.resumed
  refine ⟨((goes _ _ _).releaseTiles _).releaseHeld _, ?_⟩
  dsimp only
  rw [releaseHeld_pwr, releaseTiles_pwr]
  split
  · rw [enginesGo_stage, foldl_pwr engInit_pwr]
  · rw [foldl_pwr engInit_pwr]

/-- What a good restore shows (R83). -/
theorem restored_shows {s : State} (stage : s.pwr.stage = .restore) : s.restored.cur = (if s.get Reg.BUD_STAT_BRAKE = 2 then 1 else 0) ∧
    s.restored.moving = false ∧
    s.restored.get Reg.PWR_STATE_RESTORE = (if s.get Reg.CAST_STATUS_STATE ∈ [2, 3] then 1 else s.get Reg.PWR_STATE_RESTORE) ∧
    s.restored.pwr.stage = .none ∧ s.restored.pwr.halted = [] := by
  obtain ⟨kept, stays⟩ := s.resumed_kept
  have shows_ (u : State) (hu : u.pwr.stage = .restore) := exitDone_shows (s := u.lampsRegate) (by rw [lampsRegate_pwr, hu])
  have lamps (u : State) : PowerKept u u.lampsRegate := (PowerKept.refl u).lampsRegate
  rw [restored_eq]
  split
  · rename_i back
    obtain ⟨cur, moving, restore, ended, halted⟩ :=
      shows_ ((s.resumed.put Reg.PWR_STATE_RESTORE 1).put Reg.CAST_STATUS_SRC 5) (by rw [put_pwr, put_pwr, stays, stage])
    refine ⟨?_, moving, ?_, ended, halted⟩
    · rw [cur, lamps _ _ (by decide), State.get_put_ne _ _ (by decide), State.get_put_ne _ _ (by decide), kept _ (by decide)]
    · rw [restore, lamps _ _ (by decide), State.get_put_ne _ _ (by decide), State.get_put_fits _ (by decide), if_pos (by simpa using back)]
  · rename_i gone
    obtain ⟨cur, moving, restore, ended, halted⟩ := shows_ s.resumed (stays.trans stage)
    refine ⟨?_, moving, ?_, ended, halted⟩
    · rw [cur, lamps _ _ (by decide), kept _ (by decide)]
    · rw [restore, lamps _ _ (by decide), kept _ (by decide), if_neg (by simpa using gone)]

end State

end Sys2Proof.Machine

/-! SUPPORT. The statement of rails, clocks and the restore settled: what each event does in its stage. -/

namespace Sys2Proof.Machine
set_option Elab.async false

variable {s : State}

/-! ### The reference (R71, R72, R87) -/

/-- EN_B and EN_L rise once the reference is valid; in a recovery from CLK_LOSS, where EN_L was kept, the exit's source is CLK_LOSS. -/
def State.refTaken (s : State) : State :=
  let s1 := if s.pwr.enL then s.put Reg.PWR_WAKE_FIRST_FIRST 0x12 else s
  State.setFlag { s1 with pwr := { s1.pwr with
    enB := true, enL := true, retried := false, stage := .railsBL, wakeAt := if s.pwr.enL then s1.time.up else s1.pwr.wakeAt } }
      Reg.PWR_CLK_STATUS_REF_OK true

theorem execRefclkValid_takes (on : s.kettleOn = true) (stage : s.pwr.stage = .ref) (req : s.flag Reg.PWR_CLK_STATUS_REF_REQ = true) :
    execRefclkValid s = .next s.refTaken.retick := if_neg (by simp [on, stage, req])

/-- Registers and the power unit alone change. -/
theorem State.refTaken_frame (s : State) : s.refTaken = { s with regs := s.refTaken.regs, pwr := s.refTaken.pwr } := by
  unfold State.refTaken
  dsimp only
  split <;> rfl

theorem State.retick_of_frame {t : State} (frame : t = { s with regs := t.regs, pwr := t.pwr }) : t.retick =
    { s with regs := t.retick.regs, pwr := t.retick.pwr, time := { s.time with tod := t.retick.time.tod }, draws := t.retick.draws } := by
  obtain ⟨r, x, d, h⟩ := t.retick_frame
  rw [h, frame]

theorem execRefclkFail_first (on : s.kettleOn = true) (stage : s.pwr.stage = .ref) (enL : s.pwr.enL = false)
    (req : s.flag Reg.PWR_CLK_STATUS_REF_REQ = true) (first : s.pwr.retried = false) : execRefclkFail s =
      .next (State.setFlag { s with pwr := { s.pwr with retried := true, refLow := some s.time.up } } Reg.PWR_CLK_STATUS_REF_REQ false) := by
  unfold execRefclkFail
  rw [if_neg (by simp [on, stage, enL, req]), if_pos (by simp [first])]

/-- The M7 stays in SLEEP until the next wake. -/
def State.refGivenUp (s : State) : State :=
  ((((s.logEvent 0x0203 0 []).setStage .none).setFlag Reg.PWR_STATE_MOVING false).setFlag Reg.PWR_CLK_STATUS_REF_REQ false).retick

theorem execRefclkFail_again (on : s.kettleOn = true) (stage : s.pwr.stage = .ref) (enL : s.pwr.enL = false)
    (req : s.flag Reg.PWR_CLK_STATUS_REF_REQ = true) (again : s.pwr.retried = true) : execRefclkFail s = .next s.refGivenUp := by
  unfold execRefclkFail
  rw [if_neg (by simp [on, stage, enL, req]), if_neg (by simp [again])]
  rfl

theorem State.get_setStage (s : State) (g : Stage) (f : Fld) : (s.setStage g).get f = s.get f := rfl

theorem State.refGivenUp_shows (s : State) : s.refGivenUp.moving = false ∧ s.refGivenUp.flag Reg.PWR_CLK_STATUS_REF_REQ = false ∧
    s.refGivenUp.pwr.stage = .none ∧ s.refGivenUp.cur = s.cur := by
  unfold State.moving State.flag State.cur State.refGivenUp
  refine ⟨?_, ?_, ?_, ?_⟩
  · simp (disch := decide) [State.get_retick, State.get_setFlag_ne, State.get_setFlag_same, b2n]
  · simp (disch := decide) [State.get_retick, State.get_setFlag_same, b2n]
  · rw [State.retick_pwr]
    rfl
  · simp (disch := decide) [State.get_retick, State.get_setFlag_ne, State.get_setStage, State.get_logEvent]

/-- The clocks are lost: the domains beyond the kettle have failed, EN_L is kept and the reference is waited for. -/
def State.clkLost (s : State) : State :=
  let s1 := (s.domainsFail (fun _ => false)).enablesFall
  let s2 := { s1 with pwr := { s1.pwr with enL := s.pwr.enL, upL := s.pwr.upL, stage := .ref, retried := false } }
  (((s2.setFlag Reg.PWR_CLK_STATUS_REF_REQ true).put Reg.PWR_STATE_CUR 3).setFlag Reg.PWR_STATE_MOVING true).put Reg.PWR_STATE_TGT 0

theorem execClkLoss_loses (on : s.kettleOn = true) (ok : s.flag Reg.PWR_CLK_STATUS_REF_OK = true) :
    execClkLoss s = .next (s.clkLost.retick.logEvent 0x0202 0 (leBytes 1 s.cur)) := if_neg (by simp [on, ok])

theorem State.clkLost_shows (s : State) : s.clkLost.cur = 3 ∧ s.clkLost.moving = true ∧ s.clkLost.pwr.stage = .ref ∧
    s.clkLost.pwr.enB = false ∧ s.clkLost.pwr.enF = false ∧ s.clkLost.pwr.enC = false ∧ s.clkLost.pwr.enL = s.pwr.enL := by
  unfold State.cur State.moving State.flag State.clkLost
  refine ⟨?_, ?_, rfl, ?_⟩
  · rw [State.get_put_ne _ _ (by decide), State.get_setFlag_ne _ _ (by decide)]
    exact State.get_put_fits _ (by decide)
  · rw [State.get_put_ne _ _ (by decide), State.get_setFlag_same _ _ (by decide)]
    rfl
  · simp only [State.put_pwr, State.setFlag_pwr, State.enablesFall_pwr, and_self]

/-! ### Rails and PLLs (R68, R71, R82, R637) -/

/-- RAIL_UP brings a rail up exactly where its enable is high. -/
theorem execRailUp_rail (s : State) (r : Rail) : ∃ t, execRailUp r s = .next t ∧ (t.pwr.rail r).2 = (s.pwr.rail r).1 ∧
    ∀ r', (t.pwr.rail r').1 = (s.pwr.rail r').1 := by
  cases r
  all_goals
    refine ⟨_, rfl, congrArg Prod.snd (State.railsStep_rail _ _), fun r' => (congrArg Prod.fst (State.railsStep_rail _ r')).trans ?_⟩
    cases r' <;> rfl

/-- A rail that fails, as it rises or in use, is logged, and the M7 falls to SLEEP. -/
theorem exec_railFails (on : s.kettleOn = true) {r : Rail} (enabled : (s.pwr.rail r).1 = true) :
    exec (if (s.pwr.rail r).2 then .pgFall r else .railUpTimeout r) s = .next ((s.logEvent 0x0201 (railCode r) []).fallToSleep) := by
  cases up : (s.pwr.rail r).2
  · exact if_pos (by simp [on, enabled, up])
  · exact if_pos (by simp [on, enabled, up])

/-- A PLL whose lock its stage waits for. -/
def lockDue (s : State) (pll : Pll) : Prop :=
  s.pwr.stage = .pllN ∧ pll = .nclk ∨ s.pwr.stage = .pllC ∧ pll = .cclk ∨ s.pwr.stage = .pllF ∧ pll = .fab

theorem execPllLock_retries (on : s.kettleOn = true) {pll : Pll} (due : lockDue s pll) (first : s.pwr.retried = false) (cal : List (Fin 192)) :
    execPllLock pll false cal s = .next { s with pwr := { s.pwr with retried := true } } := by
  have fails : execPllLock pll false cal s = .next s.pllFails := by
    obtain ⟨stage, rfl⟩ | ⟨stage, rfl⟩ | ⟨stage, rfl⟩ := due
    all_goals exact (if_neg (by simp [on, stage])).trans (if_pos (by decide))
  rw [fails]
  exact congrArg Host.Outcome.next (if_neg (by simp [first]))

/-- The lock of NCLK starts the plinth and raises EN_F and EN_C. -/
def State.nclkLocked (s : State) : State :=
  let s1 := (State.setFlag { s with pwr := { s.pwr with retried := false } } Reg.PWR_CLK_STATUS_NCLK_LOCK true).plinthStart
  { s1 with pwr := { s1.pwr with enF := true, enC := true, stage := .railsFC } }

theorem execPllLock_nclk (on : s.kettleOn = true) (stage : s.pwr.stage = .pllN) (cal : List (Fin 192)) :
    execPllLock .nclk true cal s = .next s.nclkLocked.railsStep :=
  (if_neg (by simp [on, stage])).trans (if_neg (by decide))

/-- While the rail of the fabric dies is not up the exit waits. -/
theorem State.nclkLocked_waits (down : s.pwr.upF = false) : s.nclkLocked.railsStep = s.nclkLocked := by
  have down' : s.nclkLocked.pwr.upF = false := by
    unfold State.nclkLocked
    dsimp only
    rw [State.plinthStart_pwr, State.setFlag_pwr]
    exact down
  unfold State.railsStep
  exact if_neg (by simp [down'])

theorem State.plinthStart_shows (s : State) : s.plinthStart.flag Reg.MBX_STATUS_READY = true ∧ s.plinthStart.cur = 0 := by
  unfold State.plinthStart State.flag State.cur
  dsimp only
  refine ⟨?_, State.get_put_same _ _ _⟩
  rw [State.get_put_ne _ _ (by decide), State.get_setFlag_same _ _ (by decide)]
  rfl

theorem State.nclkLocked_shows (s : State) : s.nclkLocked.pwr.enF = true ∧ s.nclkLocked.pwr.enC = true ∧ s.nclkLocked.pwr.stage = .railsFC ∧
    s.nclkLocked.flag Reg.MBX_STATUS_READY = true ∧ s.nclkLocked.cur = 0 := by
  obtain ⟨ready, run⟩ := State.plinthStart_shows
    (State.setFlag { s with pwr := { s.pwr with retried := false } } Reg.PWR_CLK_STATUS_NCLK_LOCK true)
  unfold State.flag State.cur at *
  unfold State.nclkLocked
  dsimp only
  rw [State.get_mk, State.get_mk, State.tget_regs, State.tget_regs]
  exact ⟨rfl, rfl, rfl, ready, run⟩

/-- The lock of CCLK shows, and the fabric PLLs start. -/
def State.cclkLocked (s : State) : State :=
  (State.setFlag { s with pwr := { s.pwr with retried := false } } Reg.PWR_CLK_STATUS_CCLK_LOCK true).setStage .pllF

theorem State.cclkLocked_shows (s : State) : s.cclkLocked.pwr.stage = .pllF ∧ s.cclkLocked.flag Reg.PWR_CLK_STATUS_CCLK_LOCK = true := by
  unfold State.flag State.cclkLocked
  rw [State.get_setStage, State.get_setFlag_same _ _ (by decide)]
  exact ⟨rfl, rfl⟩

theorem execPllLock_cclk (on : s.kettleOn = true) (stage : s.pwr.stage = .pllC) (cal : List (Fin 192)) : execPllLock .cclk true cal s =
    .next (if s.pwr.fromDoze then (if s.get Reg.CADDY_STAT_STATE = 2 then s.cclkLocked.put Reg.CADDY_STAT_STATE 3 else s.cclkLocked)
      else (s.cclkLocked.calibrated (cal.map (fun n => n.val))).wakeTraining) := by
  have state : s.cclkLocked.get Reg.CADDY_STAT_STATE = s.get Reg.CADDY_STAT_STATE := by
    unfold State.cclkLocked
    rw [State.get_setStage, State.get_setFlag_ne _ _ (by decide)]
    rfl
  rw [← state]
  exact (if_neg (by simp [on, stage])).trans (if_neg (by decide))

theorem execPllLock_fab (on : s.kettleOn = true) (stage : s.pwr.stage = .pllF) (cal : List (Fin 192)) : execPllLock .fab true cal s =
    .next ((State.setFlag { s with pwr := { s.pwr with retried := false } } Reg.PWR_CLK_STATUS_FAB_LOCK true).fabricReady) :=
  (if_neg (by simp [on, stage])).trans (if_neg (by decide))

/-! ### The restore (R83, R88) -/

section
variable (on : s.kettleOn = true) (stage : s.pwr.stage = .restore) (caddy : s.get Reg.CADDY_STAT_STATE = 1)
include on stage caddy

theorem execDozeRestoreDone_noKey (key : s.pwr.saveKey = false) (o : RestoreOutcome) :
    execDozeRestoreDone o s = .next (s.restoreFails 4) := by
  unfold execDozeRestoreDone
  rw [if_neg (by simp [on, stage, caddy]), if_pos (by simp [key])]

theorem execDozeRestoreDone_key (key : s.pwr.saveKey = true) : execDozeRestoreDone .ok s = .next s.restored ∧
    execDozeRestoreDone .digest s = .next (s.restoreFails 1) ∧ execDozeRestoreDone .caddyUe s = .next (s.restoreFails 2) ∧
    execDozeRestoreDone .supplyC s = .next (s.restoreFails 3) := by
  refine ⟨?_, ?_, ?_, ?_⟩
  all_goals exact (if_neg (by simp [on, stage, caddy])).trans (if_neg (by simp [key]))

end

/-! ### The statement -/

/-- Settles O16: each event through the lemma of its stage. -/
theorem railsClocksAndRestore : Obligations.RailsClocksAndRestore := by
  unfold Obligations.RailsClocksAndRestore
  refine ⟨fun s on => ⟨fun stage req => ?refValid, fun r => execRailUp_rail s r, fun r enabled => ?railFails, fun cal stage down => ?nclk,
    fun cal stage => ?cclk, fun cal stage => execPllLock_fab on stage cal, fun pll cal due first => execPllLock_retries on due first cal,
    fun stage enL req first => execRefclkFail_first on stage enL req first, fun stage enL req again => ?refGivenUp, fun ok => ?clkLoss⟩,
    fun s on => ⟨fun cal lock state bist => ?caddy, fun stage caddy key => ?restore,
      fun o stage caddy key => execDozeRestoreDone_noKey on stage caddy key o⟩⟩
  case refValid =>
    refine ⟨_, execRefclkValid_takes on stage req, ?_, ?_, ?_, ?_, State.retick_of_frame s.refTaken_frame⟩
    · rw [State.retick_pwr]; rfl
    · rw [State.retick_pwr]; rfl
    · rw [State.retick_pwr]; rfl
    · unfold State.flag State.refTaken
      rw [State.get_retick _ (by decide), State.get_setFlag_same _ _ (by decide)]
      rfl
  case railFails => exact ⟨_, exec_railFails on enabled, rfl, State.fallToSleep_shows _⟩
  case nclk =>
    exact ⟨_, (execPllLock_nclk on stage cal).trans (by rw [State.nclkLocked_waits down]), s.nclkLocked_shows⟩
  case cclk =>
    obtain ⟨next, lock⟩ := s.cclkLocked_shows
    refine ⟨_, execPllLock_cclk on stage cal, ?_⟩
    split
    · rename_i doze
      split
      · refine ⟨next, ?_, fun _ _ => State.get_put_fits _ (by decide)⟩
        rwa [State.flag, State.get_put_ne _ _ (by decide)]
      · rename_i awake
        exact ⟨next, lock, fun _ asleep => absurd asleep awake⟩
    · rename_i sleep
      have kept : PowerKept s.cclkLocked (s.cclkLocked.calibrated (cal.map (fun n => n.val))).wakeTraining :=
        ((PowerKept.refl _).calibrated _).wakeTraining
      refine ⟨?_, ?_, fun doze => absurd doze sleep⟩
      · rw [State.wakeTraining_pwr, State.calibrated_pwr, next]
      · rwa [State.flag, kept _ (by decide)]
  case refGivenUp =>
    obtain ⟨moving, req', ended, cur⟩ := s.refGivenUp_shows
    exact ⟨_, execRefclkFail_again on stage enL req again, moving, req', ended, cur⟩
  case clkLoss =>
    obtain ⟨cur, moving, stage, enB, enF, enC, enL⟩ := s.clkLost_shows
    refine ⟨_, execClkLoss_loses on ok, ?_, ?_, ?_⟩
    · rw [State.cur, State.get_logEvent _ _ _ _ (by decide), State.get_retick _ (by decide)]
      exact cur
    · rw [State.moving, State.flag, State.get_logEvent _ _ _ _ (by decide), State.get_retick _ (by decide)]
      exact moving
    · rw [State.logEvent_pwr, State.retick_pwr]
      exact ⟨stage, enB, enF, enC, enL⟩
  case caddy =>
    refine if_pos ?_
    rcases List.mem_pair.1 state with h | h
    all_goals simp [on, lock, h, bist]
  case restore =>
    obtain ⟨ok, digest, ue, supply⟩ := execDozeRestoreDone_key on stage caddy key
    exact ⟨⟨_, ok, State.restored_shows stage⟩, digest, ue, supply⟩

end Sys2Proof.Machine

/-! SUPPORT. Power lost: what the NVM, the log and the registers keep (R69, R602, R622, R636). -/

namespace Sys2Proof.Machine
set_option Elab.async false

/-! ### A commit cut off (R154) -/

/-- A vault that fails logs it: of the records, only the reservation of log numbers is written. -/
theorem State.vaultFail_logs (s : State) : ∃ u, LogWrites s u ∧ s.vaultFail.nvm = u.nvm ∧ s.vaultFail.pending = s.pending := by
  obtain ⟨_, _, _, _, frame⟩ := s.logNow_frame 0x0703 0 (leBytes 4 0)
  have waiting : (s.logNow 0x0703 0 (leBytes 4 0)).pending = s.pending := by rw [frame]
  unfold State.vaultFail
  split
  · exact ⟨s, LogWrites.refl s, rfl, rfl⟩
  · refine ⟨_, (LogWrites.refl s).logNow 0x0703 0 (leBytes 4 0), ?_⟩
    dsimp only
    split <;> exact ⟨rfl, waiting⟩

theorem State.takeSeq_logs {s : State} {r : State × Nat} (given : s.takeSeq = some r) :
    ∃ u, LogWrites s u ∧ r.1.nvm = u.nvm ∧ r.1.pending = s.pending := by
  unfold State.takeSeq at given
  dsimp only at given
  split at given
  · cases given
  · cases given
    split
    · obtain ⟨u, logs, nvm, pending⟩ := State.vaultFail_logs (s.setVault { s.vault with seq := s.vault.seq + 1 })
      exact ⟨u, ⟨logs.regs, logs.recs, logs.last⟩, nvm, pending⟩
    · exact ⟨s, LogWrites.refl s, rfl, rfl⟩

theorem State.tornCommit_logs (s : State) : ∃ u, LogWrites s u ∧ s.tornCommit.nvm = u.nvm ∧ s.tornCommit.pending = s.pending := by
  have untouched : ∃ u, LogWrites s u ∧ s.draw.nvm = u.nvm ∧ s.draw.pending = s.pending := ⟨s, LogWrites.refl s, rfl, rfl⟩
  unfold State.tornCommit
  split
  · exact ⟨s, LogWrites.refl s, rfl, rfl⟩
  · dsimp only
    split
    · rename_i given
      obtain ⟨u, logs, nvm, pending⟩ := State.takeSeq_logs given
      split
      · exact untouched
      · exact ⟨u, ⟨logs.regs, logs.recs, logs.last⟩, nvm, pending⟩
    · exact untouched

/-! ### A record cut off (R122) -/

/-- Only the record written last may be torn. -/
theorem State.recTear_recPair {s : State} {r : Rec} (last : ∀ x, s.nvm.last = some x → x.1 = .logReserve ∨ x.1 ≠ r) :
    s.recTear.recPair r = s.recPair r := by
  unfold State.recTear
  split
  · rename_i r' t found
    dsimp only
    split
    · rename_i torn
      obtain reserve | other := last _ found
      · exact absurd reserve torn.2.2
      · exact State.recPair_putRec_ne _ _ other.symm
    · rfl
  · rfl

theorem State.recTear_pending (s : State) : s.recTear.pending = s.pending := by
  unfold State.recTear
  split
  · dsimp only
    split <;> rfl
  · rfl

/-- Every record but the one written last and the reservation of log numbers is as it was. -/
theorem State.powerLost_recPair (s : State) {r : Rec} (ne : r ≠ .logReserve) (last : ∀ x, s.nvm.last = some x → x.1 ≠ r) :
    s.powerLost.recPair r = s.recPair r := by
  obtain ⟨u, logs, nvm, -⟩ := s.tornCommit_logs
  have same (r' : Rec) : s.tornCommit.recPair r' = u.recPair r' := congrArg (fun n : NvmUnit => tget RecPair.blank n.recs r'.num) nvm
  have torn : s.tornCommit.recTear.recPair r = s.tornCommit.recPair r :=
    State.recTear_recPair fun x hx => (logs.last x (nvm ▸ hx)).imp_right (last x)
  exact torn.trans ((same r).trans (logs.recs r ne))

theorem State.powerLost_pending (s : State) : s.powerLost.pending = s.pending := by
  obtain ⟨u, -, -, pending⟩ := s.tornCommit_logs
  exact (State.recTear_pending _).trans pending

/-! ### The log and the registers -/

/-- A slot programmed leaves the ring and the input queue. -/
theorem LogUnit.program_queues (l : LogUnit) (x : Option LogEntry) : (l.program x).ring = l.ring ∧ (l.program x).inQ = l.inQ := by
  have opened : (l.open x).ring = l.ring ∧ (l.open x).inQ = l.inQ := by
    unfold LogUnit.open
    dsimp only
    split
    · split <;> exact ⟨rfl, rfl⟩
    · split
      · split <;> exact ⟨rfl, rfl⟩
      · split <;> exact ⟨rfl, rfl⟩
  unfold LogUnit.program
  split
  · split
    · exact ⟨rfl, rfl⟩
    · exact opened
  · exact opened

theorem State.logNvm_empty (s : State) (cut : Bool) : (s.logNvm cut).ring = [] ∧ (s.logNvm cut).inQ = [] := by
  unfold State.logNvm
  dsimp only
  split
  · exact LogUnit.program_queues _ _
  · exact ⟨rfl, rfl⟩

/-- What a filter of a table drops is unlisted. -/
theorem tfind_filter_none {α : Type} (t : Tab α) {p : Nat × α → Bool} {k : Nat} (dropped : ∀ v, p (k, v) = false) :
    tfind (t.filter p) k = none := by
  induction t with
  | nil => rfl
  | cons e t ih =>
    obtain ⟨j, w⟩ := e
    rw [List.filter_cons]
    split
    · rename_i kept
      rw [tfind, if_neg (fun same => by rw [same, dropped] at kept; cases kept), ih]
    · exact ih

/-- Every field but those that the sectors tell reads its reset value. -/
theorem State.powerLost_get (s : State) {f : Fld} (out : f.key ∉ sectorFields.map Fld.key) : s.powerLost.get f = f.reset := by
  unfold State.powerLost State.lost State.get tget
  dsimp only
  rw [tfind_filter_none _ fun v => decide_eq_false out]
  rfl

end Sys2Proof.Machine

/-! SUPPORT. The kettle's boot, and the statement of resets and boots settled (R69, R122, R602, R607, R648, R655). -/

namespace Sys2Proof.Machine
set_option Elab.async false

/-! ### Records loaded (R122) -/

theorem State.putWords_regs (s : State) (l : List Fld) (b : List Byte) : ∃ r, s.putWords l b = { s with regs := r } := by
  unfold State.putWords
  refine List.foldlRecOn (motive := fun u : State => ∃ r, u = { s with regs := r }) (List.range l.length) _ ⟨_, rfl⟩ fun u ⟨r, hu⟩ k _ => ?_
  rw [hu]
  split <;> exact ⟨_, rfl⟩

/-- A record loaded leaves the power unit. -/
theorem State.recLoad_pwr (s : State) (r : Rec) (b : List Byte) : (s.recLoad r b).pwr = s.pwr := by
  obtain ⟨g, words⟩ := s.putWords_regs r.fields b
  unfold State.recLoad
  dsimp only
  rw [words]
  cases r
  case wipeIntent => exact ite_pwr rfl rfl
  all_goals rfl

/-- The host's root key is that of its record; no other record holds it. -/
theorem State.recLoad_hostKey (s : State) (r : Rec) (b : List Byte) :
    (s.recLoad r b).cmd.hostKey = if r = .hostKey then b else s.cmd.hostKey := by
  obtain ⟨g, words⟩ := s.putWords_regs r.fields b
  unfold State.recLoad
  dsimp only
  rw [words]
  cases r
  case wipeIntent => dsimp only; split <;> rfl
  all_goals rfl

/-- A record is taken where it has a valid copy. -/
def State.recTaken (s : State) (r : Rec) : State := match s.recBody r with | some b => s.recLoad r b | none => s

theorem State.loadRecs_eq (s : State) : s.loadRecs = allRecs.foldl State.recTaken s := rfl

theorem State.recTaken_pwr (s : State) (r : Rec) : (s.recTaken r).pwr = s.pwr := by
  unfold State.recTaken
  split
  · exact s.recLoad_pwr _ _
  · rfl

theorem State.recTaken_hostKey (s : State) {r : Rec} (ne : r ≠ .hostKey) : (s.recTaken r).cmd.hostKey = s.cmd.hostKey := by
  unfold State.recTaken
  split
  · rw [State.recLoad_hostKey, if_neg ne]
  · rfl

@[simp] theorem State.loadRecs_pwr (s : State) : s.loadRecs.pwr = s.pwr := foldl_pwr State.recTaken_pwr _ _

theorem State.loadRecs_hostKey {s : State} {key : List Byte} (found : s.recBody .hostKey = some key) : s.loadRecs.cmd.hostKey = key := by
  have first : (s.recTaken .hostKey).cmd.hostKey = key := by
    unfold State.recTaken
    rw [found]
    exact s.recLoad_hostKey .hostKey key
  have others : ∀ r ∈ allRecs.tail, r ≠ .hostKey := by decide
  have split_ : allRecs = .hostKey :: allRecs.tail := rfl
  rw [State.loadRecs_eq, split_, List.foldl_cons]
  exact List.foldlRecOn (motive := fun u : State => u.cmd.hostKey = key) allRecs.tail _ first
    fun u hu r hr => (u.recTaken_hostKey (others r hr)).trans hu

/-! ### The log, the vault and the budget found at boot -/

theorem State.logEraseNow_frame (s : State) (role : Nat) : LogFrame s (s.logEraseNow role).1 := by
  unfold State.logEraseNow
  dsimp only
  refine LogFrame.trans (LogFrame.trans ?_ (State.logWrite_frame _ _)) ⟨_, _, _, _, rfl⟩
  exact ⟨_, _, _, _, rfl⟩

/-- The log's numbers are reserved, and an erase that was cut off is done again. -/
def State.logFound (s : State) : State :=
  let s0 := s.put Reg.LOG_HEAD_SEQ (s.log.reserved + 2 ^ 32 - 1)
  let s1 := { s0 with log := { s0.log with reserved := wrapAdd 32 s0.log.reserved 65536 } }.persist .logReserve
  match s1.log.eraseIntent with
  | some r => (s1.logEraseNow r).1
  | none => s1

/-- The torn slots are counted, and sectors that failed are told. -/
def State.logTold (s : State) (torn : Nat) : State :=
  (s.put Reg.LOG_TORN_COUNT torn).setFlag Reg.LOG_STAT_PFAULT (s.log.inService < 16)

theorem State.logBoot_eq (s : State) : s.logBoot =
    let n := (s.logFound.log.sectors.flatMap (fun x => x.slots)).countP (fun e => e.isNone)
    if n = 0 then s.logFound.logTold n else (s.logFound.logTold n).logEvent 0x0C02 0 (leBytes 4 n) := rfl

theorem State.logFound_frame (s : State) : LogFrame s s.logFound := by
  have reserved (v : Nat) (l : LogUnit) : LogFrame s (State.persist { s.put Reg.LOG_HEAD_SEQ v with log := l } .logReserve) := ⟨_, _, _, _, rfl⟩
  unfold State.logFound
  dsimp only
  split
  · exact (reserved _ _).trans (State.logEraseNow_frame _ _)
  · exact reserved _ _

/-- The log found at boot changes registers, the log, NVM records and the signals sent. -/
theorem State.logBoot_frame (s : State) : LogFrame s s.logBoot := by
  have told (n : Nat) : LogFrame s (s.logFound.logTold n) := s.logFound_frame.trans ⟨_, _, _, _, rfl⟩
  rw [State.logBoot_eq]
  dsimp only
  split
  · exact told _
  · exact (told _).trans (State.logEvent_frame _ _ _ _)

namespace PowerKept

variable {s t : State}

theorem retick (h : PowerKept s t) : PowerKept s t.retick :=
  h.of_regsBut (regsBut_retick (regsBut_refl tickFields t) fun _ hf => hf) (by decide)

theorem persist (h : PowerKept s t) (r : Rec) : PowerKept s (t.persist r) := fun f hf => (t.get_persist r f).trans (h f hf)

theorem logEraseNow (h : PowerKept s t) (role : Nat) : PowerKept s (t.logEraseNow role).1 := by
  have cleared (l : LogUnit) : PowerKept s (State.persist { t with log := l } .logErase) := persist (t := { t with log := l }) h _
  have written (u : State) (l : LogUnit) (e : LogSub) (hu : PowerKept s u) : PowerKept s (State.logWrite { u with log := l } e) :=
    of_regsBut hu (u := State.logWrite { u with log := l } e) ((LogWrites.refl u).log l |>.logWrite e).regs (by decide)
  exact written _ _ _ (cleared _)

theorem logFound (h : PowerKept s t) : PowerKept s t.logFound := by
  have reserved (v : Nat) (l : LogUnit) : PowerKept s (State.persist { t.put Reg.LOG_HEAD_SEQ v with log := l } .logReserve) :=
    persist (t := { t.put Reg.LOG_HEAD_SEQ v with log := l }) (h.put _ (by decide)) _
  unfold State.logFound
  dsimp only
  split
  · exact (reserved _ _).logEraseNow _
  · exact reserved _ _

theorem logBoot (h : PowerKept s t) : PowerKept s t.logBoot := by
  have told (n : Nat) : PowerKept s (t.logFound.logTold n) := (h.logFound.put _ (by decide)).put _ (by decide)
  rw [State.logBoot_eq]
  exact ite (told _) ((told _).logEvent _ _ _)

theorem showVault (h : PowerKept s t) : PowerKept s t.showVault :=
  (((((h.put _ (by decide)).put _ (by decide)).put _ (by decide)).put _ (by decide)).put _ (by decide)).put _ (by decide)

theorem vaultFill (h : PowerKept s t) : PowerKept s t.vaultFill :=
  put (t := t.setVault { t.vault with filled := false, keyed := true }) h _ (by decide)

theorem wipe (h : PowerKept s t) : PowerKept s t.wipe := by
  unfold State.wipe
  refine showVault ?_
  exact h

theorem vaultBoot (h : PowerKept s t) : PowerKept s t.vaultBoot := by
  have off : PowerKept s t.vaultOff := h
  have wiped (c : Prop) [Decidable c] : PowerKept s (if c then t.vaultOff.wipe else t.vaultOff) := ite off.wipe off
  have set (u : State) (v : VaultUnit) (hu : PowerKept s u) : PowerKept s (u.setVault v) := hu
  unfold State.vaultBoot
  exact ite ((set _ _ (wiped _)).put _ (by decide)).showVault (set _ _ (wiped _)).vaultFill.showVault

theorem capRecalc (h : PowerKept s t) : PowerKept s t.capRecalc := by
  have shown (e n c : Nat) : PowerKept s (((t.put Reg.BUD_CAP_EFF_EFF e).put Reg.BUD_CAP_EFF_NOTRAY n).put Reg.BUD_STAT_CAP_SRC c) :=
    ((h.put _ (by decide)).put _ (by decide)).put _ (by decide)
  have event (u : State) (hu : PowerKept s u) : PowerKept s (u.budEvent Reg.BUD_EVT_CAP 1) :=
    fun f hf => (u.get_event_ne _ _ _ _ _ ((by decide : Aside Reg.BUD_EVT_CAP) f hf)).trans (hu f hf)
  unfold State.capRecalc
  exact ite (shown _ _ _) (event _ (shown _ _ _))

theorem applyRate (h : PowerKept s t) : PowerKept s t.applyRate := h.put _ (by decide)

end PowerKept

end Sys2Proof.Machine

/-! SUPPORT. The exit from SLEEP that a boot starts, and the statement of resets and boots settled (R69, R82, R648, R655). -/

namespace Sys2Proof.Machine
set_option Elab.async false

/-! ### The vault and the budget found at boot leave the command path and the power unit -/

theorem State.showVault_units (s : State) : s.showVault.pwr = s.pwr ∧ s.showVault.cmd = s.cmd := ⟨rfl, rfl⟩

theorem State.vaultFill_units (s : State) : s.vaultFill.pwr = s.pwr ∧ s.vaultFill.cmd = s.cmd := ⟨rfl, rfl⟩

theorem State.wipe_units (s : State) : s.wipe.pwr = s.pwr ∧ s.wipe.cmd = s.cmd := by
  unfold State.wipe
  dsimp only
  rw [(State.showVault_units _).1, (State.showVault_units _).2]
  exact ⟨rfl, rfl⟩

theorem State.vaultBoot_units (s : State) : s.vaultBoot.pwr = s.pwr ∧ s.vaultBoot.cmd = s.cmd := by
  unfold State.vaultBoot
  extract_lets off found
  have units : found.pwr = s.pwr ∧ found.cmd = s.cmd := by
    unfold found
    split
    · exact off.wipe_units
    · exact ⟨rfl, rfl⟩
  have set (v : VaultUnit) : (found.setVault v).pwr = s.pwr ∧ (found.setVault v).cmd = s.cmd := units
  split
  · simp only [State.showVault_units, State.put_pwr, State.put_cmd, set, and_self]
  · simp only [State.showVault_units, State.vaultFill_units, set, and_self]

theorem State.capRecalc_cmd (s : State) : s.capRecalc.cmd = s.cmd := by
  have event (u : State) : (u.budEvent Reg.BUD_EVT_CAP 1).cmd = u.cmd := State.event_cmd _ _ _ _ _ _ _
  unfold State.capRecalc
  dsimp only
  split
  · rfl
  · rw [event]
    rfl

/-! ### What a boot finds -/

/-- What a boot with the kettle's supplies up and no tamper finds: SLEEP, before the exit begins. -/
def State.bootFound (s : State) (b : BootPins) : State :=
  (((s.loadRecs.straps b).logBoot.put Reg.PWR_STATE_CUR 3).retick.vaultBoot.capRecalc).applyRate.setFlag Reg.TMP_STAT_INPUT b.tamper

theorem State.bootFound_units (s : State) (b : BootPins) : (s.bootFound b).pwr = s.pwr ∧ (s.bootFound b).cmd = s.loadRecs.cmd := by
  have logged (u : State) : u.logBoot.pwr = u.pwr ∧ u.logBoot.cmd = u.cmd := by
    obtain ⟨_, _, _, _, frame⟩ := u.logBoot_frame
    rw [frame]
    exact ⟨rfl, rfl⟩
  unfold State.bootFound
  simp only [State.setFlag_pwr, State.setFlag_cmd, State.applyRate, State.put_pwr, State.put_cmd, capRecalc_pwr, State.capRecalc_cmd,
    State.vaultBoot_units, State.retick_pwr, State.retick_cmd, logged, State.straps, State.loadRecs_pwr, and_self]

/-- SLEEP is shown, and the straps read the majority of their samples. -/
theorem State.bootFound_shows (s : State) (b : BootPins) : (s.bootFound b).cur = 3 ∧
    (s.bootFound b).get Reg.SYS_STRAP_ENS_ID = bits (majority3 b.s0.toNat b.s1.toNat b.s2.toNat) 2 6 ∧
    (s.bootFound b).get Reg.SYS_STRAP_CFG_MODE = bits (majority3 b.s0.toNat b.s1.toNat b.s2.toNat) 0 2 := by
  have after (u : State) : PowerKept u ((u.retick.vaultBoot.capRecalc).applyRate.setFlag Reg.TMP_STAT_INPUT b.tamper) :=
    (PowerKept.refl u).retick.vaultBoot.capRecalc.applyRate.put _ (by decide)
  have logged (u : State) : PowerKept u u.logBoot := (PowerKept.refl u).logBoot
  unfold State.bootFound
  refine ⟨(after _ Reg.PWR_STATE_CUR (by decide)).trans (State.get_put_same _ _ _), ?_, ?_⟩
  · rw [after _ Reg.SYS_STRAP_ENS_ID (by decide), State.get_put_ne _ _ (by decide), logged _ Reg.SYS_STRAP_ENS_ID (by decide), State.straps,
      State.get_setFlag_ne _ _ (by decide), State.get_put_ne _ _ (by decide)]
    exact State.get_put_fits _ (bits_lt _ _ _)
  · rw [after _ Reg.SYS_STRAP_CFG_MODE (by decide), State.get_put_ne _ _ (by decide), logged _ Reg.SYS_STRAP_CFG_MODE (by decide), State.straps,
      State.get_setFlag_ne _ _ (by decide), State.get_put_ne _ _ (by decide), State.get_put_ne _ _ (by decide)]
    exact State.get_put_fits _ (bits_lt _ _ _)

theorem State.kettleBoots_test (s : State) {b : BootPins} (test : b.test = true) :
    s.kettleBoots b = { s with pwr := { s.pwr with kettle := .noBoot } } := if_pos test

/-- The kettle runs on its supplies. -/
def State.poweredBy (s : State) (b : BootPins) : State := { s with pwr := { s.pwr with kettle := .on, vio33 := b.vio33 } }

theorem State.kettleBoots_untampered {s : State} {b : BootPins} (test : b.test = false) (pin : b.tamper = false)
    (clear : s.pwr.tampered = false) : s.kettleBoots b = (s.poweredBy b).bootFound b := by
  obtain ⟨pwr, -⟩ := (s.poweredBy b).bootFound_units b
  have untampered : ¬ (b.tamper || ((s.poweredBy b).bootFound b).pwr.tampered) = true := by
    rw [pwr, pin, State.poweredBy, clear]
    exact Bool.false_ne_true
  unfold State.bootFound State.poweredBy at untampered ⊢
  unfold State.kettleBoots
  rw [if_neg (by rw [test]; decide)]
  exact if_neg untampered

/-! ### The exit from SLEEP keeps what the boot found -/

theorem State.vaultWake_units (s : State) : s.vaultWake.pwr = s.pwr ∧ s.vaultWake.cmd = s.cmd := by
  unfold State.vaultWake
  split <;> exact ⟨rfl, rfl⟩

theorem State.beginExit_units {s : State} (sleep : s.cur ≠ 2) (first : Nat) :
    (s.beginExit first).kettleOn = s.kettleOn ∧ (s.beginExit first).cmd = s.cmd := by
  obtain ⟨pwr, cmd⟩ := State.vaultWake_units { s.exitOpened first with bud := { s.bud with failed := [] } }
  rw [State.beginExit_sleep sleep, State.kettleOn, State.retick_pwr, State.retick_cmd, State.exitAsked]
  simp only [State.setFlag_pwr, State.setFlag_cmd, pwr, cmd]
  exact ⟨rfl, rfl⟩

theorem State.beginExit_straps {s : State} (sleep : s.cur ≠ 2) (first : Nat) :
    (s.beginExit first).get Reg.SYS_STRAP_ENS_ID = s.get Reg.SYS_STRAP_ENS_ID ∧
      (s.beginExit first).get Reg.SYS_STRAP_CFG_MODE = s.get Reg.SYS_STRAP_CFG_MODE := by
  rw [State.beginExit_sleep sleep]
  constructor
  all_goals
    simp (disch := decide) [State.get_retick, State.exitAsked, State.exitOpened, State.get_vaultWake, State.get_put_ne, State.get_setFlag_ne]

/-- A boot with TEST high ends there: no register is touched. -/
theorem State.bootOn_test {s : State} {b : BootPins} (test : b.test = true) :
    (s.bootOn b).pwr.kettle = .noBoot ∧ (s.bootOn b).regs = s.regs := by
  unfold State.bootOn
  dsimp only
  rw [State.kettleBoots_test s test]
  exact ⟨rfl, rfl⟩

/-- A boot that goes through starts the exit from SLEEP, with POWER_ON its wake source. -/
theorem State.bootOn_starts {s : State} {b : BootPins} (test : b.test = false) (pin : b.tamper = false) (clear : s.pwr.tampered = false)
    (stage : s.pwr.stage = .none) : s.bootOn b = ((s.poweredBy b).bootFound b).beginExit 0x11 := by
  obtain ⟨pwr, -⟩ := (s.poweredBy b).bootFound_units b
  have on : ¬ (!((s.poweredBy b).bootFound b).kettleOn) = true := by
    rw [State.kettleOn, pwr]
    exact Bool.false_ne_true
  unfold State.bootOn
  dsimp only
  rw [State.kettleBoots_untampered test pin clear, if_neg on, pwr]
  exact if_pos stage

/-- What a boot that goes through shows. -/
structure State.BootShows (s : State) (b : BootPins) (t : State) : Prop where
  kettle : t.kettleOn = true
  moves : t.moving = true
  first : t.get Reg.PWR_WAKE_FIRST_FIRST = 0x11
  stage : t.pwr.stage = .ref
  asked : t.flag Reg.PWR_CLK_STATUS_REF_REQ = true
  cur : t.cur = 3
  ens : t.get Reg.SYS_STRAP_ENS_ID = bits (majority3 b.s0.toNat b.s1.toNat b.s2.toNat) 2 6
  mode : t.get Reg.SYS_STRAP_CFG_MODE = bits (majority3 b.s0.toNat b.s1.toNat b.s2.toNat) 0 2
  key : ∀ key, s.recBody .hostKey = some key → t.cmd.hostKey = key

theorem State.bootOn_shows {s : State} {b : BootPins} (test : b.test = false) (pin : b.tamper = false) (clear : s.pwr.tampered = false)
    (stage : s.pwr.stage = .none) : s.BootShows b (s.bootOn b) := by
  obtain ⟨pwr, loaded⟩ := (s.poweredBy b).bootFound_units b
  obtain ⟨cur, ens, mode⟩ := (s.poweredBy b).bootFound_shows b
  have sleep : ((s.poweredBy b).bootFound b).cur ≠ 2 := by omega
  obtain ⟨kettle, cmd⟩ := State.beginExit_units sleep 0x11
  obtain ⟨moves, first, -⟩ := ((s.poweredBy b).bootFound b).beginExit_shows (first := 0x11) (by decide)
  obtain ⟨ref, asked, stays⟩ := State.beginExit_asks sleep 0x11
  obtain ⟨keptEns, keptMode⟩ := State.beginExit_straps sleep 0x11
  rw [State.bootOn_starts test pin clear stage]
  refine ⟨kettle.trans ?_, moves, first, ref, asked, stays.trans cur, keptEns.trans ens, keptMode.trans mode, fun key found => ?_⟩
  · rw [State.kettleOn, pwr]
    rfl
  · rw [cmd, loaded]
    exact State.loadRecs_hostKey (s := s.poweredBy b) found

/-! ### Resets and boots -/

/-- Power falls as RESET_N does or as a supply trips: the units after it but for the two pins' own flags. -/
theorem exec_powerFalls {i : Instr} (s : State) (falls : i = .resetNFall ∨ i = .supplyMonitorTrip) :
    ∃ low trip, exec i s = .next { s.powerLost with pwr := { s.powerLost.pwr with resetLow := low, supplyTrip := trip } } := by
  obtain rfl | rfl := falls
  · exact ⟨true, s.powerLost.pwr.supplyTrip, rfl⟩
  · exact ⟨s.powerLost.pwr.resetLow, true, rfl⟩

/-- The M7 boots where RESET_N and the supplies are both good. -/
theorem exec_boots {i : Instr} {s : State} {b : BootPins}
    (good : i = .resetNRise b ∧ s.pwr.resetLow = true ∧ s.pwr.supplyTrip = false ∨
      i = .supplyMonitorRelease b ∧ s.pwr.supplyTrip = true ∧ s.pwr.resetLow = false) :
    exec i s = .next (State.bootOn { s with pwr := { s.pwr with resetLow := false, supplyTrip := false } } b) := by
  obtain ⟨rfl, low, trip⟩ | ⟨rfl, trip, low⟩ := good
  · show execResetNRise b s = _
    unfold execResetNRise
    rw [low]
    exact congrArg Host.Outcome.next (by dsimp only; rw [trip]; rfl)
  · show execSupplyMonitorRelease b s = _
    unfold execSupplyMonitorRelease
    rw [trip]
    exact congrArg Host.Outcome.next (by dsimp only; rw [low]; rfl)

/-- Settles O17: power lost leaves only what the NVM tells, and a boot without a tamper begins the exit from SLEEP. -/
theorem resetAndBoot : Obligations.ResetAndBoot := by
  unfold Obligations.ResetAndBoot
  refine ⟨fun i s falls => ?_, fun i s f falls out => ?_, fun i s b good stage => ⟨fun test => ?_, fun test pin clear => ?_⟩⟩
  · obtain ⟨low, trip, lost⟩ := exec_powerFalls s falls
    obtain ⟨ring, inQ⟩ := s.tornCommit.recTear.logNvm_empty true
    exact ⟨_, lost, rfl, rfl, rfl, rfl, rfl, rfl, rfl, rfl, rfl, rfl, fun r ne last => s.powerLost_recPair ne last, ring, inQ,
      s.powerLost_pending⟩
  · obtain ⟨low, trip, lost⟩ := exec_powerFalls s falls
    exact ⟨_, lost, s.powerLost_get out⟩
  · exact ⟨_, exec_boots good, State.bootOn_test test⟩
  · have shows_ := State.bootOn_shows (s := { s with pwr := { s.pwr with resetLow := false, supplyTrip := false } }) test pin clear stage
    exact ⟨_, exec_boots good, shows_.kettle, shows_.moves, shows_.first, shows_.stage, shows_.asked, shows_.cur, shows_.ens, shows_.mode,
      shows_.key⟩

end Sys2Proof.Machine

/-! SUPPORT. Fields of the door side: their places, bits of a field that is written, HMI events, and what a log entry leaves. -/

namespace Sys2Proof.Machine
set_option Elab.async false

/-! ### Places of fields -/

/-- Two fields given by their places differ where the places do. -/
theorem key_ne {a l w r b m v q : Nat} (h : a * 32 + l ≠ b * 32 + m) : (Fld.mk a l w r).key ≠ (Fld.mk b m v q).key := h

/-- Fields below the log's block are none of the log's. -/
theorem belowLog {a l w r : Nat} (h : a * 32 + l < 0xD0000 * 32) : ∀ g ∈ logFields, g.key ≠ (Fld.mk a l w r).key := by
  have high : ∀ g ∈ logFields, 0xD0000 * 32 ≤ g.key := by decide
  exact fun g hg same => Nat.not_le.2 h ((high g hg).trans_eq same)

/-! ### Bits of a field that is written -/

/-- A bit inside a field's width survives the cut. -/
theorem bit_cut (x : Nat) {k w : Nat} (h : k < w) : bit (x % 2 ^ w) k = bit x k := by
  rw [bit_eq_testBit, bit_eq_testBit, Nat.testBit_mod_two_pow, decide_eq_true h, Bool.true_and]

theorem bit_or_two_pow (x k : Nat) : bit (x ||| 2 ^ k) k = true := by
  rw [bit_eq_testBit, Nat.testBit_or, Nat.testBit_two_pow_self, Bool.or_true]

/-- Bits replaced read as what replaced them. -/
theorem bits_setBits_same (x l w v : Nat) : bits (setBits x l w v) l w = v % 2 ^ w := by
  have low : x = x % 2 ^ l + 2 ^ l * bits x l w + 2 ^ (l + w) * (x / 2 ^ (l + w)) := by
    rw [bits, Nat.shiftRight_eq_div_pow, pow_add, ← Nat.div_div_eq_div_mul, mul_assoc, add_assoc, ← mul_add, Nat.mod_add_div, Nat.mod_add_div]
  have set : setBits x l w v = x % 2 ^ l + 2 ^ l * (v % 2 ^ w + 2 ^ w * (x / 2 ^ (l + w))) := by
    rw [setBits, Nat.shiftLeft_eq, Nat.shiftLeft_eq, mul_comm (bits x l w), mul_comm (v % 2 ^ w), mul_add, ← mul_assoc, ← pow_add]
    omega
  rw [set, bits, Nat.shiftRight_eq_div_pow, Nat.add_mul_div_left _ _ (Nat.two_pow_pos l), Nat.div_eq_of_lt (Nat.mod_lt _ (Nat.two_pow_pos l)),
    zero_add, Nat.add_mul_mod_self_left, Nat.mod_mod]

/-- A bit replaced reads as what replaced it. -/
theorem bit_setBits (x k : Nat) (b : Bool) : bit (setBits x k 1 (b2n b)) k = b := by
  rw [bit, bits_setBits_same]
  cases b <;> rfl

theorem bit_setBits_zero (x k : Nat) : bit (setBits x k 1 0) k = false := bit_setBits x k false

/-- A saturating count that stays inside its field counts. -/
theorem State.get_bumpSat_fits (s : State) {f : Fld} {n : Nat} (fits : s.get f + n < 2 ^ f.width) : (s.bumpSat f n).get f = s.get f + n := by
  have counts : satAdd f.width (s.get f) n = s.get f + n := if_pos fits
  rw [State.bumpSat, counts, State.get_put_fits _ fits]

/-! ### Writes, events and log entries in a list of fields that may change -/

theorem regsBut_trans {fs : List Fld} {s t u : State} (h : RegsBut fs s t) (k : RegsBut fs t u) : RegsBut fs s u :=
  fun i hi => (k i hi).trans (h i hi)

theorem State.get_hmi_ne (s : State) {f g : Fld} (m pos : Nat) (h : g.key ≠ f.key) : (s.hmi f m pos).get g = s.get g :=
  s.get_event_ne m pos _ _ _ h

theorem State.get_hmi_same (s : State) (f : Fld) (m pos : Nat) : (s.hmi f m pos).get f = (s.get f ||| m) % 2 ^ f.width := by
  unfold State.hmi State.event
  dsimp only
  rw [apply_ite (State.get · f), State.get_emit, ite_self]
  exact s.get_put_same f _

/-- The bit of an HMI event is set. -/
theorem State.hmi_bit (s : State) {f : Fld} {k : Nat} (pos : Nat) (inside : k < f.width) : bit ((s.hmi f (2 ^ k) pos).get f) k = true := by
  rw [State.get_hmi_same, bit_cut _ inside, bit_or_two_pow]

theorem regsBut_hmi {fs : List Fld} {s t : State} (h : RegsBut fs s t) {f : Fld} (m pos : Nat) (mem : f ∈ fs) : RegsBut fs s (t.hmi f m pos) := by
  have set : RegsBut fs s (t.orBits f m) := regsBut_put h _ mem
  unfold State.hmi State.event
  dsimp only
  split
  · exact set
  · exact set

theorem regsBut_logEvent {fs : List Fld} {s t : State} (h : RegsBut fs s t) (code src : Nat) (data : List Byte) (logs : logFields ⊆ fs) :
    RegsBut fs s (t.logEvent code src data) :=
  regsBut_trans h (regsBut_mono ((LogWrites.refl t).logEvent code src data).regs logs)

/-- The statements' list of the log's fields names each of them. -/
theorem logFields_subset_append (fs : List Fld) : logFields ⊆ fs ++ logRegs :=
  List.Subset.trans (by decide) (List.subset_append_right fs logRegs)

/-- An HMI event that is logged. -/
theorem State.hmi_logEvent_frame (s : State) (f : Fld) (m pos code src : Nat) (data : List Byte) :
    LogFrame s ((s.hmi f m pos).logEvent code src data) :=
  (State.event_frame _ _ _ _ _ _ _).trans (State.logEvent_frame _ _ _ _)

end Sys2Proof.Machine

/-! SUPPORT. Lamp channels: what a phase, a soft start, a ramp and the following of a gate change. -/

namespace Sys2Proof.Machine
set_option Elab.async false

/-! ### The phase of a channel -/

theorem State.get_lampPhase_phase (s : State) (n : Nat) {ph : Nat} (fits : ph < 8) :
    (s.lampPhase n ph).get (Reg.LMP_STAT_PHASE n) = ph :=
  (State.get_setFlag_ne _ _ (key_ne (by omega))).trans (s.get_put_fits fits)

theorem State.get_lampPhase_on (s : State) (n ph : Nat) :
    (s.lampPhase n ph).get (Reg.LMP_STAT_ON n) = b2n (ph == 1 || ph == 2 || ph == 3) :=
  State.get_setFlag_same _ _ (by simp [Reg.LMP_STAT_ON])

/-- A phase is shown in two fields of its channel. -/
theorem regsBut_lampPhase {fs : List Fld} {s t : State} (h : RegsBut fs s t) {n : Nat} (ph : Nat) (phase : Reg.LMP_STAT_PHASE n ∈ fs)
    (on : Reg.LMP_STAT_ON n ∈ fs) : RegsBut fs s (t.lampPhase n ph) :=
  regsBut_put (regsBut_put h _ phase) _ on

theorem State.get_lampPhase_ne (s : State) {n : Nat} (ph : Nat) {f : Fld} (phase : f.key ≠ (Reg.LMP_STAT_PHASE n).key)
    (on : f.key ≠ (Reg.LMP_STAT_ON n).key) : (s.lampPhase n ph).get f = s.get f :=
  (State.get_setFlag_ne _ _ on).trans (s.get_put_ne _ phase)

/-- A channel's gate does not depend on what the channels show. -/
theorem State.lampWanted_lampPhase (s : State) (m ph n : Nat) : (s.lampPhase m ph).lampWanted n = s.lampWanted n := by
  have kept {a l w r : Nat} (h : a * 32 + l ≠ (0xB0108 + m * 0x10) * 32 + 5 ∧ a * 32 + l ≠ (0xB0108 + m * 0x10) * 32 + 0) :
      (s.lampPhase m ph).get ⟨a, l, w, r⟩ = s.get ⟨a, l, w, r⟩ := s.get_lampPhase_ne ph (key_ne h.1) (key_ne h.2)
  have en : (s.lampPhase m ph).get (Reg.LMP_CTRL_EN n) = s.get (Reg.LMP_CTRL_EN n) := kept (by omega)
  have src : (s.lampPhase m ph).get (Reg.LMP_CTRL_SRC n) = s.get (Reg.LMP_CTRL_SRC n) := kept (by omega)
  have dflt : (s.lampPhase m ph).get (Reg.LMP_CTRL_GATE_DFLT n) = s.get (Reg.LMP_CTRL_GATE_DFLT n) := kept (by omega)
  have cast : (s.lampPhase m ph).get Reg.CAST_STATUS_STATE = s.get Reg.CAST_STATUS_STATE := kept (by omega)
  unfold State.lampWanted State.fabricReleased State.flag
  rw [en, src, dflt, cast]
  rfl

/-! ### A soft start (R96, R100) -/

/-- The phase in which a soft start begins: suspended on a tripped rail, waiting in the restart wait. -/
theorem State.get_lampSoft_phase (s : State) (n : Nat) : (s.lampSoft n).get (Reg.LMP_STAT_PHASE n) =
    if bit s.door.railTrip (n / 2) then 5 else if bit s.door.railWait (n / 2) then 6 else 1 :=
  State.get_lampPhase_phase _ n (by split_ifs <;> decide)

/-- On a rail that is up a soft start drives at once. -/
theorem State.lampSoft_starts {s : State} {n : Nat} (trip : bit s.door.railTrip (n / 2) = false) (wait : bit s.door.railWait (n / 2) = false) :
    (s.lampSoft n).get (Reg.LMP_STAT_PHASE n) = 1 ∧ (s.lampSoft n).get (Reg.LMP_STAT_ON n) = 1 := by
  unfold State.lampSoft lampRail
  rw [trip, wait]
  exact ⟨State.get_lampPhase_phase _ n (by decide), State.get_lampPhase_on _ n _⟩

theorem regsBut_lampSoft {fs : List Fld} {s t : State} (h : RegsBut fs s t) {n : Nat} (phase : Reg.LMP_STAT_PHASE n ∈ fs)
    (on : Reg.LMP_STAT_ON n ∈ fs) : RegsBut fs s (t.lampSoft n) :=
  regsBut_lampPhase (t := t.putLamp n _) h _ phase on

theorem State.lampWanted_lampSoft (s : State) (m n : Nat) : (s.lampSoft m).lampWanted n = s.lampWanted n :=
  (State.lampWanted_lampPhase _ m _ n).trans rfl

/-! ### A channel that follows its settings (R98, R102–R105) -/

/-- The fields of LMPn_STAT that a channel's own moves write. -/
def lampStat (n : Nat) : List Fld := [Reg.LMP_STAT_PHASE n, Reg.LMP_STAT_ON n, Reg.LMP_STAT_RETRIES n, Reg.LMP_STAT_HOLD n]

/-- From `s` to `t` only what a channel shows and what the lamps do beside it has changed. -/
structure LampMoves (n : Nat) (s t : State) : Prop where
  regs : RegsBut (lampStat n) s t
  rest : t = { s with regs := t.regs, door := { s.door with lamps := t.door.lamps } }

namespace LampMoves

variable {n : Nat} {s t u : State}

theorem refl (n : Nat) (s : State) : LampMoves n s s := ⟨regsBut_refl _ _, rfl⟩

theorem ite {c : Prop} [Decidable c] (h : LampMoves n s t) (k : LampMoves n s u) : LampMoves n s (if c then t else u) := by
  split <;> assumption

theorem put (h : LampMoves n s t) {f : Fld} (v : Nat) (mem : f ∈ lampStat n) : LampMoves n s (t.put f v) := by
  refine ⟨regsBut_put h.regs v mem, ?_⟩
  rw [h.rest]
  rfl

theorem putLamp (h : LampMoves n s t) (m : Nat) (l : Lamp) : LampMoves n s (t.putLamp m l) := by
  refine ⟨h.regs, ?_⟩
  rw [h.rest]
  rfl

theorem lampPhase (h : LampMoves n s t) (ph : Nat) : LampMoves n s (t.lampPhase n ph) :=
  (h.put _ (by simp [lampStat])).put _ (by simp [lampStat])

theorem lampSoft (h : LampMoves n s t) : LampMoves n s (t.lampSoft n) := (h.putLamp n _).lampPhase _

theorem lampRamp (h : LampMoves n s t) (target : Nat) : LampMoves n s (t.lampRamp n target) := (h.putLamp n _).lampPhase 3

theorem lampRetry (h : LampMoves n s t) : LampMoves n s (t.lampRetry n) := (h.put _ (by simp [lampStat])).lampSoft

theorem lampReset (h : LampMoves n s t) : LampMoves n s (t.lampReset n) :=
  ite h ((h.put _ (by simp [lampStat])).put _ (by simp [lampStat]))

theorem lampApply (h : LampMoves n s t) : LampMoves n s (t.lampApply n) := by
  have start := h.lampReset
  have ramped (l : Lamp) (target : Nat) := (start.putLamp n l).lampRamp target
  unfold State.lampApply
  dsimp only
  refine ite (ite (start.lampPhase _) (ite start.lampRetry start)) (ite (ite start.lampSoft start) (ite (ite start (start.lampPhase _)) ?_))
  exact ite (ite start (ramped _ _)) (ite (ite start (ramped _ _)) (ite (start.putLamp n _) (ite start (ramped _ _))))

/-- Fields other than those that a channel's moves write keep their values. -/
theorem get (h : LampMoves n s t) {f : Fld} (out : ∀ g ∈ lampStat n, g.key ≠ f.key) : t.get f = s.get f := get_of_regsBut h.regs out

end LampMoves

end Sys2Proof.Machine

/-! SUPPORT. The events of lamp channels and of their rails, and their statement settled (R97–R105). -/

namespace Sys2Proof.Machine
set_option Elab.async false

/-! ### Shorts and retries (R97, R98, R101) -/

/-- The channel latched off by a short, its neighbour told, before the event is raised. -/
def State.lampLatched (s : State) (n : Nat) : State :=
  (((s.lampNear n).lampPhase n 4).setFlag (Reg.LMP_STAT_SHORT n) true).setFlag (Reg.LMP_STAT_HOLD n) (s.get (Reg.LMP_STAT_RETRIES n) == 3)

/-- The latch raised as an event and logged. -/
def State.lampTripped (s : State) (n : Nat) : State :=
  ((s.lampLatched n).hmi Reg.HMI_EVT_LAMP (2 ^ n) 0).logEvent 0x0801 n (leBytes 1 (s.get (Reg.LMP_STAT_RETRIES n)))

theorem exec_lampShort_trips {s : State} {ch : Fin 8} {mv : BitVec 16} (on : s.kettleOn = true) (drives : s.get (Reg.LMP_STAT_PHASE ch) ∈ [1, 2, 3])
    (low : mv.toNat < 500 * (s.get (Reg.LMP_CTRL_SHORT_V ch) + 1)) (target : s.lampSetpoint ch ≤ 8 * s.lampTarget ch) :
    exec (.lampShort ⟨ch, mv⟩) s = .next (s.lampTripped ch) :=
  if_pos ⟨on, by simpa using drives, by simp [State.lampShorted, State.lampShortV, low, target]⟩

theorem exec_lampShort_noShort {s : State} {ch : Fin 8} {mv : BitVec 16}
    (no : 500 * (s.get (Reg.LMP_CTRL_SHORT_V ch) + 1) ≤ mv.toNat ∨ 8 * s.lampTarget ch < s.lampSetpoint ch) :
    exec (.lampShort ⟨ch, mv⟩) s = .next s := by
  refine if_neg fun ⟨_, _, trips⟩ => ?_
  obtain ⟨low, target⟩ := Bool.and_eq_true_iff.1 trips
  exact no.elim (Nat.not_le.2 (of_decide_eq_true low)) (Nat.not_lt.2 (of_decide_eq_true target))

/-- The neighbour is told beside the registers. -/
theorem State.lampNear_frame (s : State) (n : Nat) :
    s.lampNear n = { s with door := { s.door with lamps := (s.lampNear n).door.lamps } } := by
  unfold State.lampNear
  generalize (if n % 2 = 0 then n + 1 else n - 1) = m
  dsimp only
  split <;> rfl

theorem State.get_lampNear (s : State) (n : Nat) (f : Fld) : (s.lampNear n).get f = s.get f := by
  rw [s.lampNear_frame n]
  rfl

theorem State.lampLatched_frame (s : State) (n : Nat) : s.lampLatched n =
    { s with regs := (s.lampLatched n).regs, door := { s.door with lamps := (s.lampLatched n).door.lamps } } := by
  unfold State.lampLatched
  rw [s.lampNear_frame n]
  rfl

/-- The latched channel shows the short and, after the third retry, HOLD. -/
theorem State.lampLatched_shows (s : State) (n : Nat) :
    (s.lampLatched n).get (Reg.LMP_STAT_PHASE n) = 4 ∧ (s.lampLatched n).get (Reg.LMP_STAT_ON n) = 0 ∧
    (s.lampLatched n).get (Reg.LMP_STAT_SHORT n) = 1 ∧ (s.lampLatched n).get (Reg.LMP_STAT_HOLD n) = b2n (s.get (Reg.LMP_STAT_RETRIES n) == 3) ∧
    (s.lampLatched n).get (Reg.LMP_STAT_RETRIES n) = s.get (Reg.LMP_STAT_RETRIES n) := by
  unfold State.lampLatched
  refine ⟨?phase, ?on, ?short, State.get_setFlag_same _ _ (by simp [Reg.LMP_STAT_HOLD]), ?retries⟩
  case phase =>
    rw [State.get_setFlag_ne _ _ (by exact key_ne (by omega)), State.get_setFlag_ne _ _ (by exact key_ne (by omega)),
      State.get_lampPhase_phase _ _ (by decide)]
  case on =>
    rw [State.get_setFlag_ne _ _ (by exact key_ne (by omega)), State.get_setFlag_ne _ _ (by exact key_ne (by omega)), State.get_lampPhase_on]
    rfl
  case short =>
    rw [State.get_setFlag_ne _ _ (by exact key_ne (by omega)), State.get_setFlag_same _ _ (by simp [Reg.LMP_STAT_SHORT])]
    rfl
  case retries =>
    rw [State.get_setFlag_ne _ _ (by exact key_ne (by omega)), State.get_setFlag_ne _ _ (by exact key_ne (by omega)),
      State.get_lampPhase_ne _ _ (by exact key_ne (by omega)) (by exact key_ne (by omega)), State.get_lampNear]

/-- The fields that a short writes, beside the log's. -/
def shortFields (n : Nat) : List Fld :=
  [Reg.LMP_STAT_PHASE n, Reg.LMP_STAT_ON n, Reg.LMP_STAT_SHORT n, Reg.LMP_STAT_HOLD n, Reg.HMI_EVT_LAMP]

theorem State.lampTripped_regs (s : State) (n : Nat) : RegsBut (shortFields n ++ logRegs) s (s.lampTripped n) := by
  have near : RegsBut (shortFields n ++ logRegs) s (s.lampNear n) := fun k _ => by rw [s.lampNear_frame n]
  have latched : RegsBut (shortFields n ++ logRegs) s (s.lampLatched n) :=
    regsBut_put (regsBut_put (regsBut_lampPhase near _ (by simp [shortFields]) (by simp [shortFields])) _ (by simp [shortFields])) _
      (by simp [shortFields])
  exact regsBut_logEvent (regsBut_hmi latched _ _ (by simp [shortFields])) _ _ _ (logFields_subset_append _)

/-- The event and the log leave what the channel shows. -/
theorem State.get_lampTripped (s : State) {n a l w r : Nat} (low : a * 32 + l < 0xD0000 * 32) (event : a * 32 + l ≠ 0xB0000 * 32) :
    (s.lampTripped n).get ⟨a, l, w, r⟩ = (s.lampLatched n).get ⟨a, l, w, r⟩ :=
  (State.get_logEvent _ _ _ _ (belowLog low)).trans (State.get_hmi_ne _ _ _ (key_ne (by omega)))

theorem State.lampTripped_frame (s : State) (n : Nat) : s.lampTripped n =
    { s with regs := (s.lampTripped n).regs, log := (s.lampTripped n).log, nvm := (s.lampTripped n).nvm, out := (s.lampTripped n).out,
             door := { s.door with lamps := (s.lampTripped n).door.lamps } } := by
  obtain ⟨_, _, _, _, h⟩ := State.hmi_logEvent_frame (s.lampLatched n) Reg.HMI_EVT_LAMP (2 ^ n) 0 0x0801 n
    (leBytes 1 (s.get (Reg.LMP_STAT_RETRIES n)))
  unfold State.lampTripped
  rw [h, s.lampLatched_frame n]

/-- A channel latched off without HOLD retries while its gate asks for it. -/
theorem exec_lampAutoRetry {s : State} {ch : Fin 8} (on : s.kettleOn = true) (latched : s.get (Reg.LMP_STAT_PHASE ch) = 4)
    (free : s.flag (Reg.LMP_STAT_HOLD ch) = false) (fewer : s.get (Reg.LMP_STAT_RETRIES ch) < 3) : exec (.lampAutoRetry ch) s =
      .next (if s.lampWanted ch then s.lampRetry ch else s.putLamp ch { s.lamp ch with due := true }) :=
  (if_pos ⟨on, latched, by simp [free]⟩).trans (if_neg (by omega))

theorem exec_lampAutoRetry_holds {s : State} {ch : Fin 8} (on : s.kettleOn = true) (latched : s.get (Reg.LMP_STAT_PHASE ch) = 4)
    (free : s.flag (Reg.LMP_STAT_HOLD ch) = false) (third : s.get (Reg.LMP_STAT_RETRIES ch) = 3) : exec (.lampAutoRetry ch) s =
      .next ((s.setFlag (Reg.LMP_STAT_HOLD ch) true).hmi Reg.HMI_EVT_LAMP (2 ^ ch.val) 0) :=
  (if_pos ⟨on, latched, by simp [free]⟩).trans (if_pos third)

/-- A retry counts and starts softly. -/
theorem State.lampRetry_shows {s : State} {n : Nat} (fewer : s.get (Reg.LMP_STAT_RETRIES n) < 3) :
    (s.lampRetry n).get (Reg.LMP_STAT_RETRIES n) = s.get (Reg.LMP_STAT_RETRIES n) + 1 ∧
    (s.lampRetry n).get (Reg.LMP_STAT_PHASE n) =
      if bit s.door.railTrip (n / 2) then 5 else if bit s.door.railWait (n / 2) then 6 else 1 := by
  refine ⟨(State.get_lampPhase_ne _ _ (key_ne (by omega)) (key_ne (by omega))).trans (State.get_bumpSat_fits s ?_), State.get_lampSoft_phase _ n⟩
  exact Nat.add_lt_add_right fewer 1

theorem State.lampRetry_regs (s : State) (n : Nat) :
    RegsBut [Reg.LMP_STAT_PHASE n, Reg.LMP_STAT_ON n, Reg.LMP_STAT_RETRIES n] s (s.lampRetry n) :=
  regsBut_lampSoft (regsBut_put (regsBut_refl _ _) _ (by simp)) (by simp) (by simp)

/-! ### The inrush window and ramps (R96, R101–R104) -/

theorem exec_inrushWindowEnd_closes {s : State} {ch : Fin 8} {dip : Nat} (on : s.kettleOn = true) (soft : s.get (Reg.LMP_STAT_PHASE ch) = 1)
    (closes : dip = 0 ∨ (s.lamp ch).near = false ∨ (s.lamp ch).extended = true) :
    exec (.inrushWindowEnd ⟨ch, dip⟩) s = .next (s.lampPhase ch 2) := by
  refine (if_neg (by simp [on, soft])).trans (if_neg ?_)
  rcases closes with h | h | h <;> simp [h]

theorem exec_inrushWindowEnd_holds {s : State} {ch : Fin 8} {dip : Nat} (on : s.kettleOn = true) (soft : s.get (Reg.LMP_STAT_PHASE ch) = 1)
    (dips : dip ≠ 0) (near : (s.lamp ch).near = true) (once : (s.lamp ch).extended = false) : exec (.inrushWindowEnd ⟨ch, dip⟩) s =
      .next (s.putLamp ch { s.lamp ch with extended := true, until_ := s.time.up + min dip 5000 * 1000 * unitNs }) :=
  (if_neg (by simp [on, soft])).trans (if_pos (by simp [dips, near, once]))

/-- A ramp that ends goes on by the range switch that waits for it. -/
theorem exec_rampEnd {s : State} {ch : Fin 8} (on : s.kettleOn = true) (ramps : s.get (Reg.LMP_STAT_PHASE ch) = 3) : exec (.rampEnd ch) s =
    .next (match (s.lamp ch).toRange with
      | some r => if (s.lamp ch).fresh then s.lampSoft ch
        else (s.putLamp ch { s.lamp ch with toRange := none, range := r }).lampRamp ch (s.get (Reg.LMP_SET_SET ch))
      | none => s.lampPhase ch (if s.lampWanted ch then 2 else 0)) := by
  refine (if_pos ⟨on, ramps⟩).trans ?_
  cases (s.lamp ch).toRange with
  | none => rfl
  | some r => exact (apply_ite Host.Outcome.next _ _ _).symm

/-! ### Rails (R100) -/

/-- A channel that is switched on and in one of some phases moves to another phase. -/
def State.lampShift (s : State) (from_ : List Nat) (to_ n : Nat) : State :=
  if s.get (Reg.LMP_STAT_PHASE n) ∈ from_ ∧ s.lampWanted n then s.lampPhase n to_ else s

/-- A channel that waits for its rail restarts, or is off where it has been switched off. -/
def State.lampRestart (s : State) (n : Nat) : State :=
  if s.get (Reg.LMP_STAT_PHASE n) = 6 then (if s.lampWanted n then s.lampSoft n else s.lampPhase n 0) else s

/-- What another channel's move leaves of channel `n`. -/
structure LampStays (n : Nat) (s t : State) : Prop where
  phase : t.get (Reg.LMP_STAT_PHASE n) = s.get (Reg.LMP_STAT_PHASE n)
  on : t.get (Reg.LMP_STAT_ON n) = s.get (Reg.LMP_STAT_ON n)
  wanted : t.lampWanted n = s.lampWanted n
  trip : t.door.railTrip = s.door.railTrip
  wait : t.door.railWait = s.door.railWait

theorem LampStays.ite {c : Prop} [Decidable c] {n : Nat} {s t u : State} (h : LampStays n s t) (k : LampStays n s u) :
    LampStays n s (if c then t else u) := by
  split <;> assumption

theorem LampStays.refl (n : Nat) (s : State) : LampStays n s s := ⟨rfl, rfl, rfl, rfl, rfl⟩

theorem State.lampPhase_stays (s : State) {m n : Nat} (ne : n ≠ m) (ph : Nat) : LampStays n s (s.lampPhase m ph) :=
  ⟨s.get_lampPhase_ne ph (key_ne (by omega)) (key_ne (by omega)), s.get_lampPhase_ne ph (key_ne (by omega)) (key_ne (by omega)),
    s.lampWanted_lampPhase m ph n, rfl, rfl⟩

theorem State.lampSoft_stays (s : State) {m n : Nat} (ne : n ≠ m) : LampStays n s (s.lampSoft m) :=
  ⟨State.get_lampPhase_ne _ _ (key_ne (by omega)) (key_ne (by omega)), State.get_lampPhase_ne _ _ (key_ne (by omega)) (key_ne (by omega)),
    s.lampWanted_lampSoft m n, rfl, rfl⟩

theorem State.lampShift_stays (s : State) {m n : Nat} (ne : n ≠ m) (from_ : List Nat) (to_ : Nat) : LampStays n s (s.lampShift from_ to_ m) :=
  .ite (s.lampPhase_stays ne _) (.refl n s)

theorem State.lampRestart_stays (s : State) {m n : Nat} (ne : n ≠ m) : LampStays n s (s.lampRestart m) :=
  .ite (.ite (s.lampSoft_stays ne) (s.lampPhase_stays ne _)) (.refl n s)

/-- A channel that shifts shows the new phase. -/
theorem State.lampShift_shows {s : State} {n to_ : Nat} {from_ : List Nat} (phase : s.get (Reg.LMP_STAT_PHASE n) ∈ from_)
    (wanted : s.lampWanted n = true) (fits : to_ < 8) : (s.lampShift from_ to_ n).get (Reg.LMP_STAT_PHASE n) = to_ ∧
      (s.lampShift from_ to_ n).get (Reg.LMP_STAT_ON n) = b2n (to_ == 1 || to_ == 2 || to_ == 3) := by
  rw [State.lampShift, if_pos ⟨phase, wanted⟩]
  exact ⟨s.get_lampPhase_phase n fits, s.get_lampPhase_on n to_⟩

theorem State.railPhase_eq (s : State) (rail : Nat) (from_ : List Nat) (to_ : Nat) :
    s.railPhase rail from_ to_ = (s.lampShift from_ to_ (2 * rail)).lampShift from_ to_ (2 * rail + 1) := rfl

/-- A channel of the rail that is switched on and in one of the phases shows the new one. -/
theorem State.railPhase_shows {s : State} {rail n to_ : Nat} {from_ : List Nat} (mine : n / 2 = rail)
    (phase : s.get (Reg.LMP_STAT_PHASE n) ∈ from_) (wanted : s.lampWanted n = true) (fits : to_ < 8) :
    (s.railPhase rail from_ to_).get (Reg.LMP_STAT_PHASE n) = to_ ∧
      (s.railPhase rail from_ to_).get (Reg.LMP_STAT_ON n) = b2n (to_ == 1 || to_ == 2 || to_ == 3) := by
  rw [State.railPhase_eq]
  obtain rfl | rfl : n = 2 * rail ∨ n = 2 * rail + 1 := by omega
  · have stays := (s.lampShift from_ to_ (2 * rail)).lampShift_stays (m := 2 * rail + 1) (n := 2 * rail) (by omega) from_ to_
    rw [stays.phase, stays.on]
    exact State.lampShift_shows phase wanted fits
  · have stays := s.lampShift_stays (m := 2 * rail) (n := 2 * rail + 1) (by omega) from_ to_
    exact State.lampShift_shows (stays.phase.symm ▸ phase) (stays.wanted.trans wanted) fits

/-- Phases are shown in registers. -/
theorem State.railPhase_frame (s : State) (rail : Nat) (from_ : List Nat) (to_ : Nat) :
    s.railPhase rail from_ to_ = { s with regs := (s.railPhase rail from_ to_).regs } := by
  have shift (u : State) (n : Nat) (h : u = { s with regs := u.regs }) :
      u.lampShift from_ to_ n = { s with regs := (u.lampShift from_ to_ n).regs } := by
    unfold State.lampShift
    split
    · rw [h]
      rfl
    · exact h
  rw [State.railPhase_eq]
  exact shift _ _ (shift s _ rfl)

/-- The channels of a rail restart, each by its own gate. -/
def State.railRestart (s : State) (rail : Nat) : State := (s.lampRestart (2 * rail)).lampRestart (2 * rail + 1)

/-- A waiting channel on a rail that is up starts softly, or is off where it has been switched off. -/
theorem State.lampRestart_shows {s : State} {n : Nat} (phase : s.get (Reg.LMP_STAT_PHASE n) = 6)
    (trip : bit s.door.railTrip (n / 2) = false) (wait : bit s.door.railWait (n / 2) = false) :
    (s.lampRestart n).get (Reg.LMP_STAT_PHASE n) = b2n (s.lampWanted n) ∧ (s.lampRestart n).get (Reg.LMP_STAT_ON n) = b2n (s.lampWanted n) := by
  rw [State.lampRestart, if_pos phase]
  cases s.lampWanted n with
  | true => exact State.lampSoft_starts trip wait
  | false => exact ⟨s.get_lampPhase_phase n (by decide), s.get_lampPhase_on n 0⟩

theorem State.railRestart_shows {s : State} {rail n : Nat} (mine : n / 2 = rail) (phase : s.get (Reg.LMP_STAT_PHASE n) = 6)
    (trip : bit s.door.railTrip rail = false) (wait : bit s.door.railWait rail = false) :
    (s.railRestart rail).get (Reg.LMP_STAT_PHASE n) = b2n (s.lampWanted n) ∧
      (s.railRestart rail).get (Reg.LMP_STAT_ON n) = b2n (s.lampWanted n) := by
  unfold State.railRestart
  obtain rfl | rfl : n = 2 * rail ∨ n = 2 * rail + 1 := by omega
  · have stays := (s.lampRestart (2 * rail)).lampRestart_stays (m := 2 * rail + 1) (n := 2 * rail) (by omega)
    rw [stays.phase, stays.on]
    exact State.lampRestart_shows phase (by rwa [mine]) (by rwa [mine])
  · have stays := s.lampRestart_stays (m := 2 * rail) (n := 2 * rail + 1) (by omega)
    rw [← stays.wanted]
    exact State.lampRestart_shows (stays.phase.trans phase) (by rwa [mine, stays.trip]) (by rwa [mine, stays.wait])

theorem State.railRestart_frame (s : State) (rail : Nat) : s.railRestart rail =
    { s with regs := (s.railRestart rail).regs, door := { s.door with lamps := (s.railRestart rail).door.lamps } } := by
  have restart (u : State) (n : Nat) (h : u = { s with regs := u.regs, door := { s.door with lamps := u.door.lamps } }) :
      u.lampRestart n = { s with regs := (u.lampRestart n).regs, door := { s.door with lamps := (u.lampRestart n).door.lamps } } := by
    unfold State.lampRestart
    split
    · split
      · rw [h]
        rfl
      · rw [h]
        rfl
    · exact h
  exact restart _ _ (restart s _ rfl)

/-- The state in which a rail's monitor has tripped, before its channels move. -/
def State.railTripped (s : State) (rail : Nat) : State :=
  { s with door := { s.door with railTrip := s.door.railTrip ||| 2 ^ rail, railWait := setBits s.door.railWait rail 1 0 } }

/-- The rail suspended and the trip raised and logged. -/
def State.railSuspended (s : State) (rail : Nat) : State :=
  (((s.railTripped rail).railPhase rail [1, 2, 3, 6] 5).hmi Reg.HMI_EVT_RAIL_UV (2 ^ rail) 8).logEvent 0x0802 rail []

theorem exec_lampRailUv {s : State} (on : s.kettleOn = true) (rail : Fin 4) : exec (.lampRailUv rail) s = .next (s.railSuspended rail) :=
  if_pos on

theorem State.railSuspended_frame (s : State) (rail : Nat) : LogFrame (s.railTripped rail) (s.railSuspended rail) := by
  have shown : LogFrame (s.railTripped rail) ((s.railTripped rail).railPhase rail [1, 2, 3, 6] 5) := by
    rw [State.railPhase_frame]
    exact ⟨_, _, _, _, rfl⟩
  exact shown.trans (State.hmi_logEvent_frame _ _ _ _ _ _ _)

/-- The event and the log leave what the channels show. -/
theorem State.get_railSuspended (s : State) {rail a l w r : Nat} (low : a * 32 + l < 0xD0000 * 32) (event : a * 32 + l ≠ 0xB0000 * 32 + 8) :
    (s.railSuspended rail).get ⟨a, l, w, r⟩ = ((s.railTripped rail).railPhase rail [1, 2, 3, 6] 5).get ⟨a, l, w, r⟩ :=
  (State.get_logEvent _ _ _ _ (belowLog low)).trans (State.get_hmi_ne _ _ _ (key_ne event))

/-- The rail up again, its restart wait begun, before its channels move. -/
def State.railReleased (s : State) (rail : Nat) : State :=
  { s with door := { s.door with railTrip := setBits s.door.railTrip rail 1 0, railWait := s.door.railWait ||| 2 ^ rail } }

/-- The restart wait over, before its channels move. -/
def State.railWaited (s : State) (rail : Nat) : State :=
  { s with door := { s.door with railWait := setBits s.door.railWait rail 1 0 } }

theorem exec_railUvRelease {s : State} {rail : Fin 4} (on : s.kettleOn = true) (trip : bit s.door.railTrip rail = true) :
    exec (.railUvRelease rail) s = .next ((s.railReleased rail).railPhase rail [5] 6) := if_pos ⟨on, trip⟩

theorem exec_railRestartWaitEnd {s : State} {rail : Fin 4} (on : s.kettleOn = true) (wait : bit s.door.railWait rail = true) :
    exec (.railRestartWaitEnd rail) s = .next ((s.railWaited rail).railRestart rail) := if_pos ⟨on, wait⟩

/-! ### Gates (R105) -/

/-- The gate's level taken. -/
def State.gateTaken (s : State) (ch : Nat) (level : Bool) : State :=
  { s with door := { s.door with lgate := setBits s.door.lgate ch 1 (b2n level) } }

theorem exec_lgateEdge {s : State} {ch : Fin 8} (released : s.fabricReleased = true)
    (free : bit (s.get Reg.CWALL_MASK) (s.door.lgateRegion.getD ch 0) = false) (level : Bool) : exec (.lgateEdge ch level) s =
      .next (if !bit s.door.lgate ch && level && (s.gateTaken ch level).lampRise ch then (s.gateTaken ch level).lampSoft ch
        else (s.gateTaken ch level).lampApply ch) :=
  if_pos ⟨released, Bool.eq_false_iff.1 free⟩

/-! ### The statement -/

/-- Settles O6: each event by the lemma that says what it does to its channel or to the channels of its rail. -/
theorem lampEvents : Obligations.LampEvents := by
  unfold Obligations.LampEvents
  refine ⟨fun ch s on => ⟨fun mv drives low target => ?short, fun mv no => exec_lampShort_noShort no, fun latched free fewer wanted => ?retry,
      fun latched free fewer off => ?due, fun latched free third => exec_lampAutoRetry_holds on latched free third,
      fun drives => if_pos ⟨on, drives⟩, fun regulates => if_pos ⟨on, regulates⟩,
      fun dip soft closes => exec_inrushWindowEnd_closes on soft closes,
      fun dip soft dips near once => exec_inrushWindowEnd_holds on soft dips near once⟩,
    fun ch s on ramps => ⟨fun plain => ?plain, fun r switch fresh => ?switch, fun r switch fresh => ?fresh⟩,
    fun rail s on => ?trips, fun rail s on trip => ?releases, fun rail s on wait up => ?restarts,
    fun ch level s released free => ?gate⟩
  case short =>
    obtain ⟨phase, driving, short, hold, retries⟩ := s.lampLatched_shows ch
    refine ⟨_, exec_lampShort_trips on drives low target, ?_, ?_, ?_, ?_, ?_, ?_, s.lampTripped_frame ch, s.lampTripped_regs ch⟩
    · exact (s.get_lampTripped (by omega) (by omega)).trans phase
    · exact (s.get_lampTripped (by omega) (by omega)).trans driving
    · exact (s.get_lampTripped (by omega) (by omega)).trans short
    · exact (s.get_lampTripped (by omega) (by omega)).trans hold
    · exact (s.get_lampTripped (by omega) (by omega)).trans retries
    · rw [State.lampTripped, State.get_logEvent _ _ _ _ (by decide)]
      exact State.hmi_bit _ _ ch.isLt
  case retry =>
    obtain ⟨counts, phase⟩ := State.lampRetry_shows fewer
    exact ⟨_, (exec_lampAutoRetry on latched free fewer).trans (congrArg _ (if_pos wanted)), counts, phase, rfl, s.lampRetry_regs ch⟩
  case due => exact (exec_lampAutoRetry on latched free fewer).trans (congrArg _ (if_neg (by simp [off])))
  case plain => rw [exec_rampEnd on ramps, plain]
  case switch => rw [exec_rampEnd on ramps, switch]; simp [fresh]
  case fresh => rw [exec_rampEnd on ramps, switch]; simp [fresh]
  case trips =>
    obtain ⟨_, _, _, _, frame⟩ := s.railSuspended_frame rail
    refine ⟨_, exec_lampRailUv on rail, ?_, ?_, fun n mine phase wanted => ?_, ?_⟩
    · rw [frame]
      exact bit_or_two_pow _ _
    · rw [State.railSuspended, State.get_logEvent _ _ _ _ (by decide)]
      exact State.hmi_bit _ _ rail.isLt
    · have shown := State.railPhase_shows (s := s.railTripped rail) mine phase wanted (to_ := 5) (by decide)
      exact ⟨(s.get_railSuspended (by omega) (by omega)).trans shown.1, (s.get_railSuspended (by omega) (by omega)).trans shown.2⟩
    · rw [frame]
      rfl
  case releases =>
    have frame := (s.railReleased rail).railPhase_frame rail [5] 6
    refine ⟨_, exec_railUvRelease on trip, ?_, ?_, fun n mine phase wanted => ?_, ?_⟩
    · rw [frame]
      exact bit_setBits_zero _ _
    · rw [frame]
      exact bit_or_two_pow _ _
    · exact (State.railPhase_shows (s := s.railReleased rail) mine (List.mem_singleton.2 phase) wanted (by decide)).1
    · rw [frame]
      rfl
  case restarts =>
    have frame := (s.railWaited rail).railRestart_frame rail
    have shown (n : Nat) (mine : n / 2 = rail.val) (phase : s.get (Reg.LMP_STAT_PHASE n) = 6) :=
      State.railRestart_shows (s := s.railWaited rail) mine phase up (bit_setBits_zero _ _)
    refine ⟨_, exec_railRestartWaitEnd on wait, ?_, fun n mine phase wanted => ?_, fun n mine phase off => ?_, ?_⟩
    · rw [frame]
      exact bit_setBits_zero _ _
    · have same : (s.railWaited rail).lampWanted n = true := wanted
      simpa [same, b2n] using shown n mine phase
    · have same : (s.railWaited rail).lampWanted n = false := off
      simpa [same, b2n] using shown n mine phase
    · rw [frame]
      rfl
  case gate =>
    intro u rise
    have rises_iff : (!bit s.door.lgate ch && level && (s.gateTaken ch level).lampRise ch) = true ↔ rise := by
      rw [Bool.and_eq_true, Bool.and_eq_true, Bool.not_eq_true', and_assoc]
      exact Iff.rfl
    exact ⟨fun stays => (exec_lgateEdge released free level).trans (congrArg _ (if_neg (mt rises_iff.1 stays))),
      fun rises => (exec_lgateEdge released free level).trans (congrArg _ (if_pos (rises_iff.2 rises)))⟩

end Sys2Proof.Machine

/-! SUPPORT. What a wake leaves of the door side, the HMI block's registers and the door unit (R81, R82, R86). -/

namespace Sys2Proof.Machine
set_option Elab.async false

/-- A field of another block than the HMI block (base 0x000B_0000). -/
abbrev OffHmi (f : Fld) : Prop := f.key < 0xB0000 * 32 ∨ 0xC0000 * 32 ≤ f.key

theorem offHmi_high {a l w r : Nat} (h : 0xC0000 ≤ a) : OffHmi ⟨a, l, w, r⟩ := .inr (by simp only [Fld.key]; omega)

/-- From `s` to `t` the registers of the HMI block and the door unit stay as they are. -/
structure DoorKept (s t : State) : Prop where
  regs : ∀ k, 0xB0000 * 32 ≤ k → k < 0xC0000 * 32 → tfind t.regs k = tfind s.regs k
  door : t.door = s.door

namespace DoorKept

variable {s t u : State}

theorem refl (s : State) : DoorKept s s := ⟨fun _ _ _ => rfl, rfl⟩

/-- What changes no register and not the door unit. -/
theorem others (h : DoorKept s t) {pending win mem ecc cmd log time pwr door addr mesh bud mu sync hq tu lanes link ens fab eng cast vault nvm
    bist out draws} (same : door = t.door := by rfl) :
    DoorKept s ⟨pending, t.regs, win, mem, ecc, cmd, log, time, pwr, door, addr, mesh, bud, mu, sync, hq, tu, lanes, link, ens, fab, eng,
      cast, vault, nvm, bist, out, draws⟩ :=
  ⟨h.regs, same.trans h.door⟩

theorem put (h : DoorKept s t) {f : Fld} (v : Nat) (out : OffHmi f) : DoorKept s (t.put f v) :=
  ⟨fun k lo hi => (t.regs_put_ne f v (by omega)).trans (h.regs k lo hi), h.door⟩

theorem ite {c : Prop} [Decidable c] (h : DoorKept s t) (k : DoorKept s u) : DoorKept s (if c then t else u) := by
  split <;> assumption

theorem foldl {α : Type} {f : State → α → State} (h : DoorKept s t) (l : List α) (step : ∀ u a, DoorKept s u → DoorKept s (f u a)) :
    DoorKept s (l.foldl f t) :=
  List.foldlRecOn (motive := DoorKept s) l f h fun u hu a _ => step u a hu

/-- A field of the HMI block reads the same. -/
theorem get (h : DoorKept s t) {a l w r : Nat} (lo : 0xB0000 * 32 ≤ a * 32 + l) (hi : a * 32 + l < 0xC0000 * 32) :
    t.get ⟨a, l, w, r⟩ = s.get ⟨a, l, w, r⟩ :=
  congrArg (Option.getD · r) (h.regs _ lo hi)

/-! ### Replies and completions -/

theorem portSend (h : DoorKept s t) (d : Nat) (b : List Byte) : DoorKept s (t.portSend d b) := by
  have filled (u : State) (hu : DoorKept s u) : DoorKept s (u.portFill d) := by
    obtain ⟨f, hf⟩ := u.portFill_fab d
    rw [hf]
    exact hu.others
  unfold State.portSend
  refine filled _ (others ?_)
  split
  · obtain ⟨m, hm⟩ := t.netBytes_mesh plinthPlace (regionPlace _) clsMgt b.length
    rw [hm]
    exact h.others
  · exact h

theorem mbxPlaceN (n : Nat) (h : DoorKept s t) : DoorKept s (State.mbxPlaceN n t) := by
  induction n generalizing t with
  | zero => exact h
  | succ n ih =>
    unfold State.mbxPlaceN
    split
    · exact h
    · rename_i r w _
      have moved : DoorKept s { t with cmd := { t.cmd with mbxWait := w, mbxRing := t.cmd.mbxRing ++ [r] } } := h.others
      have advanced : DoorKept s (State.bumpWrap _ Reg.MBX_RPL_TAIL_TAIL 1) := moved.put _ (by decide)
      have placed := advanced.put (f := Reg.MBX_IRQ_RPL) 1 (by decide)
      exact ite (ih (ite placed.others placed)) h

theorem mbxPlace (h : DoorKept s t) : DoorKept s t.mbxPlace := (mbxPlaceN 8 h).put _ (by decide)

theorem deliver (h : DoorKept s t) (r : Packet) : DoorKept s (t.deliver r) := by
  unfold State.deliver
  split
  · exact ite (mbxPlace h.others) h
  · exact ite h.others h
  · exact h.others
  · exact h.others
  · exact ite h.others h
  · exact ite h (ite h.others (portSend h.others _ _))

theorem completeAt (h : DoorKept s t) (i : Nat) (a : Ans) : DoorKept s (t.completeAt i a) := by
  have amended (c : Prop) [Decidable c] (p r : Packet) (u : State) (hu : DoorKept s u) : DoorKept s (if c then u.amend p r else u) :=
    ite hu.others hu
  have sent (c : Prop) [Decidable c] (r : Packet) (u : State) (hu : DoorKept s u) : DoorKept s (if c then u.deliver r else u) :=
    ite (hu.deliver r) hu
  have closed (c : Prop) [Decidable c] (n : Nat) (u : State) (hu : DoorKept s u) : DoorKept s (if c then u.closeSession n else u) :=
    ite hu.others hu
  unfold State.completeAt
  split
  · exact h
  · exact ite h.others (closed _ _ _ (sent _ _ _ (amended _ _ _ _ h.others)))

theorem complete (h : DoorKept s t) (code : Nat) (a : Ans) : DoorKept s (t.complete code a) := by
  unfold State.complete
  split
  · exact h
  · exact h.completeAt _ a

/-! ### The wake -/

theorem leaveIdle (h : DoorKept s t) : DoorKept s t.leaveIdle := by
  unfold State.leaveIdle
  exact ite (h.put _ (by decide)) h

theorem retick (h : DoorKept s t) : DoorKept s t.retick := by
  have moved (c : Prop) [Decidable c] : DoorKept s (if c then t else t.handover) := ite h h.others
  exact put (put (put (moved _) _ (by decide)) _ (by decide)) _ (by decide)

theorem beginExit (h : DoorKept s t) (first : Nat) : DoorKept s (t.beginExit first) := by
  have opened : DoorKept s (t.exitOpened first) := others (put (put (put h _ (by decide)) _ (by decide)) _ (by decide))
  have filled (u : State) (hu : DoorKept s u) : DoorKept s u.vaultWake := by
    unfold State.vaultWake
    exact ite (put hu.others _ (by decide)) hu
  by_cases doze : t.cur = 2
  · rw [State.beginExit_doze doze]
    exact retick (others (put (put opened _ (by decide)) _ (by decide)))
  · rw [State.beginExit_sleep doze]
    exact retick (others (put (filled _ opened.others) _ (by decide)))

theorem releaseEngines (h : DoorKept s t) : DoorKept s t.releaseEngines := by
  unfold State.releaseEngines
  exact foldl h.others _ fun u e hu => ite (hu.put _ (offHmi_high (by omega))) hu

theorem releaseHalted (h : DoorKept s t) : DoorKept s t.releaseHalted :=
  h.foldl _ fun u n hu => hu.put _ (offHmi_high (by omega))

theorem releaseHeld (h : DoorKept s t) (m : Nat) : DoorKept s (t.releaseHeld m) :=
  h.foldl _ fun u n hu => hu.foldl _ fun v st hv => ite (hv.put _ (offHmi_high (by omega))) hv

theorem abortEntry (h : DoorKept s t) : DoorKept s t.abortEntry := by
  have unhalted : DoorKept s t.unhalt := h.others
  have released := (unhalted.releaseEngines.releaseHalted.releaseHeld (t.get Reg.CWALL_MASK))
  have ended (u : State) (hu : DoorKept s u) : DoorKept s
      { u with pwr := { u.pwr with stage := .none, halted := [], haltedEng := [], req := none, castAfter := false } } := hu.others
  exact ended _ (put (put (put (put released _ (by decide)) _ (by decide)) _ (by decide)) _ (by decide))

theorem latchWake (h : DoorKept s t) (source : Nat) : DoorKept s (t.latchWake source) := by
  have latched : DoorKept s (t.orBits Reg.PWR_WAKE_SRC_SRC (2 ^ source)) := h.put _ (by decide)
  have aborted := complete (abortEntry (latched.put (f := Reg.PWR_WAKE_FIRST_FIRST) source (by decide))) 0x0200 (Ans.code 0xE 0x10)
  unfold State.latchWake
  refine ite h (ite latched ?_)
  split
  · exact ite (leaveIdle (latched.put _ (by decide))) (ite (latched.beginExit _) latched)
  · exact ite latched.others aborted
  · exact ite latched.others aborted
  · exact latched

end DoorKept

end Sys2Proof.Machine

/-! SUPPORT. Touch, keypad and plugs, and their statement settled (R106–R108, R110–R113). -/

namespace Sys2Proof.Machine
set_option Elab.async false

/-! ### A scan of the touch channels (R106) -/

/-- The fields of channel `n` that decide what a scan counts on it, and the count. -/
def countFields (n : Nat) : List Fld := [Reg.TCH_DATA_COUNT n, Reg.TCH_CFG_EN n, Reg.TCH_CFG_PROX n]

/-- From `s` to `t` those fields read the same. -/
def CountKept (n : Nat) (s t : State) : Prop := ∀ f ∈ countFields n, t.get f = s.get f

/-- A field is none of those. -/
abbrev OffCount (n : Nat) (f : Fld) : Prop := ∀ g ∈ countFields n, g.key ≠ f.key

theorem offCount {n a l w r : Nat} (h : (0xB0214 + n * 0x10) * 32 + 0 ≠ a * 32 + l ∧ (0xB0210 + n * 0x10) * 32 + 0 ≠ a * 32 + l ∧
    (0xB0210 + n * 0x10) * 32 + 5 ≠ a * 32 + l) : OffCount n ⟨a, l, w, r⟩ := by
  obtain ⟨count, en, prox⟩ := h
  simp only [OffCount, countFields, List.forall_mem_cons]
  exact ⟨count, en, prox, by simp⟩

namespace CountKept

variable {n : Nat} {s t u : State}

theorem refl (n : Nat) (s : State) : CountKept n s s := fun _ _ => rfl

theorem trans (h : CountKept n s t) (k : CountKept n t u) : CountKept n s u := fun f hf => (k f hf).trans (h f hf)

theorem ite {c : Prop} [Decidable c] (h : CountKept n s t) (k : CountKept n s u) : CountKept n s (if c then t else u) := by
  split <;> assumption

theorem put (h : CountKept n s t) {f : Fld} (v : Nat) (out : OffCount n f) : CountKept n s (t.put f v) :=
  fun g hg => (t.get_put_ne v (out g hg)).trans (h g hg)

theorem hmi (h : CountKept n s t) {f : Fld} (m pos : Nat) (out : OffCount n f) : CountKept n s (t.hmi f m pos) :=
  fun g hg => (t.get_hmi_ne m pos (out g hg)).trans (h g hg)

theorem latchWake (h : CountKept n s t) (chan : n < 12) (source : Nat) : CountKept n s (t.latchWake source) := by
  have kept := (DoorKept.refl t).latchWake source
  refine trans h ?_
  simp only [CountKept, countFields, List.forall_mem_cons]
  exact ⟨kept.get (by omega) (by omega), kept.get (by omega) (by omega), kept.get (by omega) (by omega), by simp⟩

theorem setTouched (h : CountKept n s t) (chan : n < 12) (m : Nat) (b : Bool) : CountKept n s (t.setTouched m b) := by
  have shown := (h.put (f := Reg.TCH_TOUCHED_T) (setBits (t.get Reg.TCH_TOUCHED_T) m 1 (b2n b)) (offCount (by omega))).hmi
    (f := Reg.HMI_EVT_TOUCH) 1 12 (offCount (by omega))
  exact ite (shown.latchWake chan 0) shown

theorem touchTrack (h : CountKept n s t) (m cnt : Nat) : CountKept n s (t.touchTrack m cnt) :=
  h.put _ (offCount (by omega))

end CountKept

/-- The conversions a channel counts change no register. -/
theorem State.touchCount_regs (s : State) (n : Nat) (conv : List (BitVec 16)) : (s.touchCount n conv).1.regs = s.regs := by
  unfold State.touchCount
  dsimp only
  split_ifs <;> rfl

/-- Once a channel's count is shown, the rest of its scan writes its baseline and its decision. -/
theorem State.touchScan1_counts {s : State} {m : Nat} (conv : List (BitVec 16)) (on : s.flag (Reg.TCH_CFG_EN m) = true) {n : Nat}
    (chan : n < 12) : CountKept n ((s.touchCount m conv).1.put (Reg.TCH_DATA_COUNT m) (s.touchCount m conv).2) (s.touchScan1 m conv) := by
  have shown := CountKept.refl n ((s.touchCount m conv).1.put (Reg.TCH_DATA_COUNT m) (s.touchCount m conv).2)
  have judged (x : Touch) : CountKept n ((s.touchCount m conv).1.put (Reg.TCH_DATA_COUNT m) (s.touchCount m conv).2)
    (((s.touchCount m conv).1.put (Reg.TCH_DATA_COUNT m) (s.touchCount m conv).2).putTouch m x) := shown
  unfold State.touchScan1
  rw [if_neg (by simp [on])]
  dsimp only
  refine .ite (.ite ((judged _).put _ (offCount (by omega))) (judged _)) (.ite (shown.touchTrack m _) ?_)
  exact .ite (.ite ((judged _).setTouched chan m _) shown) (.ite ((judged _).setTouched chan m _) ((judged _).touchTrack m _))

/-- The scan of one channel leaves the others' counts. -/
theorem State.touchScan1_kept (s : State) {m n : Nat} (conv : List (BitVec 16)) (chan : n < 12) (ne : n ≠ m) :
    CountKept n s (s.touchScan1 m conv) := by
  have same : CountKept n s (s.touchCount m conv).1 := fun f _ => by rw [State.get, State.get, s.touchCount_regs]
  by_cases on : s.flag (Reg.TCH_CFG_EN m) = true
  · exact (same.put _ (offCount (by omega))).trans (State.touchScan1_counts conv on chan)
  · rw [State.touchScan1, if_pos (by simpa using on)]
    exact .refl n s

theorem State.touchScan_kept (cs : List (List (BitVec 16))) (s : State) {k n : Nat} (chan : n < 12) (below : n < k) :
    CountKept n s (s.touchScan k cs) := by
  induction cs generalizing s k with
  | nil => exact .refl n s
  | cons c cs ih => exact (s.touchScan1_kept c chan (by omega)).trans (ih _ (by omega))

/-- What COUNT of channel `n` shows in `t` after a scan that began in `s` with conversions `c`. -/
structure CountShown (n : Nat) (c : List (BitVec 16)) (s t : State) : Prop where
  single : s.flag (Reg.TCH_CFG_PROX n) = false → t.get (Reg.TCH_DATA_COUNT n) = (c.getD 0 0).toNat
  eight : s.flag (Reg.TCH_CFG_PROX n) = true → ((c.take 8).map BitVec.toNat).sum < 65536 →
    t.get (Reg.TCH_DATA_COUNT n) = ((c.take 8).map BitVec.toNat).sum

theorem State.touchCount_single {s : State} {n : Nat} (conv : List (BitVec 16)) (prox : s.flag (Reg.TCH_CFG_PROX n) = false) :
    s.touchCount n conv = (s, (conv.getD 0 0).toNat) := by
  rw [State.touchCount, if_neg (by simp [prox])]

theorem State.touchCount_eight {s : State} {n : Nat} {conv : List (BitVec 16)} (prox : s.flag (Reg.TCH_CFG_PROX n) = true)
    (fits : ((conv.take 8).map BitVec.toNat).sum < 65536) : s.touchCount n conv = (s, ((conv.take 8).map BitVec.toNat).sum) := by
  rw [List.sum_eq_foldl] at fits ⊢
  rw [State.touchCount, if_pos prox]
  exact if_pos fits

theorem State.touchScan1_shows {s : State} {n : Nat} (c : List (BitVec 16)) (chan : n < 12) (on : s.flag (Reg.TCH_CFG_EN n) = true) :
    CountShown n c s (s.touchScan1 n c) := by
  have counts := State.touchScan1_counts c on chan (Reg.TCH_DATA_COUNT n) (by simp [countFields])
  refine ⟨fun prox => ?_, fun prox fits => ?_⟩
  · rw [counts, State.touchCount_single c prox]
    exact State.get_put_fits _ (BitVec.isLt _)
  · rw [counts, State.touchCount_eight prox fits]
    exact State.get_put_fits _ fits

/-- A scan from channel `k` shows the count of each enabled channel that it reaches. -/
theorem State.touchScan_shows (cs : List (List (BitVec 16))) (s : State) {k i : Nat} {c : List (BitVec 16)} (conv : cs[i]? = some c)
    (chan : k + i < 12) (on : s.flag (Reg.TCH_CFG_EN (k + i)) = true) : CountShown (k + i) c s (s.touchScan k cs) := by
  induction cs generalizing s k i with
  | nil => simp at conv
  | cons c0 cs ih =>
    cases i with
    | zero =>
      obtain rfl : c0 = c := by simpa using conv
      have shown := State.touchScan1_shows c0 chan on
      have later := State.touchScan_kept cs (s.touchScan1 k c0) chan (k := k + 1) (by omega) (Reg.TCH_DATA_COUNT (k + 0)) (by simp [countFields])
      exact ⟨fun prox => later.trans (shown.single prox), fun prox fits => later.trans (shown.eight prox fits)⟩
    | succ i =>
      have kept := s.touchScan1_kept (m := k) c0 chan (by omega)
      have en := kept (Reg.TCH_CFG_EN (k + (i + 1))) (by simp [countFields])
      have prox := kept (Reg.TCH_CFG_PROX (k + (i + 1))) (by simp [countFields])
      have place : k + 1 + i = k + (i + 1) := by omega
      have shown := ih (s.touchScan1 k c0) (k := k + 1) conv (by omega) ((congrArg (· != 0) (place ▸ en)).trans on)
      rw [place] at shown
      exact ⟨fun p => shown.single ((congrArg (· != 0) prox).trans p), fun p => shown.eight ((congrArg (· != 0) prox).trans p)⟩

/-! ### A recalibration (R108) -/

/-- The channel released with its count as baseline, before that is logged. -/
def State.touchFreed (s : State) (n : Nat) : State :=
  let t := s.put (Reg.TCH_DATA_BASE n) (s.get (Reg.TCH_DATA_COUNT n))
  (t.putTouch n { t.touch n with above := 0 }).setTouched n false

theorem exec_touchRecal {s : State} {ch : Fin 12} (on : s.kettleOn = true) (touched : s.touched ch = true) (recal : s.get Reg.TCH_CFG_RECAL ≠ 0) :
    exec (.touchRecal ch) s = .next ((s.touchFreed ch).logEvent 0x0803 ch []) := if_pos ⟨on, touched, recal⟩

theorem State.touchFreed_shows (s : State) {n : Nat} (chan : n < 12) :
    (s.touchFreed n).get (Reg.TCH_DATA_BASE n) = s.get (Reg.TCH_DATA_COUNT n) % 65536 ∧ (s.touchFreed n).touched n = false ∧
    (s.touchFreed n).get Reg.HMI_EVT_TOUCH = 1 := by
  unfold State.touchFreed State.setTouched State.touched
  refine ⟨?_, ?_, State.get_event_bit _ rfl _ _ _ _⟩
  · refine (State.get_hmi_ne _ _ _ (key_ne (by omega))).trans ((State.get_put_ne _ _ (key_ne (by omega))).trans ?_)
    exact State.get_put_same s _ _
  · refine (congrArg (bit · n) ((State.get_hmi_ne _ _ _ (by decide)).trans (State.get_put_same _ _ _))).trans ?_
    exact (bit_cut _ chan).trans (bit_setBits _ _ _)

theorem State.touchFreed_regs (s : State) (n : Nat) {fs : List Fld} (base : Reg.TCH_DATA_BASE n ∈ fs) (touched : Reg.TCH_TOUCHED_T ∈ fs)
    (event : Reg.HMI_EVT_TOUCH ∈ fs) : RegsBut fs s (s.touchFreed n) :=
  regsBut_hmi (regsBut_put (t := State.putTouch _ n _) (regsBut_put (regsBut_refl _ _) _ base) _ touched) _ _ event

theorem State.touchFreed_frame (s : State) (n : Nat) :
    LogFrame { s with door := { s.door with touch := (s.touchFreed n).door.touch } } (s.touchFreed n) := by
  obtain ⟨_, _, _, _, frame⟩ : LogFrame _ (s.touchFreed n) := State.event_frame _ _ _ _ _ _ _
  rw [frame]
  exact ⟨_, _, _, _, rfl⟩

/-! ### Keypad and plugs (R110–R113) -/

/-- What a scan of one key leaves: GHOST and the millisecond count. -/
structure ScanKept (s t : State) : Prop where
  ghost : t.get Reg.KEY_STATE_GHOST = s.get Reg.KEY_STATE_GHOST
  ms : t.door.keyMs = s.door.keyMs

namespace ScanKept

variable {s t u : State}

theorem ite {c : Prop} [Decidable c] (h : ScanKept s t) (k : ScanKept s u) : ScanKept s (if c then t else u) := by
  split <;> assumption

theorem put (h : ScanKept s t) {f : Fld} (v : Nat) (out : Reg.KEY_STATE_GHOST.key ≠ f.key) : ScanKept s (t.put f v) :=
  ⟨(t.get_put_ne v out).trans h.ghost, h.ms⟩

theorem hmi (h : ScanKept s t) {f : Fld} (m pos : Nat) (out : Reg.KEY_STATE_GHOST.key ≠ f.key) : ScanKept s (t.hmi f m pos) := by
  refine ⟨(t.get_hmi_ne m pos out).trans h.ghost, Eq.trans ?_ h.ms⟩
  obtain ⟨_, _, _, _, frame⟩ : LogFrame t (t.hmi f m pos) := State.event_frame _ _ _ _ _ _ _
  rw [frame]

/-- The key's own counts and the FIFO stand beside them. -/
theorem door (h : ScanKept s t) (stable fifo : List Nat) :
    ScanKept s { t with door := { t.door with keyStable := stable, keyFifo := fifo } } := ⟨h.ghost, h.ms⟩

theorem latchWake (h : ScanKept s t) (source : Nat) : ScanKept s (t.latchWake source) := by
  have kept := (DoorKept.refl t).latchWake source
  exact ⟨(kept.get (by decide) (by decide)).trans h.ghost, (congrArg DoorUnit.keyMs kept.door).trans h.ms⟩

theorem keyPush (h : ScanKept s t) (k : Nat) (press : Bool) (ms : Nat) : ScanKept s (t.keyPush k press ms) := by
  have raised : ScanKept s (t.hmi Reg.HMI_EVT_KEY 1 13) := h.hmi 1 13 (by decide)
  unfold State.keyPush
  exact ite ((raised.door _ _).put _ (by decide)) (raised.put _ (by decide))

theorem keyScan1 (h : ScanKept s t) (down ms k : Nat) : ScanKept s (State.keyScan1 down ms t k) := by
  have pushed (b : Bool) (u : State) (hu : ScanKept s u) : ScanKept s (if b then u.latchWake 1 else u) := ite (hu.latchWake 1) hu
  unfold State.keyScan1
  dsimp only
  refine ite (h.door _ _) (pushed _ _ (keyPush (door (put (h.door _ _) _ (by decide)) _ _) _ _ _))

theorem scan (h : ScanKept s t) (down ms : Nat) (l : List Nat) : ScanKept s (l.foldl (State.keyScan1 down ms) t) :=
  List.foldlRecOn (motive := ScanKept s) l _ h fun _ hu k _ => hu.keyScan1 down ms k

end ScanKept

/-- GHOST and the millisecond count of a scan shown, before its keys are taken one by one. -/
def State.keysRead (s : State) (down ms : Nat) : State :=
  { s.setFlag Reg.KEY_STATE_GHOST (3 ≤ popcount 16 down) with door := { s.door with keyMs := ms } }

/-- The sixteen keys scanned. -/
def State.keysScanned (s : State) (down ms : Nat) : State := (List.range 16).foldl (State.keyScan1 down ms) (s.keysRead down ms)

theorem exec_keyScan {s : State} (on : s.kettleOn = true) (en : s.flag Reg.KEY_CFG_EN = true) (scan : s.door.keyScan = true)
    (down : BitVec 16) (ms : BitVec 24) : exec (.keyScan down ms) s = .next { s.keysScanned down.toNat ms.toNat with
      door := { (s.keysScanned down.toNat ms.toNat).door with
        keyScan := down != 0 || (s.keysScanned down.toNat ms.toNat).get Reg.KEY_STATE_DOWN != 0 } } := if_pos ⟨on, en, scan⟩

theorem State.keysScanned_shows (s : State) (down ms : Nat) :
    (s.keysScanned down ms).get Reg.KEY_STATE_GHOST = b2n (3 ≤ popcount 16 down) ∧ (s.keysScanned down ms).door.keyMs = ms := by
  have kept : ScanKept (s.keysRead down ms) (s.keysScanned down ms) := ScanKept.scan ⟨rfl, rfl⟩ down ms _
  refine ⟨kept.ghost.trans ?_, kept.ms⟩
  rw [State.keysRead, State.get_mk, State.tget_regs, State.get_setFlag_same _ _ (by decide)]

/-- The level of a plug taken, CHANGED and the event set, before the wake. -/
def State.plugTaken (s : State) (n : Nat) (present : Bool) : State :=
  ((s.put Reg.PLG_STAT_PRESENT (setBits (s.get Reg.PLG_STAT_PRESENT) n 1 (b2n present))).orBits Reg.PLG_STAT_CHANGED (2 ^ n)).hmi
    Reg.HMI_EVT_PLUG 1 14

theorem exec_plugChange {s : State} {n : Fin 2} {present : Bool} (on : s.kettleOn = true) (new : bit (s.get Reg.PLG_STAT_PRESENT) n ≠ present) :
    exec (.plugChange n present) s = .next ((s.plugTaken n present).latchWake 2) := if_pos ⟨on, new⟩

theorem State.plugTaken_shows (s : State) {n : Nat} (plug : n < 2) (present : Bool) :
    bit ((s.plugTaken n present).get Reg.PLG_STAT_PRESENT) n = present ∧ bit ((s.plugTaken n present).get Reg.PLG_STAT_CHANGED) n = true ∧
    (s.plugTaken n present).get Reg.HMI_EVT_PLUG = 1 := by
  unfold State.plugTaken
  refine ⟨?_, ?_, State.get_event_bit _ rfl _ _ _ _⟩
  · rw [State.get_hmi_ne _ _ _ (by decide), State.get_orBits_ne _ _ (by decide), State.get_put_same]
    exact (bit_cut _ plug).trans (bit_setBits _ _ _)
  · rw [State.get_hmi_ne _ _ _ (by decide), State.orBits, State.get_put_same]
    exact (bit_cut _ plug).trans (bit_or_two_pow _ _)

/-! ### The statement -/

/-- Settles O7: each event by the lemma that says what it shows, and the wake that follows it leaves the door side as it is. -/
theorem touchKeysAndPlugs : Obligations.TouchKeysAndPlugs := by
  unfold Obligations.TouchKeysAndPlugs
  refine ⟨fun counts s n c on chan conv en => ?scan, fun ch s on touched recal => ?recal, fun s on en => if_pos ⟨on, en⟩,
    fun down ms s on en scan => ?keys, fun n present s on new => ?plug⟩
  case scan =>
    have first : (counts.take 12)[n]? = some c := by rw [List.getElem?_take_of_lt chan, conv]
    have shown := State.touchScan_shows (counts.take 12) s (k := 0) first (by omega) (by rwa [Nat.zero_add])
    rw [Nat.zero_add] at shown
    exact ⟨_, if_pos on, shown.single, shown.eight⟩
  case recal =>
    obtain ⟨base, released, event⟩ := s.touchFreed_shows ch.isLt
    obtain ⟨_, _, _, _, frame⟩ := (s.touchFreed_frame ch).trans (State.logEvent_frame _ 0x0803 ch [])
    refine ⟨_, exec_touchRecal on touched recal, ?_, ?_, ?_, ?_, ?_⟩
    · exact (State.get_logEvent _ _ _ _ (belowLog (by omega))).trans base
    · exact (congrArg (bit · ch) (State.get_logEvent _ _ _ _ (by decide))).trans released
    · exact (State.get_logEvent _ _ _ _ (by decide)).trans event
    · rw [frame]
    · exact regsBut_logEvent (s.touchFreed_regs ch (by simp) (by simp) (by simp)) _ _ _ (logFields_subset_append _)
  case keys =>
    obtain ⟨ghost, count⟩ := s.keysScanned_shows down.toNat ms.toNat
    exact ⟨_, exec_keyScan on en scan down ms, ghost, count, rfl⟩
  case plug =>
    obtain ⟨level, changed, event⟩ := s.plugTaken_shows n.isLt present
    have kept := (DoorKept.refl (s.plugTaken n present)).latchWake 2
    exact ⟨_, exec_plugChange on new, (congrArg (bit · n) (kept.get (by decide) (by decide))).trans level,
      (congrArg (bit · n) (kept.get (by decide) (by decide))).trans changed, (kept.get (by decide) (by decide)).trans event⟩

end Sys2Proof.Machine

/-! SUPPORT. The door commands of Table DOOR-5, and their statement settled (R95, R98, R110, R112, R118, R120). -/

namespace Sys2Proof.Machine
set_option Elab.async false

/-! ### Fields written one after another -/

/-- Writes of other fields leave a field as it was. -/
theorem State.get_puts_ne (l : List (Fld × Nat)) (s : State) {f : Fld} (out : ∀ e ∈ l, f.key ≠ e.1.key) :
    (l.foldl (fun t e => t.put e.1 e.2) s).get f = s.get f := by
  induction l generalizing s with
  | nil => rfl
  | cons e l ih =>
    obtain ⟨first, rest⟩ := List.forall_mem_cons.1 out
    exact (ih _ rest).trans (s.get_put_ne _ first)

/-- Of writes of distinct fields each is read back. -/
theorem State.get_puts (l : List (Fld × Nat)) (s : State) (distinct : l.Pairwise fun d e => d.1.key ≠ e.1.key)
    (fits : ∀ e ∈ l, e.2 < 2 ^ e.1.width) : ∀ e ∈ l, (l.foldl (fun t e => t.put e.1 e.2) s).get e.1 = e.2 := by
  induction l generalizing s with
  | nil => simp
  | cons d l ih =>
    obtain ⟨first, rest⟩ := List.pairwise_cons.1 distinct
    obtain ⟨fitsFirst, fitsRest⟩ := List.forall_mem_cons.1 fits
    exact List.forall_mem_cons.2 ⟨(State.get_puts_ne l _ first).trans (s.get_put_fits fitsFirst), ih _ rest fitsRest⟩

/-- Writes of fields change registers only. -/
theorem State.puts_regs (s : State) (l : List (Fld × Nat)) :
    l.foldl (fun t e => t.put e.1 e.2) s = { s with regs := (l.foldl (fun t e => t.put e.1 e.2) s).regs } := by
  refine List.foldlRecOn (motive := fun t : State => t = { s with regs := t.regs }) l _ rfl fun t ht e _ => ?_
  rw [ht]
  rfl

/-- A flag reads the Bool that its field holds. -/
theorem State.flag_of_get {s : State} {f : Fld} {b : Bool} (h : s.get f = b2n b) : s.flag f = b := by
  rw [State.flag, h]
  cases b <;> rfl

/-! ### LAMP_SET and LAMP_RETRY (R95, R98) -/

/-- The fields that LAMP_SET writes, each with its parameter (Table DOOR-5). -/
def lampWrites (c : Ctx) : List (Fld × Nat) :=
  let n := c.at 0 1
  [(Reg.LMP_CTRL_EN n, b2n (bit (c.at 1 1) 0)), (Reg.LMP_CTRL_RANGE n, b2n (bit (c.at 1 1) 1)), (Reg.LMP_CTRL_SRC n, b2n (bit (c.at 1 1) 2)),
    (Reg.LMP_CTRL_GATE_DFLT n, b2n (bit (c.at 1 1) 3)), (Reg.LMP_SET_SET n, c.at 2 2), (Reg.LMP_CTRL_SOFT n, c.at 4 1),
    (Reg.LMP_CTRL_INRUSH n, c.at 5 1), (Reg.LMP_CTRL_SHORT_V n, c.at 6 1)]

/-- The settings stored, before the channel follows them. -/
def State.lampSettings (s : State) (c : Ctx) : State := (lampWrites c).foldl (fun t e => t.put e.1 e.2) s

theorem lampSetRun_eq (s : State) (c : Ctx) : lampSetRun s c = ((s.lampSettings c).lampApply (c.at 0 1), Ans.ok []) := rfl

/-- Bits of LMPn_CTRL and LMPn_SET, counted from LMPn_CTRL. -/
theorem lampWrites_keys (c : Ctx) : (lampWrites c).map (fun e => e.1.key) =
    [0, 1, 2, 3, 128, 18, 15, 12].map ((0xB0100 + c.at 0 1 * 0x10) * 32 + ·) := by
  have set : (0xB0104 + c.at 0 1 * 0x10) * 32 + 0 = (0xB0100 + c.at 0 1 * 0x10) * 32 + 128 := by omega
  simp only [List.map_cons, ← set]
  rfl

theorem lampWrites_distinct (c : Ctx) : (lampWrites c).Pairwise fun d e => d.1.key ≠ e.1.key := by
  refine List.pairwise_map.1 (?_ : ((lampWrites c).map fun e => e.1.key).Nodup)
  rw [lampWrites_keys]
  exact List.Nodup.map (add_right_injective _) (by decide)

/-- The parameters that the range check of its row admits fit their fields. -/
theorem lampWrites_fit {s : State} {c : Ctx} (range : lampSetOp.range s c = none) : ∀ e ∈ lampWrites c, e.2 < 2 ^ e.1.width := by
  have checks := firstBad_none range
  simp only [List.forall_mem_cons, Bool.and_eq_true, decide_eq_true_eq] at checks
  obtain ⟨-, -, set, soft, inrush, shortV, -⟩ := checks
  have bool (b : Bool) : b2n b < 2 ^ 1 := by cases b <;> decide
  simp only [lampWrites, List.forall_mem_cons]
  exact ⟨bool _, bool _, bool _, bool _, by simp only [Reg.LMP_SET_SET]; omega, by simp only [Reg.LMP_CTRL_SOFT]; omega,
    by simp only [Reg.LMP_CTRL_INRUSH]; omega, by simp only [Reg.LMP_CTRL_SHORT_V]; omega, by simp⟩

/-- What a channel shows of itself is none of its settings. -/
theorem lampWrites_offStat (c : Ctx) : ∀ e ∈ lampWrites c, ∀ g ∈ lampStat (c.at 0 1), g.key ≠ e.1.key := by
  have off {a l w r : Nat} (h : a * 32 + l < (0xB0108 + c.at 0 1 * 0x10) * 32) : ∀ g ∈ lampStat (c.at 0 1), g.key ≠ (Fld.mk a l w r).key := by
    simp only [lampStat, List.forall_mem_cons]
    exact ⟨key_ne (by omega), key_ne (by omega), key_ne (by omega), key_ne (by omega), by simp⟩
  simp only [lampWrites, List.forall_mem_cons]
  exact ⟨off (by omega), off (by omega), off (by omega), off (by omega), off (by omega), off (by omega), off (by omega), off (by omega), by simp⟩

/-- A channel that follows its settings keeps them. -/
theorem State.lampApplied_shows (s : State) {c : Ctx} (range : lampSetOp.range s c = none) :
    ∀ e ∈ lampWrites c, ((s.lampSettings c).lampApply (c.at 0 1)).get e.1 = e.2 := fun e he =>
  ((LampMoves.refl _ _).lampApply.get (lampWrites_offStat c e he)).trans
    (State.get_puts _ s (lampWrites_distinct c) (lampWrites_fit range) e he)

theorem State.lampApplied_frame (s : State) (c : Ctx) : (s.lampSettings c).lampApply (c.at 0 1) =
    { s with regs := ((s.lampSettings c).lampApply (c.at 0 1)).regs,
             door := { s.door with lamps := ((s.lampSettings c).lampApply (c.at 0 1)).door.lamps } } := by
  have stored : s.lampSettings c = { s with regs := (s.lampSettings c).regs } := s.puts_regs (lampWrites c)
  rw [stored]
  exact (LampMoves.refl (c.at 0 1) { s with regs := (s.lampSettings c).regs }).lampApply.rest

theorem lampRetryRun_notLatched {s : State} {c : Ctx} (other : s.get (Reg.LMP_STAT_PHASE (c.at 0 1)) ≠ 4) :
    lampRetryRun s c = (s, Ans.code 0xE 1) := if_pos other

/-- A latched channel is restarted, or off where its gate is off, with its retries taken back. -/
theorem lampRetryRun_latched {s : State} {c : Ctx} (latched : s.get (Reg.LMP_STAT_PHASE (c.at 0 1)) = 4) : ∃ v,
    lampRetryRun s c = (v, Ans.ok []) ∧ v.get (Reg.LMP_STAT_RETRIES (c.at 0 1)) = 0 ∧ v.get (Reg.LMP_STAT_HOLD (c.at 0 1)) = 0 := by
  refine ⟨_, if_neg (not_not.2 latched), ?_⟩
  have freed (u : State) (n ph : Nat) (retries : u.get (Reg.LMP_STAT_RETRIES n) = 0) (hold : u.get (Reg.LMP_STAT_HOLD n) = 0) :
      (u.lampPhase n ph).get (Reg.LMP_STAT_RETRIES n) = 0 ∧ (u.lampPhase n ph).get (Reg.LMP_STAT_HOLD n) = 0 :=
    ⟨(u.get_lampPhase_ne ph (key_ne (by omega)) (key_ne (by omega))).trans retries,
      (u.get_lampPhase_ne ph (key_ne (by omega)) (key_ne (by omega))).trans hold⟩
  have retries : ((s.put (Reg.LMP_STAT_RETRIES (c.at 0 1)) 0).put (Reg.LMP_STAT_HOLD (c.at 0 1)) 0).get (Reg.LMP_STAT_RETRIES (c.at 0 1)) = 0 :=
    (State.get_put_ne _ _ (key_ne (by omega))).trans (State.get_put_same _ _ _)
  have hold : ((s.put (Reg.LMP_STAT_RETRIES (c.at 0 1)) 0).put (Reg.LMP_STAT_HOLD (c.at 0 1)) 0).get (Reg.LMP_STAT_HOLD (c.at 0 1)) = 0 :=
    State.get_put_same _ _ _
  split
  · exact freed (State.putLamp _ _ _) _ _ retries hold
  · exact freed _ _ _ retries hold

/-! ### KEY_READ and AUDIO_MUTE (R112, R118) -/

theorem State.keyPop_level (s : State) (n : Nat) :
    (s.keyPop n).get Reg.KEY_FIFO_STAT_LEVEL = (s.door.keyFifo.length - n) % 32 := by
  rw [← List.length_drop]
  exact State.get_put_same _ _ _

theorem audioMuteRun_may {s : State} {c : Ctx} (may : c.at 0 1 = 1 → s.mayUnmute = true) :
    audioMuteRun s c = (s.setUnmute (c.at 0 1 == 1), Ans.ok []) :=
  if_neg fun ⟨unmutes, bars⟩ => by simp [may unmutes] at bars

theorem audioMuteRun_barred {s : State} {c : Ctx} (unmutes : c.at 0 1 = 1) (bars : s.mayUnmute = false) :
    audioMuteRun s c = (s, Ans.code 0xE (0x100 + s.cur)) := if_pos ⟨unmutes, by simp [bars]⟩

/-! ### The statement -/

/-- Settles O8: each command that reaches its run does what its run says. -/
theorem doorCommands : Obligations.DoorCommands := by
  unfold Obligations.DoorCommands
  intro s b u p c
  have answers {op : OpSpec} {r : State × Ans} (h : Reaches op s p c b u) (run : op.run u c = r) :
      serve op p s = .next (answered b c r) := by rw [serve_of_reaches h, run]
  refine ⟨fun reaches => ?set, fun reaches => ⟨fun other => answers reaches (lampRetryRun_notLatched other), fun latched => ?retry⟩,
    fun reaches => serve_of_reaches reaches, fun reaches => ?read, fun reaches => serve_of_reaches reaches,
    fun reaches may => answers reaches (audioMuteRun_may may), fun reaches unmutes bars => answers reaches (audioMuteRun_barred unmutes bars)⟩
  case set =>
    have shown := u.lampApplied_shows (range_of_reaches reaches)
    simp only [lampWrites, List.forall_mem_cons] at shown
    obtain ⟨en, range, src, gate, set, soft, inrush, shortV, -⟩ := shown
    exact ⟨_, answers reaches (lampSetRun_eq u c), _, rfl, set, soft, inrush, shortV, State.flag_of_get en, State.flag_of_get range,
      State.flag_of_get src, State.flag_of_get gate, u.lampApplied_frame c⟩
  case retry =>
    obtain ⟨v, run, retries, hold⟩ := lampRetryRun_latched latched
    exact ⟨v, answers reaches run, retries, hold⟩
  case read =>
    exact ⟨u.keyPop (c.at 0 1), serve_of_reaches reaches, rfl, u.keyPop_level _, regsBut_put (regsBut_refl _ _) _ (by simp), rfl⟩

end Sys2Proof.Machine

/-! SUPPORT. What the vault's own operations show and keep, said once: the unit itself, the words that follow it, and the operations that
leave it as it is. -/

namespace Sys2Proof.Machine

/-! ### The vault unit -/

@[simp] theorem State.setVault_vault (s : State) (v : VaultUnit) : (s.setVault v).vault = v := rfl

@[simp] theorem State.showVault_vault (s : State) : s.showVault.vault = s.vault := rfl

@[simp] theorem State.logEvent_vault (s : State) (code src : Nat) (data : List Byte) : (s.logEvent code src data).vault = s.vault := by
  obtain ⟨_, _, _, _, h⟩ := s.logEvent_frame code src data
  rw [h]

@[simp] theorem State.logNow_vault (s : State) (code src : Nat) (data : List Byte) : (s.logNow code src data).vault = s.vault := by
  obtain ⟨_, _, _, _, h⟩ := s.logNow_frame code src data
  rw [h]

@[simp] theorem State.completeReq_vault (s : State) (p : Packet) (a : Ans) : (s.completeReq p a).vault = s.vault := by
  obtain ⟨_, _, _, _, _, h⟩ := s.completeReq_frame p a
  rw [h]

/-! ### The words that follow the unit (Table VLT-8) -/

/-- The fields that follow the unit. -/
def vaultShown : List Fld :=
  [Reg.VLT_STATUS_LIVE, Reg.VLT_FREE_DESC, Reg.VLT_FREE_BLOCKS, Reg.VLT_WEAR_MAX_ERASE, Reg.VLT_PORT_Q0, Reg.VLT_PORT_Q1]

/-- Every other field keeps its value as the words follow the unit. -/
theorem State.get_showVault (s : State) {f : Fld} (out : ∀ g ∈ vaultShown, g.key ≠ f.key) : s.showVault.get f = s.get f := by
  simp only [vaultShown, List.forall_mem_cons] at out
  obtain ⟨live, desc, blocks, wear, q0, q1, -⟩ := out
  unfold State.showVault
  simp only [State.get_put_ne _ _ q1.symm, State.get_put_ne _ _ q0.symm, State.get_put_ne _ _ wear.symm, State.get_put_ne _ _ blocks.symm,
    State.get_put_ne _ _ desc.symm, State.get_put_ne _ _ live.symm]

/-- The header or the policy record written keeps every field that does not follow the unit. -/
theorem State.get_persistVault (s : State) (r : Rec) {f : Fld} (out : ∀ g ∈ vaultShown, g.key ≠ f.key) :
    (s.persistVault r).get f = s.get f := by
  unfold State.persistVault
  exact (State.get_showVault _ out).trans (s.get_persist r f)

end Sys2Proof.Machine

/-! SUPPORT. The sealed ports and the match engine, and their statement settled (R138, R139, R141, R156). -/

namespace Sys2Proof.Machine

/-! ### A port's buffers and queue -/

theorem State.vport_setVport {s : State} (ports : s.vault.ports.length = 2) (port : Fin 2) (p : VPort) :
    (s.setVport port p).vport port = p := by
  have inside : port.val < s.vault.ports.length := by omega
  change (((s.vault.ports.set port p)[port.val]?).getD _) = p
  rw [List.getElem?_set_self inside]
  rfl

/-- A tile's assembly buffer with one more row. -/
def State.rowKept (s : State) (port tile row : Nat) (d : List Byte) : VPort :=
  { s.vport port with bufs := tinsert (s.vport port).bufs tile (tinsert ((tfind (s.vport port).bufs tile).getD []) row d) }

/-- The query that a tile's descriptor row makes of its assembly buffer. -/
def State.assembled (s : State) (port tile : Nat) (d : List Byte) : Query :=
  let rows := (tfind (s.vport port).bufs tile).getD []
  { tile := tile, desc := d, order := s.vault.order, vec := if rows.length = 16 then some (rows.flatMap (fun e => e.2)) else none }

/-- A port with a query queued and its assembly buffer freed. -/
def State.queued (s : State) (port tile : Nat) (d : List Byte) : VPort :=
  { bufs := terase (s.vport port).bufs tile, queue := (s.vport port).queue ++ [s.assembled port tile d] }

theorem State.assembled_vec (s : State) (port tile : Nat) (d : List Byte) :
    (s.assembled port tile d).vec.isSome = true ↔ ((tfind (s.vport port).bufs tile).getD []).length = 16 := by
  unfold State.assembled
  dsimp only
  split <;> simp [*]

/-- The buffer holds the row written, and the others as they were. -/
theorem State.rowKept_buffer (s : State) (port tile row : Nat) (d : List Byte) :
    ∃ b, tfind (s.rowKept port tile row d).bufs tile = some b ∧ tfind b row = some d ∧
      ∀ r, r ≠ row → tfind b r = tfind ((tfind (s.vport port).bufs tile).getD []) r :=
  ⟨_, tfind_tinsert_same _ _ _, tfind_tinsert_same _ _ _, fun _ other => tfind_tinsert_ne _ _ other⟩

/-! ### Port writes (R139) -/

/-- A tile with a buffer, or a port with one left, has no write that waits for a buffer. -/
theorem State.bufferAtHand {s : State} {port tile : Nat}
    (buffer : (tfind (s.vport port).bufs tile).isSome = true ∨ (s.vport port).bufs.length < 8) :
    ¬ ((tfind (s.vport port).bufs tile).isNone = true ∧ 8 ≤ (s.vport port).bufs.length) := by
  rintro ⟨none, full⟩
  rcases buffer with held | room
  · simp [Option.isNone_iff_eq_none.1 none] at held
  · omega

section
variable {s : State} {port tile : Nat} {d : List Byte} (own : tile / 96 = port) (len : d.length = 64)
  (buffer : (tfind (s.vport port).bufs tile).isSome = true ∨ (s.vport port).bufs.length < 8)
include own len buffer

theorem State.portWrite_row {row : Nat} (inside : row < 16) :
    s.portWrite port tile (64 * row) d = .ok (s.setVport port (s.rowKept port tile row d)) := by
  have legal : ¬ (tile / 96 ≠ port ∨ 64 * row % 64 ≠ 0 ∨ 0x400 < 64 * row ∨ d.length ≠ 64) := by omega
  unfold State.portWrite State.rowKept
  dsimp only
  rw [if_neg legal, if_neg (State.bufferAtHand buffer), if_pos (by omega), Nat.mul_div_cancel_left row (by decide)]

theorem State.portWrite_submit (place : (s.vport port).queue.length < 4) : s.portWrite port tile 0x400 d =
    .ok ((s.setVault { s.vault with order := s.vault.order + 1 }).setVport port (s.queued port tile d)) := by
  have legal : ¬ (tile / 96 ≠ port ∨ 0x400 % 64 ≠ 0 ∨ 0x400 < 0x400 ∨ d.length ≠ 64) := by omega
  unfold State.portWrite State.queued
  dsimp only
  rw [if_neg legal, if_neg (State.bufferAtHand buffer), if_neg (by decide), if_neg (by omega)]
  rfl

end

theorem State.portWrite_otherDie (s : State) {port tile : Nat} (other : tile / 96 ≠ port) (off : Nat) (d : List Byte) :
    s.portWrite port tile off d = .denied (s.portDeny port tile) := if_pos (.inl other)

theorem State.portRow_ok {s t : State} (powered : s.fabricPowered = true) {port tile off : Nat} {d : List Byte}
    (write : s.portWrite port tile off d = .ok t) : s.portRow port tile off d = t := by
  unfold State.portRow
  rw [if_neg (by simp [powered]), write]

theorem State.portRow_denied {s t : State} (powered : s.fabricPowered = true) {port tile off : Nat} {d : List Byte}
    (write : s.portWrite port tile off d = .denied t) : s.portRow port tile off d = t := by
  unfold State.portRow
  rw [if_neg (by simp [powered]), write]

theorem execVaultPortStale_frees {port : Fin 2} {tile : Fin 192} {s : State} (held : (tfind (s.vport port).bufs tile).isSome = true) :
    execVaultPortStale port tile s = .next ((s.setVport port { s.vport port with bufs := terase (s.vport port).bufs tile }).logEvent
      0x0702 port (leBytes 2 tile)) := if_pos held

/-- Logging an event leaves the ports. -/
theorem State.vport_logEvent (s : State) (code src : Nat) (data : List Byte) (port : Nat) :
    (s.logEvent code src data).vport port = s.vport port := by rw [State.vport, State.logEvent_vault, State.vport]

/-! ### MATCH (R141) -/

section
variable {s : State} {port : Nat} {q : Query} {r : List Query} (head : s.vault.headPort = some port) (queue : (s.vport port).queue = q :: r)
include queue

theorem State.takeQuery_head : s.takeQuery port = s.setVport port { s.vport port with queue := r } := by
  unfold State.takeQuery
  dsimp only
  rw [queue, List.drop_one, List.tail_cons]

variable (on : s.kettleOn = true) (memory : bit q.flags 0 = true → s.mustWait q.dest 80 = false)
include head on memory

theorem execMatch_serves (test : s.bist = none) (ready : s.vaultState = 1) (filled : s.vault.filled = true) (commits : s.vault.commits = []) :
    execMatch s = .next ((s.setVport port { s.vport port with queue := r }).serveQuery port q) := by
  unfold execMatch
  rw [head]
  dsimp only
  rw [queue]
  dsimp only
  rw [if_neg (by simpa [on] using memory), if_neg (by simp [ready, test]), if_neg (by simp [filled, commits]), State.takeQuery_head queue]

theorem execMatch_sealed (tampered : s.vaultState = 2) :
    execMatch s = .next ((s.setVport port { s.vport port with queue := r }).giveResult port q 3 []) := by
  unfold execMatch
  rw [head]
  dsimp only
  rw [queue]
  dsimp only
  rw [if_neg (by simpa [on] using memory), if_pos (.inl tampered), State.takeQuery_head queue]

end

/-- Settles O27: each port command by the write it makes, and MATCH by the condition under which the query at hand is served. -/
theorem sealedPortsTakeQueries : Obligations.SealedPortsTakeQueries := by
  unfold Obligations.SealedPortsTakeQueries
  refine ⟨fun port tile row d s powered ports len own buffer => ?row, fun port tile d s powered ports len own buffer place => ?submit,
    fun port tile row d s powered other => ?refused, fun port tile s ports held => ?stale,
    fun s port q r head queue on memory test => ⟨fun ready filled commits => execMatch_serves head queue on memory test ready filled commits,
      fun tampered => execMatch_sealed head queue on memory tampered⟩⟩
  case row =>
    refine ⟨_, congrArg Host.Outcome.next (State.portRow_ok powered (State.portWrite_row own len buffer row.isLt)), ?_⟩
    rw [State.vport_setVport ports]
    exact ⟨s.rowKept_buffer port tile row d, rfl⟩
  case submit =>
    refine ⟨_, s.assembled port tile d,
      congrArg Host.Outcome.next (State.portRow_ok powered (State.portWrite_submit own len buffer place)), ?_⟩
    rw [State.vport_setVport (by exact ports)]
    exact ⟨rfl, rfl, rfl, s.assembled_vec port tile d, tfind_terase_same _ _⟩
  case refused => exact congrArg Host.Outcome.next (State.portRow_denied powered (State.portWrite_otherDie s other _ _))
  case stale =>
    refine ⟨_, execVaultPortStale_frees held, ?_⟩
    rw [State.vport_logEvent, State.vport_setVport ports]
    exact ⟨tfind_terase_same _ _, rfl⟩

end Sys2Proof.Machine

/-! SUPPORT. Commits, reclaims, the ends of erasures, captures and exports, and their statement settled (R126, R128, R132, R134, R137, R147,
R155). -/

namespace Sys2Proof.Machine

/-! ### The slots, through what follows a commit's effect (R126) -/

/-- A SEQ taken leaves the slots, FAULT entered or not. -/
theorem State.vaultFail_slots (s : State) : s.vaultFail.vault.slots = s.vault.slots := by
  unfold State.vaultFail
  dsimp only
  split
  · rfl
  · split <;> simp

theorem State.takeSeq_slots {s u : State} {q : Nat} (taken : s.takeSeq = some (u, q)) : u.vault.slots = s.vault.slots := by
  unfold State.takeSeq at taken
  dsimp only at taken
  split at taken
  · cases taken
  · cases taken
    split
    · exact State.vaultFail_slots _
    · rfl

/-- The end of an erasure leaves the slots. -/
theorem State.eraseSettle_slots (s : State) (p : Packet) : (s.eraseSettle p).vault.slots = s.vault.slots := by
  unfold State.eraseSettle
  split
  · rfl
  · split
    · simp
    · rfl

theorem State.eraseOne_slots (s : State) (p : Packet) (n : Nat) : (s.eraseOne p n).vault.slots = s.vault.slots :=
  State.eraseSettle_slots _ p

/-- The slots after a commit's effect are those of its descriptor programmed. -/
theorem State.commitApply_slots {s u : State} {q : Nat} (taken : s.takeSeq = some (u, q)) (c : VCommit) (d b : Nat) :
    (s.commitApply c d b).vault.slots = (u.vault.program (c.desc q (todSec u.time.tod)) c.vec d b).slots := by
  unfold State.commitApply
  rw [taken]
  dsimp only
  split
  · simp
  · simp
  · rw [State.eraseOne_slots]
    simp

/-- A template programmed stands in its slot. -/
theorem VaultUnit.program_template (v : VaultUnit) {d : VDesc} (template : d.kind = 1) (vec : List Byte) (nd nb : Nat) :
    tfind (v.program d vec nd nb).slots d.slot = some { mdata := d.mdata, vec := vec, desc := nd, block := nb } := by
  unfold VaultUnit.program
  dsimp only
  rw [if_pos template, tfind_tinsert_same]

/-- A tombstone programmed empties its slot. -/
theorem VaultUnit.program_tombstone (v : VaultUnit) {d : VDesc} (tombstone : d.kind ≠ 1) (vec : List Byte) (nd nb : Nat) :
    tfind (v.program d vec nd nb).slots d.slot = none := by
  unfold VaultUnit.program
  dsimp only
  rw [if_neg tombstone, tfind_terase_same]

/-- The template that a commit enrols stands in its slot. -/
theorem State.commitApply_template {s u : State} {q : Nat} (taken : s.takeSeq = some (u, q)) {c : VCommit} (template : c.kind = 1) (d b : Nat) :
    tfind (s.commitApply c d b).vault.slots c.slot =
      some { mdata := (c.desc q (todSec u.time.tod)).mdata, vec := c.vec, desc := d, block := b } := by
  rw [State.commitApply_slots taken]
  exact u.vault.program_template template _ _ _

/-- A tombstone committed empties its slot. -/
theorem State.commitApply_tombstone {s u : State} {q : Nat} (taken : s.takeSeq = some (u, q)) {c : VCommit} (tombstone : c.kind ≠ 1)
    (d b : Nat) : tfind (s.commitApply c d b).vault.slots c.slot = none := by
  rw [State.commitApply_slots taken]
  exact u.vault.program_tombstone tombstone _ _ _

/-! ### VAULT_COMMIT whose verifies pass -/

/-- The state in which a commit finds its places: what had to be reclaimed for them is reclaimed. -/
def State.placed (s : State) (c : VCommit) : State := (if c.kind = 1 then s.forceReclaim true else s).forceReclaim false

/-- A commit that nothing stops takes the places found and has its effect. -/
theorem execVaultCommit_applies {s : State} {c : VCommit} {r : List VCommit} {d b : Nat} (next : s.vault.commits = c :: r)
    (on : s.kettleOn = true) (keyed : s.vault.keyed = true) (sound : s.vault.faulty = false)
    (erases : c.kind = 2 → (tfind s.vault.slots c.slot).isSome = true)
    (replaces : c.replace = some true → (tfind s.vault.slots c.slot).isSome = true)
    (adds : c.replace = some false → (tfind s.vault.slots c.slot).isSome = false)
    (desc : (s.placed c).vault.freeDesc 1024 = some d)
    (block : (if c.kind = 1 then (s.placed c).vault.freeBlock 1024 else some 0) = some b) :
    execVaultCommit 0 s = .next ((s.placed c).commitApply c d b) := by
  unfold State.placed at desc block ⊢
  unfold execVaultCommit
  rw [next]
  dsimp only
  rw [if_neg (by simp [on, keyed]), if_neg (fun h => by simp [erases h.1] at h), if_neg (fun h => by simp [replaces h.1] at h),
    if_neg (fun h => by simp [adds h.1] at h), if_neg (by simp [sound]), desc, block]
  rfl

/-! ### The ends of operations (R134, R137, R147) -/

theorem execVaultScrubDone_ends {s u : State} {e : VErase} (first : s.vault.erasing.find? (fun e => e.scrub && e.left == 0) = some e)
    (on : s.kettleOn = true) (keyed : s.vault.keyed = true) (sound : s.vault.faulty = false)
    (reclaimed : s.reclaimAll (s.vault.copySectors e.slots) = some u) :
    execVaultScrubDone s = .next ((u.setVault { u.vault with erasing := u.vault.erasing.filter (fun x => x.req != e.req) }).completeReq e.req
      (Ans.ok (leBytes 2 e.done ++ zeros 2))) := by
  unfold execVaultScrubDone
  rw [first]
  dsimp only
  rw [if_neg (by simp [on, keyed]), if_neg (by simp [sound]), reclaimed]

theorem execEnrolCaptureTimeout_ends {s : State} {c : VCapture} (armed : s.vault.capture = some c) :
    execEnrolCaptureTimeout s = .next ((s.setVault { s.vault with capture := none }).completeReq c.req (Ans.code 0xC 0)) := by
  unfold execEnrolCaptureTimeout
  rw [armed]

/-- A reclaim that is due for want of free blocks. -/
theorem execVaultReclaim_blocks {s u : State} {sector : Nat} (on : s.kettleOn = true) (keyed : s.vault.keyed = true)
    (sound : s.vault.faulty = false) (area : 132 ≤ sector) (low : s.vault.blocksFree < 64) (due : s.vault.victim true = some sector)
    (reclaimed : s.reclaim sector = some u) : execVaultReclaim sector s = .next u := by
  unfold execVaultReclaim
  rw [decide_eq_true area]
  dsimp only
  rw [if_pos (by simp [on, keyed, sound, low, due]), reclaimed]
  rfl

/-- Settles O28: each event under the condition on which it acts; a commit's effect on its slot is that of its descriptor programmed. -/
theorem vaultStorage : Obligations.VaultStorage := by
  unfold Obligations.VaultStorage
  refine ⟨fun s on keyed filling => ?fill, fun s u c r d b q next on keyed sound => ?commit,
    fun s u sector on keyed sound area low due reclaimed => execVaultReclaim_blocks on keyed sound area low due reclaimed,
    fun s u e first on keyed sound reclaimed => execVaultScrubDone_ends first on keyed sound reclaimed,
    fun s c armed => execEnrolCaptureTimeout_ends armed, fun s p d sent answers r oldest all current => ?exported⟩
  case fill =>
    refine ⟨_, if_pos (by simp [on, keyed, filling]), rfl, (State.get_showVault _ (by decide)).trans (State.get_put_fits _ ?_)⟩
    split <;> decide
  case commit =>
    intro _ _ desc taken
    refine ⟨fun template block replaces adds => ?_, fun tombstone always occupied => ?_⟩
    · exact ⟨_, _, execVaultCommit_applies next on keyed sound (by omega) replaces adds desc ((if_pos template).trans block),
        State.commitApply_template taken template d b, rfl, rfl, rfl⟩
    · exact ⟨_, execVaultCommit_applies next on keyed sound (fun _ => occupied) (by simp [always]) (by simp [always]) desc
        (if_neg (by omega)), State.commitApply_tombstone taken (by omega) d 0⟩
  case exported =>
    have none : ¬ (answers.any fun x => x == 0xD) = true := by
      rw [List.any_eq_true]
      rintro ⟨a, given, stale⟩
      exact current a given (eq_of_beq stale)
    change execVaultExportDone answers s = _
    unfold execVaultExportDone
    rw [oldest]
    dsimp only
    rw [if_neg (not_not.2 all), if_neg none]

end Sys2Proof.Machine

/-! SUPPORT. The vault commands of Table VLT-9, and their statement settled (R133, R134, R137, R146, R147, R151, R158). -/

namespace Sys2Proof.Machine

/-! ### VAULT_ENROL (R133, R134) -/

/-- A slot that is occupied exactly where REPLACE is 1 is neither missing nor in the way. -/
theorem slotSuits {occupied replace : Bool} (suits : occupied = replace) :
    ¬ (replace && !occupied) = true ∧ ¬ (!replace && occupied) = true := by
  subst suits
  cases occupied <;> simp

section
variable {s : State} {c : Ctx} (answers : s.vaultOpen = true)
  (suits : (tfind s.vault.slots (c.at 0 2)).isSome = bit (c.at 3 1) 0) (sound : s.vault.faulty = false)
include answers suits sound

/-- A vector given that verifies has its commit queued. -/
theorem vaultEnrolRun_queues {vec : List Byte} {n : Nat} (given : c.at 2 1 = 1) (unsealed : c.unseal (slice c.data 52 1040) = some vec)
    (norm : vecNormBits vec = some n) : ∃ k : VCommit,
      vaultEnrolRun s c = (s.setVault { s.vault with commits := s.vault.commits ++ [k] }, Ans.late) ∧
      k.slot = c.at 0 2 ∧ k.kind = 1 ∧ k.vec = vec ∧ k.user = slice c.data 20 32 := by
  obtain ⟨present, free⟩ := slotSuits suits
  unfold vaultEnrolRun
  dsimp only
  rw [if_pos given, unsealed]
  dsimp only
  rw [norm, if_neg (by simp [answers]), if_neg present, if_neg free, if_neg (by simp [sound])]
  exact ⟨_, rfl, rfl, rfl, rfl, rfl⟩

/-- With none armed a capture is armed. -/
theorem vaultEnrolRun_arms (captures : c.at 2 1 = 0) (idle : s.vault.capture = none) : ∃ k : VCapture,
    vaultEnrolRun s c = pend (s.setVault { s.vault with capture := some k }) ∧ k.req = c.p ∧ k.tag = c.at 12 4 ∧ k.slot = c.at 0 2 := by
  obtain ⟨present, free⟩ := slotSuits suits
  unfold vaultEnrolRun
  dsimp only
  rw [if_neg (by omega), if_neg (by simp [answers]), if_neg present, if_neg free, if_neg (by simp [sound])]
  dsimp only
  rw [if_neg (by simp [idle])]
  exact ⟨_, rfl, rfl, rfl, rfl⟩

end

/-! ### VAULT_ERASE (R137) -/

section
variable {s : State} {c : Ctx} (plain : c.at 2 1 = 0) (one : c.at 0 2 ≠ 0xFFFF)
include plain one

theorem State.eraseSlots_one : s.eraseSlots c = [c.at 0 2] := by
  unfold State.eraseSlots
  rw [if_neg (by simp [plain, bit_eq_testBit]), if_neg one]

/-- One occupied slot has its tombstone queued. -/
theorem vaultEraseRun_queues (answers : s.vaultOpen = true) (occupied : (tfind s.vault.slots (c.at 0 2)).isSome = true)
    (sound : s.vault.faulty = false) : ∃ (k : VCommit) (e : VErase), vaultEraseRun s c =
      (s.setVault { s.vault with commits := s.vault.commits ++ [k], erasing := s.vault.erasing ++ [e] }, Ans.late) ∧
      k.slot = c.at 0 2 ∧ k.kind = 2 ∧ e.slots = [c.at 0 2] ∧ e.left = 1 := by
  have held : (tfind s.vault.slots (c.at 0 2)).isNone = false := by simpa using occupied
  have short : ¬ eraseLong s c = true := by
    rw [eraseLong, State.eraseSlots_one plain one]
    simp [plain, bit_eq_testBit]
  unfold vaultEraseRun
  dsimp only
  rw [State.eraseSlots_one plain one, if_neg (by simp [answers]), if_neg (by simp [held]), if_neg (by simp [sound]), if_neg (by simp),
    if_neg short]
  exact ⟨_, _, rfl, rfl, rfl, rfl, rfl⟩

end

/-! ### VAULT_LIST, VAULT_POLICY and VAULT_STATUS (R151, R158) -/

theorem vaultListRun_lists {s : State} {c : Ctx} (answers : s.vaultOpen = true) :
    vaultListRun s c = (s, Ans.ok ((List.range (c.at 2 2)).flatMap (fun k => s.listSlot (c.at 0 2 + k)))) :=
  if_neg (by simp [answers])

/-- The policy stored: both fields and their record. -/
def State.policyStored (s : State) (wipe roles : Nat) : State :=
  ((s.put Reg.VLT_POLICY_TAMPER_WIPE wipe).put Reg.VLT_POLICY_ENROL_ROLES roles).persistVault .vaultPolicy

theorem vaultPolicyRun_stores {s : State} {c : Ctx} (intact : s.vaultState ≠ 2) :
    vaultPolicyRun s c = (s.policyStored (c.at 0 1) (c.at 1 1), Ans.ok (leBytes 4 (s.word (wordsVault 0x10)))) := if_neg intact

/-- Both fields are read back as they were stored. -/
theorem State.policyStored_fields (s : State) {wipe roles : Nat} (oneBit : wipe ≤ 1) (twoBits : roles ≤ 3) :
    (s.policyStored wipe roles).get Reg.VLT_POLICY_TAMPER_WIPE = wipe ∧ (s.policyStored wipe roles).get Reg.VLT_POLICY_ENROL_ROLES = roles := by
  unfold State.policyStored
  rw [State.get_persistVault _ _ (by decide), State.get_persistVault _ _ (by decide), State.get_put_ne _ _ (by decide)]
  exact ⟨State.get_put_fits _ (Nat.lt_succ_of_le oneBit), State.get_put_fits _ (Nat.lt_succ_of_le twoBits)⟩

/-- Without CLEAR_WIPED the status is four words, and nothing changes. -/
theorem vaultStatusRun_reads {s : State} {c : Ctx} (reads : bit (c.at 0 1) 0 = false) :
    ∃ r, vaultStatusRun s c = (s, Ans.ok r) ∧ r.length = 16 := by
  exact ⟨_, if_neg (by simp [reads]), rfl⟩

/-! ### VAULT_EXPORT and VAULT_IMPORT (R146, R147) -/

/-- One slot exported, its import noted with those sent. -/
def exportNoted (d flags : Nat) (x : State × List (Nat × Nat)) (t : Nat × Template) : State × List (Nat × Nat) :=
  (x.1.exportSlot d flags t, x.2 ++ [(t.1, (x.1.importOp d t.1).1)])

/-- The imports sent name the slots exported, in their order. -/
theorem exportNoted_slots (d flags : Nat) (l : Tab Template) (x : State × List (Nat × Nat)) :
    (l.foldl (exportNoted d flags) x).2.map Prod.fst = x.2.map Prod.fst ++ l.map Prod.fst := by
  induction l generalizing x with
  | nil => simp
  | cons t l ih => rw [List.foldl_cons, ih]; simp [exportNoted]

/-- Sent to a device that suits, the command is pending, with one import for each occupied slot that it names. -/
theorem vaultExportRun_sends {s : State} {c : Ctx} {port : Nat} (answers : s.vaultOpen = true) (suits : s.exportOk (c.at 0 1) = true)
    (route : s.routePort (c.at 0 1) = some port) (up : s.isUp port = true) :
    ∃ v d, vaultExportRun s c = (v, Ans.code 1 d) ∧ ∃ sent, (c.p, c.at 0 1, sent) ∈ v.vault.exps ∧
      sent.map Prod.fst = (s.vault.slots.filter (fun t => decide (c.at 2 2 ≤ t.1 ∧ t.1 < c.at 2 2 + c.at 4 2))).map Prod.fst := by
  unfold vaultExportRun
  dsimp only
  rw [if_neg (by simp [answers]), if_neg (by simp [suits]), route]
  dsimp only
  rw [if_neg (by simp [up])]
  exact ⟨_, _, rfl, _, List.mem_append_right _ (List.mem_singleton_self _), exportNoted_slots _ _ _ _⟩

theorem vaultImportRun_otherEpoch {s : State} {c : Ctx} (other : c.at 8 8 ≠ s.get Reg.ENS_EPOCH_EPOCH) :
    vaultImportRun s c = (s, Ans.code 0xD (s.get Reg.ENS_EPOCH_EPOCH % 65536)) := if_pos other

/-- A record of the current epoch that verifies, into a free slot, has its commit queued. -/
theorem vaultImportRun_queues {s : State} {c : Ctx} {pt : List Byte} {n : Nat} (current : c.at 8 8 = s.get Reg.ENS_EPOCH_EPOCH)
    (answers : s.vaultOpen = true) (fresh : s.dupCheck (c.at 4 1) (c.at 0 4) = .fresh)
    (verified : gcmOpen (s.wrapKey (c.at 4 1) s.ensId (c.at 8 8)) (wrapIv (c.at 6 2) (c.at 16 4) (c.at 4 1) s.ensId) []
      (slice c.data 24 1104) = some pt)
    (norm : vecNormBits (pt.take 1024) = some n) (free : tfind s.vault.slots (c.at 6 2) = none) (sound : s.vault.faulty = false) :
    ∃ v, vaultImportRun s c = (v, Ans.late) ∧ ∃ k ∈ v.vault.commits, k.slot = c.at 6 2 ∧ k.vec = pt.take 1024 := by
  rw [current] at verified
  unfold vaultImportRun
  dsimp only
  rw [if_neg (not_not.2 current), if_neg (by simp [answers]), fresh]
  dsimp only
  rw [verified]
  dsimp only
  rw [norm]
  dsimp only
  rw [if_neg (by simp [free]), if_neg (by simp [sound])]
  exact ⟨_, rfl, _, List.mem_append_right _ (List.mem_singleton_self _), rfl, rfl⟩

/-- Settles O29: each command that reaches its run does what its run says. -/
theorem vaultCommands : Obligations.VaultCommands := by
  unfold Obligations.VaultCommands
  intro s b u p c
  have answers {op : OpSpec} {r : State × Ans} (h : Reaches op s p c b u) (run : op.run u c = r) :
      serve op p s = .next (answered b c r) := by rw [serve_of_reaches h, run]
  refine ⟨fun vec n reaches given unsealed norm opened suits sound => ?enrols, fun reaches captures opened suits sound idle => ?arms,
    fun reaches opened plain one occupied sound => ?erases, fun reaches opened => answers reaches (vaultListRun_lists opened),
    fun reaches intact => ?policy, fun reaches reads => ?status, fun port reaches opened suits route up => ?exports,
    fun reaches other => answers reaches (vaultImportRun_otherEpoch other),
    fun pt n reaches current opened fresh verified norm free sound => ?imports⟩
  case enrols =>
    obtain ⟨k, run, queued⟩ := vaultEnrolRun_queues opened suits sound given unsealed norm
    exact ⟨k, answers reaches run, queued⟩
  case arms =>
    obtain rfl := packet_of_reaches reaches
    obtain ⟨k, run, armed⟩ := vaultEnrolRun_arms opened suits sound captures idle
    exact ⟨k, _, answers reaches run, armed⟩
  case erases =>
    obtain ⟨k, e, run, queued⟩ := vaultEraseRun_queues plain one opened occupied sound
    exact ⟨k, e, answers reaches run, queued⟩
  case policy =>
    have checks := firstBad_none (range_of_reaches reaches)
    simp only [List.forall_mem_cons, decide_eq_true_eq] at checks
    obtain ⟨wipe, roles, -⟩ := checks
    exact ⟨_, answers reaches (vaultPolicyRun_stores intact), u.policyStored_fields wipe roles⟩
  case status =>
    obtain ⟨r, run, length⟩ := vaultStatusRun_reads reads
    exact ⟨r, answers reaches run, length⟩
  case exports =>
    obtain rfl := packet_of_reaches reaches
    obtain ⟨v, d, run, sent⟩ := vaultExportRun_sends opened suits route up
    exact ⟨v, d, answers reaches run, sent⟩
  case imports =>
    obtain ⟨v, run, queued⟩ := vaultImportRun_queues current opened fresh verified norm free sound
    exact ⟨v, answers reaches run, queued⟩

end Sys2Proof.Machine

/-! SUPPORT. Loads of a cast: what a reply writes of the mailbox, the end of a run, and the statement of casts that load settled (R173, R174, R179,
R180, R181, R183, R184, R185, R188). -/

namespace Sys2Proof.Machine
set_option Elab.async false

/-! ### What a reply writes of the registers (R51) -/

/-- The register fields of the PCIe mailbox that a reply writes. -/
def replyFields : List Fld := [Reg.MBX_RPL_TAIL_TAIL, Reg.MBX_IRQ_RPL, Reg.MBX_STATUS_HELD]

theorem State.portSend_regs (s : State) (d : Nat) (b : List Byte) : (s.portSend d b).regs = s.regs := by
  unfold State.portSend
  dsimp only
  obtain ⟨f, filled⟩ := State.portFill_fab _ d
  rw [filled]
  split
  · rename_i r _ _ _
    obtain ⟨m, sent⟩ := s.netBytes_mesh plinthPlace (regionPlace r) clsMgt b.length
    rw [sent]
  · rfl

theorem State.mbxPlaceN_regsBut (n : Nat) (s : State) : RegsBut replyFields s (State.mbxPlaceN n s) := by
  induction n generalizing s with
  | zero => exact regsBut_refl _ _
  | succ n ih =>
    unfold State.mbxPlaceN
    split
    · exact regsBut_refl _ _
    · rename_i r w _
      have placed : RegsBut replyFields s ((State.bumpWrap { s with cmd := { s.cmd with mbxWait := w, mbxRing := s.cmd.mbxRing ++ [r] } }
          Reg.MBX_RPL_TAIL_TAIL 1).put Reg.MBX_IRQ_RPL 1) :=
        regsBut_put (regsBut_put (regsBut_refl _ _) _ (by simp [replyFields])) _ (by simp [replyFields])
      split
      · refine regsBut_trans ?_ (ih _)
        split <;> exact placed
      · exact regsBut_refl _ _

/-- A reply handed to its transport writes the mailbox's registers at most. -/
theorem State.deliver_regsBut (s : State) (r : Packet) : RegsBut replyFields s (s.deliver r) := by
  unfold State.deliver
  split
  · split
    · exact regsBut_put (State.mbxPlaceN_regsBut 8 _) _ (by simp [replyFields])
    · exact regsBut_refl _ _
  · split <;> exact regsBut_refl _ _
  · exact regsBut_refl _ _
  · exact regsBut_refl _ _
  · split <;> exact regsBut_refl _ _
  · split
    · exact regsBut_refl _ _
    · split
      · exact regsBut_refl _ _
      · intro k _
        rw [State.portSend_regs]

theorem State.completeAt_regsBut (s : State) (i : Nat) (a : Ans) : RegsBut replyFields s (s.completeAt i a) := by
  have amended (c : Prop) [Decidable c] (p r : Packet) (t : State) (h : RegsBut replyFields s t) :
      RegsBut replyFields s (if c then t.amend p r else t) := by split <;> exact h
  have sent (c : Prop) [Decidable c] (r : Packet) (t : State) (h : RegsBut replyFields s t) :
      RegsBut replyFields s (if c then t.deliver r else t) := by
    split
    · exact regsBut_trans h (t.deliver_regsBut r)
    · exact h
  have closed (c : Prop) [Decidable c] (n : Nat) (t : State) (h : RegsBut replyFields s t) :
      RegsBut replyFields s (if c then t.closeSession n else t) := by split <;> exact h
  unfold State.completeAt
  split
  · exact regsBut_refl _ _
  · dsimp only
    split
    · exact regsBut_refl _ _
    · exact closed _ _ _ (sent _ _ _ (amended _ _ _ _ (regsBut_refl _ _)))

/-- The end of a long operation writes the mailbox's registers at most. -/
theorem State.completeReq_regsBut (s : State) (p : Packet) (a : Ans) : RegsBut replyFields s (s.completeReq p a) := by
  unfold State.completeReq
  split
  · exact regsBut_refl _ _
  · exact s.completeAt_regsBut _ a

@[simp] theorem State.completeReq_cast (s : State) (p : Packet) (a : Ans) : (s.completeReq p a).cast = s.cast := by
  obtain ⟨_, _, _, _, _, h⟩ := s.completeReq_frame p a
  rw [h]

/-- Logging an event at once keeps every field that is none of the log's. -/
theorem State.get_logNow (s : State) (code src : Nat) (data : List Byte) {f : Fld} (out : ∀ g ∈ logFields, g.key ≠ f.key) :
    (s.logNow code src data).get f = s.get f := ((LogWrites.refl s).logNow _ _ _).get out

/-! ### The end of a run -/

/-- A run that has ended is no longer at hand. -/
theorem State.endRun_run (s : State) (a : State → Ans) : (s.endRun a).cast.run = none := by
  unfold State.endRun
  dsimp only
  split
  · rw [State.completeReq_cast]
  · rfl

/-- The end of a run writes the mailbox's registers at most. -/
theorem State.get_endRun (s : State) (a : State → Ans) {f : Fld} (out : ∀ g ∈ replyFields, g.key ≠ f.key) :
    (s.endRun a).get f = s.get f := by
  unfold State.endRun
  dsimp only
  split
  · exact get_of_regsBut (State.completeReq_regsBut _ _ _) out
  · rfl

/-! ### A load that fails (R174) -/

/-- A load that fails is FAILED, CAST_ERR holds its code and segment, and its run is over. -/
theorem State.loadFails_failed (s : State) {code seg : Nat} (a : Option Ans) (code16 : code < 65536) (seg16 : seg < 65536) :
    (s.loadFails code seg a).get Reg.CAST_STATUS_STATE = 5 ∧ (s.loadFails code seg a).get Reg.CAST_ERR_CODE = code ∧
    (s.loadFails code seg a).get Reg.CAST_ERR_SEG = seg ∧ (s.loadFails code seg a).cast.run = none := by
  unfold State.loadFails State.castErr
  dsimp only
  refine ⟨?state, ?code, ?segment, State.endRun_run _ _⟩
  all_goals rw [State.get_endRun _ _ (by decide), State.get_logNow _ _ _ _ (by decide)]
  case state => exact State.get_put_fits _ (by decide)
  case code =>
    rw [State.get_put_ne _ _ (by decide), State.get_put_ne _ _ (by decide)]
    exact State.get_put_fits _ code16
  case segment =>
    rw [State.get_put_ne _ _ (by decide)]
    exact State.get_put_fits _ seg16

/-- A run that is a load fails as a load. -/
theorem State.castFails_load {s : State} (load : s.cr.recast = false) (pass : s.cr.pass = 0) (code seg : Nat) (a : Option Ans) :
    s.castFails code seg a = s.loadFails code seg a := by
  unfold State.castFails
  dsimp only
  rw [if_neg (by omega), if_pos (by simp [load])]

/-! ### Bytes from flash (R180, R181, R188) -/

section
variable {s : State} (reads : s.castReads = true) (flash : s.cr.src ≤ 1)
include reads flash

theorem execCastSourceRead_good (bytes : List Byte) : execCastSourceRead bytes .ok s = .next (s.castFeed bytes) := by
  unfold execCastSourceRead
  dsimp only
  rw [if_neg (by simp [reads]), if_neg (by omega), if_neg (by omega), if_pos rfl]

theorem execCastSourceRead_failed (bytes : List Byte) {src : SourceResult} (failed : src ≠ .ok) :
    execCastSourceRead bytes src s = .next (s.castStops 0xC s.cr.segAt none) := by
  unfold execCastSourceRead
  dsimp only
  rw [if_neg (by simp [reads]), if_neg (by omega), if_neg (by omega), if_neg failed]

end

/-! ### A complete image (R173) -/

theorem execCastLoadComplete_complete {s : State} {p : Personality} (run : s.cast.run ≠ none) (load : s.cr.pass = 0)
    (complete : s.cr.complete = true) (ended : s.cr.ended ≠ 0) (unheld : s.cr.holdAt = none) (powered : s.fabricPowered = true) :
    execCastLoadComplete p s =
      .next (if p.bad (leAt s.cr.ioset 0 72) then s.castStops 0x15 0xFFFF none else s.castLoaded p) := by
  unfold execCastLoadComplete
  dsimp only
  rw [if_neg (by simp [run, load, complete, ended, unheld, powered])]
  split <;> rfl

/-! ### Relay blocks (R183, R184, R185) -/

section
variable {s : State} {port : Fin 7} {no : Word} {data : List Byte} {crc : Word}

section
variable (powered : s.fabricPowered = true) (member : s.get Reg.SYS_STRAP_CFG_MODE = 2)
include powered member

theorem execRelayBlock_joins (stream : s.cast.relayPort = some port.val) (whole : data.length = 256) (intact : crc32c data = crc.toNat)
    (next : no.toNat = s.cast.relayNo) : execRelayBlock port no data crc s = .next (s.relayTake port data) := by
  unfold execRelayBlock
  dsimp only
  rw [if_neg (by simp [powered, member]), stream]
  dsimp only
  rw [if_neg (by simp), if_pos (by simp [whole, intact, next])]

theorem execRelayBlock_wrong (stream : s.cast.relayPort = some port.val)
    (wrong : data.length ≠ 256 ∨ crc32c data ≠ crc.toNat ∨ no.toNat ≠ s.cast.relayNo) :
    execRelayBlock port no data crc s = .next (s.castStops 0xD s.cr.segAt none) := by
  unfold execRelayBlock
  dsimp only
  rw [if_neg (by simp [powered, member]), stream]
  dsimp only
  rw [if_neg (by simp), if_neg]
  simp only [Bool.and_eq_true, decide_eq_true_eq, beq_iff_eq]
  tauto

/-- The first block of another port is discarded and logged. -/
theorem execRelayBlock_discards {p : Nat} (stream : s.cast.relayPort = some p) (other : p ≠ port.val) (first : s.cast.relayDup = false) :
    execRelayBlock port no data crc s =
      .next (State.logEvent { s with cast := { s.cast with relayDup := true } } 0x0303 port.val []) := by
  unfold execRelayBlock
  dsimp only
  rw [if_neg (by simp [powered, member]), stream]
  dsimp only
  rw [if_pos other, if_neg (by simp [first])]

end

theorem execRelayTimeout_stops (stream : s.cast.relayPort ≠ none) (incomplete : s.cr.complete = false) :
    execRelayTimeout s = .next (s.castStops 0xD s.cr.segAt none) := by
  unfold execRelayTimeout
  rw [if_pos (by simp [Option.isSome_iff_ne_none, stream, incomplete])]

end

/-- Settles O30: each event does what its row says, and a load that fails is FAILED with its code and segment. -/
theorem castLoading : Obligations.CastLoading := by
  unfold Obligations.CastLoading
  refine ⟨fun s => ⟨fun bytes reads flash => execCastSourceRead_good reads flash bytes,
    fun bytes src reads flash failed => execCastSourceRead_failed reads flash bytes failed,
    fun p run load complete ended unheld powered => execCastLoadComplete_complete run load complete ended unheld powered,
    fun port no data crc powered member => ⟨execRelayBlock_joins powered member, execRelayBlock_wrong powered member,
      fun p => execRelayBlock_discards powered member⟩,
    execRelayTimeout_stops⟩, fun s code seg a load pass code16 seg16 => ?fails⟩
  case fails =>
    rw [State.castFails_load load pass]
    exact s.loadFails_failed a code16 seg16

end Sys2Proof.Machine

/-! SUPPORT. Release and unload of a cast: what lamps and engines leave of it, and the emptied fabric (R173, R177, R198). -/

namespace Sys2Proof.Machine
set_option Elab.async false

/-! ### Lamps and engines follow (R105, R176) -/

theorem State.lampApply_moves (s : State) (n : Nat) : LampMoves n s (s.lampApply n) := (LampMoves.refl n s).lampApply

/-- The lamps that follow their gates again write registers of the HMI block only. -/
theorem State.get_lampsRegate (s : State) {f : Fld} (below : f.key < 0xB0000 * 32) : s.lampsRegate.get f = s.get f := by
  have high (n : Nat) : ∀ g ∈ lampStat n, 0xB0000 * 32 ≤ g.key := by
    simp only [lampStat, List.forall_mem_cons, Reg.LMP_STAT_PHASE, Reg.LMP_STAT_ON, Reg.LMP_STAT_RETRIES, Reg.LMP_STAT_HOLD, Fld.key]
    exact ⟨by omega, by omega, by omega, by omega, by simp⟩
  exact List.foldlRecOn (motive := fun t : State => t.get f = s.get f) _ _ rfl fun t same n _ =>
    ((t.lampApply_moves n).get fun g hg => Nat.ne_of_gt (below.trans_le (high n g hg))).trans same

@[simp] theorem State.lampsRegate_fab (s : State) : s.lampsRegate.fab = s.fab :=
  List.foldlRecOn (motive := fun t : State => t.fab = s.fab) _ _ rfl fun t same n _ => by rw [(t.lampApply_moves n).rest, same]

@[simp] theorem State.lampsRegate_cast (s : State) : s.lampsRegate.cast = s.cast :=
  List.foldlRecOn (motive := fun t : State => t.cast = s.cast) _ _ rfl fun t same n _ => by rw [(t.lampApply_moves n).rest, same]

/-- Engines that start write registers of their windows only. -/
theorem State.get_enginesGo (s : State) (l : List Nat) {f : Fld} (below : f.key < 0x1C06000 * 32) : (s.enginesGo l).get f = s.get f := by
  refine List.foldlRecOn (motive := fun t : State => t.get f = s.get f) _ _ rfl fun t same e _ => Eq.trans ?_ same
  unfold State.engStart
  split
  · rfl
  · refine t.get_put_ne _ (Nat.ne_of_lt (below.trans_le ?_))
    simp only [Reg.ENG_STAT_RUN, Fld.key]
    omega

/-- A cast that is released is RUNNING. -/
theorem State.castGo_running (s : State) : s.castGo.get Reg.CAST_STATUS_STATE = 3 := by
  unfold State.castGo State.fabricGo
  dsimp only
  rw [State.get_put_ne _ _ (by decide), State.get_enginesGo _ _ (by decide), State.get_lampsRegate _ (by decide)]
  exact State.get_put_fits _ (by decide)

/-! ### The emptied fabric (R177) -/

/-- Registers cleared together read their reset values. -/
theorem State.get_clearRegs_in (s : State) {lo hi : Nat} {f : Fld} (inside : lo * 32 ≤ f.key ∧ f.key < hi * 32) :
    (s.clearRegs lo hi).get f = f.reset := by
  rw [State.get, State.clearRegs, tget, tfind_tclear, if_pos inside]
  rfl

theorem State.get_clearRegs_out (s : State) {lo hi : Nat} {f : Fld} (outside : ¬ (lo * 32 ≤ f.key ∧ f.key < hi * 32)) :
    (s.clearRegs lo hi).get f = s.get f := by
  rw [State.get, State.get, State.clearRegs, tget, tget, tfind_tclear, if_neg outside]

/-- AMUTE_N set leaves every field of another block. -/
theorem State.get_setUnmute (s : State) (b : Bool) {f : Fld} (below : f.key < 0xB0000 * 32) : (s.setUnmute b).get f = s.get f := by
  have apart {g : Fld} (high : 0xB0000 * 32 ≤ g.key) : f.key ≠ g.key := Nat.ne_of_lt (below.trans_le high)
  unfold State.setUnmute
  rw [State.get_setFlag_ne _ _ (apart (by decide)), State.get_setFlag_ne _ _ (apart (by decide))]

/-- The fabric holds no frame and no personality, and no run is at hand. -/
structure Emptied (s : State) : Prop where
  frames : s.fab.frames = []
  pers : s.fab.pers = Personality.blank
  run : s.cast.run = none

/-- What changes neither the fabric nor the cast leaves it emptied. -/
theorem Emptied.of_same {s t : State} (h : Emptied s) (fab : t.fab = s.fab) (cast : t.cast = s.cast) : Emptied t :=
  ⟨fab ▸ h.frames, fab ▸ h.pers, cast ▸ h.run⟩

theorem Emptied.put {s : State} (h : Emptied s) (f : Fld) (v : Nat) : Emptied (s.put f v) := h.of_same rfl rfl

theorem Emptied.clearRegs {s : State} (h : Emptied s) (lo hi : Nat) : Emptied (s.clearRegs lo hi) := h.of_same rfl rfl

theorem Emptied.setUnmute {s : State} (h : Emptied s) (b : Bool) : Emptied (s.setUnmute b) := (h.put _ _).put _ _

theorem Emptied.lampsRegate {s : State} (h : Emptied s) : Emptied s.lampsRegate := h.of_same s.lampsRegate_fab s.lampsRegate_cast

theorem Emptied.logEvent {s : State} (h : Emptied s) (code src : Nat) (data : List Byte) : Emptied (s.logEvent code src data) := by
  obtain ⟨_, _, _, _, logged⟩ := s.logEvent_frame code src data
  exact h.of_same (by rw [logged]) (by rw [logged])

/-- In an emptied fabric no port is left: what waited at one is discarded and logged. -/
theorem Emptied.passHeld {s : State} (h : Emptied s) (old : Personality) (m : Nat) : Emptied (s.passHeld old m) := by
  have dropped (u : State) (hu : Emptied u) (src : Nat) (data : List Byte) : Emptied (u.draw.logEvent 0x0304 src data) :=
    (hu.of_same (t := u.draw) rfl rfl).logEvent _ _ _
  unfold State.passHeld
  dsimp only
  refine List.foldlRecOn (motive := Emptied) _ _ (List.foldlRecOn (motive := Emptied) _ _ ?_ fun u hu p _ => ?_) fun u hu e _ => ?_
  · exact ⟨h.frames, h.pers, h.run⟩
  · rw [if_neg (by simp [hu.pers, Personality.blank, Personality.cmdRegion])]
    exact dropped u hu _ _
  · rw [if_neg (by simp [hu.pers, Personality.blank])]
    exact dropped u hu _ _

/-- An unload empties the fabric. -/
theorem State.castUnload_emptied (s : State) : Emptied s.castUnload := by
  unfold State.castUnload
  dsimp only
  refine .lampsRegate (.setUnmute (.put (.clearRegs (.clearRegs (.clearRegs (.passHeld ?_ _ _) _ _) _ _) _ _) _ _) _)
  exact ⟨rfl, rfl, rfl⟩

theorem State.castUnload_state (s : State) : s.castUnload.get Reg.CAST_STATUS_STATE = 0 := by
  unfold State.castUnload
  dsimp only
  rw [State.get_lampsRegate _ (by decide), State.get_setUnmute _ _ (by decide), State.get_put_ne _ _ (by decide),
    State.get_clearRegs_out _ (by decide), State.get_clearRegs_out _ (by decide), State.get_clearRegs_in _ (by decide)]
  rfl

end Sys2Proof.Machine

/-! SUPPORT. The cast and recast commands of Table CAST-13, and their statement settled (R165, R173, R177, R190, R194, R199, R200, R217, R220). -/

namespace Sys2Proof.Machine
set_option Elab.async false

/-! ### CAST_LOAD (R173, R177, R190) -/

@[simp] theorem State.get_setCr (s : State) (r : CastRun) (f : Fld) : (s.setCr r).get f = s.get f := rfl

/-- A fabric emptied for a load reads the STATE given. -/
theorem State.castOpens_state (s : State) {st : Nat} (src : Nat) (fits : st < 16) : (s.castOpens st src).get Reg.CAST_STATUS_STATE = st := by
  unfold State.castOpens
  dsimp only
  rw [State.get_setUnmute _ _ (by decide), State.get_put_ne _ _ (by decide)]
  exact State.get_put_fits _ fits

/-- A load that starts reads STATE 1. -/
theorem State.castStart_state (s : State) (r : CastRun) : (s.castStart r).get Reg.CAST_STATUS_STATE = 1 := by
  rw [State.castStart, State.get_setCr, State.castOpens_state _ _ (by decide)]

/-- The run of a load that starts is at hand. -/
theorem State.castStart_cr (s : State) (r : CastRun) : (s.castStart r).cr = { r with startAt := s.time.up } := rfl

section
variable {s : State} (c : Ctx)

/-- Where the fabric is empty or a load has failed, the load starts and is pending. -/
theorem castLoadRun_starts (empty : s.get Reg.CAST_STATUS_STATE = 0 ∨ s.get Reg.CAST_STATUS_STATE = 5) :
    ∃ (r : CastRun) (s1 : State), castLoadRun s c = pend (s1.castStart r) ∧ r.req = some c.p ∧ r.hold = bit (c.at 1 1) 0 := by
  have taken : s.loadRefused c = none := by
    unfold State.loadRefused
    dsimp only
    rw [if_neg (by omega), if_neg (by omega)]
  unfold castLoadRun
  rw [taken]
  exact ⟨_, _, rfl, rfl, rfl⟩

/-- During a recast, or a load that this chain did not open, it is busy. -/
theorem castLoadRun_busy
    (loads : s.get Reg.CAST_STATUS_STATE = 4 ∨ (s.get Reg.CAST_STATUS_STATE = 1 ∧ s.ownChain c false = false)) :
    castLoadRun s c = busy s := by
  have refused : s.loadRefused c = some (busy s) := if_pos (loads.imp_right fun h => ⟨h.1, by simp [h.2]⟩)
  unfold castLoadRun
  rw [refused]

/-! ### CAST_RELEASE and CAST_UNLOAD (R177, R200) -/

theorem castReleaseRun_held (held : s.get Reg.CAST_STATUS_STATE = 2) (run : s.cast.run ≠ none) :
    castReleaseRun s c = (s.castGo.endRun (fun _ => Ans.ok []), Ans.ok []) := if_pos ⟨held, by simpa [Option.isSome_iff_ne_none] using run⟩

theorem castReleaseRun_unheld (cast : s.get Reg.CAST_STATUS_STATE ≠ 2) (recast : s.get Reg.RCST_STATUS_PHASE ≠ 4) :
    castReleaseRun s c = (s, Ans.code 0xE 2) := by
  unfold castReleaseRun
  rw [if_neg (fun h => cast h.1), if_neg recast]

theorem castUnloadRun_released (running : s.get Reg.CAST_STATUS_STATE = 3) : castUnloadRun s c = (s.castUnload, Ans.ok []) := by
  unfold castUnloadRun
  dsimp only
  rw [if_neg (by omega), if_pos (by omega)]

/-! ### Keys, signers and the boot pointer (R165, R179, R194) -/

theorem castKeySetRun_opens {k : List Byte} (opens : c.unseal c.data = some k) : castKeySetRun s c =
    ((State.put { s with cast := { s.cast with key := k } } Reg.CKEY_STAT_PRESENT 1).persist .castKey, Ans.ok []) := by
  unfold castKeySetRun
  rw [opens]

@[simp] theorem State.persist_cast (s : State) (r : Rec) : (s.persist r).cast = s.cast := by
  obtain ⟨_, h⟩ := s.persist_nvm r
  rw [h]

/-- The slot named is set or cleared, and its bit of the mask with it. -/
theorem castSignerSetRun_sets (slot : c.at 0 1 ≤ 3) :
    ∃ v, castSignerSetRun s c = (v, Ans.ok (leBytes 4 (s.get Reg.CAST_POLICY_SIGNERS))) ∧
      v.cast.signers = s.cast.signers.set (c.at 0 1) (if bit (c.at 1 1) 0 then [] else slice c.data 4 32) ∧
      bit (v.get Reg.CAST_POLICY_SIGNERS) (c.at 0 1) = !bit (c.at 1 1) 0 := by
  refine ⟨_, rfl, ?_, ?_⟩
  · rw [State.persist_cast]
    cases bit (c.at 1 1) 0 <;> rfl
  · rw [State.get_persist, State.get_put_same, bit_cut (w := Reg.CAST_POLICY_SIGNERS.width) _ (Nat.lt_succ_of_le slot), bit_setBits]

/-- Where a copy is valid and the flash takes the record, it holds the new PREFER. -/
theorem castFlashPreferRun_writes {r : List Byte} (valid : s.recBody .bootPtr = some r) (takes : s.drawn 1 = 0) :
    castFlashPreferRun s c = (s.draw.recWrite .bootPtr (bootBody (leAt r 0 8) (leAt r 8 8) (c.at 0 1)), Ans.ok []) := by
  unfold castFlashPreferRun
  rw [valid]
  dsimp only
  rw [if_neg (by omega)]

/-- Where no copy is valid, or the flash does not take the record, FAULT names the entry logged. -/
theorem castFlashPreferRun_faults (fails : s.recBody .bootPtr = none ∨ s.drawn 1 = 1) :
    (castFlashPreferRun s c).2 = (castFlashPreferRun s c).1.faultAns := by
  unfold castFlashPreferRun
  split
  · rfl
  · rename_i r valid
    obtain none | fault := fails
    · cases valid.symm.trans none
    · dsimp only
      rw [if_pos fault]

/-! ### RECAST_LOAD and RECAST_ABORT (R199, R214, R217, R220) -/

theorem State.recastOpens_state (s : State) : s.recastOpens.get Reg.CAST_STATUS_STATE = 4 := by
  rw [State.recastOpens, State.get_put_ne _ _ (by decide)]
  exact State.get_put_fits _ (by decide)

theorem State.recastOpens_phase (s : State) : s.recastOpens.get Reg.RCST_STATUS_PHASE = 1 := State.get_put_fits _ (by decide)

/-- Over a running cast the verify pass opens and is pending. -/
theorem recastLoadRun_opens (running : s.get Reg.CAST_STATUS_STATE = 3) :
    ∃ v d, recastLoadRun s c = (v, Ans.code 1 d) ∧ v.get Reg.CAST_STATUS_STATE = 4 ∧ v.get Reg.RCST_STATUS_PHASE = 1 ∧ v.cr.req = some c.p ∧
      v.cr.recast = true ∧ v.cr.timeout = c.at 28 2 := by
  have taken : s.recastRefused c = none := by
    unfold State.recastRefused
    dsimp only
    rw [if_neg (by omega), if_neg (by omega)]
  unfold recastLoadRun
  rw [taken]
  dsimp only
  refine ⟨_, _, rfl, ?state, ?phase, rfl, rfl, rfl⟩
  all_goals rw [State.get_draw, State.get_setCr]
  case state => exact State.recastOpens_state _
  case phase => exact State.recastOpens_phase _

section
variable (unchained : s.cast.chain = none)
include unchained

theorem recastAbortRun_none (verify : s.recastIn 1 = false) (write : s.recastIn 2 = false) : recastAbortRun s c = (s, Ans.code 0xE 5) := by
  unfold recastAbortRun
  dsimp only
  rw [unchained]
  dsimp only
  rw [if_neg (by simp [verify, write])]

theorem recastAbortRun_aborts (runs : s.recastIn 1 = true ∨ s.recastIn 2 = true) :
    recastAbortRun s c = (s.castFails 0x11 s.cr.segAt none, Ans.ok (leBytes 4 (s.word (wordsCast 0x80)))) := by
  unfold recastAbortRun
  dsimp only
  rw [unchained]
  dsimp only
  rw [if_pos (by simpa using runs)]

end
end

/-- Settles O32: each command that reaches its run does what its run says. -/
theorem castCommands : Obligations.CastCommands := by
  unfold Obligations.CastCommands
  intro s b u p c
  have answers {op : OpSpec} {r : State × Ans} (h : Reaches op s p c b u) (run : op.run u c = r) :
      serve op p s = .next (answered b c r) := by rw [serve_of_reaches h, run]
  refine ⟨fun reaches => ⟨fun empty => ?loads, fun loads => ⟨_, answers reaches (castLoadRun_busy c loads)⟩⟩,
    fun reaches => ⟨_, answers reaches rfl, ?status⟩,
    fun reaches => ⟨fun held run => ⟨_, answers reaches (castReleaseRun_held c held run), ?running, State.endRun_run _ _⟩,
      fun cast recast => answers reaches (castReleaseRun_unheld c cast recast)⟩,
    fun reaches running => ⟨_, answers reaches (castUnloadRun_released c running), u.castUnload_state, ?unloaded⟩,
    fun k reaches opens => answers reaches (castKeySetRun_opens c opens), fun reaches => ?signer, fun reaches => answers reaches rfl,
    fun reaches => ⟨_, _, answers reaches rfl, fun r valid takes => ?prefer, castFlashPreferRun_faults c⟩,
    fun reaches running => ?recasts,
    fun reaches unchained => ⟨fun verify write => answers reaches (recastAbortRun_none c unchained verify write),
      fun runs => answers reaches (recastAbortRun_aborts c unchained runs)⟩,
    fun reaches => ⟨_, answers reaches rfl, rfl⟩⟩
  case loads =>
    obtain rfl := packet_of_reaches reaches
    obtain ⟨r, s1, run, req, hold⟩ := castLoadRun_starts c empty
    refine ⟨_, _, answers reaches run, (State.get_draw _ _).trans (s1.castStart_state r), ?_, ?_⟩
    · exact (congrArg CastRun.req (s1.castStart_cr r)).trans req
    · exact (congrArg CastRun.hold (s1.castStart_cr r)).trans hold
  case status => rfl
  case running => rw [State.get_endRun _ _ (by decide), State.castGo_running]
  case unloaded =>
    obtain ⟨frames, pers, run⟩ := u.castUnload_emptied
    exact ⟨frames, pers, run⟩
  case signer =>
    have checks := firstBad_none (range_of_reaches reaches)
    simp only [List.forall_mem_cons, decide_eq_true_eq] at checks
    obtain ⟨slot, -⟩ := checks
    obtain ⟨v, run, set⟩ := castSignerSetRun_sets (s := u) c slot
    exact ⟨v, answers reaches run, set⟩
  case prefer =>
    have run := castFlashPreferRun_writes c valid takes
    exact ⟨congrArg Prod.snd run, congrArg Prod.fst run⟩
  case recasts =>
    obtain rfl := packet_of_reaches reaches
    obtain ⟨v, d, run, opened⟩ := recastLoadRun_opens c running
    exact ⟨v, d, answers reaches run, opened⟩

end Sys2Proof.Machine

/-! SUPPORT. Halts of tiles and streams, and answers that return, leave the registers of the cast block as they are (Table CAST-12). -/

namespace Sys2Proof.Machine
set_option Elab.async false

/-- From `s` to `t` every register field of the cast block (Table CAST-12) stays as it is. -/
def CastKept (s t : State) : Prop := ∀ k, 0x20000 * 32 ≤ k → k < 0x20100 * 32 → tfind t.regs k = tfind s.regs k

/-- A field lies outside the cast block. -/
abbrev OffCast (f : Fld) : Prop := f.key < 0x20000 * 32 ∨ 0x20100 * 32 ≤ f.key

theorem offCast_above {a l w r : Nat} (h : 0x20100 ≤ a) : OffCast ⟨a, l, w, r⟩ := by
  have : Fld.key ⟨a, l, w, r⟩ = a * 32 + l := rfl
  omega

namespace CastKept

variable {s t u : State}

theorem refl (s : State) : CastKept s s := fun _ _ _ => rfl

/-- What changes no register. -/
theorem others (h : CastKept s t) {pending win mem ecc cmd log time pwr door addr mesh bud mu sync hq tu lanes link ens fab eng cast vault nvm
    bist out draws} : CastKept s ⟨pending, t.regs, win, mem, ecc, cmd, log, time, pwr, door, addr, mesh, bud, mu, sync, hq, tu, lanes, link,
      ens, fab, eng, cast, vault, nvm, bist, out, draws⟩ := h

theorem put (h : CastKept s t) {f : Fld} (v : Nat) (off : OffCast f) : CastKept s (t.put f v) :=
  fun k lo hi => (t.regs_put_ne f v (by omega)).trans (h k lo hi)

theorem ite {c : Prop} [Decidable c] (h : CastKept s t) (k : CastKept s u) : CastKept s (if c then t else u) := by
  split <;> assumption

theorem foldl {α : Type} {f : State → α → State} (h : CastKept s t) (l : List α) (step : ∀ u a, CastKept s u → CastKept s (f u a)) :
    CastKept s (l.foldl f t) :=
  List.foldlRecOn (motive := CastKept s) l f h fun u hu a _ => step u a hu

/-- Writes of fields outside the block keep it. -/
theorem of_regsBut (h : CastKept s t) {fs : List Fld} (but : RegsBut fs t u) (off : ∀ f ∈ fs, OffCast f) : CastKept s u :=
  fun k lo hi => (but k fun f hf same => by have := off f hf; omega).trans (h k lo hi)

/-- The fields of the block read the same. -/
theorem get (h : CastKept s t) {f : Fld} (inside : 0x20000 * 32 ≤ f.key ∧ f.key < 0x20100 * 32) : t.get f = s.get f := by
  obtain ⟨lo, hi⟩ := inside
  rw [State.get, State.get, tget, tget, h f.key lo hi]

/-! ### Replies, the log and the network -/

theorem logEvent (h : CastKept s t) (code src : Nat) (data : List Byte) : CastKept s (t.logEvent code src data) :=
  h.of_regsBut ((LogWrites.refl t).logEvent code src data).regs (by decide)

theorem deliver (h : CastKept s t) (r : Packet) : CastKept s (t.deliver r) := h.of_regsBut (t.deliver_regsBut r) (by decide)

theorem completeReq (h : CastKept s t) (p : Packet) (a : Ans) : CastKept s (t.completeReq p a) :=
  h.of_regsBut (t.completeReq_regsBut p a) (by decide)

theorem netSend (h : CastKept s t) (src dst c data : Nat) : CastKept s (t.netSend src dst c data) := by
  obtain ⟨m, sent⟩ := t.netSend_mesh src dst c data
  rw [sent]
  exact h.others

theorem enqueue (h : CastKept s t) (p vc : Nat) (pk : LinkPacket) : CastKept s (t.enqueue p vc pk) := by
  unfold State.enqueue State.pumpPort State.lineOut
  dsimp only
  exact ite (put (foldl h.others _ fun u e hu => hu.others) (f := Reg.HL_TXFLITS_COUNT p) _ (offCast_above (by omega))) h.others

theorem burst (h : CastKept s t) (p : Nat) : CastKept s (t.burst p) := by
  unfold State.burst
  exact ite h.others h

theorem sendPacket (h : CastKept s t) (pk : LinkPacket) (came : Option (Nat × Nat)) : CastKept s (t.sendPacket pk came) := by
  unfold State.sendPacket
  split
  · exact h
  · rename_i p _
    have woken (c : Prop) [Decidable c] : CastKept s (if c then t.burst p else t) := ite (h.burst p) h
    dsimp only
    refine ite (h.enqueue _ _ _) (ite ?_ (woken _))
    split
    · exact ite ((woken _).enqueue _ _ _) (woken _)
    · exact woken _

/-! ### Tiles -/

theorem tileEvent (h : CastKept s t) (n pos : Nat) : CastKept s (t.tileEvent n pos) := by
  have off : OffCast (if pos = 0 then Reg.TEVT_FAULT n else if pos = 1 then Reg.TEVT_HALTED n else Reg.TEVT_CTX n) := by
    split_ifs <;> exact offCast_above (by omega)
  unfold State.tileEvent State.event
  dsimp only
  exact ite (h.put _ off).others (h.put _ off)

theorem settleHalts (h : CastKept s t) : CastKept s t.settleHalts :=
  h.others.foldl _ fun _ _ hu => hu.completeReq _ _

theorem tileHalted (h : CastKept s t) (n cause : Nat) : CastKept s (t.tileHalted n cause) := by
  have stopped : CastKept s (((t.put (Reg.TSTAT_RUN n) 0).put (Reg.TSTAT_STALL n) 0).put (Reg.TSTAT_CAUSE n) cause) :=
    ((h.put _ (offCast_above (by omega))).put _ (offCast_above (by omega))).put _ (offCast_above (by omega))
  unfold State.tileHalted
  exact ite (stopped.others.tileEvent n 1).settleHalts h

theorem putOperand (h : CastKept s t) (n k : Nat) (o : Nat × Nat × Nat × Nat) : CastKept s (t.putOperand n k o) :=
  (((h.put _ (offCast_above (by omega))).put _ (offCast_above (by omega))).put _ (offCast_above (by omega))).put _
    (offCast_above (by omega))

theorem tileFault (h : CastKept s t) (n code pc detail : Nat) : CastKept s (t.tileFault n code pc detail) := by
  have cycles : CastKept s (t.draw.tileCycles n (t.drawn 6)) := put (t := t.draw) h.others _ (offCast_above (by omega))
  have said (u : State) (hu : CastKept s u) :
      CastKept s (((u.put (Reg.TFAULT0_CODE n) code).put (Reg.TFAULT0_PC n) pc).put (Reg.TFAULT0_DETAIL n) detail) :=
    ((hu.put _ (offCast_above (by omega))).put _ (offCast_above (by omega))).put _ (offCast_above (by omega))
  have marked (u : State) (hu : CastKept s u) : CastKept s (u.tileFaultMark n code pc detail []) :=
    (((((((said u hu).putOperand n 0 _).putOperand n 1 _).putOperand n 2 _).put _ (offCast_above (by omega))).tileHalted n 2).put _
      (offCast_above (by omega))).tileEvent n 0
  unfold State.tileFault State.tileFaultOps
  exact (marked _ (ite cycles h)).logEvent _ _ _

/-! ### Operations withdrawn (R290, R367) -/

theorem answerOp (h : CastKept s t) (key code value : Nat) : CastKept s (t.answerOp key code value) := by
  unfold State.answerOp
  split
  · exact h
  · rename_i o _
    have sent : CastKept s (t.netSend plinthPlace o.who.place clsRsp 8) := h.netSend _ _ _ _
    have kept (c : Prop) [Decidable c] (u : State) (hu : CastKept s u) (n : Nat) (x : TileX) :
        CastKept s (if c then u.setTx n x else u) := ite hu.others hu
    dsimp only
    split
    · exact sent.others.sendPacket _ _
    · exact sent.others.completeReq _ _
    · exact sent.others
    · exact ite sent.others (ite sent.others (ite (kept _ _ sent.others _ _) ((kept _ _ sent.others _ _).tileFault _ _ _ _)))
    · exact sent.others
    · exact sent.others

theorem withdrawSync (h : CastKept s t) (key : Nat) : CastKept s (t.withdrawSync key) := by
  unfold State.withdrawSync
  split
  · exact h
  · dsimp only
    split
    · exact h.others
    · exact h.answerOp _ _ _
    · exact h.answerOp _ _ _
    · exact answerOp (h.others.put _ (offCast_above (by omega))) _ _ _
    · split
      · exact h.others.sendPacket _ _
      · exact h.others
    · exact h

theorem withdrawHq (h : CastKept s t) (key : Nat) : CastKept s (t.withdrawHq key) := by
  have shown (u : State) (q : Nat) (hu : CastKept s u) : CastKept s (u.showHq q) :=
    ((hu.put _ (offCast_above (by omega))).put _ (offCast_above (by omega))).put _ (offCast_above (by omega))
  have listed (q : Nat) (push : Bool) (l : List Nat) : CastKept s (t.setHqList q push l) := by
    unfold State.setHqList
    exact ite h.others h.others
  have freed (u : State) (o : HqOp) (hu : CastKept s u) : CastKept s (u.hqUnreserve o) := by
    unfold State.hqUnreserve State.hqReserve
    refine ite (ite hu ?_) hu
    split
    · exact hu.others
    · exact hu
  unfold State.withdrawHq
  split
  · exact h
  · split
    · exact h.others
    · exact h
    · exact freed _ _ ((shown _ _ (listed _ _ _).others).netSend _ _ _ _)

theorem xlatOver (h : CastKept s t) (k : Nat) : CastKept s (t.xlatOver k) :=
  h.others.foldl _ fun _ _ hu => hu.completeReq _ _

/-- A tile asked to halt. -/
theorem tileHalt (h : CastKept s t) (n cause : Nat) : CastKept s (t.tileHalt n cause) := by
  unfold State.tileHalt
  refine ite h ?_
  split
  · exact h.tileHalted _ _
  · exact ite (h.others.withdrawSync _) (h.others.withdrawHq _)

/-! ### Streams (R364, R367) -/

theorem showPos (h : CastKept s t) (n st : Nat) : CastKept s (t.showPos n st) :=
  h.foldl _ fun _ _ hu => hu.put _ (offCast_above (by omega))

theorem showLoops (h : CastKept s t) (n st : Nat) : CastKept s (t.showLoops n st) :=
  (h.put _ (offCast_above (by omega))).foldl _ fun _ _ hu => hu.put _ (offCast_above (by omega))

/-- A stream that a command or the device's own move stops. -/
theorem steepStop_stopped (h : CastKept s t) (n st detail : Nat) (remote write : Bool) :
    CastKept s (t.steepStop n st 0xC detail remote write) := by
  have recorded : CastKept s (((t.put (Reg.STEEP_FAULT_CODE n st) 0xC).put (Reg.STEEP_FAULT_DETAIL n st) detail).setFlag
      (Reg.STEEP_FAULT_REMOTE n st) remote) :=
    ((h.put _ (offCast_above (by omega))).put _ (offCast_above (by omega))).put _ (offCast_above (by omega))
  have stopped : CastKept s
      ((((State.setFlag _ (Reg.STEEP_FAULT_WRITE n st) write).put (Reg.STEEP_STAT_STATE n st) 2).showPos n st).showLoops n st) :=
    (((recorded.put _ (offCast_above (by omega))).put _ (offCast_above (by omega))).showPos n st).showLoops n st
  unfold State.steepStop
  dsimp only
  rw [if_neg (show ¬ 0xC ∈ [6, 7, 8, 9] by decide), if_pos rfl]
  exact ite (stopped.others.logEvent _ _ _) stopped.others

theorem steepHaltNow (h : CastKept s t) (n st : Nat) : CastKept s (t.steepHaltNow n st) := by
  unfold State.steepHaltNow
  refine ite h ?_
  split
  · exact h
  · exact ((h.others.put _ (offCast_above (by omega))).showPos n st).showLoops n st
  · exact h.steepStop_stopped _ _ _ _ _

/-- A stream asked to halt or to be held. -/
theorem steepHalt (h : CastKept s t) (n st d : Nat) : CastKept s (t.steepHalt n st d) := by
  unfold State.steepHalt
  refine ite h ?_
  dsimp only
  split
  · split
    · exact ite (h.others.withdrawSync _) h.others
    · exact h.others
  · exact h.others.withdrawHq _
  · split
    · exact h.others.steepHaltNow _ _
    · split
      · exact (h.others.steepHaltNow _ _).xlatOver _
      · exact (h.others.steepHaltNow _ _).xlatOver _
      · exact (h.others.steepHaltNow _ _).xlatOver _
      · exact h.others

/-! ### What waited at a wall goes on (R25, R203) -/

theorem presentResult (h : CastKept s t) (die : Nat) (r80 : List Byte) : CastKept s (t.presentResult die r80) := by
  unfold State.presentResult
  exact ite h.others (ite h.others h)

theorem passHeld (h : CastKept s t) (old : Personality) (m : Nat) : CastKept s (t.passHeld old m) := by
  have dropped (u : State) (hu : CastKept s u) (src : Nat) (data : List Byte) : CastKept s (u.draw.logEvent 0x0304 src data) :=
    hu.others.logEvent _ _ _
  unfold State.passHeld
  dsimp only
  refine foldl (foldl h.others _ fun u p hu => ?_) _ fun u e hu => ?_
  · exact ite (hu.deliver _) (dropped u hu _ _)
  · exact ite (hu.presentResult _ _) (dropped u hu _ _)

end CastKept

end Sys2Proof.Machine

/-! SUPPORT. The passes, walls, capture and release of a live recast, and their statement settled (R197, R199, R201, R202, R207, R212, R213). -/

namespace Sys2Proof.Machine
set_option Elab.async false

variable {s : State}

/-! ### The write pass begins (R199, R202) -/

theorem execRecastVerifyDone_passes {p : Personality} (runs : s.recastIn 1 = true) (complete : s.cr.complete = true) (ended : s.cr.ended ≠ 0)
    (walls : s.cr.cwall = true) (legal : p.bad (s.relayMask s.cr) = false) : execRecastVerifyDone p s = .next (s.writePass p) := by
  unfold execRecastVerifyDone
  dsimp only
  rw [if_neg (by simp [runs, complete, ended]), if_neg (by simp [walls]), if_neg (by simp [legal])]

/-- PHASE of the write pass: 2 while a rollback buffer waits for its capture, else 3. -/
theorem State.writePass_phase (s : State) (p : Personality) :
    (s.writePass p).get Reg.RCST_STATUS_PHASE = if s.cr.rollback = 0 then 3 else 2 :=
  State.get_put_fits _ (by split <;> decide)

/-- Bits set in a field read as 1. -/
theorem State.bit_orBits (s : State) {f : Fld} {m k : Nat} (inside : k < f.width) (mem : bit m k = true) : bit ((s.orBits f m).get f) k = true := by
  rw [bit_eq_testBit] at mem
  rw [bit_eq_testBit, State.orBits, State.get_put_same, Nat.testBit_mod_two_pow, Nat.testBit_or, mem, Bool.or_true, Bool.and_true]
  exact decide_eq_true inside

/-- The walls of a mask stand: halting what they enclose lets none of them fall. -/
theorem State.wallsRise_walls (s : State) {m k : Nat} (region : k < 32) (mem : bit m k = true) :
    bit ((s.wallsRise m).get Reg.CWALL_MASK) k = true := by
  have kept (u : State) (l : List Nat) : CastKept u
      (((l.foldl (fun s t => s.tileHalt t 3) u).eachSteeper (tilesIn m) (fun s t st => s.steepHalt t st 0)).setUnmute false) :=
    ((((CastKept.refl u).foldl _ fun _ _ hv => hv.tileHalt _ _).foldl _ fun _ _ hv => (hv.steepHalt _ _ _).steepHalt _ _ _).put _
      (by decide)).put _ (by decide)
  unfold State.wallsRise
  dsimp only
  rw [(kept _ _).get (by decide)]
  exact State.bit_orBits _ region mem

theorem State.writePass_walls (p : Personality) (walled : s.cr.tilesOnly = false) {k : Nat} (region : k < 32) (mem : bit s.cr.mask k = true) :
    bit ((s.writePass p).get Reg.CWALL_MASK) k = true := by
  unfold State.writePass
  dsimp only
  rw [State.get_put_ne _ _ (by decide), walled]
  exact State.wallsRise_walls _ region mem

/-! ### The capture (R213) -/

theorem execRollbackCaptureDone_captures (runs : s.recastIn 2 = true) (phase : s.get Reg.RCST_STATUS_PHASE = 2)
    (quiet : s.regionsQuiet s.cr.mask = true) : execRollbackCaptureDone s = .next (s.recastCapture.put Reg.RCST_STATUS_PHASE 3) := by
  unfold execRollbackCaptureDone
  dsimp only
  rw [if_neg (by simp [runs, phase]), if_neg (by simp [quiet])]

/-! ### The release (R207) -/

theorem execRecastRelease_releases (runs : s.recastIn 2 = true) (phase : s.get Reg.RCST_STATUS_PHASE = 3) (complete : s.cr.complete = true)
    (ended : s.cr.ended ≠ 0) : execRecastRelease s = .next s.recastGo :=
  if_neg (by simp [runs, phase, complete, ended])

/-- The fabric that goes on is RUNNING. -/
theorem State.fabricGo_running (s : State) : s.fabricGo.get Reg.CAST_STATUS_STATE = 3 := by
  unfold State.fabricGo
  rw [State.get_lampsRegate _ (by decide)]
  exact State.get_put_fits _ (by decide)

/-- A recast that is released: the cast is RUNNING, PHASE is 0, and its run is over. -/
theorem State.recastGo_running (s : State) : s.recastGo.get Reg.RCST_STATUS_PHASE = 0 ∧ s.recastGo.get Reg.CAST_STATUS_STATE = 3 ∧
    s.recastGo.cast.run = none := by
  have kept (u : State) (old : Personality) (m : Nat) : CastKept u (u.passHeld old m) := (CastKept.refl u).passHeld old m
  unfold State.recastGo
  dsimp only
  refine ⟨?phase, ?state, State.endRun_run _ _⟩
  all_goals rw [State.get_endRun _ _ (by decide), (kept _ _ _).get (by decide)]
  case phase => exact State.get_put_fits _ (by decide)
  case state =>
    rw [State.get_put_ne _ _ (by decide)]
    exact State.fabricGo_running _

/-! ### The timeout (R201) -/

theorem execRecastTimeout_fails (runs : s.recastIn 2 = true) (walled : s.cr.tilesOnly = false) (unheld : s.get Reg.RCST_STATUS_PHASE ≠ 4) :
    execRecastTimeout s = .next (s.castFails 0x14 s.cr.segAt (some (Ans.code 0xC 0))) :=
  if_pos (by simp [runs, walled, unheld])

/-- Settles O31: each event through the lemma of its pass; the walls stand because what halts behind them writes no register of the cast
block, and the release lasts because what waited at the walls writes none either. -/
theorem recastPasses : Obligations.RecastPasses := by
  unfold Obligations.RecastPasses
  refine fun s => ⟨fun p runs complete ended walled walls legal => ?verify, fun runs phase quiet => ?capture,
    fun runs phase complete ended => ⟨_, execRecastRelease_releases runs phase complete ended, s.recastGo_running⟩,
    execRecastTimeout_fails⟩
  case verify =>
    exact ⟨_, execRecastVerifyDone_passes runs complete ended walls legal, rfl, s.writePass_phase p,
      fun _ region mem => State.writePass_walls p walled region mem⟩
  case capture => exact ⟨_, execRollbackCaptureDone_captures runs phase quiet, rfl, rfl⟩

end Sys2Proof.Machine

/-! SUPPORT. Queue blocks in FIFO and RAM modes, the blocks of fabric-held handle queues and the I/O banks, and their statement settled
(R237–R246, R251). -/

namespace Sys2Proof.Machine

variable {s : State} {c : QbCfg}

/-! ### A queue block and its settings -/

@[simp] theorem State.qb_setQb_same (s : State) (b : Nat) (x : QbX) : (s.setQb b x).qb b = x := tget_tput_same _ _ _ _

/-- A block's settings bear its number. -/
theorem State.qb_of_qbCfg {b : Nat} (cfg : s.qbCfg b = some c) : c.qb = b := by
  unfold State.qbCfg at cfg
  split at cfg
  · exact beq_iff_eq.1 (List.find?_some cfg :)
  · cases cfg

/-- The FIFO modes of a block (R241). -/
theorem QbCfg.mode_of_isFifo (fifo : c.isFifo = true) : c.mode = .fifo ∨ c.mode = .credit := by
  simpa [QbCfg.isFifo] using fifo

@[simp] theorem QbX.fall_entries (x : QbX) (c : QbCfg) : (x.fall c).entries = x.entries := by unfold QbX.fall; split <;> rfl
@[simp] theorem QbX.fall_ovf (x : QbX) (c : QbCfg) : (x.fall c).ovf = x.ovf := by unfold QbX.fall; split <;> rfl
@[simp] theorem QbX.fall_udf (x : QbX) (c : QbCfg) : (x.fall c).udf = x.udf := by unfold QbX.fall; split <;> rfl
@[simp] theorem QbX.fall_rlag (x : QbX) (c : QbCfg) : (x.fall c).rlag = x.rlag := by unfold QbX.fall; split <;> rfl

/-! ### The sides of a FIFO (R243, R244) -/

section
variable {b : Nat} (number : c.qb = b)
include number

/-- A write with FULL deasserted appends its word and leaves OVF. -/
theorem State.fifoPush_stores {v : Nat} (unfrozen : s.frozen (qbRegion b) = false) (rst : (s.qb b).wRst = false)
    (room : (s.qb b).wLevel < c.size) :
    ∃ y, s.fifoPush c v = s.setQb b y ∧ y.entries = (s.qb b).entries ++ [qbStore c v] ∧ y.ovf = (s.qb b).ovf := by
  subst number
  unfold State.fifoPush State.qbFull
  dsimp only
  rw [if_neg (by simp [unfrozen, rst]), if_neg (by simp [unfrozen, rst, room])]
  exact ⟨_, rfl, QbX.fall_entries _ _, QbX.fall_ovf _ _⟩

theorem State.fifoPush_full {v : Nat} (unfrozen : s.frozen (qbRegion b) = false) (rst : (s.qb b).wRst = false)
    (full : c.size ≤ (s.qb b).wLevel) : s.fifoPush c v = s.setQb b { s.qb b with ovf := true } := by
  subst number
  unfold State.fifoPush State.qbFull
  dsimp only
  rw [if_neg (by simp [unfrozen, rst]), if_pos (by simp [full])]

theorem State.fifoPush_rst {v : Nat} (rst : (s.qb b).wRst = true) : s.fifoPush c v = s := by
  subst number
  exact if_pos (by simp [rst])

/-- A read with EMPTY deasserted removes the oldest entry, leaves UDF, and without fall-through shows the entry; with it, a view that empties
draws a free value. -/
theorem State.fifoPop_takes (unfrozen : s.frozen (qbRegion b) = false) (rst : (s.qb b).rRst = false) (held : (s.qb b).rLevel ≠ 0) :
    ∃ n y, s.fifoPop c = State.setQb { s with draws := n } b y ∧ y.entries = (s.qb b).entries.drop 1 ∧
      y.udf = (s.qb b).udf ∧ (c.fwft = false → y.outA = (qbFetch c ((s.qb b).entries.headD 0)).1) := by
  subst number
  unfold State.fifoPop State.qbEmpty
  dsimp only
  rw [if_neg (by simp [unfrozen, rst]), if_neg (by simp [unfrozen, rst, held])]
  cases fwft : c.fwft with
  | true =>
    rw [if_pos rfl]
    by_cases last : QbX.rLevel { s.qb c.qb with entries := (s.qb c.qb).entries.drop 1, wlag := if c.dual then (s.qb c.qb).wlag + 1 else 0 } = 0
    · rw [if_pos last]
      exact ⟨_, _, rfl, rfl, rfl, nofun⟩
    · rw [if_neg last]
      exact ⟨_, _, rfl, QbX.fall_entries _ _, QbX.fall_udf _ _, nofun⟩
  | false => exact ⟨_, _, rfl, rfl, rfl, fun _ => rfl⟩

theorem State.fifoPop_empty (unfrozen : s.frozen (qbRegion b) = false) (rst : (s.qb b).rRst = false) (empty : (s.qb b).rLevel = 0) :
    s.fifoPop c = s.setQb b { s.qb b with udf := true } := by
  subst number
  unfold State.fifoPop State.qbEmpty
  dsimp only
  rw [if_neg (by simp [unfrozen, rst]), if_pos (by simp [empty])]

theorem State.fifoPop_rst (rst : (s.qb b).rRst = true) : s.fifoPop c = s := by
  subst number
  exact if_pos (by simp [rst])

end

/-! ### The rows of a FIFO block, with the command port behind it (R57) -/

/-- The port whose request block is `b` has taken what it holds. -/
def State.portFed (s : State) (b : Nat) : State :=
  match s.portOf b false with
  | some d => s.portDrain d
  | none => s
/-- The port whose reply block is `b` has filled its room. -/
def State.portRoom (s : State) (b : Nat) : State :=
  match s.portOf b true with
  | some d => s.portFill d
  | none => s

section
variable {qb : Fin 2304} (cfg : s.qbCfg qb = some c)
include cfg

theorem execFifoWrite_pushes {d : DWord} (fifo : c.isFifo = true) (clock : s.clockRuns c.ckA = true) :
    execFifoWrite qb d s = .next ((s.fifoPush c d.toNat).portFed qb) := by
  unfold execFifoWrite
  rw [cfg]
  dsimp only
  rw [if_neg (by simp [fifo, clock]), State.qb_of_qbCfg cfg]
  rfl

theorem execFifoWrite_stopped {d : DWord} (clock : s.clockRuns c.ckA = false) : execFifoWrite qb d s = .next s := by
  unfold execFifoWrite
  rw [cfg]
  exact if_pos (by simp [clock])

theorem execFifoRead_pops (fifo : c.isFifo = true) (clock : s.clockRuns c.ckB = true) :
    execFifoRead qb s = .next ((s.fifoPop c).portRoom qb) := by
  unfold execFifoRead
  rw [cfg]
  dsimp only
  rw [if_neg (by simp [fifo, clock]), State.qb_of_qbCfg cfg]
  rfl

theorem execFifoRead_stopped (clock : s.clockRuns c.ckB = false) : execFifoRead qb s = .next s := by
  unfold execFifoRead
  rw [cfg]
  exact if_pos (by simp [clock])

theorem execQbRst_fifo (fifo : c.isFifo = true) (unfrozen : s.frozen (qbRegion qb) = false) :
    execQbRst qb s = .next (s.setQb qb (s.qb qb).reset) := by
  unfold execQbRst
  rw [cfg]
  dsimp only
  rw [State.qb_of_qbCfg cfg, if_neg (by simp [unfrozen]), if_pos (by simp [fifo]),
    if_neg (by rcases QbCfg.mode_of_isFifo fifo with mode | mode <;> simp [mode])]

theorem execQbRst_handle (mode : c.mode = .handle) (unfrozen : s.frozen (qbRegion qb) = false) :
    execQbRst qb s = .next ((s.setQb qb (s.qb qb).reset).showHq c.hqn) := by
  unfold execQbRst
  rw [cfg]
  dsimp only
  rw [State.qb_of_qbCfg cfg, if_neg (by simp [unfrozen]), if_pos (by simp [mode]), if_pos mode]

theorem execQbRst_ram (mode : c.mode = .ram ∨ c.mode = .ramWide) : execQbRst qb s = .next s := by
  unfold execQbRst
  rw [cfg]
  dsimp only
  rw [if_neg (by rcases mode with mode | mode <;> simp [QbCfg.isFifo, mode] : ¬ (c.isFifo || c.mode == .handle) = true)]
  exact ite_self _

theorem execFifoPointerCross_toWrite (fifo : c.isFifo = true) (unfrozen : s.frozen (qbRegion qb) = false)
    (clock : s.clockRuns c.ckA = true) : execFifoPointerCross qb true s = .next (s.setQb qb { s.qb qb with wlag := 0 }) := by
  unfold execFifoPointerCross
  rw [cfg]
  dsimp only
  rw [State.qb_of_qbCfg cfg, if_neg (by simp [unfrozen, fifo, clock]), if_pos rfl]

theorem execFifoPointerCross_toRead (fifo : c.isFifo = true) (unfrozen : s.frozen (qbRegion qb) = false)
    (clock : s.clockRuns c.ckB = true) :
    execFifoPointerCross qb false s = .next (s.setQb qb (QbX.fall { s.qb qb with rlag := 0 } c)) := by
  unfold execFifoPointerCross
  rw [cfg]
  dsimp only
  rw [State.qb_of_qbCfg cfg, if_neg (by simp [unfrozen, fifo, clock])]
  rfl

end

/-! ### The lanes of a RAM (R238, R240) -/

/-- Consecutive keys written: those read what was written, the others what they held. -/
theorem tget_tputN {α : Type} [DecidableEq α] (d : α) (t : Tab α) (a k : Nat) (vs : List α) :
    tget d (tputN d t a vs) k = if a ≤ k ∧ k < a + vs.length then vs.getD (k - a) d else tget d t k := by
  induction vs generalizing t a with
  | nil => rw [if_neg (by rw [List.length_nil]; omega)]; rfl
  | cons v vs ih =>
    rw [tputN, ih, List.length_cons]
    by_cases here : k = a
    · subst here
      rw [if_neg (by omega), if_pos (by omega), Nat.sub_self, tget_tput_same]
      rfl
    · rw [tget_tput_ne _ _ _ _ here]
      by_cases later : a + 1 ≤ k ∧ k < a + 1 + vs.length
      · rw [if_pos later, if_pos (by omega), show k - a = k - (a + 1) + 1 by omega, List.getD_cons_succ]
      · rw [if_neg later, if_neg (by omega)]

/-- Consecutive keys read, one by one. -/
theorem getD_tgetN {α : Type} (d e : α) (t : Tab α) (a : Nat) {n i : Nat} (inside : i < n) : (tgetN d t a n).getD i e = tget d t (a + i) := by
  induction n generalizing a i with
  | zero => omega
  | succ n ih =>
    cases i with
    | zero => rfl
    | succ i => rw [tgetN, List.getD_cons_succ, ih _ (by omega), Nat.add_assoc, Nat.add_comm 1]

theorem QbX.word_getD (x : QbX) (a : Nat) {k : Nat} (lane : k < c.lanes) : (x.word c a).getD k 0 = tget 0 x.ram (a * c.lanes + k) :=
  getD_tgetN _ _ _ _ lane

/-- Alone at its address a port's byte is stored where it writes the lane. -/
theorem mergeLane_alone (dual : Bool) (pick k old : Nat) (a : Option Nat) : mergeLane dual pick k old a none = a.getD old := by
  cases a <;> rfl

/-- The check bytes of the protected shape stand above its words. -/
theorem QbCfg.lane_below_check (ram : c.mode = .ram ∨ c.mode = .ramWide) (wide : c.prot = true → c.width = 64) (prot : c.prot = true)
    {a k : Nat} (deep : a < c.size) (lane : k < c.lanes) : a * c.lanes + k ≠ 4096 + a := by
  have notHandle : c.mode ≠ .handle := by rcases ram with mode | mode <;> simp [mode]
  simp only [QbCfg.size, if_neg notHandle, prot, if_true] at deep
  simp only [QbCfg.lanes, wide prot] at *
  omega

/-- A write by port A alone: its enabled lanes hold its bytes, the others what they held. -/
theorem QbX.word_ramWrite (x : QbX) {o : RamOp} {k pick : Nat} (ram : c.mode = .ram ∨ c.mode = .ramWide)
    (wide : c.prot = true → c.width = 64) (write : o.write = true) (deep : o.addr < c.size) (lane : k < c.lanes) :
    ((x.ramWrite c (some o) none true pick).word c o.addr).getD k 0 =
      if bit o.be k then bits o.data (8 * k) 8 else (x.word c o.addr).getD k 0 := by
  rw [QbX.word_getD _ _ lane]
  unfold QbX.ramWrite
  dsimp only
  rw [if_neg (by simp [write, deep])]
  dsimp only
  have checked (t : Tab Nat) (v : Nat) :
      tget 0 (if c.prot then tput 0 t (4096 + o.addr) v else t) (o.addr * c.lanes + k) = tget 0 t (o.addr * c.lanes + k) := by
    split
    next prot => exact tget_tput_ne _ _ _ _ (QbCfg.lane_below_check ram wide prot deep lane)
    next => rfl
  rw [checked, tget_tputN, if_pos (by simp [lane]), Nat.add_sub_cancel_left]
  simp only [if_true, mergeLane_alone, RamOp.lane, write, Bool.true_and]
  rw [List.getD_eq_getElem _ _ (by simpa using lane), List.getElem_map, List.getElem_range]
  split <;> rfl

/-- RAM_ACCESS of port A alone that writes: the block's RAM is what the port's write leaves (R238, R239). -/
theorem execRamAccess_writes {qb : Fin 2304} {o : RamOp} (cfg : s.qbCfg qb = some c) (ram : c.mode = .ram ∨ c.mode = .ramWide)
    (clock : s.clockRuns c.ckA = true) (unfrozen : s.frozen (qbRegion qb) = false) (write : o.write = true) :
    ∃ y, execRamAccess qb (some o) none s = .next (s.draw.draw.setQb qb y) ∧
      y.ram = ((s.qb qb).ramWrite c (some o) none true (s.drawn 64)).ram := by
  have same : { o with write := true } = o := by rw [← write]
  unfold execRamAccess
  rw [cfg]
  dsimp only
  rw [State.qb_of_qbCfg cfg, if_pos clock, ite_self, if_neg (by simp [unfrozen])]
  rcases ram with mode | mode
  · rw [mode]
    exact ⟨_, rfl, rfl⟩
  · rw [mode]
    dsimp only
    rw [same]
    exact ⟨_, rfl, rfl⟩

/-! ### The block of a fabric-held queue (R246, R360) -/

theorem State.hqn_of_hqBlock {q : Nat} (block : s.hqBlock q = some c) : c.hqn = q := by
  unfold State.hqBlock at block
  split at block
  · have found := List.find?_some block
    simp only [Bool.and_eq_true, beq_iff_eq] at found
    exact found.2
  · cases block

theorem State.hqTryPush_applies {q h : Nat} (enabled : s.flag (Reg.HQ_CFG_EN q) = true) (handle : h ≠ nullHandle)
    (unfrozen : s.hqFrozen q = false) (room : 0 < s.hqFree q true) : s.hqTryPush q h = some (s.hqApplyPush q h) :=
  if_pos (by simp [enabled, handle, unfrozen, room])

/-- Fabric logic's push of a handle that fits is applied. -/
theorem execHqFabricAccess_pushes {q : Fin 1024} {h : Word} (block : s.hqBlock q = some c) (clock : s.clockRuns c.ckA = true)
    (powered : s.fabricPowered = true) (empty : s.hqHeld q = []) (enabled : s.flag (Reg.HQ_CFG_EN q) = true)
    (handle : h.toNat ≠ nullHandle) (unfrozen : s.hqFrozen q = false) (room : 0 < s.hqFree q true) :
    execHqFabricAccess q (some h) false s = .next (s.hqApplyPush q h.toNat) := by
  have reach := unfrozen
  rw [State.hqFrozen, block] at reach
  simp only [Bool.or_eq_false_iff] at reach
  obtain ⟨⟨wall, wRst⟩, -⟩ := reach
  have pushed : s.hqFabPush c h.toNat = s.hqApplyPush q h.toNat := by
    unfold State.hqFabPush
    rw [State.hqn_of_hqBlock block, State.hqTryPush_applies enabled handle unfrozen room]
    exact if_neg (by simp [wRst])
  unfold execHqFabricAccess
  rw [block]
  dsimp only
  rw [if_neg (by simp [powered, wall]), if_pos empty, if_pos clock, pushed]
  rfl

/-! ### The user I/O banks (R236, R251) -/

theorem execIoBankLoss_loses {bank : Fin 16} (supplied : s.fab.supply.getD bank 4 ≠ 4) : execIoBankLoss bank s =
    .next (if s.castRuns then (s.setSupply bank 4).logEvent 0x0307 bank [] else s.setSupply bank 4) :=
  if_neg supplied

theorem execBankSupplyReturn_returns {bank : Fin 16} {code : Fin 5} (low : 1 ≤ code.val) (high : code.val ≤ 3) :
    execBankSupplyReturn bank code s = .next (s.setSupply bank code) := by
  rw [execBankSupplyReturn, if_pos ⟨low, high⟩]

/-- Settles O33: each row through the lemma of what it finds: the level and the reset of a FIFO's side, the lanes of a RAM, the free slots of a
queue, the supply of a bank. -/
theorem queueBlocksAndBanks : Obligations.QueueBlocksAndBanks := by
  unfold Obligations.QueueBlocksAndBanks
  refine ⟨fun qb c s cfg fifo unfrozen => ?fifo, fun qb c s cfg => execQbRst_handle cfg, fun qb c s cfg => execQbRst_ram cfg,
    fun qb c o s k cfg ram wide clock unfrozen write deep lane => ?ram,
    fun q c h s block clock powered empty enabled handle unfrozen room =>
      execHqFabricAccess_pushes block clock powered empty enabled handle unfrozen room,
    fun bank s supplied => execIoBankLoss_loses supplied, fun bank code s low high => execBankSupplyReturn_returns low high⟩
  case fifo =>
    have number := State.qb_of_qbCfg cfg
    have writes (d : DWord) (clock : s.clockRuns c.ckA = true) {t : State} (push : s.fifoPush c d.toNat = t) :
        exec (.fifoWrite qb d) s = .next (t.portFed qb) := push ▸ execFifoWrite_pushes cfg fifo clock
    have reads (clock : s.clockRuns c.ckB = true) {t : State} (pop : s.fifoPop c = t) :
        exec (.fifoRead qb) s = .next (t.portRoom qb) := pop ▸ execFifoRead_pops cfg fifo clock
    refine ⟨fun d clock rst room => ?stored, fun d clock rst full => writes d clock (State.fifoPush_full number unfrozen rst full),
      fun d clock rst => writes d clock (State.fifoPush_rst number rst), fun d => execFifoWrite_stopped cfg,
      fun clock rst held => ?taken, fun clock rst empty => reads clock (State.fifoPop_empty number unfrozen rst empty),
      fun clock rst => reads clock (State.fifoPop_rst number rst), execFifoRead_stopped cfg,
      execQbRst_fifo cfg fifo unfrozen, execFifoPointerCross_toWrite cfg fifo unfrozen, fun clock => ?crossed⟩
    case stored =>
      obtain ⟨y, push, entries, ovf⟩ := State.fifoPush_stores (v := d.toNat) number unfrozen rst room
      refine ⟨s.setQb qb y, writes d clock push, ?_⟩
      rw [State.qb_setQb_same]
      exact ⟨entries, ovf, rfl⟩
    case taken =>
      obtain ⟨n, y, pop, entries, udf, shown⟩ := State.fifoPop_takes number unfrozen rst held
      refine ⟨State.setQb { s with draws := n } qb y, reads clock pop, ?_⟩
      rw [State.qb_setQb_same]
      exact ⟨entries, udf, shown, rfl⟩
    case crossed => exact ⟨_, execFifoPointerCross_toRead cfg fifo unfrozen clock, by simp, by simp⟩
  case ram =>
    obtain ⟨y, access, stored⟩ := execRamAccess_writes cfg ram clock unfrozen write
    refine ⟨_, access, ?_, rfl⟩
    rw [State.qb_setQb_same, ← QbX.word_ramWrite (s.qb qb) ram wide write deep lane (pick := s.drawn 64), QbX.word, QbX.word, stored]

end Sys2Proof.Machine

/-! SUPPORT. A signal engine's parts: the places of its registers, its record, its banks and ports, and what each operation on them leaves
as it was (chapter 9). -/

namespace Sys2Proof.Machine

/-! ### Where the registers of an engine stand (Table SIG-6) -/

/-- A field at bit `l` of the word at `a` of engine 0's window stands a window's length further for each engine before its own. -/
theorem key_engWindow (e a l w r : Nat) : (Fld.mk (a + e * 0x8000) l w r).key = e * 0x100000 + (a * 32 + l) := by
  simp only [Fld.key]
  omega

section
variable (e : Nat)

@[simp] theorem key_engCtrlPc : (Reg.ENG_CTRL_PC e).key = e * 0x100000 + (0x1C06000 * 32 + 16) := key_engWindow _ _ _ _ _
@[simp] theorem key_engFault : (Reg.ENG_STAT_FAULT e).key = e * 0x100000 + (0x1C06004 * 32 + 28) := key_engWindow _ _ _ _ _
@[simp] theorem key_engOvf : (Reg.ENG_STAT_OVF e).key = e * 0x100000 + (0x1C06004 * 32 + 24) := key_engWindow _ _ _ _ _
@[simp] theorem key_engBdepth : (Reg.ENG_STAT_BDEPTH e).key = e * 0x100000 + (0x1C06004 * 32 + 22) := key_engWindow _ _ _ _ _
@[simp] theorem key_engIntr : (Reg.ENG_STAT_INTR e).key = e * 0x100000 + (0x1C06004 * 32 + 20) := key_engWindow _ _ _ _ _
@[simp] theorem key_engRpt : (Reg.ENG_STAT_RPT e).key = e * 0x100000 + (0x1C06004 * 32 + 19) := key_engWindow _ _ _ _ _
@[simp] theorem key_engRun : (Reg.ENG_STAT_RUN e).key = e * 0x100000 + (0x1C06004 * 32 + 18) := key_engWindow _ _ _ _ _
@[simp] theorem key_engPc : (Reg.ENG_STAT_PC e).key = e * 0x100000 + 0x1C06004 * 32 := key_engWindow _ _ _ _ _
@[simp] theorem key_engIen : (Reg.ENG_EVT_IEN e).key = e * 0x100000 + (0x1C06008 * 32 + 8) := key_engWindow _ _ _ _ _
@[simp] theorem key_engPend : (Reg.ENG_EVT_PEND e).key = e * 0x100000 + 0x1C06008 * 32 := key_engWindow _ _ _ _ _
@[simp] theorem key_engIpc : (Reg.ENG_IPC_IPC e).key = e * 0x100000 + 0x1C0600C * 32 := key_engWindow _ _ _ _ _
@[simp] theorem key_engCycles : (Reg.ENG_CYC_CYCLES e).key = e * 0x100000 + 0x1C06010 * 32 := key_engWindow _ _ _ _ _

end

variable {s t u : State} {e : Nat} {fs : List Fld}

/-! ### An engine's record -/

namespace State

@[simp] theorem ex_setEx_same (s : State) (e : Nat) (x : EngX) : (s.setEx e x).ex e = x := tget_tput_same _ _ _ _
theorem ex_setEx_ne (s : State) {e f : Nat} (x : EngX) (h : f ≠ e) : (s.setEx e x).ex f = s.ex f := tget_tput_ne _ _ _ _ h
@[simp] theorem ex_put (s : State) (f : Fld) (v e : Nat) : (s.put f v).ex e = s.ex e := rfl
@[simp] theorem ex_draw (s : State) (e : Nat) : s.draw.ex e = s.ex e := rfl
@[simp] theorem ex_engCycles (s : State) (e n f : Nat) : (s.engCycles e n).ex f = s.ex f := rfl
@[simp] theorem get_setEx (s : State) (e : Nat) (x : EngX) (f : Fld) : (s.setEx e x).get f = s.get f := rfl
@[simp] theorem setEx_win (s : State) (e : Nat) (x : EngX) : (s.setEx e x).win = s.win := rfl
@[simp] theorem setEx_fab (s : State) (e : Nat) (x : EngX) : (s.setEx e x).fab = s.fab := rfl
@[simp] theorem setEx_hq (s : State) (e : Nat) (x : EngX) : (s.setEx e x).hq = s.hq := rfl

@[simp] theorem ex_addOvf (s : State) (e : Nat) (l : List (Nat × Bool)) (f : Nat) : (s.addOvf e l).ex f = s.ex f := rfl
@[simp] theorem addOvf_win (s : State) (e : Nat) (l : List (Nat × Bool)) : (s.addOvf e l).win = s.win := rfl
@[simp] theorem addOvf_fab (s : State) (e : Nat) (l : List (Nat × Bool)) : (s.addOvf e l).fab = s.fab := rfl

end State

/-! ### What an instruction may change -/

theorem engFrame_refl (e : Nat) (fs : List Fld) (s : State) : EngFrame e fs s s := ⟨regsBut_refl fs s, fun _ _ => rfl, rfl⟩

theorem engFrame_trans (h : EngFrame e fs s t) (k : EngFrame e fs t u) : EngFrame e fs s u := by
  obtain ⟨hr, hx, ht⟩ := h
  obtain ⟨kr, kx, ku⟩ := k
  exact ⟨regsBut_trans hr kr, fun f ne => (kx f ne).trans (hx f ne), ku.trans (by rw [ht])⟩

/-- A longer list of fields that may change is the weaker statement. -/
theorem engFrame_mono {gs : List Fld} (h : EngFrame e fs s t) (sub : fs ⊆ gs) : EngFrame e gs s t := ⟨regsBut_mono h.1 sub, h.2⟩

theorem get_of_engFrame (h : EngFrame e fs s t) {f : Fld} (out : ∀ g ∈ fs, g.key ≠ f.key) : t.get f = s.get f := get_of_regsBut h.1 out

theorem engFrame_put (h : EngFrame e fs s t) {f : Fld} (v : Nat) (mem : f ∈ fs) : EngFrame e fs s (t.put f v) :=
  engFrame_trans h ⟨regsBut_put (regsBut_refl _ _) v mem, fun _ _ => rfl, rfl⟩

theorem engFrame_setEx (h : EngFrame e fs s t) (x : EngX) : EngFrame e fs s (t.setEx e x) :=
  engFrame_trans h ⟨regsBut_refl _ _, fun _ ne => t.ex_setEx_ne x ne, rfl⟩

theorem engFrame_win (h : EngFrame e fs s t) (w : Tab Nat) : EngFrame e fs s { t with win := w } :=
  engFrame_trans h ⟨regsBut_refl _ _, fun _ _ => rfl, rfl⟩

theorem engFrame_ports (h : EngFrame e fs s t) (f : FabUnit) (d : Nat) : EngFrame e fs s { t with fab := f, draws := d } :=
  engFrame_trans h ⟨regsBut_refl _ _, fun _ _ => rfl, rfl⟩

theorem hq_of_engFrame (h : EngFrame e fs s t) : t.hq = s.hq := by
  obtain ⟨-, -, shape⟩ := h
  rw [shape]

/-! ### Post-modification (R257) -/

/-- A generator after an access: P moved by M where the instruction asks for it. -/
def Ag.post (g : Ag) (u : Bool) : Ag := if u then g.step g.m else g
/-- An engine's record after an access through generator `k`. -/
def EngX.post (x : EngX) (k : Nat) (u : Bool) : EngX := { x with ag0 := x.ag0.post (k == 0 && u), ag1 := x.ag1.post (k == 1 && u) }

namespace State

theorem ex_agPost {k : Nat} (bank : k < 2) (s : State) (e : Nat) (u : Bool) : (s.agPost e k u).ex e = (s.ex e).post k u := by
  obtain rfl | rfl : k = 0 ∨ k = 1 := by omega
  all_goals cases u <;> simp [agPost, EngX.post, Ag.post, EngX.setAg, EngX.ag]

end State

/-! ### The banks (R253) -/

namespace State

/-- Elements written to a bank change window memory and nothing else. -/
theorem setElems_win (e bank : Nat) (l : List (Nat × Int)) (s : State) :
    ∃ w, l.foldl (fun s p => s.setElem e bank p.1 p.2) s = { s with win := w } := by
  induction l generalizing s with
  | nil => exact ⟨_, rfl⟩
  | cons p l ih =>
    obtain ⟨w, hw⟩ := ih (s.setElem e bank p.1 p.2)
    exact ⟨w, hw⟩

/-- What elements written make of window memory depends on it alone. -/
theorem setElems_congr (e bank : Nat) (l : List (Nat × Int)) {s t : State} (win : t.win = s.win) :
    (l.foldl (fun s p => s.setElem e bank p.1 p.2) t).win = (l.foldl (fun s p => s.setElem e bank p.1 p.2) s).win := by
  induction l generalizing s t with
  | nil => exact win
  | cons p l ih =>
    refine ih ?_
    simp only [setElem, wput, wget, win]

theorem writeVec_shape (s : State) (e bank : Nat) (vs : List Int) :
    ∃ w r, s.writeVec e bank vs = State.setEx { s with win := w } e { s.ex e with recent := r } := by
  unfold writeVec
  dsimp only
  obtain ⟨w, hw⟩ := setElems_win e bank (((List.range vs.length).map ((s.ex e).ag bank).addr).zip vs) s
  rw [hw]
  exact ⟨w, _, rfl⟩

theorem writeVec_congr (e bank : Nat) (vs : List Int) {s t : State} (win : t.win = s.win) (ag : (t.ex e).ag bank = (s.ex e).ag bank) :
    (t.writeVec e bank vs).win = (s.writeVec e bank vs).win := by
  unfold writeVec
  dsimp only [setEx_win]
  rw [ag]
  exact setElems_congr e bank _ win

end State

/-! ### The ports (R268) -/

namespace State

/-- A queue block read changes the fabric and the counter of free values, and does not look at the engines. -/
theorem fifoPop_shape (s : State) (c : QbCfg) : ∃ f d, s.fifoPop c = { s with fab := f, draws := d } := by
  have either (p : Prop) [Decidable p] {t u : State} (ht : ∃ f d, t = { s with fab := f, draws := d })
      (hu : ∃ f d, u = { s with fab := f, draws := d }) : ∃ f d, (if p then t else u) = { s with fab := f, draws := d } := by
    split
    · exact ht
    · exact hu
  exact either _ ⟨_, _, rfl⟩ (either _ ⟨_, _, rfl⟩ (either _ (either _ ⟨_, _, rfl⟩ ⟨_, _, rfl⟩) ⟨_, _, rfl⟩))

theorem takeIn_shape (s : State) (e : Nat) : ∃ f d, (s.takeIn e).1 = { s with fab := f, draws := d } := by
  unfold takeIn
  split
  · exact s.fifoPop_shape _
  · exact ⟨_, _, rfl⟩

theorem putOut_shape (s : State) (e : Nat) (vs : List Int) : ∃ f d, s.putOut e vs = { s with fab := f, draws := d } := by
  unfold putOut
  split
  · dsimp only
    split
    · obtain ⟨f, h⟩ := s.draw.fifoPush_fab _ _
      exact ⟨f, _, h⟩
    · obtain ⟨f, h⟩ := s.fifoPush_fab _ _
      exact ⟨f, _, h⟩
  · exact ⟨_, _, rfl⟩

theorem fifoPop_setEx (s : State) (e : Nat) (x : EngX) (c : QbCfg) : (s.setEx e x).fifoPop c = (s.fifoPop c).setEx e x := by
  unfold fifoPop
  simp only [apply_ite (fun v : State => v.setEx e x)]
  rfl

theorem takeIn_setEx (s : State) (e : Nat) (x : EngX) (k : Nat) : (s.setEx e x).takeIn k = ((s.takeIn k).1.setEx e x, (s.takeIn k).2) := by
  have block : (s.setEx e x).portBlock (s.setEx e x).fab.pers.inQb k = s.portBlock s.fab.pers.inQb k := rfl
  unfold takeIn
  rw [block]
  split
  · rw [fifoPop_setEx]
    rfl
  · rfl

/-- What a push makes of the fabric rests on the fabric and the walls. -/
theorem fifoPush_congr {s t : State} (fab : t.fab = s.fab) (walls : t.get Reg.CWALL_MASK = s.get Reg.CWALL_MASK) (c : QbCfg) (v : Nat) :
    (t.fifoPush c v).fab = (s.fifoPush c v).fab := by
  unfold fifoPush qbFull frozen qb setQb
  rw [fab, walls]
  dsimp only
  split
  · exact fab
  · split <;> rfl

/-- What a write of OUT makes of the fabric rests on the fabric, the walls, a released cast and the free value at hand. -/
theorem putOut_congr {s t : State} (fab : t.fab = s.fab) (walls : t.get Reg.CWALL_MASK = s.get Reg.CWALL_MASK)
    (cast : t.castRuns = s.castRuns) (draws : t.draws = s.draws) (e : Nat) (vs : List Int) : (t.putOut e vs).fab = (s.putOut e vs).fab := by
  have block : t.portBlock t.fab.pers.outQb e = s.portBlock s.fab.pers.outQb e := by
    unfold portBlock qbCfg
    rw [fab, cast]
  have drawn : t.drawn 64 = s.drawn 64 := by rw [drawn, drawn, draws]
  unfold putOut
  rw [block, drawn]
  split
  · refine fifoPush_congr ?_ ?_ _ _
    · split <;> exact fab
    · split <;> exact walls
  · exact fab

end State

end Sys2Proof.Machine

/-! SUPPORT. The sequencer of a signal engine: an engine at rest at an instruction, what moves it past the instruction, and the rows of the
data instructions (R258–R262). -/

namespace Sys2Proof.Machine

variable {s t u : State} {e : Nat} {fs : List Fld}

/-! ### Only the sequencer moves -/

/-- From `s` to `t` only the sequencer of engine `e` moved: PC, the cycles, the block levels, the repeat and the age of elements written. -/
structure EngMoved (e : Nat) (s t : State) : Prop where
  frame : EngFrame e (engAt e) s t
  win : t.win = s.win
  fab : t.fab = s.fab
  shape : ∃ b r l, t.ex e = { s.ex e with blocks := b, rpt := r, recent := l }

theorem engMoved_refl (e : Nat) (s : State) : EngMoved e s s := ⟨engFrame_refl _ _ _, rfl, rfl, _, _, _, rfl⟩

namespace EngMoved

theorem trans (h : EngMoved e s t) (k : EngMoved e t u) : EngMoved e s u := by
  obtain ⟨hf, hw, hb, _, _, _, hx⟩ := h
  obtain ⟨kf, kw, kb, b, r, l, kx⟩ := k
  exact ⟨engFrame_trans hf kf, kw.trans hw, kb.trans hb, b, r, l, by rw [kx, hx]⟩

theorem put (h : EngMoved e s t) {f : Fld} (v : Nat) (mem : f ∈ engAt e) : EngMoved e s (t.put f v) :=
  h.trans ⟨engFrame_put (engFrame_refl _ _ _) v mem, rfl, rfl, _, _, _, rfl⟩

theorem setEx (h : EngMoved e s t) (b : List EngBlk) (r : Nat) (l : List (List (Nat × Nat × Int))) :
    EngMoved e s (t.setEx e { t.ex e with blocks := b, rpt := r, recent := l }) :=
  h.trans ⟨engFrame_setEx (engFrame_refl _ _ _) _, rfl, rfl, b, r, l, State.ex_setEx_same _ _ _⟩

theorem age (h : EngMoved e s t) : EngMoved e s (t.engAge e) := h.setEx _ _ _
theorem cycles (h : EngMoved e s t) (n : Nat) : EngMoved e s (t.engCycles e n) := h.put _ (by simp [engAt])
theorem setBlocks (h : EngMoved e s t) (l : List EngBlk) : EngMoved e s (t.setBlocks e l) := (h.setEx l _ _).put _ (by simp [engAt])
theorem setPc (h : EngMoved e s t) (v : Nat) : EngMoved e s (t.put (Reg.ENG_STAT_PC e) v) := h.put _ (by simp [engAt])
theorem step (h : EngMoved e s t) : EngMoved e s (t.engStep e) := (h.setBlocks _).setPc _

theorem get (h : EngMoved e s t) {f : Fld} (out : ∀ g ∈ engAt e, g.key ≠ f.key) : t.get f = s.get f := get_of_engFrame h.frame out

end EngMoved

/-! ### The parts of the engine that the sequencer leaves -/

section
variable (h : EngMoved e s t)
include h

theorem EngMoved.record {α : Type} (part : EngX → α) (kept : ∀ x b r l, part { x with blocks := b, rpt := r, recent := l } = part x) :
    part (t.ex e) = part (s.ex e) := by
  obtain ⟨b, r, l, moved⟩ := h.shape
  rw [moved, kept]

theorem EngMoved.acc : (t.ex e).acc = (s.ex e).acc := h.record EngX.acc fun _ _ _ _ => rfl
theorem EngMoved.xr : (t.ex e).xr = (s.ex e).xr := h.record EngX.xr fun _ _ _ _ => rfl
theorem EngMoved.yr : (t.ex e).yr = (s.ex e).yr := h.record EngX.yr fun _ _ _ _ => rfl
theorem EngMoved.ag0 : (t.ex e).ag0 = (s.ex e).ag0 := h.record EngX.ag0 fun _ _ _ _ => rfl
theorem EngMoved.ag1 : (t.ex e).ag1 = (s.ex e).ag1 := h.record EngX.ag1 fun _ _ _ _ => rfl
theorem EngMoved.ag (k : Nat) : (t.ex e).ag k = (s.ex e).ag k := h.record (EngX.ag · k) fun _ _ _ _ => rfl
theorem EngMoved.hr : (t.ex e).hr = (s.ex e).hr := h.record EngX.hr fun _ _ _ _ => rfl
theorem EngMoved.eo : (t.ex e).eo = (s.ex e).eo := h.record EngX.eo fun _ _ _ _ => rfl
theorem EngMoved.stall : (t.ex e).stall = (s.ex e).stall := h.record EngX.stall fun _ _ _ _ => rfl
theorem EngMoved.halt : (t.ex e).haltReq = (s.ex e).haltReq := h.record EngX.haltReq fun _ _ _ _ => rfl
theorem EngMoved.due : t.engDue e = s.engDue e := by
  unfold State.engDue
  rw [h.get (by simp [engAt]), h.get (by simp [engAt])]
theorem EngMoved.ovf (k : Nat) : bit (t.get (Reg.ENG_STAT_OVF e)) k = bit (s.get (Reg.ENG_STAT_OVF e)) k := by rw [h.get (by simp [engAt])]

end

/-! ### What the sequencer's operations show -/

namespace State

@[simp] theorem ex_engAge (s : State) (e : Nat) : (s.engAge e).ex e = { s.ex e with recent := [] :: (s.ex e).recent.take 2 } := ex_setEx_same _ _ _
@[simp] theorem get_engAge (s : State) (e : Nat) (f : Fld) : (s.engAge e).get f = s.get f := rfl
@[simp] theorem engAge_win (s : State) (e : Nat) : (s.engAge e).win = s.win := rfl
@[simp] theorem engAge_fab (s : State) (e : Nat) : (s.engAge e).fab = s.fab := rfl
@[simp] theorem ex_setBlocks (s : State) (e : Nat) (l : List EngBlk) : (s.setBlocks e l).ex e = { s.ex e with blocks := l } := ex_setEx_same _ _ _
theorem get_setBlocks (s : State) (l : List EngBlk) {f : Fld} (out : f.key ≠ (Reg.ENG_STAT_BDEPTH e).key) : (s.setBlocks e l).get f = s.get f :=
  State.get_put_ne _ _ out
@[simp] theorem get_engCycles_same (s : State) (e n : Nat) :
    (s.engCycles e n).get (Reg.ENG_CYC_CYCLES e) = (s.get (Reg.ENG_CYC_CYCLES e) + n) % 2 ^ 64 := State.get_put_same _ _ _
theorem get_engCycles_ne (s : State) (n : Nat) {f : Fld} (out : f.key ≠ (Reg.ENG_CYC_CYCLES e).key) : (s.engCycles e n).get f = s.get f :=
  State.get_put_ne _ _ out
@[simp] theorem get_setPc_same (s : State) (e v : Nat) : (s.put (Reg.ENG_STAT_PC e) v).get (Reg.ENG_STAT_PC e) = v % 2048 := State.get_put_same _ _ _
@[simp] theorem ex_engStep (s : State) (e : Nat) :
    (s.engStep e).ex e = { s.ex e with blocks := (blkNext (s.ex e).blocks.reverse (s.get (Reg.ENG_STAT_PC e))).1.reverse } := ex_setBlocks _ _ _
@[simp] theorem get_engStep_pc (s : State) (e : Nat) :
    (s.engStep e).get (Reg.ENG_STAT_PC e) = (blkNext (s.ex e).blocks.reverse (s.get (Reg.ENG_STAT_PC e))).2 % 2048 := State.get_put_same _ _ _
theorem get_engStep_ne (s : State) {f : Fld} (pc : f.key ≠ (Reg.ENG_STAT_PC e).key) (depth : f.key ≠ (Reg.ENG_STAT_BDEPTH e).key) :
    (s.engStep e).get f = s.get f := (State.get_put_ne _ _ pc).trans (State.get_put_ne _ _ depth)

/-- A boundary with nothing asked for and no enabled event pending is passed. -/
theorem engBoundary_quiet (quiet : (s.ex e).haltReq = false) (due : s.engDue e = 0) : s.engBoundary e = s := by
  unfold engBoundary
  dsimp only
  rw [quiet, due]
  simp

/-- An instruction that is done at rest has its cycles counted. -/
theorem engDone_moved (h : EngMoved e s t) (quiet : (s.ex e).haltReq = false) (due : s.engDue e = 0) (n : Nat) : t.engDone e n = t.engCycles e n := by
  have past := h.cycles n
  exact engBoundary_quiet (past.halt.trans quiet) (past.due.trans due)

/-- One issue of a repeat counted. -/
def rptCounted (s : State) (e : Nat) : State :=
  (s.setEx e { s.ex e with rpt := (s.ex e).rpt - 1 }).put (Reg.ENG_STAT_RPT e) (b2n ((s.ex e).rpt != 1))

theorem engDataDone_once (once : (s.ex e).rpt = 0) : s.engDataDone e = (s.engStep e).engDone e 1 := if_pos once
theorem engDataDone_repeats (more : (s.ex e).rpt ≠ 0) : s.engDataDone e =
    if (s.ex e).rpt = 1 then ((s.rptCounted e).engStep e).engDone e 1 else (s.rptCounted e).engCycles e 1 := if_neg more

end State

/-- The step past an instruction, from a state whose sequencer stands as it stood before the instruction. -/
theorem engPast_step {n : Nat} (blocks : (t.ex e).blocks = (s.ex e).blocks) (pc : t.get (Reg.ENG_STAT_PC e) = s.get (Reg.ENG_STAT_PC e))
    (cycles : t.get (Reg.ENG_CYC_CYCLES e) = s.get (Reg.ENG_CYC_CYCLES e)) (last : (s.ex e).rpt ≤ 1) (ended : (t.ex e).rpt = 0) :
    EngPast e n s ((t.engStep e).engCycles e n) := by
  refine ⟨?_, ?_⟩
  · rw [State.get_engCycles_same, State.get_engStep_ne _ (by simp) (by simp), cycles]
  · rw [if_pos last, State.ex_engCycles, State.ex_engStep, State.get_engCycles_ne _ _ (by simp), State.get_engStep_pc, blocks, pc]
    exact ⟨rfl, rfl, ended⟩

/-! ### An engine at rest at its instruction -/

/-- From `s` to `t` the engine stayed at its instruction, at rest: the sequencer stands as it stood, no halt is asked for and no enabled event is
pending; only the fields `fs` changed beside the engine, its banks and the fabric. -/
structure EngStands (e : Nat) (fs : List Fld) (s t : State) : Prop where
  frame : EngFrame e fs s t
  blocks : (t.ex e).blocks = (s.ex e).blocks
  rpt : (t.ex e).rpt = (s.ex e).rpt
  quiet : (t.ex e).haltReq = false
  pc : t.get (Reg.ENG_STAT_PC e) = s.get (Reg.ENG_STAT_PC e)
  cycles : t.get (Reg.ENG_CYC_CYCLES e) = s.get (Reg.ENG_CYC_CYCLES e)
  due : t.engDue e = 0

/-- The place of none of the registers that tell where an engine stands or what is due to it. -/
def EngAside (e : Nat) (f : Fld) : Prop :=
  f.key ≠ (Reg.ENG_STAT_PC e).key ∧ f.key ≠ (Reg.ENG_CYC_CYCLES e).key ∧
    f.key ≠ (Reg.ENG_EVT_PEND e).key ∧ f.key ≠ (Reg.ENG_EVT_IEN e).key

theorem engStands_refl (quiet : (s.ex e).haltReq = false) (due : s.engDue e = 0) (fs : List Fld) : EngStands e fs s s :=
  ⟨engFrame_refl _ _ _, rfl, rfl, quiet, rfl, rfl, due⟩

namespace EngStands

theorem put (h : EngStands e fs s t) {f : Fld} (v : Nat) (mem : f ∈ fs) (aside : EngAside e f) : EngStands e fs s (t.put f v) := by
  obtain ⟨pc, cycles, pend, ien⟩ := aside
  refine ⟨engFrame_put h.frame v mem, h.blocks, h.rpt, h.quiet,
    (t.get_put_ne v pc.symm).trans h.pc, (t.get_put_ne v cycles.symm).trans h.cycles, ?_⟩
  have due := h.due
  unfold State.engDue at due ⊢
  rwa [t.get_put_ne v pend.symm, t.get_put_ne v ien.symm]

theorem setEx (h : EngStands e fs s t) {x : EngX} (blocks : x.blocks = (t.ex e).blocks) (rpt : x.rpt = (t.ex e).rpt)
    (halt : x.haltReq = (t.ex e).haltReq) : EngStands e fs s (t.setEx e x) := by
  refine ⟨engFrame_setEx h.frame x, ?_, ?_, ?_, h.pc, h.cycles, h.due⟩ <;> rw [State.ex_setEx_same]
  · exact blocks.trans h.blocks
  · exact rpt.trans h.rpt
  · exact halt.trans h.quiet

theorem win (h : EngStands e fs s t) (w : Tab Nat) : EngStands e fs s { t with win := w } :=
  ⟨engFrame_win h.frame w, h.blocks, h.rpt, h.quiet, h.pc, h.cycles, h.due⟩

theorem ports (h : EngStands e fs s t) (f : FabUnit) (d : Nat) : EngStands e fs s { t with fab := f, draws := d } :=
  ⟨engFrame_ports h.frame f d, h.blocks, h.rpt, h.quiet, h.pc, h.cycles, h.due⟩

theorem age (h : EngStands e fs s t) : EngStands e fs s (t.engAge e) := h.setEx rfl rfl rfl

/-- What stood at its instruction, and then had its sequencer moved, changed no more than the two together. -/
theorem frame_moved (h : EngStands e fs s t) (k : EngMoved e t u) : EngFrame e (fs ++ engAt e) s u :=
  engFrame_trans (engFrame_mono h.frame (by simp)) (engFrame_mono k.frame (by simp))

/-- An issue of a repeat counted leaves the engine at its instruction. -/
theorem countedDown (h : EngStands e fs s t) : EngMoved e t (t.rptCounted e) ∧ ((t.rptCounted e).ex e).blocks = (s.ex e).blocks ∧
    ((t.rptCounted e).ex e).rpt = (t.ex e).rpt - 1 ∧ ((t.rptCounted e).ex e).haltReq = false ∧
    (t.rptCounted e).get (Reg.ENG_STAT_PC e) = s.get (Reg.ENG_STAT_PC e) ∧
    (t.rptCounted e).get (Reg.ENG_CYC_CYCLES e) = s.get (Reg.ENG_CYC_CYCLES e) ∧ (t.rptCounted e).engDue e = 0 := by
  have moved : EngMoved e t (t.rptCounted e) := ((engMoved_refl e t).setEx _ _ _).put _ (by simp [engAt])
  have shown (f : Fld) (out : f.key ≠ (Reg.ENG_STAT_RPT e).key) : (t.rptCounted e).get f = t.get f := State.get_put_ne _ _ out
  have counted : (t.rptCounted e).ex e = { t.ex e with rpt := (t.ex e).rpt - 1 } := State.ex_setEx_same _ _ _
  have due : (t.rptCounted e).engDue e = t.engDue e := by
    unfold State.engDue
    rw [shown _ (by simp), shown _ (by simp)]
  rw [counted, shown _ (by simp), shown _ (by simp), due]
  exact ⟨moved, h.blocks, rfl, h.quiet, h.pc, h.cycles, h.due⟩

/-- An instruction that is no data instruction is done: the engine stands past it. -/
theorem done (h : EngStands e fs s t) (once : (s.ex e).rpt = 0) (n : Nat) :
    EngPast e n s ((t.engStep e).engDone e n) ∧ EngMoved e t ((t.engStep e).engDone e n) ∧
      EngFrame e (fs ++ engAt e) s ((t.engStep e).engDone e n) := by
  rw [State.engDone_moved (engMoved_refl e t).step h.quiet h.due]
  have moved : EngMoved e t ((t.engStep e).engCycles e n) := (engMoved_refl e t).step.cycles n
  exact ⟨engPast_step h.blocks h.pc h.cycles (by omega) (h.rpt.trans once), moved, h.frame_moved moved⟩

/-- A data instruction is done: the engine stands past it, or at it again under RPT (R260). -/
theorem dataDone (h : EngStands e fs s t) :
    EngPast e 1 s (t.engDataDone e) ∧ EngMoved e t (t.engDataDone e) ∧ EngFrame e (fs ++ engAt e) s (t.engDataDone e) := by
  by_cases once : (t.ex e).rpt = 0
  · rw [State.engDataDone_once once]
    exact h.done (h.rpt.symm.trans once) 1
  · rw [State.engDataDone_repeats once]
    obtain ⟨moved, blocks, rpt, quiet, pc, cycles, due⟩ := h.countedDown
    split
    case isTrue last =>
      rw [State.engDone_moved (engMoved_refl e _).step quiet due]
      have past : EngPast e 1 s ((t.rptCounted e).engStep e |>.engCycles e 1) :=
        engPast_step blocks pc cycles (by rw [← h.rpt]; omega) (by rw [rpt]; omega)
      exact ⟨past, (moved.step).cycles 1, h.frame_moved ((moved.step).cycles 1)⟩
    case isFalse more =>
      refine ⟨⟨?_, ?_⟩, moved.cycles 1, h.frame_moved (moved.cycles 1)⟩
      · rw [State.get_engCycles_same, cycles]
      · rw [if_neg (by rw [← h.rpt]; omega), State.ex_engCycles, State.get_engCycles_ne _ _ (by simp), rpt, h.rpt]
        exact ⟨blocks, pc, rfl⟩

end EngStands

end Sys2Proof.Machine

/-! SUPPORT. The data instructions of a signal engine: limits and overflow, the operands, and what each instruction makes of the engine, its
banks and its ports (R254–R258). -/

namespace Sys2Proof.Machine

variable {s t u : State} {e w : Nat} {fs : List Fld}

/-! ### Limits and overflow (R254, R255) -/

theorem satS_eq_limTo (w : Nat) (i : Int) : satS w i = limTo w i := by
  have positive : (0 : Int) < 2 ^ (w - 1) := by positivity
  unfold satS limTo
  push_cast
  split
  · omega
  · split <;> omega

theorem sgn_unsgn {w : Nat} (pos : 0 < w) (i : Int) : sgn w (unsgn w i) = wrapTo w i := by
  obtain ⟨n, rfl⟩ : ∃ n, w = n + 1 := ⟨w - 1, by omega⟩
  have half : (2 : Int) ^ (n + 1) = 2 * 2 ^ n := by ring
  have positive : (0 : Int) < 2 ^ n := by positivity
  have low : 0 ≤ i % (2 * 2 ^ n) := Int.emod_nonneg _ (by omega)
  have high : i % (2 * 2 ^ n) < 2 * 2 ^ n := Int.emod_lt_of_pos _ (by omega)
  have cast : ((unsgn (n + 1) i : Nat) : Int) = i % (2 * 2 ^ n) := by
    unfold unsgn
    push_cast
    rw [half, Int.toNat_of_nonneg low]
  have width : ((2 ^ (n + 1) : Nat) : Int) = 2 * 2 ^ n := by push_cast; exact half
  have fits : unsgn (n + 1) i < 2 ^ (n + 1) := by omega
  unfold sgn wrapTo
  dsimp only
  rw [Nat.mod_eq_of_lt fits, Nat.add_sub_cancel, half, ← Int.emod_add_emod]
  generalize i % (2 * 2 ^ n) = r at *
  split
  · rw [Int.emod_eq_of_lt (by omega) (by omega)]
    omega
  · have wrapped : r + 2 ^ n = r - 2 ^ n + 2 * 2 ^ n := by omega
    rw [wrapped, Int.add_emod_right, Int.emod_eq_of_lt (by omega) (by omega)]
    omega

/-- The limit of an accumulation: clamped to 32 bits with SAT, wrapped at 40 without. -/
def engLim (sat : Bool) (i : Int) : Int := if sat then limTo 32 i else wrapTo 40 i

theorem accLimit_eq (sat : Bool) (i : Int) : accLimit sat i = (engLim sat i, engLim sat i != i) := by
  have limit : (if sat then satS 32 i else sgn 40 (unsgn 40 i)) = engLim sat i := by
    rw [satS_eq_limTo, sgn_unsgn (by decide)]
    rfl
  simp only [accLimit, limit, bne, decide_not]
  rfl

/-- An accumulator rounded half up and shifted, and the element cut or clamped from it. -/
def extShifted (sh : Nat) (z : Int) : Int := if sh = 0 then z else (z + 2 ^ (sh - 1)) / 2 ^ sh
def extLim (sat : Bool) (v : Int) : Int := if sat then limTo 16 v else wrapTo 16 v

theorem extract_eq (sat : Bool) (sh : Nat) (z : Int) :
    extract sat sh z = (extLim sat (extShifted sh z), extLim sat (extShifted sh z) != extShifted sh z) := by
  have limit (v : Int) : (if sat then satS 16 v else sgn 16 (unsgn 16 v)) = extLim sat v := by
    rw [satS_eq_limTo, sgn_unsgn (by decide)]
    rfl
  simp only [extract, limit, bne, decide_not]
  rfl

theorem testBit_ovfBits (old : Nat) (l : List (Nat × Bool)) (k : Nat) :
    (ovfBits old l).testBit k = (old.testBit k || l.any (fun o => o.1 == k && o.2)) := by
  induction l generalizing old with
  | nil => simp [ovfBits]
  | cons o l ih =>
    have step : (ovfBits old (o :: l)) = ovfBits (if o.2 then old ||| 2 ^ o.1 else old) l := rfl
    rw [step, ih, List.any_cons]
    cases o.2 <;> simp [Nat.testBit_or, Nat.testBit_two_pow, Bool.or_assoc, beq_eq_decide]

/-- A slice's OVF bit after an instruction: set before, or set by the slice's overflow. -/
theorem State.ovf_addOvf (s : State) (e : Nat) (l : List (Nat × Bool)) {k : Nat} (slice : k < 4) :
    bit ((s.addOvf e l).get (Reg.ENG_STAT_OVF e)) k = (bit (s.get (Reg.ENG_STAT_OVF e)) k || l.any (fun o => o.1 == k && o.2)) := by
  have shown : (s.addOvf e l).get (Reg.ENG_STAT_OVF e) = ovfBits (s.get (Reg.ENG_STAT_OVF e)) l % 2 ^ 4 := State.get_put_same _ _ _
  rw [shown, bit_eq_testBit, bit_eq_testBit, Nat.testBit_mod_two_pow, decide_eq_true slice, Bool.true_and, testBit_ovfBits]

/-! ### Operations of a data instruction -/

namespace State

/-- The entry of IN that a word takes, and the state without it. -/
def inTaken (s : State) (e w : Nat) : State × List Int := if usesIn w then s.takeIn e else (s, [0, 0, 0, 0])

theorem inTaken_shape (s : State) (e w : Nat) : ∃ f d, (s.inTaken e w).1 = { s with fab := f, draws := d } := by
  unfold inTaken
  split
  · exact s.takeIn_shape e
  · exact ⟨_, _, rfl⟩

@[simp] theorem ex_inTaken (s : State) (e w f : Nat) : (s.inTaken e w).1.ex f = s.ex f := by
  obtain ⟨_, _, h⟩ := s.inTaken_shape e w
  rw [h]
  rfl
@[simp] theorem inTaken_win (s : State) (e w : Nat) : (s.inTaken e w).1.win = s.win := by
  obtain ⟨_, _, h⟩ := s.inTaken_shape e w
  rw [h]
@[simp] theorem get_inTaken (s : State) (e w : Nat) (f : Fld) : (s.inTaken e w).1.get f = s.get f := by
  obtain ⟨_, _, h⟩ := s.inTaken_shape e w
  rw [h]
  rfl
theorem inTaken_engAge (s : State) (e w : Nat) : (s.engAge e).inTaken e w = ((s.inTaken e w).1.engAge e, (s.inTaken e w).2) := by
  have record : (s.inTaken e w).1.engAge e = (s.inTaken e w).1.setEx e { s.ex e with recent := [] :: (s.ex e).recent.take 2 } := by
    rw [engAge, ex_inTaken]
  rw [record]
  unfold inTaken
  split
  · exact takeIn_setEx _ _ _ _
  · rfl

@[simp] theorem agPost_win (s : State) (e k : Nat) (u : Bool) : (s.agPost e k u).win = s.win := by cases u <;> rfl
@[simp] theorem agPost_fab (s : State) (e k : Nat) (u : Bool) : (s.agPost e k u).fab = s.fab := by cases u <;> rfl
@[simp] theorem get_agPost (s : State) (e k : Nat) (u : Bool) (f : Fld) : (s.agPost e k u).get f = s.get f := by cases u <;> rfl

theorem ex_writeVec (s : State) (e bank : Nat) (vs : List Int) : ∃ r, (s.writeVec e bank vs).ex e = { s.ex e with recent := r } := by
  obtain ⟨_, r, h⟩ := s.writeVec_shape e bank vs
  exact ⟨r, by rw [h, ex_setEx_same]⟩
@[simp] theorem get_writeVec (s : State) (e bank : Nat) (vs : List Int) (f : Fld) : (s.writeVec e bank vs).get f = s.get f := by
  obtain ⟨_, _, h⟩ := s.writeVec_shape e bank vs
  rw [h]
  rfl
@[simp] theorem writeVec_fab (s : State) (e bank : Nat) (vs : List Int) : (s.writeVec e bank vs).fab = s.fab := by
  obtain ⟨_, _, h⟩ := s.writeVec_shape e bank vs
  rw [h]
  rfl

theorem readVec_engAge (s : State) (e k n : Nat) :
    (s.engAge e).readVec e k n = (List.range n).map (fun i => (s.engAge e).elemOld e k (((s.ex e).ag k).addr i)) := by
  unfold readVec
  rw [ex_engAge]
  rfl

/-- A post-modify of a bank's generator; a port (number 2) has none. -/
def bankPost (s : State) (e k : Nat) (u : Bool) : State := if k = 2 then s else s.agPost e k u

theorem ex_bankPost {k : Nat} (place : k ≤ 2) (s : State) (e : Nat) (u : Bool) : (s.bankPost e k u).ex e = (s.ex e).post k u := by
  unfold bankPost
  split
  case isTrue port =>
    rw [port]
    rfl
  case isFalse bank => exact ex_agPost (by omega) s e u
@[simp] theorem bankPost_win (s : State) (e k : Nat) (u : Bool) : (s.bankPost e k u).win = s.win := by
  unfold bankPost
  split <;> simp
@[simp] theorem bankPost_fab (s : State) (e k : Nat) (u : Bool) : (s.bankPost e k u).fab = s.fab := by
  unfold bankPost
  split <;> simp
@[simp] theorem get_bankPost (s : State) (e k : Nat) (u : Bool) (f : Fld) : (s.bankPost e k u).get f = s.get f := by
  unfold bankPost
  split <;> simp

/-- The elements that ACC and MOV read: of a bank (0 X, 1 Y), or of IN (2). -/
def source (s : State) (e w src n : Nat) : List Int := if src = 2 then (s.inTaken e w).2 else s.readVec e src n

theorem takeIn_or_readVec {src : Nat} (port : usesIn w = decide (src = 2)) (s : State) (e n : Nat) :
    (if src = 2 then s.takeIn e else (s, s.readVec e src n)) = ((s.inTaken e w).1, s.source e w src n) := by
  unfold source inTaken
  rw [port]
  split <;> simp_all

end State

/-! ### What an instruction leaves -/

/-- What is left of an effect: the engine's record, the OVF bits set beside those that stood, window memory and the fabric. -/
structure EngLeaves (e : Nat) (s t : State) (x : EngX) (overs : List (Nat × Bool)) (win : Tab Nat) (fab : FabUnit) : Prop where
  record : t.ex e = x
  ovf : ∀ k < 4, bit (t.get (Reg.ENG_STAT_OVF e)) k = (bit (s.get (Reg.ENG_STAT_OVF e)) k || overs.any (fun o => o.1 == k && o.2))
  win : t.win = win
  fab : t.fab = fab

end Sys2Proof.Machine

/-! SUPPORT. What each data instruction makes of a signal engine at rest, and the statement of the data instructions settled. -/

namespace Sys2Proof.Machine

variable {s t u : State} {e w : Nat} {fs : List Fld}

/-! ### The row of an engine at rest -/

namespace State

theorem run_of_engRuns (runs : s.engRuns e = true) : s.flag (Reg.ENG_STAT_RUN e) = true := by
  unfold engRuns at runs
  simp only [Bool.and_eq_true] at runs
  obtain ⟨⟨-, run⟩, -⟩ := runs
  exact run

/-- The row of the word at PC of an engine at rest: an ILLEGAL word faults, another has its effect. -/
theorem engRow_runs (runs : s.engRuns e = true) (free : (s.ex e).stall = none) (quiet : (s.ex e).haltReq = false) (due : s.engDue e = 0)
    (word : s.engWord e (s.get (Reg.ENG_STAT_PC e)) = w) {op : Nat} (row : engOp w = op ∨ engOp w ∉ engOps) (f : State → Nat → State) :
    s.engRow e op f = .next (if engIllegal w then s.engFault e 1 else f s w) := by
  have mine : (engOp w != op && engOps.contains (engOp w)) = false := by
    obtain op | op := row <;> simp [op]
  unfold engRow
  rw [engBoundary_quiet quiet due]
  dsimp only
  rw [word, if_neg (by simp [runs, free]), if_neg (by simp [run_of_engRuns runs]), if_neg (ne_true_of_eq_false mine)]
  split <;> rfl

/-- What the data instruction of an OP does, its age and its ports aside. -/
def engEffect (s : State) (e w op : Nat) : State :=
  if op = 1 then s.engMul e w 0 else if op = 2 then s.engMul e w 1 else if op = 3 then s.engMul e w 2 else if op = 4 then s.engAccDo e w
  else if op = 5 then s.engExtDo e w else if op = 6 then s.engMovDo e w else if op = 7 then s.setagDo e w else s

theorem engEffect_mul {fn : Nat} (listed : fn < 3) (s : State) (e w : Nat) : s.engEffect e w (fn + 1) = s.engMul e w fn := by
  interval_cases fn <;> rfl

theorem engData_eq (s : State) (e w : Nat) : s.engData e w =
    if (usesIn w && !s.inReady e) || (usesOut w && !s.outReady e) then none else some ((s.engAge e).engEffect e w (engOp w)) := rfl

end State

/-- An engine that issues a legal word has the effect of its row. -/
theorem engRow_ready (ready : EngReady e s w) {op : Nat} (mine : engOp w = op) (f : State → Nat → State) : s.engRow e op f = .next (f s w) := by
  obtain ⟨runs, free, quiet, due, word, legal, -⟩ := ready
  rw [State.engRow_runs runs free quiet due word (.inl mine), legal]
  rfl

/-- What no data instruction changes of an engine: HR, the event outputs and RUN. -/
def EngSame (e : Nat) (s t : State) : Prop :=
  (t.ex e).hr = (s.ex e).hr ∧ (t.ex e).eo = (s.ex e).eo ∧ t.flag (Reg.ENG_STAT_RUN e) = s.flag (Reg.ENG_STAT_RUN e)

/-- A data instruction whose effect leaves the sequencer as it stands is done. -/
theorem engDataRow_ready (ready : EngReady e s w) {op : Nat} (mine : engOp w = op) (stands : EngStands e fs s u)
    (effect : (s.engAge e).engEffect e w op = u) (hr : (u.ex e).hr = (s.ex e).hr) (eo : (u.ex e).eo = (s.ex e).eo)
    (listed : fs ⊆ [Reg.ENG_STAT_OVF e]) :
    ∃ t, s.engDataRow e op = .next t ∧ EngPast e 1 s t ∧ EngSame e s t ∧ EngMoved e u t ∧ EngFrame e (fs ++ engAt e) s t := by
  subst effect
  have data : s.engData e w = some ((s.engAge e).engEffect e w op) := by
    obtain ⟨-, -, -, -, -, -, inReady, outReady⟩ := ready
    rw [State.engData_eq, mine, if_neg]
    cases hi : usesIn w <;> cases ho : usesOut w <;> simp_all
  obtain ⟨past, moved, frame⟩ := stands.dataDone
  have run : (((s.engAge e).engEffect e w op).engDataDone e).get (Reg.ENG_STAT_RUN e) = s.get (Reg.ENG_STAT_RUN e) := by
    refine get_of_engFrame frame fun g hg => ?_
    obtain hg | hg := List.mem_append.1 hg
    · rw [List.mem_singleton.1 (listed hg)]
      simp
    · exact (by simp [engAt] : ∀ g ∈ engAt e, g.key ≠ (Reg.ENG_STAT_RUN e).key) g hg
  refine ⟨_, ?_, past, ⟨moved.hr.trans hr, moved.eo.trans eo, by rw [State.flag, State.flag, run]⟩, moved, frame⟩
  unfold State.engDataRow
  rw [engRow_ready ready mine, data]

theorem rest_of_ready (ready : EngReady e s w) : (s.ex e).haltReq = false ∧ s.engDue e = 0 := by
  obtain ⟨-, -, quiet, due, -⟩ := ready
  exact ⟨quiet, due⟩

theorem legal_of_ready (ready : EngReady e s w) : engIllegal w = false := by
  obtain ⟨-, -, -, -, -, legal, -⟩ := ready
  exact legal

/-- An engine that issues stands at its word. -/
theorem engStands_of_ready (ready : EngReady e s w) (fs : List Fld) : EngStands e fs s (s.engAge e) := by
  obtain ⟨quiet, due⟩ := rest_of_ready ready
  exact (engStands_refl quiet due fs).age

/-! ### Operations that leave an engine at its instruction -/

namespace EngStands

theorem inTaken (h : EngStands e fs s t) (w : Nat) : EngStands e fs s (t.inTaken e w).1 := by
  obtain ⟨f, d, shape⟩ := t.inTaken_shape e w
  exact shape ▸ h.ports f d

theorem putOut (h : EngStands e fs s t) (vs : List Int) : EngStands e fs s (t.putOut e vs) := by
  obtain ⟨f, d, shape⟩ := t.putOut_shape e vs
  exact shape ▸ h.ports f d

theorem writeVec (h : EngStands e fs s t) (bank : Nat) (vs : List Int) : EngStands e fs s (t.writeVec e bank vs) := by
  obtain ⟨w, r, shape⟩ := t.writeVec_shape e bank vs
  exact shape ▸ (h.win w).setEx rfl rfl rfl

theorem addOvf (h : EngStands e fs s t) (mem : Reg.ENG_STAT_OVF e ∈ fs) (l : List (Nat × Bool)) : EngStands e fs s (t.addOvf e l) :=
  h.put _ mem ⟨by simp, by simp, by simp, by simp⟩

theorem agPost (h : EngStands e fs s t) (k : Nat) (u : Bool) : EngStands e fs s (t.agPost e k u) := by
  cases u
  · exact h
  · unfold State.agPost EngX.setAg
    dsimp only
    rw [if_pos rfl]
    split <;> exact h.setEx rfl rfl rfl

end EngStands

theorem EngStands.bankPost (h : EngStands e fs s t) (k : Nat) (u : Bool) : EngStands e fs s (t.bankPost e k u) := by
  unfold State.bankPost
  split
  · exact h
  · exact h.agPost k u

/-! ### MPY, MAC and MSU (R254, R256) -/

namespace State

/-- The X and Y operands of a word, and what the slices give each accumulator before its limit. -/
def mulX (s : State) (e w : Nat) : List Int := xOperands (bits w 24 2 != 0) (bits w 22 2) (s.readVec e 0 4) (s.ex e).xr (s.inTaken e w).2
def mulY (s : State) (e w : Nat) : List Int := yOperands (bits w 24 2 != 0) (bits w 20 2) (s.readVec e 1 4) (s.ex e).yr (s.inTaken e w).2
def mulOuts (s : State) (e w fn : Nat) : List (Nat × Int) := (sliceTerms (bits w 24 2) (s.mulX e w) (s.mulY e w)).map fun z =>
  (z.1, if fn = 0 then z.2 else if fn = 1 then (s.ex e).acc.getD z.1 0 + z.2 else (s.ex e).acc.getD z.1 0 - z.2)
/-- The engine with its accumulators and latches after a multiplication. -/
def mulled (s : State) (e w fn : Nat) : EngX :=
  { s.ex e with acc := (s.mulOuts e w fn).foldl (fun l o => l.set o.1 (engLim (bit w 26) o.2)) (s.ex e).acc
                xr := s.mulX e w, yr := s.mulY e w, mode := bits w 24 2 }

theorem engMul_eq (s : State) (e w fn : Nat) : s.engMul e w fn = ((((s.inTaken e w).1.setEx e (s.mulled e w fn)).addOvf e
    ((s.mulOuts e w fn).map fun o => (o.1, engLim (bit w 26) o.2 != o.2))).agPost e 0 (bit w 19)).agPost e 1 (bit w 18) := by
  have record : s.mulled e w fn = { (s.inTaken e w).1.ex e with
      acc := (s.mulOuts e w fn).foldl (fun l o => l.set o.1 (engLim (bit w 26) o.2)) (s.ex e).acc
      xr := s.mulX e w, yr := s.mulY e w, mode := bits w 24 2 } := by
    rw [ex_inTaken]
    rfl
  rw [record]
  unfold engMul mulOuts
  simp only [accLimit_eq, List.map_map, List.foldl_map]
  rfl

end State

theorem engMul_stands (h : EngStands e fs s t) (mem : Reg.ENG_STAT_OVF e ∈ fs) (fn : Nat) : EngStands e fs s (t.engMul e w fn) := by
  rw [State.engMul_eq]
  refine (((h.inTaken w).setEx ?_ ?_ ?_).addOvf mem _).agPost 0 _ |>.agPost 1 _
  all_goals rw [State.ex_inTaken]; rfl

theorem engMul_leaves (s : State) (e w fn : Nat) : EngLeaves e s (s.engMul e w fn) (((s.mulled e w fn).post 0 (bit w 19)).post 1 (bit w 18))
    ((s.mulOuts e w fn).map fun o => (o.1, engLim (bit w 26) o.2 != o.2)) s.win (s.inTaken e w).1.fab := by
  rw [State.engMul_eq]
  refine ⟨?_, fun k slice => ?_, by simp, by simp⟩
  · rw [State.ex_agPost (by decide), State.ex_agPost (by decide), State.ex_addOvf, State.ex_setEx_same]
  · rw [State.get_agPost, State.get_agPost, State.ovf_addOvf _ _ _ slice, State.get_setEx, State.get_inTaken]

/-! ### ACC (Table SIG-3) -/

namespace State

/-- What ACC gives the accumulators before their limit. -/
def accOuts (s : State) (e w : Nat) : List (Nat × Int) :=
  if bits w 24 2 = 0 then [(0, 0), (1, 0), (2, 0), (3, 0)] else if bits w 24 2 = 1 then [(0, (s.ex e).acc.sum)]
  else (s.source e w (bits w 17 2) 4).zipIdx.map fun v => (v.2, v.1 * 2 ^ bits w 19 5)
/-- The accumulators after ACC. -/
def accAfter (s : State) (e w : Nat) : List Int :=
  if bits w 24 2 = 1 then (s.ex e).acc.set 0 (engLim (bit w 26) (s.ex e).acc.sum) else (s.accOuts e w).map fun o => engLim (bit w 26) o.2
/-- The slices that ACC takes over their limit. -/
def accOver (s : State) (e w : Nat) : List (Nat × Bool) := (s.accOuts e w).map fun o => (o.1, engLim (bit w 26) o.2 != o.2)

theorem engLim_zero (sat : Bool) : engLim sat 0 = 0 := by cases sat <;> rfl

theorem engAccDo_zero (zero : bits w 24 2 = 0) (s : State) (e : Nat) : s.engAccDo e w = s.setEx e { s.ex e with acc := s.accAfter e w } := by
  have after : s.accAfter e w = [0, 0, 0, 0] := by simp [accAfter, accOuts, zero, engLim_zero]
  rw [after]
  exact if_pos zero

theorem engAccDo_sum (sum : bits w 24 2 = 1) (s : State) (e : Nat) :
    s.engAccDo e w = (s.setEx e { s.ex e with acc := s.accAfter e w }).addOvf e (s.accOver e w) := by
  unfold engAccDo accOver accAfter accOuts
  simp [sum, accLimit_eq]

theorem engAccDo_load (load : bits w 24 2 = 2) (port : usesIn w = decide (bits w 17 2 = 2)) (s : State) (e : Nat) : s.engAccDo e w =
    (((s.inTaken e w).1.setEx e { s.ex e with acc := s.accAfter e w }).addOvf e (s.accOver e w)).bankPost e (bits w 17 2) (bit w 16) := by
  have outs : s.accOuts e w = (s.source e w (bits w 17 2) 4).zipIdx.map fun v => (v.2, v.1 * 2 ^ bits w 19 5) := by simp [accOuts, load]
  have limited : (s.source e w (bits w 17 2) 4).map (fun v => engLim (bit w 26) (v * 2 ^ bits w 19 5)) = s.accAfter e w := by
    rw [accAfter, if_neg (by omega), outs, List.map_map]
    conv_lhs => rw [← List.zipIdx_map_fst 0 (s.source e w (bits w 17 2) 4), List.map_map]
    rfl
  unfold engAccDo accOver
  simp only [load, takeIn_or_readVec port, accLimit_eq, List.map_map, List.zipIdx_map, outs, ex_inTaken, ← limited]
  rfl

end State

/-- The fields of a legal ACC, and its read of IN. -/
theorem acc_fields (op : engOp w = 4) (legal : engIllegal w = false) :
    bits w 24 2 ≤ 2 ∧ bits w 17 2 ≤ 2 ∧ usesIn w = (bits w 24 2 == 2 && bits w 17 2 == 2) := by
  have fn : bits w 24 2 < 4 := bits_lt _ _ _
  have src : bits w 17 2 < 4 := bits_lt _ _ _
  simp [engIllegal, op] at legal
  exact ⟨by omega, by omega, by simp [usesIn, op]⟩

theorem engAccDo_stands (h : EngStands e fs s t) (mem : Reg.ENG_STAT_OVF e ∈ fs) (op : engOp w = 4) (legal : engIllegal w = false) :
    EngStands e fs s (t.engAccDo e w) := by
  obtain ⟨fn, -, port⟩ := acc_fields op legal
  obtain zero | sum | load : bits w 24 2 = 0 ∨ bits w 24 2 = 1 ∨ bits w 24 2 = 2 := by omega
  · rw [State.engAccDo_zero zero]
    exact h.setEx rfl rfl rfl
  · rw [State.engAccDo_sum sum]
    refine (h.setEx ?_ ?_ ?_).addOvf mem _ <;> rfl
  · rw [State.engAccDo_load load (by simp [port, load, beq_eq_decide])]
    refine (((h.inTaken w).setEx ?_ ?_ ?_).addOvf mem _).bankPost _ _
    all_goals rw [State.ex_inTaken]

theorem engAccDo_leaves (op : engOp w = 4) (legal : engIllegal w = false) (s : State) (e : Nat) : EngLeaves e s (s.engAccDo e w)
    (EngX.post { s.ex e with acc := s.accAfter e w } (bits w 17 2) (bits w 24 2 == 2 && bit w 16)) (s.accOver e w) s.win
    (s.inTaken e w).1.fab := by
  obtain ⟨fn, place, port⟩ := acc_fields op legal
  have unread (other : bits w 24 2 ≠ 2) : (s.inTaken e w).1 = s := by simp [State.inTaken, port, other]
  have unmoved (other : bits w 24 2 ≠ 2) (x : EngX) : x.post (bits w 17 2) (bits w 24 2 == 2 && bit w 16) = x := by
    simp [EngX.post, Ag.post, other]
  obtain zero | sum | load : bits w 24 2 = 0 ∨ bits w 24 2 = 1 ∨ bits w 24 2 = 2 := by omega
  · rw [State.engAccDo_zero zero, unread (by omega), unmoved (by omega)]
    exact ⟨by simp, fun k _ => by simp [State.accOver, State.accOuts, zero, State.engLim_zero], by simp, by simp⟩
  · rw [State.engAccDo_sum sum, unread (by omega), unmoved (by omega)]
    exact ⟨by simp, fun k slice => State.ovf_addOvf _ _ _ slice, by simp, by simp⟩
  · rw [State.engAccDo_load load (by simp [port, load, beq_eq_decide])]
    refine ⟨?_, fun k slice => ?_, by simp, by simp⟩
    · rw [State.ex_bankPost place, State.ex_addOvf, State.ex_setEx_same, load]
      rfl
    · rw [State.get_bankPost, State.ovf_addOvf _ _ _ slice, State.get_setEx, State.get_inTaken]

/-! ### EXT (R255) -/

namespace State

/-- What EXT makes of the accumulators that it stores: the slice, the rounded value and the element. -/
def extOuts (s : State) (e w : Nat) : List (Nat × Int × Int) := (if (s.ex e).mode = 0 then [0, 1, 2, 3] else [0, 2]).map fun k =>
  (k, extShifted (bits w 21 5) ((s.ex e).acc.getD k 0), extLim (bit w 26) (extShifted (bits w 21 5) ((s.ex e).acc.getD k 0)))
def extElems (s : State) (e w : Nat) : List Int := (s.extOuts e w).map fun o => o.2.2
def extOver (s : State) (e w : Nat) : List (Nat × Bool) := (s.extOuts e w).map fun o => (o.1, o.2.2 != o.2.1)

/-- Elements put to a bank (0 X, 1 Y) or to OUT (2). -/
def sink (s : State) (e dst : Nat) (vs : List Int) : State := if dst = 2 then s.putOut e vs else s.writeVec e dst vs

theorem engExtDo_eq (s : State) (e w : Nat) :
    s.engExtDo e w = ((s.addOvf e (s.extOver e w)).sink e (bits w 19 2) (s.extElems e w)).bankPost e (bits w 19 2) (bit w 18) := by
  unfold engExtDo extOver extElems extOuts sink bankPost
  simp only [extract_eq, List.map_map]
  split <;> rfl

theorem ex_sink (s : State) (e dst : Nat) (vs : List Int) : ∃ r, (s.sink e dst vs).ex e = { s.ex e with recent := r } := by
  unfold sink
  split
  · obtain ⟨_, _, h⟩ := s.putOut_shape e vs
    exact ⟨_, by rw [h]; rfl⟩
  · exact s.ex_writeVec e dst vs
@[simp] theorem get_sink (s : State) (e dst : Nat) (vs : List Int) (f : Fld) : (s.sink e dst vs).get f = s.get f := by
  unfold sink
  split
  · obtain ⟨_, _, h⟩ := s.putOut_shape e vs
    rw [h]
    rfl
  · exact s.get_writeVec e dst vs f
theorem sink_fab (s : State) (e dst : Nat) (vs : List Int) : (s.sink e dst vs).fab = if dst = 2 then (s.putOut e vs).fab else s.fab := by
  unfold sink
  split
  · rfl
  · exact s.writeVec_fab e dst vs
theorem sink_win (e dst : Nat) (vs : List Int) (win : t.win = s.win) (ag : (t.ex e).ag dst = (s.ex e).ag dst) :
    (t.sink e dst vs).win = if dst = 2 then s.win else (s.writeVec e dst vs).win := by
  unfold sink
  split
  · obtain ⟨_, _, h⟩ := t.putOut_shape e vs
    rw [h]
    exact win
  · exact writeVec_congr e dst vs win ag

theorem fab_putOut_addOvf (s : State) (e : Nat) (l : List (Nat × Bool)) (vs : List Int) :
    ((s.addOvf e l).putOut e vs).fab = (s.putOut e vs).fab := by
  have shown {f : Fld} (low : f.key < 0x1C06004 * 32) : (s.addOvf e l).get f = s.get f :=
    s.get_put_ne _ (by rw [key_engOvf]; omega)
  refine putOut_congr (s.addOvf_fab e l) (shown (by decide)) ?_ rfl e vs
  unfold castRuns
  rw [shown (by decide)]
  rfl

theorem fab_putOut_engAge (s : State) (e : Nat) (vs : List Int) : ((s.engAge e).putOut e vs).fab = (s.putOut e vs).fab :=
  putOut_congr (s := s) (t := s.engAge e) rfl rfl rfl rfl e vs

end State

theorem EngStands.sink (h : EngStands e fs s t) (dst : Nat) (vs : List Int) : EngStands e fs s (t.sink e dst vs) := by
  unfold State.sink
  split
  · exact h.putOut vs
  · exact h.writeVec dst vs

theorem ext_fields (op : engOp w = 5) (legal : engIllegal w = false) : bits w 19 2 ≤ 2 := by
  have dst : bits w 19 2 < 4 := bits_lt _ _ _
  simp [engIllegal, op] at legal
  omega

theorem engExtDo_stands (h : EngStands e fs s t) (mem : Reg.ENG_STAT_OVF e ∈ fs) : EngStands e fs s (t.engExtDo e w) := by
  rw [State.engExtDo_eq]
  exact ((h.addOvf mem _).sink _ _).bankPost _ _

theorem engExtDo_leaves (op : engOp w = 5) (legal : engIllegal w = false) (s : State) (e : Nat) :
    ∃ r, EngLeaves e s (s.engExtDo e w) (EngX.post { s.ex e with recent := r } (bits w 19 2) (bit w 18)) (s.extOver e w)
      (if bits w 19 2 = 2 then s.win else (s.writeVec e (bits w 19 2) (s.extElems e w)).win)
      (if bits w 19 2 = 2 then (s.putOut e (s.extElems e w)).fab else s.fab) := by
  obtain ⟨r, record⟩ := (s.addOvf e (s.extOver e w)).ex_sink e (bits w 19 2) (s.extElems e w)
  rw [State.engExtDo_eq]
  refine ⟨r, ?_, fun k slice => ?_, ?_, ?_⟩
  · rw [State.ex_bankPost (ext_fields op legal), record, State.ex_addOvf]
  · rw [State.get_bankPost, State.get_sink, State.ovf_addOvf _ _ _ slice]
  · rw [State.bankPost_win]
    exact State.sink_win _ _ _ rfl rfl
  · rw [State.bankPost_fab, State.sink_fab, State.fab_putOut_addOvf, State.addOvf_fab]

/-! ### MOV (Table SIG-3) -/

namespace State

/-- The elements that MOV moves. -/
def movElems (s : State) (e w : Nat) : List Int :=
  (s.source e w (bits w 24 2) (if bit w 26 then 1 else 4)).take (if bit w 26 then 1 else 4)

theorem engMovDo_eq (port : usesIn w = decide (bits w 24 2 = 2)) (s : State) (e : Nat) : s.engMovDo e w =
    (((s.inTaken e w).1.sink e (bits w 22 2) (s.movElems e w)).bankPost e (bits w 24 2) (bit w 21)).bankPost e (bits w 22 2) (bit w 20) := by
  unfold engMovDo
  simp only [takeIn_or_readVec port]
  rfl

end State

/-- The fields of a legal MOV, and its read of IN: it does not move within a bank. -/
theorem mov_fields (op : engOp w = 6) (legal : engIllegal w = false) :
    bits w 24 2 ≤ 2 ∧ bits w 22 2 ≤ 2 ∧ (bits w 24 2 = bits w 22 2 → bits w 24 2 = 2) ∧ usesIn w = decide (bits w 24 2 = 2) := by
  have src : bits w 24 2 < 4 := bits_lt _ _ _
  have dst : bits w 22 2 < 4 := bits_lt _ _ _
  simp [engIllegal, op] at legal
  obtain ⟨⟨⟨srcLegal, dstLegal⟩, apart⟩, -⟩ := legal
  exact ⟨by omega, by omega, apart, by simp [usesIn, op, beq_eq_decide]⟩

theorem engMovDo_stands (h : EngStands e fs s t) (op : engOp w = 6) (legal : engIllegal w = false) : EngStands e fs s (t.engMovDo e w) := by
  obtain ⟨-, -, -, port⟩ := mov_fields op legal
  rw [State.engMovDo_eq port]
  exact (((h.inTaken w).sink _ _).bankPost _ _).bankPost _ _

theorem engMovDo_leaves (op : engOp w = 6) (legal : engIllegal w = false) (s : State) (e : Nat) :
    ∃ r, EngLeaves e s (s.engMovDo e w) ((EngX.post { s.ex e with recent := r } (bits w 24 2) (bit w 21)).post (bits w 22 2) (bit w 20)) []
      (if bits w 22 2 = 2 then s.win else (s.writeVec e (bits w 22 2) (s.movElems e w)).win)
      (if bits w 22 2 = 2 then ((s.inTaken e w).1.putOut e (s.movElems e w)).fab else (s.inTaken e w).1.fab) := by
  obtain ⟨src, dst, -, port⟩ := mov_fields op legal
  obtain ⟨r, record⟩ := (s.inTaken e w).1.ex_sink e (bits w 22 2) (s.movElems e w)
  rw [State.engMovDo_eq port]
  refine ⟨r, ?_, fun k _ => by simp, ?_, ?_⟩
  · rw [State.ex_bankPost dst, State.ex_bankPost src, record, State.ex_inTaken]
  · rw [State.bankPost_win, State.bankPost_win]
    exact State.sink_win _ _ _ (State.inTaken_win _ _ _) (by rw [State.ex_inTaken])
  · rw [State.bankPost_fab, State.bankPost_fab, State.sink_fab]

/-! ### SETAG (R257) -/

section
variable (x : EngX) (k : Nat) (g : Ag)

theorem EngX.setAg_part {α : Type} (part : EngX → α)
    (kept : ∀ a b, part { x with ag0 := a, ag1 := b } = part x) : part (x.setAg k g) = part x := by
  unfold EngX.setAg
  split
  · exact kept g x.ag1
  · exact kept x.ag0 g
theorem EngX.ag_setAg_same : (x.setAg k g).ag k = g := by
  unfold EngX.setAg EngX.ag
  split <;> rfl
theorem EngX.ag_setAg_other (gen : k < 2) : (x.setAg k g).ag (1 - k) = x.ag (1 - k) := by
  obtain rfl | rfl : k = 0 ∨ k = 1 := by omega
  all_goals rfl

end

/-- The register of a generator that SETAG sets. -/
def Ag.setReg (g : Ag) (reg v : Nat) : Ag :=
  if reg = 0 then { g with p := v } else if reg = 1 then { g with m := sgn 12 v } else if reg = 2 then { g with b := v }
  else if reg = 3 then { g with l := v + 1 } else g.step (sgn 12 v)

theorem State.setagDo_eq (s : State) (e w : Nat) : s.setagDo e w =
    s.setEx e ((s.ex e).setAg (bits w 26 1) (((s.ex e).ag (bits w 26 1)).setReg (bits w 23 3) (bits w 0 12))) := rfl

theorem setagDo_stands (h : EngStands e fs s t) : EngStands e fs s (t.setagDo e w) := by
  rw [State.setagDo_eq]
  refine h.setEx ?_ ?_ ?_ <;> exact EngX.setAg_part _ _ _ _ fun _ _ => rfl

/-! ### Settled -/

theorem nop_ready (ready : EngReady e s w) (op : engOp w = 0) : ∃ t, s.engDataRow e 0 = .next t ∧ EngPast e 1 s t ∧ EngSame e s t ∧
    (t.ex e).acc = (s.ex e).acc ∧ t.win = s.win ∧ t.fab = s.fab ∧ (t.ex e).ag0 = (s.ex e).ag0 ∧ (t.ex e).ag1 = (s.ex e).ag1 ∧
    EngFrame e (engAt e) s t := by
  obtain ⟨t, next, past, same, moved, frame⟩ := engDataRow_ready ready op (engStands_of_ready ready []) rfl (by simp) (by simp) (by simp)
  have aged : EngMoved e s t := (engMoved_refl e s).age.trans moved
  exact ⟨t, next, past, same, aged.acc, aged.win, aged.fab, aged.ag0, aged.ag1, frame⟩

theorem mul_ready (ready : EngReady e s w) {fn : Nat} (listed : fn < 3) (op : engOp w = fn + 1) :
    ∃ t, s.engDataRow e (fn + 1) = .next t ∧ EngPast e 1 s t ∧ EngSame e s t ∧
      (t.ex e).acc = ((s.engAge e).mulOuts e w fn).foldl (fun l o => l.set o.1 (engLim (bit w 26) o.2)) (s.ex e).acc ∧
      (∀ k < 4, bit (t.get (Reg.ENG_STAT_OVF e)) k =
        (bit (s.get (Reg.ENG_STAT_OVF e)) k || ((s.engAge e).mulOuts e w fn).any (fun o => o.1 == k && engLim (bit w 26) o.2 != o.2))) ∧
      (t.ex e).xr = (s.engAge e).mulX e w ∧ (t.ex e).yr = (s.engAge e).mulY e w ∧
      (t.ex e).ag0 = (s.ex e).ag0.post (bit w 19) ∧ (t.ex e).ag1 = (s.ex e).ag1.post (bit w 18) ∧
      t.win = s.win ∧ t.fab = (s.inTaken e w).1.fab ∧ EngFrame e (Reg.ENG_STAT_OVF e :: engAt e) s t := by
  have stands := engMul_stands (w := w) (engStands_of_ready ready [Reg.ENG_STAT_OVF e]) (by simp) fn
  obtain ⟨record, ovf, win, fab⟩ := engMul_leaves (s.engAge e) e w fn
  simp only [State.mulled, State.ex_engAge, EngX.post] at record
  obtain ⟨t, next, past, same, moved, frame⟩ := engDataRow_ready ready op stands (State.engEffect_mul listed _ _ _)
    (by rw [record]) (by rw [record]) (List.Subset.refl _)
  refine ⟨t, next, past, same, ?_, fun k slice => ?_, ?_, ?_, ?_, ?_, moved.win.trans win, ?_, frame⟩
  · rw [moved.acc, record]
  · rw [moved.ovf, ovf k slice, List.any_map]
    rfl
  · rw [moved.xr, record]
  · rw [moved.yr, record]
  · rw [moved.ag0, record]
    rfl
  · rw [moved.ag1, record]
    rfl
  · rw [moved.fab, fab, State.inTaken_engAge, State.engAge_fab]

theorem acc_ready (ready : EngReady e s w) (op : engOp w = 4) : ∃ t, s.engDataRow e 4 = .next t ∧ EngPast e 1 s t ∧ EngSame e s t ∧
    (t.ex e).acc = (s.engAge e).accAfter e w ∧
    (∀ k < 4, bit (t.get (Reg.ENG_STAT_OVF e)) k =
      (bit (s.get (Reg.ENG_STAT_OVF e)) k || ((s.engAge e).accOuts e w).any (fun o => o.1 == k && engLim (bit w 26) o.2 != o.2))) ∧
    (t.ex e).ag0 = (s.ex e).ag0.post (bits w 24 2 == 2 && bits w 17 2 == 0 && bit w 16) ∧
    (t.ex e).ag1 = (s.ex e).ag1.post (bits w 24 2 == 2 && bits w 17 2 == 1 && bit w 16) ∧
    t.win = s.win ∧ t.fab = (s.inTaken e w).1.fab ∧ EngFrame e (Reg.ENG_STAT_OVF e :: engAt e) s t := by
  have legal := legal_of_ready ready
  have stands := engAccDo_stands (engStands_of_ready ready [Reg.ENG_STAT_OVF e]) (by simp) op legal
  obtain ⟨record, ovf, win, fab⟩ := engAccDo_leaves op legal (s.engAge e) e
  simp only [State.ex_engAge, EngX.post, Bool.and_left_comm (_ == _) (bits w 24 2 == 2), ← Bool.and_assoc] at record
  obtain ⟨t, next, past, same, moved, frame⟩ := engDataRow_ready ready op stands rfl (by rw [record]) (by rw [record]) (List.Subset.refl _)
  refine ⟨t, next, past, same, ?_, fun k slice => ?_, ?_, ?_, moved.win.trans win, ?_, frame⟩
  · rw [moved.acc, record]
  · rw [moved.ovf, ovf k slice, State.accOver, List.any_map]
    rfl
  · rw [moved.ag0, record]
  · rw [moved.ag1, record]
  · rw [moved.fab, fab, State.inTaken_engAge, State.engAge_fab]

theorem ext_ready (ready : EngReady e s w) (op : engOp w = 5) : ∃ t, s.engDataRow e 5 = .next t ∧ EngPast e 1 s t ∧ EngSame e s t ∧
    (t.ex e).acc = (s.ex e).acc ∧
    (∀ k < 4, bit (t.get (Reg.ENG_STAT_OVF e)) k =
      (bit (s.get (Reg.ENG_STAT_OVF e)) k || (s.extOuts e w).any (fun o => o.1 == k && o.2.2 != o.2.1))) ∧
    t.win = (if bits w 19 2 = 2 then s.win else (s.writeVec e (bits w 19 2) (s.extElems e w)).win) ∧
    t.fab = (if bits w 19 2 = 2 then (s.putOut e (s.extElems e w)).fab else s.fab) ∧
    (t.ex e).ag0 = (s.ex e).ag0.post (bits w 19 2 == 0 && bit w 18) ∧ (t.ex e).ag1 = (s.ex e).ag1.post (bits w 19 2 == 1 && bit w 18) ∧
    EngFrame e (Reg.ENG_STAT_OVF e :: engAt e) s t := by
  have legal := legal_of_ready ready
  have stands := engExtDo_stands (w := w) (engStands_of_ready ready [Reg.ENG_STAT_OVF e]) (by simp)
  have outs : (s.engAge e).extOuts e w = s.extOuts e w := by
    unfold State.extOuts
    rw [State.ex_engAge]
  obtain ⟨_, record, ovf, win, fab⟩ := engExtDo_leaves op legal (s.engAge e) e
  simp only [State.ex_engAge, EngX.post] at record
  obtain ⟨t, next, past, same, moved, frame⟩ := engDataRow_ready ready op stands rfl (by rw [record]) (by rw [record]) (List.Subset.refl _)
  refine ⟨t, next, past, same, ?_, fun k slice => ?_, ?_, ?_, ?_, ?_, frame⟩
  · rw [moved.acc, record]
  · rw [moved.ovf, ovf k slice, State.extOver, outs, List.any_map]
    rfl
  · rw [moved.win, win, State.engAge_win, State.extElems, outs, State.writeVec_congr e _ _ (s.engAge_win e) (by rw [State.ex_engAge]; rfl)]
    rfl
  · rw [moved.fab, fab, State.fab_putOut_engAge, State.engAge_fab, State.extElems, outs]
    rfl
  · rw [moved.ag0, record]
  · rw [moved.ag1, record]

/-- Two accesses of which at most one moves the generator. -/
theorem Ag.post_post (g : Ag) {u v : Bool} (once : (u && v) = false) : (g.post u).post v = g.post (u || v) := by
  cases u
  · rfl
  · rw [Bool.true_and] at once
    rw [once]
    rfl

theorem mov_ready (ready : EngReady e s w) (op : engOp w = 6) : ∃ t, s.engDataRow e 6 = .next t ∧ EngPast e 1 s t ∧ EngSame e s t ∧
    (t.ex e).acc = (s.ex e).acc ∧
    t.win = (if bits w 22 2 = 2 then s.win else (s.writeVec e (bits w 22 2) ((s.engAge e).movElems e w)).win) ∧
    t.fab = (if bits w 22 2 = 2 then ((s.inTaken e w).1.putOut e ((s.engAge e).movElems e w)).fab else (s.inTaken e w).1.fab) ∧
    (t.ex e).ag0 = (s.ex e).ag0.post (bits w 24 2 == 0 && bit w 21 || bits w 22 2 == 0 && bit w 20) ∧
    (t.ex e).ag1 = (s.ex e).ag1.post (bits w 24 2 == 1 && bit w 21 || bits w 22 2 == 1 && bit w 20) ∧ EngFrame e (engAt e) s t := by
  have legal := legal_of_ready ready
  obtain ⟨-, -, apart, -⟩ := mov_fields op legal
  have once (k : Nat) (bank : k ≠ 2) : ((bits w 24 2 == k && bit w 21) && (bits w 22 2 == k && bit w 20)) = false := by
    simp only [Bool.and_eq_false_iff, beq_eq_false_iff_ne]
    omega
  obtain ⟨_, record, -, win, fab⟩ := engMovDo_leaves op legal (s.engAge e) e
  simp only [State.ex_engAge, EngX.post, Ag.post_post _ (once 0 (by decide)), Ag.post_post _ (once 1 (by decide))] at record
  obtain ⟨t, next, past, same, moved, frame⟩ := engDataRow_ready ready op (engMovDo_stands (engStands_of_ready ready []) op legal) rfl
    (by rw [record]) (by rw [record]) (by simp)
  refine ⟨t, next, past, same, ?_, ?_, ?_, ?_, ?_, frame⟩
  · rw [moved.acc, record]
  · rw [moved.win, win, State.engAge_win, State.writeVec_congr e _ _ (s.engAge_win e) (by rw [State.ex_engAge]; rfl)]
  · rw [moved.fab, fab, State.inTaken_engAge, State.fab_putOut_engAge, State.engAge_fab]
  · rw [moved.ag0, record]
  · rw [moved.ag1, record]

theorem setag_ready (ready : EngReady e s w) (op : engOp w = 7) : ∃ t, s.engDataRow e 7 = .next t ∧ EngPast e 1 s t ∧ EngSame e s t ∧
    (t.ex e).acc = (s.ex e).acc ∧ t.win = s.win ∧ t.fab = s.fab ∧
    (t.ex e).ag (bits w 26 1) = ((s.ex e).ag (bits w 26 1)).setReg (bits w 23 3) (bits w 0 12) ∧
    (t.ex e).ag (1 - bits w 26 1) = (s.ex e).ag (1 - bits w 26 1) ∧ EngFrame e (engAt e) s t := by
  have record : ((s.engAge e).setagDo e w).ex e =
      ((s.engAge e).ex e).setAg (bits w 26 1) ((((s.engAge e).ex e).ag (bits w 26 1)).setReg (bits w 23 3) (bits w 0 12)) := State.ex_setEx_same _ _ _
  have part {α : Type} (part : EngX → α) (kept : ∀ x a b, part { x with ag0 := a, ag1 := b } = part x)
      (aged : part ((s.engAge e).ex e) = part (s.ex e)) : part (((s.engAge e).setagDo e w).ex e) = part (s.ex e) := by
    rw [record, EngX.setAg_part _ _ _ part (kept _), aged]
  have ag (k : Nat) : ((s.engAge e).ex e).ag k = (s.ex e).ag k := by
    rw [State.ex_engAge]
    rfl
  obtain ⟨t, next, past, same, moved, frame⟩ := engDataRow_ready ready op (setagDo_stands (engStands_of_ready ready [])) rfl
    (part EngX.hr (fun _ _ _ => rfl) (by simp)) (part EngX.eo (fun _ _ _ => rfl) (by simp)) (by simp)
  refine ⟨t, next, past, same, moved.acc.trans (part EngX.acc (fun _ _ _ => rfl) (by simp)), moved.win, moved.fab, ?_, ?_, frame⟩
  · rw [moved.ag, record, EngX.ag_setAg_same, ag]
  · rw [moved.ag, record, EngX.ag_setAg_other _ _ _ (bits_lt w 26 1), ag]

/-- Settles O39: each data instruction through the lemma that says what its row makes of an engine that issues it. -/
theorem engineDataInstructions : Obligations.EngineDataInstructions := by
  unfold Obligations.EngineDataInstructions
  refine ⟨fun g i m => ⟨rfl, rfl⟩, fun e s w ready => ?_⟩
  have entry : (s.inTaken e w).2 = if usesIn w then (s.takeIn e).2 else [0, 0, 0, 0] := apply_ite Prod.snd _ _ _
  have rest : (s.inTaken e w).1 = if usesIn w then (s.takeIn e).1 else s := apply_ite Prod.fst _ _ _
  have outs : (s.engAge e).accOuts e w = if bits w 24 2 = 0 then [(0, 0), (1, 0), (2, 0), (3, 0)] else if bits w 24 2 = 1 then [(0, (s.ex e).acc.sum)]
      else (if bits w 17 2 = 2 then (s.inTaken e w).2
        else (s.engAge e).readVec e (bits w 17 2) 4).zipIdx.map fun v => (v.2, v.1 * 2 ^ bits w 19 5) := by
    rw [State.accOuts, State.source, State.ex_engAge, State.inTaken_engAge]
  dsimp only
  refine ⟨nop_ready ready, fun c fn row op => ?mul, fun op => ?acc, ext_ready ready, fun op => ?mov, setag_ready ready⟩
  case mul =>
    have listed : fn < 3 ∧ exec c s = s.engDataRow e (fn + 1) := by
      simp only [List.mem_cons, List.not_mem_nil, Prod.mk.injEq, or_false] at row
      obtain ⟨rfl, rfl⟩ | ⟨rfl, rfl⟩ | ⟨rfl, rfl⟩ := row
      all_goals exact ⟨by decide, rfl⟩
    rw [listed.2, ← entry, ← rest]
    have done := mul_ready ready listed.1 op
    simp only [State.mulOuts, State.mulX, State.mulY, State.inTaken_engAge, State.readVec_engAge, State.ex_engAge] at done
    exact done
  case acc =>
    rw [← entry, ← rest]
    have done := acc_ready ready op
    simp only [State.accAfter, outs, State.readVec_engAge, State.ex_engAge] at done
    exact done
  case mov =>
    rw [← entry, ← rest]
    have done := mov_ready ready op
    simp only [State.movElems, State.source, State.inTaken_engAge, State.readVec_engAge] at done
    exact done

end Sys2Proof.Machine

/-! SUPPORT. The sequencing instructions of a signal engine at rest: repeats, block levels, jumps, waits and returns (R260–R262, R264–R267). -/

namespace Sys2Proof.Machine

variable {s t u : State} {e w : Nat} {fs : List Fld}

/-! ### Bits cleared in a field -/

/-- Bits taken out of a number. -/
theorem testBit_sub_and (x m k : Nat) : (x - (x &&& m)).testBit k = (x.testBit k && !m.testBit k) := by
  have odd : (x &&& m) % 2 = 1 ↔ x % 2 = 1 ∧ m % 2 = 1 := Nat.and_mod_two_eq_one
  have le : x &&& m ≤ x := Nat.and_le_left
  induction k generalizing x m with
  | zero =>
    simp only [Nat.testBit_zero, ← decide_not, ← Bool.decide_and, decide_eq_decide]
    omega
  | succ k ih =>
    have half : (x - (x &&& m)) / 2 = x / 2 - (x / 2 &&& m / 2) := by
      rw [← Nat.and_div_two]
      omega
    rw [Nat.testBit_succ, Nat.testBit_succ, Nat.testBit_succ, half]
    exact ih (x / 2) (m / 2) Nat.and_mod_two_eq_one Nat.and_le_left

/-- PEND after one bit of it is cleared. -/
theorem State.pend_clrBits (s : State) (e j : Nat) {k : Nat} (event : k < 8) :
    bit ((s.clrBits (Reg.ENG_EVT_PEND e) (2 ^ j)).get (Reg.ENG_EVT_PEND e)) k = (bit (s.get (Reg.ENG_EVT_PEND e)) k && !(j == k)) := by
  have shown : (s.clrBits (Reg.ENG_EVT_PEND e) (2 ^ j)).get (Reg.ENG_EVT_PEND e) =
      (s.get (Reg.ENG_EVT_PEND e) - (s.get (Reg.ENG_EVT_PEND e) &&& 2 ^ j)) % 2 ^ 8 := State.get_put_same _ _ _
  rw [shown, bit_cut _ event, bit_eq_testBit, bit_eq_testBit, testBit_sub_and, Nat.testBit_two_pow, beq_eq_decide]

/-- An event taken out of PEND: no enabled event comes to be pending by it. -/
theorem EngStands.clearPend (h : EngStands e fs s t) (mem : Reg.ENG_EVT_PEND e ∈ fs) (j : Nat) :
    EngStands e fs s (t.clrBits (Reg.ENG_EVT_PEND e) (2 ^ j)) := by
  have shown (f : Fld) (out : f.key ≠ (Reg.ENG_EVT_PEND e).key) : (t.clrBits (Reg.ENG_EVT_PEND e) (2 ^ j)).get f = t.get f := t.get_put_ne _ out
  refine ⟨engFrame_put h.frame _ mem, h.blocks, h.rpt, h.quiet, (shown _ (by simp)).trans h.pc, (shown _ (by simp)).trans h.cycles, ?_⟩
  have due := h.due
  have cleared : (t.clrBits (Reg.ENG_EVT_PEND e) (2 ^ j)).get (Reg.ENG_EVT_PEND e) =
      (t.get (Reg.ENG_EVT_PEND e) - (t.get (Reg.ENG_EVT_PEND e) &&& 2 ^ j)) % 2 ^ 8 := State.get_put_same _ _ _
  unfold State.engDue at due ⊢
  rw [cleared, shown _ (by simp)]
  refine Nat.eq_of_testBit_eq fun k => ?_
  have none := congrArg (Nat.testBit · k) due
  simp only [Nat.testBit_and, Nat.zero_testBit] at none ⊢
  rw [Nat.testBit_mod_two_pow, testBit_sub_and, Bool.and_assoc, Bool.and_right_comm, none]
  simp

/-! ### What the sequencing instructions leave -/

/-- What no sequencing instruction changes: the accumulators, the generators, HR, window memory and the fabric. -/
def EngDataKept (e : Nat) (s t : State) : Prop :=
  (t.ex e).acc = (s.ex e).acc ∧ (t.ex e).ag0 = (s.ex e).ag0 ∧ (t.ex e).ag1 = (s.ex e).ag1 ∧
    (t.ex e).hr = (s.ex e).hr ∧ t.win = s.win ∧ t.fab = s.fab

theorem EngMoved.dataKept (h : EngMoved e s t) : EngDataKept e s t := ⟨h.acc, h.ag0, h.ag1, h.hr, h.win, h.fab⟩

/-- A field that the sequencer does not write changes none of the data. -/
theorem EngDataKept.put (h : EngDataKept e s t) (f : Fld) (v : Nat) : EngDataKept e s (t.put f v) := h
theorem EngMoved.dataKept_after (h : EngMoved e t u) (k : EngDataKept e s t) : EngDataKept e s u := by
  obtain ⟨acc, ag0, ag1, hr, win, fab⟩ := k
  exact ⟨h.acc.trans acc, h.ag0.trans ag0, h.ag1.trans ag1, h.hr.trans hr, h.win.trans win, h.fab.trans fab⟩

/-! ### RPT (R260) -/

theorem State.rptDo_arms (may : repeatable (s.engWord e ((s.engStep e).get (Reg.ENG_STAT_PC e))) = true) : s.rptDo e w =
    (((s.engStep e).setEx e { (s.engStep e).ex e with rpt := bits w 0 10 + 1, recent := [] :: ((s.engStep e).ex e).recent.take 2 }).put
      (Reg.ENG_STAT_RPT e) 1).engCycles e 1 := if_neg (by rw [may]; decide)

theorem rpt_ready (ready : EngReady e s w) (op : engOp w = 0x10)
    (may : repeatable (s.engWord e ((blkNext (s.ex e).blocks.reverse (s.get (Reg.ENG_STAT_PC e))).2 % 2048)) = true) :
    ∃ t, s.engRow e 0x10 (fun s w => s.rptDo e w) = .next t ∧ (t.ex e).rpt = bits w 0 10 + 1 ∧ t.flag (Reg.ENG_STAT_RPT e) = true ∧
      t.get (Reg.ENG_STAT_PC e) = (blkNext (s.ex e).blocks.reverse (s.get (Reg.ENG_STAT_PC e))).2 % 2048 ∧ EngDataKept e s t ∧
      EngFrame e (engAt e) s t := by
  have moved := (((engMoved_refl e s).step.setEx ((s.engStep e).ex e).blocks (bits w 0 10 + 1) ([] :: ((s.engStep e).ex e).recent.take 2)).put
    (f := Reg.ENG_STAT_RPT e) 1 (by simp [engAt])).cycles 1
  rw [← State.get_engStep_pc] at may ⊢
  refine ⟨_, by rw [engRow_ready ready op, State.rptDo_arms may], ?_, ?_, ?_, moved.dataKept, moved.frame⟩
  · rw [State.ex_engCycles, State.ex_put, State.ex_setEx_same]
  · have armed : (1 : Nat) % 2 ^ 1 ≠ 0 := by decide
    rw [State.flag, State.get_engCycles_ne _ _ (by simp), State.get_put_same]
    exact bne_iff_ne.2 armed
  · rw [State.get_engCycles_ne _ _ (by simp), State.get_put_ne _ _ (by simp), State.get_setEx]

theorem rpt_faults (ready : EngReady e s w) (op : engOp w = 0x10)
    (mayNot : repeatable (s.engWord e ((blkNext (s.ex e).blocks.reverse (s.get (Reg.ENG_STAT_PC e))).2 % 2048)) = false) :
    s.engRow e 0x10 (fun s w => s.rptDo e w) = .next (s.engFault e 1) := by
  rw [← State.get_engStep_pc] at mayNot
  have faults : s.rptDo e w = s.engFault e 1 := if_pos (by rw [mayNot]; rfl)
  rw [engRow_ready ready op, faults]

/-! ### BLK (R261, R266) -/

namespace State

/-- The levels that a new one nests in: in a handler, those that the handler opened. -/
def blkOuter (s : State) (e : Nat) : List EngBlk :=
  if s.flag (Reg.ENG_STAT_INTR e) then (s.ex e).blocks.drop (s.ex e).entryDepth else (s.ex e).blocks
/-- A body lies within that of the innermost level it nests in. -/
def blkInside (s : State) (e first last : Nat) : Bool := match (s.blkOuter e).getLast? with
  | some o => decide (o.first ≤ first ∧ last ≤ o.last)
  | none => true
/-- The engine in the body of the level that its BLK opens. -/
def blkOpened (s : State) (e w : Nat) : State :=
  ((s.engAge e).setBlocks e ((s.ex e).blocks ++
       [{ first := (s.get (Reg.ENG_STAT_PC e) + 1) % 2048, last := bits w 16 11, left := bits w 0 16 + 1 }])).put
    (Reg.ENG_STAT_PC e) ((s.get (Reg.ENG_STAT_PC e) + 1) % 2048)

theorem blkDo_eq (s : State) (e w : Nat) : s.blkDo e w = if (s.ex e).blocks.length = 3 then s.engFault e 3
    else if !s.blkInside e ((s.get (Reg.ENG_STAT_PC e) + 1) % 2048) (bits w 16 11) || decide (bits w 16 11 < (s.get (Reg.ENG_STAT_PC e) + 1) % 2048)
    then s.engFault e 2 else (s.blkOpened e w).engDone e 1 := rfl

theorem blkInside_iff {first last : Nat} :
    s.blkInside e first last = true ↔ ∀ o, (s.blkOuter e).getLast? = some o → o.first ≤ first ∧ last ≤ o.last := by
  unfold blkInside
  cases (s.blkOuter e).getLast? with
  | none => simp
  | some o => simp

end State

theorem blk_deep (ready : EngReady e s w) (op : engOp w = 0x11) (deep : (s.ex e).blocks.length = 3) :
    s.engRow e 0x11 (fun s w => s.blkDo e w) = .next (s.engFault e 3) := by
  rw [engRow_ready ready op, State.blkDo_eq, if_pos deep]

theorem blk_breaks (ready : EngReady e s w) (op : engOp w = 0x11) (room : (s.ex e).blocks.length ≠ 3)
    (breaks : bits w 16 11 < (s.get (Reg.ENG_STAT_PC e) + 1) % 2048 ∨
      ∃ o, (s.blkOuter e).getLast? = some o ∧ ((s.get (Reg.ENG_STAT_PC e) + 1) % 2048 < o.first ∨ o.last < bits w 16 11)) :
    s.engRow e 0x11 (fun s w => s.blkDo e w) = .next (s.engFault e 2) := by
  rw [engRow_ready ready op, State.blkDo_eq, if_neg room, if_pos]
  obtain early | ⟨o, last, out⟩ := breaks
  · simp [early]
  · have outside : s.blkInside e ((s.get (Reg.ENG_STAT_PC e) + 1) % 2048) (bits w 16 11) = false := by
      rw [← Bool.not_eq_true, State.blkInside_iff]
      intro inside
      have := inside o last
      omega
    simp [outside]

theorem blk_opens (ready : EngReady e s w) (op : engOp w = 0x11) (room : (s.ex e).blocks.length ≠ 3)
    (order : (s.get (Reg.ENG_STAT_PC e) + 1) % 2048 ≤ bits w 16 11)
    (nests : ∀ o, (s.blkOuter e).getLast? = some o → o.first ≤ (s.get (Reg.ENG_STAT_PC e) + 1) % 2048 ∧ bits w 16 11 ≤ o.last) :
    ∃ t, s.engRow e 0x11 (fun s w => s.blkDo e w) = .next t ∧ (t.ex e).blocks = (s.ex e).blocks ++
        [{ first := (s.get (Reg.ENG_STAT_PC e) + 1) % 2048, last := bits w 16 11, left := bits w 0 16 + 1 }] ∧
      t.get (Reg.ENG_STAT_PC e) = (s.get (Reg.ENG_STAT_PC e) + 1) % 2048 ∧
      t.get (Reg.ENG_STAT_BDEPTH e) = ((s.ex e).blocks.length + 1) % 4 ∧ EngDataKept e s t ∧ EngFrame e (engAt e) s t := by
  obtain ⟨quiet, due⟩ := rest_of_ready ready
  have moved : EngMoved e s (s.blkOpened e w) := ((engMoved_refl e s).age.setBlocks _).setPc _
  have opens : s.blkDo e w = (s.blkOpened e w).engCycles e 1 := by
    rw [State.blkDo_eq, if_neg room, if_neg, State.engDone_moved moved quiet due]
    simpa [State.blkInside_iff.2 nests] using order
  refine ⟨_, by rw [engRow_ready ready op, opens], ?_, ?_, ?_, (moved.cycles 1).dataKept, (moved.cycles 1).frame⟩
  · rw [State.ex_engCycles, State.blkOpened, State.ex_put, State.ex_setBlocks]
  · rw [State.get_engCycles_ne _ _ (by simp), State.blkOpened, State.get_setPc_same, Nat.mod_mod]
  · rw [State.get_engCycles_ne _ _ (by simp), State.blkOpened, State.get_put_ne _ _ (by simp),
      State.setBlocks, State.get_put_same, List.length_append]
    rfl

/-! ### JMP (R262) -/

/-- The event that a JMP on it clears. -/
def State.jmpCleared (s : State) (e w : Nat) : State :=
  if bits w 24 3 = 1 then s.clrBits (Reg.ENG_EVT_PEND e) (2 ^ bits w 21 3) else s

theorem jmp_taken (ready : EngReady e s w) (op : engOp w = 0x12) (taken : s.jmpTaken e w = true) :
    ∃ t, s.engRow e 0x12 (fun s w => s.jmpDo e w) = .next t ∧ t.get (Reg.ENG_STAT_PC e) = bits w 0 11 ∧
      (t.ex e).blocks = (blkLeave (bits w 0 11) (s.ex e).blocks.reverse).reverse ∧
      t.get (Reg.ENG_CYC_CYCLES e) = (s.get (Reg.ENG_CYC_CYCLES e) + 3) % 2 ^ 64 ∧
      (∀ k < 8, bit (t.get (Reg.ENG_EVT_PEND e)) k = (bit (s.get (Reg.ENG_EVT_PEND e)) k && !(bits w 24 3 == 1 && bits w 21 3 == k))) ∧
      EngDataKept e s t ∧ EngFrame e (Reg.ENG_EVT_PEND e :: engAt e) s t := by
  obtain ⟨quiet, due⟩ := rest_of_ready ready
  have stands : EngStands e [Reg.ENG_EVT_PEND e] s (s.jmpCleared e w) := by
    unfold State.jmpCleared
    split
    · exact (engStands_refl quiet due _).clearPend (by simp) _
    · exact engStands_refl quiet due _
  have kept : EngDataKept e s (s.jmpCleared e w) := by
    unfold State.jmpCleared
    split <;> exact ⟨rfl, rfl, rfl, rfl, rfl, rfl⟩
  have pend (k : Nat) (event : k < 8) : bit ((s.jmpCleared e w).get (Reg.ENG_EVT_PEND e)) k =
      (bit (s.get (Reg.ENG_EVT_PEND e)) k && !(bits w 24 3 == 1 && bits w 21 3 == k)) := by
    unfold State.jmpCleared
    split
    case isTrue on => rw [s.pend_clrBits e _ event, on]; rfl
    case isFalse other => simp [other]
  have moved := ((engMoved_refl e (s.jmpCleared e w)).age.setBlocks (blkLeave (bits w 0 11) ((s.jmpCleared e w).ex e).blocks.reverse).reverse).setPc
    (bits w 0 11)
  have jumps : s.jmpDo e w = _ := (if_pos taken).trans (State.engDone_moved moved stands.quiet stands.due 3)
  refine ⟨_, by rw [engRow_ready ready op, jumps], ?_, ?_, ?_, fun k event => ?_, (moved.cycles 3).dataKept_after kept,
    stands.frame_moved (moved.cycles 3)⟩
  · rw [State.get_engCycles_ne _ _ (by simp), State.get_setPc_same]
    exact Nat.mod_eq_of_lt (bits_lt w 0 11)
  · rw [State.ex_engCycles, State.ex_put, State.ex_setBlocks, stands.blocks]
  · rw [State.get_engCycles_same, State.get_put_ne _ _ (by simp), State.get_setBlocks _ _ (by simp), State.get_engAge, stands.cycles]
  · rw [(moved.cycles 3).get (by simp [engAt]), pend k event]

/-- An instruction that goes on to the next, having had its effect on what stands at it. -/
theorem engRow_goesOn (ready : EngReady e s w) {op : Nat} (mine : engOp w = op) {f : State → Nat → State} (once : (s.ex e).rpt = 0)
    (stands : EngStands e fs s u) (effect : f s w = (u.engStep e).engDone e 1) :
    ∃ t, s.engRow e op f = .next t ∧ EngPast e 1 s t ∧ EngMoved e u t ∧ EngFrame e (fs ++ engAt e) s t := by
  obtain ⟨past, moved, frame⟩ := stands.done once 1
  exact ⟨_, by rw [engRow_ready ready mine, effect], past, moved, frame⟩

theorem jmp_passes (ready : EngReady e s w) (op : engOp w = 0x12) (once : (s.ex e).rpt = 0) (stays : s.jmpTaken e w = false) :
    ∃ t, s.engRow e 0x12 (fun s w => s.jmpDo e w) = .next t ∧ EngPast e 1 s t ∧ EngDataKept e s t ∧ EngFrame e (engAt e) s t := by
  obtain ⟨t, next, past, moved, frame⟩ := engRow_goesOn ready op (f := fun s w => s.jmpDo e w) once (engStands_of_ready ready [])
    (if_neg (by rw [stays]; decide))
  exact ⟨t, next, past, ((engMoved_refl e s).age.trans moved).dataKept, frame⟩

/-! ### WAIT, SIGO, RETI and STOP (R264, R266, R267) -/

theorem wait_stalls (ready : EngReady e s w) (op : engOp w = 0x13) (none : bits w 0 8 &&& s.get (Reg.ENG_EVT_PEND e) = 0) :
    s.engRow e 0x13 (fun s w => s.waitDo e w) = .next (s.setEx e { s.ex e with stall := some .event }) := by
  have stalls : s.waitDo e w = s.setEx e { s.ex e with stall := some .event } := if_pos none
  rw [engRow_ready ready op, stalls]

theorem wait_passes (ready : EngReady e s w) (op : engOp w = 0x13) (once : (s.ex e).rpt = 0)
    (some : bits w 0 8 &&& s.get (Reg.ENG_EVT_PEND e) ≠ 0) :
    ∃ t, s.engRow e 0x13 (fun s w => s.waitDo e w) = .next t ∧ EngPast e 1 s t ∧
      (∀ k < 8, bit (t.get (Reg.ENG_EVT_PEND e)) k =
        (bit (s.get (Reg.ENG_EVT_PEND e)) k && k != lowBit (bits w 0 8 &&& s.get (Reg.ENG_EVT_PEND e)))) ∧
      EngDataKept e s t ∧ EngFrame e (Reg.ENG_EVT_PEND e :: engAt e) s t := by
  obtain ⟨quiet, due⟩ := rest_of_ready ready
  have stands : EngStands e [Reg.ENG_EVT_PEND e] s
      ((s.clrBits (Reg.ENG_EVT_PEND e) (2 ^ lowBit (bits w 0 8 &&& s.get (Reg.ENG_EVT_PEND e)))).engAge e) :=
    ((engStands_refl quiet due _).clearPend (by simp) _).age
  obtain ⟨t, next, past, moved, frame⟩ := engRow_goesOn ready op (f := fun s w => s.waitDo e w) once stands (if_neg some)
  refine ⟨t, next, past, fun k event => ?_, moved.dataKept_after ((engMoved_refl e _).age.dataKept), frame⟩
  rw [moved.get (by simp [engAt]), State.get_engAge, s.pend_clrBits e _ event, Bool.beq_comm]
  rfl

/-- The engine with the event outputs that its SIGO names inverted. -/
def State.sigoToggled (s : State) (e w : Nat) : State :=
  (s.engAge e).setEx e { (s.engAge e).ex e with eo := ((s.engAge e).ex e).eo ^^^ bits w 0 4 }

theorem sigo_passes (ready : EngReady e s w) (op : engOp w = 0x14) (once : (s.ex e).rpt = 0) :
    ∃ t, s.engRow e 0x14 (fun s w => ((s.sigoToggled e w).engStep e).engDone e 1) = .next t ∧ EngPast e 1 s t ∧
      (t.ex e).eo = (s.ex e).eo ^^^ bits w 0 4 ∧ EngDataKept e s t ∧ EngFrame e (engAt e) s t := by
  have record : (s.sigoToggled e w).ex e = { (s.engAge e).ex e with eo := ((s.engAge e).ex e).eo ^^^ bits w 0 4 } := State.ex_setEx_same _ _ _
  have stands : EngStands e [] s (s.sigoToggled e w) := (engStands_of_ready ready []).setEx rfl rfl rfl
  obtain ⟨t, next, past, moved, frame⟩ := engRow_goesOn ready op (f := fun s w => ((s.sigoToggled e w).engStep e).engDone e 1) once stands rfl
  rw [State.ex_engAge] at record
  refine ⟨t, next, past, by rw [moved.eo, record], moved.dataKept_after ?_, frame⟩
  unfold EngDataKept
  rw [record]
  exact ⟨rfl, rfl, rfl, rfl, rfl, rfl⟩

theorem reti_faults (ready : EngReady e s w) (op : engOp w = 0x15) (handler : s.flag (Reg.ENG_STAT_INTR e) = true)
    (deeper : (s.ex e).entryDepth < (s.ex e).blocks.length) :
    s.engRow e 0x15 (fun s _ => s.retiDo e) = .next (s.engFault e 2) := by
  have faults : s.retiDo e = s.engFault e 2 := if_pos (by simp [handler, deeper])
  rw [engRow_ready ready op, faults]

theorem reti_returns (ready : EngReady e s w) (op : engOp w = 0x15)
    (even : ¬ (s.flag (Reg.ENG_STAT_INTR e) = true ∧ (s.ex e).entryDepth < (s.ex e).blocks.length)) :
    ∃ t, s.engRow e 0x15 (fun s _ => s.retiDo e) = .next t ∧ t.get (Reg.ENG_STAT_PC e) = s.get (Reg.ENG_IPC_IPC e) % 2048 ∧
      t.flag (Reg.ENG_STAT_INTR e) = false ∧ t.get (Reg.ENG_CYC_CYCLES e) = (s.get (Reg.ENG_CYC_CYCLES e) + 3) % 2 ^ 64 ∧
      EngDataKept e s t ∧ EngFrame e (Reg.ENG_STAT_INTR e :: engAt e) s t := by
  have stands := (engStands_of_ready ready [Reg.ENG_STAT_INTR e]).put (f := Reg.ENG_STAT_INTR e) 0 (by simp) ⟨by simp, by simp, by simp, by simp⟩
  have moved := (engMoved_refl e ((s.engAge e).put (Reg.ENG_STAT_INTR e) 0)).setPc (s.get (Reg.ENG_IPC_IPC e))
  have returns : s.retiDo e = _ := (if_neg (by simpa using even)).trans (State.engDone_moved moved stands.quiet stands.due 3)
  refine ⟨_, by rw [engRow_ready ready op, returns], ?_, ?_, ?_, (moved.cycles 3).dataKept_after (engMoved_refl e s).age.dataKept,
    stands.frame_moved (moved.cycles 3)⟩
  · rw [State.get_engCycles_ne _ _ (by simp), State.get_setPc_same]
  · rw [State.flag, (moved.cycles 3).get (by simp [engAt]), State.get_put_same, Nat.zero_mod]
    rfl
  · rw [State.get_engCycles_same, State.get_put_ne _ _ (by simp), stands.cycles]

/-- The engine past its STOP, before RUN falls. -/
def State.stopPassed (s : State) (e : Nat) : State := ((s.engAge e).engStep e).engCycles e 1

theorem stop_halts (ready : EngReady e s w) (op : engOp w = 0x16) (once : (s.ex e).rpt = 0) :
    ∃ t, s.engRow e 0x16 (fun s _ => (s.stopPassed e).put (Reg.ENG_STAT_RUN e) 0) = .next t ∧ EngPast e 1 s t ∧
      t.flag (Reg.ENG_STAT_RUN e) = false ∧ EngDataKept e s t ∧ EngFrame e (Reg.ENG_STAT_RUN e :: engAt e) s t := by
  have stands := engStands_of_ready ready []
  have moved : EngMoved e s (s.stopPassed e) := (engMoved_refl e s).age.step.cycles 1
  have passed : EngPast e 1 s (s.stopPassed e) := engPast_step stands.blocks stands.pc stands.cycles (by omega) (stands.rpt.trans once)
  obtain ⟨cycles, place⟩ := passed
  refine ⟨_, by rw [engRow_ready ready op], ⟨?_, ?_⟩, ?_,
    moved.dataKept.put _ _, engFrame_put (engFrame_mono moved.frame (by simp)) 0 (by simp)⟩
  · rw [State.get_put_ne _ _ (by simp), cycles]
  · rw [State.get_put_ne _ _ (by simp), State.ex_put]
    exact place
  · rw [State.flag, State.get_put_same, Nat.zero_mod]
    rfl

end Sys2Proof.Machine

/-! SUPPORT. A signal engine's faults, handle queue operations, events, control register and window, and the statement of its sequencing settled
(R258, R264, R269, R271, R272, Table SIG-6). -/

namespace Sys2Proof.Machine

variable {s t u : State} {e w : Nat} {fs : List Fld}

/-! ### Faults (R272) -/

/-- The log's registers stand below the engines'. -/
theorem logFields_below_engines {f : Fld} (high : 0x1C00000 * 32 ≤ f.key) : ∀ g ∈ logFields, g.key ≠ f.key := by
  have low : ∀ g ∈ logFields, g.key < 0x1C00000 * 32 := by decide
  exact fun g hg => (Nat.lt_of_lt_of_le (low g hg) high).ne

@[simp] theorem State.ex_logEvent (s : State) (code src : Nat) (data : List Byte) (e : Nat) : (s.logEvent code src data).ex e = s.ex e := by
  obtain ⟨_, _, _, _, h⟩ := s.logEvent_frame code src data
  rw [h]
  rfl

/-- An engine at its fault, before it is logged. -/
def State.engFaulted (s : State) (e code : Nat) : State :=
  (((s.setEx e { s.ex e with rpt := 0, stall := none, haltReq := false }).put (Reg.ENG_STAT_RPT e) 0).put (Reg.ENG_STAT_RUN e) 0).put
    (Reg.ENG_STAT_FAULT e) code

theorem State.engFault_eq (s : State) (e code : Nat) : s.engFault e code =
    (s.engFaulted e code).logEvent 0x0505 e (leBytes 1 code ++ leBytes 2 ((s.engFaulted e code).get (Reg.ENG_STAT_PC e))) := rfl

theorem State.engFault_shows (s : State) (e : Nat) {code : Nat} (fits : code < 16) :
    (s.engFault e code).get (Reg.ENG_STAT_FAULT e) = code ∧ (s.engFault e code).flag (Reg.ENG_STAT_RUN e) = false ∧
      (s.engFault e code).get (Reg.ENG_STAT_PC e) = s.get (Reg.ENG_STAT_PC e) ∧ (s.engFault e code).win = s.win ∧
      ∀ f, f ≠ e → (s.engFault e code).ex f = s.ex f := by
  have shown {f : Fld} (high : 0x1C00000 * 32 ≤ f.key) : (s.engFault e code).get f = (s.engFaulted e code).get f :=
    State.get_logEvent _ _ _ _ (logFields_below_engines high)
  refine ⟨?_, ?_, ?_, ?_, fun f ne => ?_⟩
  · rw [shown (by rw [key_engFault]; omega)]
    exact State.get_put_fits _ fits
  · rw [State.flag, shown (by rw [key_engRun]; omega), State.engFaulted, State.get_put_ne _ _ (by simp), State.get_put_same, Nat.zero_mod]
    rfl
  · rw [shown (by rw [key_engPc]; omega), State.engFaulted, State.get_put_ne _ _ (by simp), State.get_put_ne _ _ (by simp),
      State.get_put_ne _ _ (by simp), State.get_setEx]
  · rw [State.engFault_eq, State.logEvent_win]
    rfl
  · rw [State.engFault_eq, State.ex_logEvent]
    exact s.ex_setEx_ne _ ne

/-! ### The instruction rows -/

section
variable (e : Fin 96) (s : State)
theorem exec_engNop : exec (.engNop e) s = s.engDataRow e 0 := rfl
theorem exec_mpy : exec (.mpy e) s = s.engDataRow e 1 := rfl
theorem exec_mac : exec (.mac e) s = s.engDataRow e 2 := rfl
theorem exec_msu : exec (.msu e) s = s.engDataRow e 3 := rfl
theorem exec_engAcc : exec (.engAcc e) s = s.engDataRow e 4 := rfl
theorem exec_ext : exec (.ext e) s = s.engDataRow e 5 := rfl
theorem exec_mov : exec (.mov e) s = s.engDataRow e 6 := rfl
theorem exec_setag : exec (.setag e) s = s.engDataRow e 7 := rfl
theorem exec_rpt : exec (.rpt e) s = s.engRow e 0x10 (fun s w => s.rptDo e w) := rfl
theorem exec_blk : exec (.blk e) s = s.engRow e 0x11 (fun s w => s.blkDo e w) := rfl
theorem exec_engJmp : exec (.engJmp e) s = s.engRow e 0x12 (fun s w => s.jmpDo e w) := rfl
theorem exec_wait : exec (.wait e) s = s.engRow e 0x13 (fun s w => s.waitDo e w) := rfl
theorem exec_sigo : exec (.sigo e) s = s.engRow e 0x14 (fun s w => ((s.sigoToggled e w).engStep e).engDone e 1) := rfl
theorem exec_reti : exec (.reti e) s = s.engRow e 0x15 (fun s _ => s.retiDo e) := rfl
theorem exec_engStop : exec (.engStop e) s = s.engRow e 0x16 (fun s _ => (s.stopPassed e).put (Reg.ENG_STAT_RUN e) 0) := rfl
theorem exec_engHpop : exec (.engHpop e) s = s.engRow e 0x18 (fun s w => s.engHqIssue e w none) := rfl
theorem exec_engHpush : exec (.engHpush e) s = s.engRow e 0x19 (fun s w => s.engHqIssue e w (some (s.ex e).hr)) := rfl
end

/-- The instruction rows of an engine, each with its OP. -/
def engRows (e : Fin 96) : List (Nat × Instr) :=
  [(0, .engNop e), (1, .mpy e), (2, .mac e), (3, .msu e), (4, .engAcc e), (5, .ext e), (6, .mov e), (7, .setag e), (0x10, .rpt e), (0x11, .blk e),
    (0x12, .engJmp e), (0x13, .wait e), (0x14, .sigo e), (0x15, .reti e), (0x16, .engStop e), (0x18, .engHpop e), (0x19, .engHpush e)]

theorem exec_engRows (e : Fin 96) (s : State) {op : Nat} {c : Instr} (row : (op, c) ∈ engRows e) : ∃ f, exec c s = s.engRow e op f := by
  have all : ∀ p ∈ engRows e, ∃ f, exec p.2 s = s.engRow e p.1 f := by
    simp only [engRows, List.forall_mem_cons]
    exact ⟨⟨_, exec_engNop e s⟩, ⟨_, exec_mpy e s⟩, ⟨_, exec_mac e s⟩, ⟨_, exec_msu e s⟩, ⟨_, exec_engAcc e s⟩,
      ⟨_, exec_ext e s⟩, ⟨_, exec_mov e s⟩, ⟨_, exec_setag e s⟩, ⟨_, exec_rpt e s⟩, ⟨_, exec_blk e s⟩, ⟨_, exec_engJmp e s⟩,
      ⟨_, exec_wait e s⟩, ⟨_, exec_sigo e s⟩, ⟨_, exec_reti e s⟩, ⟨_, exec_engStop e s⟩, ⟨_, exec_engHpop e s⟩, ⟨_, exec_engHpush e s⟩,
      fun _ none => absurd none List.not_mem_nil⟩
  exact all (op, c) row

/-- An ILLEGAL word faults at whichever row takes it. -/
theorem illegal_faults {e : Fin 96} (runs : s.engRuns e = true) (free : (s.ex e).stall = none) (quiet : (s.ex e).haltReq = false)
    (due : s.engDue e = 0) (illegal : engIllegal (s.engWord e (s.get (Reg.ENG_STAT_PC e))) = true) {op : Nat} {c : Instr}
    (row : (op, c) ∈ engRows e)
    (mine : engOp (s.engWord e (s.get (Reg.ENG_STAT_PC e))) = op ∨ engOp (s.engWord e (s.get (Reg.ENG_STAT_PC e))) ∉ engOps) :
    exec c s = .next (s.engFault e 1) := by
  obtain ⟨f, meaning⟩ := exec_engRows e s row
  rw [meaning, State.engRow_runs runs free quiet due rfl mine, if_pos illegal]

/-! ### Handle queue operations (R269) -/

/-- An operation issued joins the list of those in flight and goes to the tile network. -/
theorem State.issueHq_shape (s : State) (who : HqWho) (q : Nat) (push : Option Nat) : ∃ m, s.issueHq who q push =
    ({ s with hq := { s.hq with ops := s.hq.ops ++
        [{ key := s.hq.next, who := who, q := q, push := push, phase := .flight, withdrawn := false }],
                                next := s.hq.next + 1 }, mesh := m }, s.hq.next) := by
  unfold State.issueHq
  dsimp only
  obtain ⟨m, h⟩ := State.netSend_mesh { s with hq := { s.hq with
    ops := s.hq.ops ++
        [{ key := s.hq.next, who := who, q := q, push := push, phase := .flight, withdrawn := false }], next := s.hq.next + 1 } }
    who.place (s.hqPlace q) clsHq 4
  exact ⟨m, by rw [h]⟩

theorem engHqIssue_shape (s : State) (e w : Nat) (push : Option Nat) : ∃ m, s.engHqIssue e w push = State.setEx { s with
    hq := { s.hq with ops := s.hq.ops ++
        [{ key := s.hq.next, who := .engine e, q := bits w 16 10, push := push, phase := .flight, withdrawn := false }],
                      next := s.hq.next + 1 }, mesh := m } e { s.ex e with stall := some (.hq s.hq.next) } := by
  obtain ⟨m, h⟩ := s.issueHq_shape (.engine e) (bits w 16 10) push
  unfold State.engHqIssue
  rw [h]
  exact ⟨m, rfl⟩

theorem hq_issues (ready : EngReady e s w) {op : Nat} (mine : engOp w = op) (push : Option Nat) (f : State → Nat → State)
    (effect : f s w = s.engHqIssue e w push) : ∃ t, s.engRow e op f = .next t ∧ t.ex e = { s.ex e with stall := some (.hq s.hq.next) } ∧
      t.hq = { s.hq with
        ops := s.hq.ops ++
        [{ key := s.hq.next, who := .engine e, q := bits w 16 10, push := push, phase := .flight, withdrawn := false }],
        next := s.hq.next + 1 } ∧ t = { s with eng := t.eng, hq := t.hq, mesh := t.mesh } := by
  obtain ⟨m, shape⟩ := engHqIssue_shape s e w push
  refine ⟨s.engHqIssue e w push, by rw [engRow_ready ready mine, effect], ?_⟩
  rw [shape]
  exact ⟨State.ex_setEx_same _ _ _, rfl, rfl⟩

/-- The engine with its stall ended and its operation off the list. -/
def State.hqFreed (s : State) (e key : Nat) : State := (s.hqDrop key).draw.setEx e { (s.hqDrop key).ex e with stall := none }

@[simp] theorem State.ex_hqFreed (s : State) (e key : Nat) : (s.hqFreed e key).ex e = { s.ex e with stall := none } := State.ex_setEx_same _ _ _
@[simp] theorem State.get_hqFreed (s : State) (e key : Nat) (f : Fld) : (s.hqFreed e key).get f = s.get f := rfl

theorem State.hqOp_hqFreed (s : State) (e key : Nat) : (s.hqFreed e key).hqOp key = none := by
  have dropped : (s.hqFreed e key).hq.ops = s.hq.ops.filter (fun o => o.key != key) := rfl
  rw [State.hqOp, dropped, List.find?_eq_none]
  simp

/-- An answer without a refusal: a popped handle taken, and the engine past its instruction. -/
def State.hqTaken (s : State) (e w key value : Nat) (o : HqOp) : State :=
  if o.push.isSome then s.hqFreed e key else (s.hqFreed e key).engPopped e w value

theorem State.engHqEnd_answer {key value : Nat} {o : HqOp} (found : s.hqOp key = some o) (answer : o.phase = .resp 0 value) :
    s.engHqEnd e w key = (((s.hqTaken e w key value o).engAge e).engStep e).engDone e (1 + s.drawn 32) := by
  unfold State.engHqEnd
  rw [found]
  dsimp only
  rw [answer]
  rfl

theorem State.engHqEnd_refusal {key code value : Nat} {o : HqOp} (found : s.hqOp key = some o) (answer : o.phase = .resp code value)
    (refused : code ≠ 0) : s.engHqEnd e w key = (s.hqFreed e key).engFault e 4 := by
  unfold State.engHqEnd
  rw [found]
  dsimp only
  rw [answer]
  exact if_pos refused

theorem exec_engStallRelease_hq {e : Fin 96} {key : Nat} (runs : s.engRuns e = true) (stall : (s.ex e).stall = some (.hq key)) :
    exec (.engStallRelease e) s = .next (s.engHqEnd e (s.engWord e (s.get (Reg.ENG_STAT_PC e))) key) := by
  change execEngStallRelease e s = _
  unfold execEngStallRelease
  dsimp only
  rw [if_neg (by simp [runs]), stall]

/-- What the taken answer makes of the engine: a popped handle in HR, its buffer number in B and P of the generator named. -/
theorem State.ex_hqTaken (s : State) (e w key value : Nat) (o : HqOp) :
    (s.hqTaken e w key value o).ex e = if o.push.isSome then { s.ex e with stall := none }
    else { EngX.setAg { s.ex e with stall := none } (bits w 26 1)
      { (s.ex e).ag (bits w 26 1) with b := bits value 12 12, p := bits value 12 12 } with hr := value } := by
  unfold State.hqTaken
  split
  · exact s.ex_hqFreed e key
  · unfold State.engPopped
    dsimp only
    rw [State.ex_setEx_same, State.ex_hqFreed]
    rfl

theorem State.hqTaken_others (s : State) (e w key value : Nat) (o : HqOp) : (∀ f, (s.hqTaken e w key value o).get f = s.get f) ∧
    (s.hqTaken e w key value o).hqOp key = none ∧ (s.hqTaken e w key value o).win = s.win := by
  unfold State.hqTaken
  split <;> exact ⟨fun _ => rfl, s.hqOp_hqFreed e key, rfl⟩

theorem release_answered {e : Fin 96} {key value : Nat} {o : HqOp} (runs : s.engRuns e = true) (stall : (s.ex e).stall = some (.hq key))
    (quiet : (s.ex e).haltReq = false) (due : s.engDue e = 0) (found : s.hqOp key = some o) (answer : o.phase = .resp 0 value) :
    ∃ t, exec (.engStallRelease e) s = .next t ∧ (t.ex e).stall = none ∧ t.hqOp key = none ∧
      (o.push = none → (t.ex e).hr = value ∧
        ((t.ex e).ag (bits (s.engWord e (s.get (Reg.ENG_STAT_PC e))) 26 1)).b = bits value 12 12 ∧
        ((t.ex e).ag (bits (s.engWord e (s.get (Reg.ENG_STAT_PC e))) 26 1)).p = bits value 12 12) ∧
      (o.push ≠ none → (t.ex e).hr = (s.ex e).hr ∧ (t.ex e).ag0 = (s.ex e).ag0 ∧ (t.ex e).ag1 = (s.ex e).ag1) ∧
      t.get (Reg.ENG_STAT_PC e) = (blkNext (s.ex e).blocks.reverse (s.get (Reg.ENG_STAT_PC e))).2 % 2048 ∧ t.win = s.win := by
  generalize hw : s.engWord e (s.get (Reg.ENG_STAT_PC e)) = w
  have record := s.ex_hqTaken e w key value o
  obtain ⟨regs, dropped, win⟩ := s.hqTaken_others e w key value o
  have kept {α : Type} (part : EngX → α) (aside : ∀ x a b r, part { x with ag0 := a, ag1 := b, hr := r, stall := none } = part x) :
      part ((s.hqTaken e w key value o).ex e) = part (s.ex e) := by
    rw [record]
    unfold EngX.setAg
    split
    · exact aside (s.ex e) _ _ _
    · split <;> exact aside (s.ex e) _ _ _
  have undue : (s.hqTaken e w key value o).engDue e = 0 := by
    unfold State.engDue
    rw [regs, regs]
    exact due
  have moved := (engMoved_refl e (s.hqTaken e w key value o)).age.step
  have done := moved.cycles (1 + s.drawn 32)
  refine ⟨_, by rw [exec_engStallRelease_hq runs stall, hw, State.engHqEnd_answer found answer,
    State.engDone_moved moved ((kept EngX.haltReq fun _ _ _ _ => rfl).trans quiet) undue], ?_, ?_, fun pop => ?_,
    fun push => ?_, ?_, done.win.trans win⟩
  · rw [done.stall, record]
    split
    · rfl
    · exact EngX.setAg_part _ _ _ EngX.stall fun _ _ => rfl
  · rw [State.hqOp, hq_of_engFrame done.frame]
    exact dropped
  · rw [if_neg (by simp [pop])] at record
    rw [done.hr, done.ag, record]
    have named := EngX.ag_setAg_same { s.ex e with stall := none } (bits w 26 1)
      { (s.ex e).ag (bits w 26 1) with b := bits value 12 12, p := bits value 12 12 }
    exact ⟨rfl, congrArg Ag.b named, congrArg Ag.p named⟩
  · rw [if_pos (Option.isSome_iff_ne_none.2 push)] at record
    rw [done.hr, done.ag0, done.ag1, record]
    exact ⟨rfl, rfl, rfl⟩
  · rw [State.get_engCycles_ne _ _ (by simp), State.get_engStep_pc, State.ex_engAge, State.get_engAge, regs]
    exact congrArg (fun l => (blkNext l.reverse _).2 % 2048) (kept EngX.blocks fun _ _ _ _ => rfl)

end Sys2Proof.Machine

/-! SUPPORT. Events, GO, the control register and the window of a signal engine, and the statement of its sequencing settled (R263, R264, R267,
R271, Table SIG-6). -/

namespace Sys2Proof.Machine

variable {s t u : State} {e w : Nat} {fs : List Fld}

/-! ### Events (R263, R264) -/

namespace State

theorem engBoundary_halted (halted : s.flag (Reg.ENG_STAT_RUN e) = false) : s.engBoundary e = s := if_pos (by simp [halted])

theorem engUnstall_free (free : (s.ex e).stall = none) : s.engUnstall e = s := by
  unfold engUnstall
  simp [free]

theorem stallWins_free (free : (s.ex e).stall = none) : s.stallWins e = false := by
  unfold stallWins
  rw [free]

/-- A halt that is asked for takes effect at the boundary. -/
theorem engBoundary_halts (run : s.flag (Reg.ENG_STAT_RUN e) = true) (once : (s.ex e).rpt = 0) (free : (s.ex e).stall = none)
    (asked : (s.ex e).haltReq = true) : s.engBoundary e = (s.setEx e { s.ex e with haltReq := false }).put (Reg.ENG_STAT_RUN e) 0 := by
  unfold engBoundary
  dsimp only
  rw [if_neg (by simp [run, once, stallWins_free free]), if_pos asked, engUnstall_free free]

/-- The engine in the handler of event `k`. -/
def engInterrupted (s : State) (e k : Nat) : State :=
  (((((s.clrBits (Reg.ENG_EVT_PEND e) (2 ^ k)).put (Reg.ENG_IPC_IPC e) (s.get (Reg.ENG_STAT_PC e))).put (Reg.ENG_STAT_PC e) (0x7F8 + k)).put
    (Reg.ENG_STAT_INTR e) 1).setEx e { s.ex e with entryDepth := (s.ex e).blocks.length }).engCycles e 4

theorem lowBit_two_pow {k : Nat} (event : k < 8) : lowBit (2 ^ k) = k := by
  have table : ∀ j < 8, lowBit (2 ^ j) = j := by decide
  exact table k event

theorem engBoundary_interrupts {k : Nat} (run : s.flag (Reg.ENG_STAT_RUN e) = true) (once : (s.ex e).rpt = 0) (free : (s.ex e).stall = none)
    (quiet : (s.ex e).haltReq = false) (main : s.flag (Reg.ENG_STAT_INTR e) = false) (event : k < 8) (due : s.engDue e = 2 ^ k) :
    s.engBoundary e = s.engInterrupted e k := by
  unfold engBoundary
  dsimp only
  rw [if_neg (by simp [run, once, stallWins_free free]), if_neg (by simp [quiet]), due, if_neg (by simp [main]), engUnstall_free free,
    lowBit_two_pow event]
  rfl

theorem pend_orBits (s : State) (e j : Nat) {k : Nat} (event : k < 8) :
    bit ((s.orBits (Reg.ENG_EVT_PEND e) (2 ^ j)).get (Reg.ENG_EVT_PEND e)) k = (bit (s.get (Reg.ENG_EVT_PEND e)) k || j == k) := by
  have shown : (s.orBits (Reg.ENG_EVT_PEND e) (2 ^ j)).get (Reg.ENG_EVT_PEND e) = (s.get (Reg.ENG_EVT_PEND e) ||| 2 ^ j) % 2 ^ 8 :=
    State.get_put_same _ _ _
  rw [shown, bit_cut _ event, bit_eq_testBit, bit_eq_testBit, Nat.testBit_or, Nat.testBit_two_pow, beq_eq_decide]

/-- The edge of an enabled event makes it the one that is due. -/
theorem engDue_edge {k : Nat} (event : k < 8) (due : s.engDue e = 0) (enabled : bit (s.get (Reg.ENG_EVT_IEN e)) k = true) :
    (s.orBits (Reg.ENG_EVT_PEND e) (2 ^ k)).engDue e = 2 ^ k := by
  have shown : (s.orBits (Reg.ENG_EVT_PEND e) (2 ^ k)).get (Reg.ENG_EVT_PEND e) = (s.get (Reg.ENG_EVT_PEND e) ||| 2 ^ k) % 2 ^ 8 :=
    State.get_put_same _ _ _
  unfold engDue at due ⊢
  rw [shown, s.get_orBits_ne _ (by simp)]
  refine Nat.eq_of_testBit_eq fun j => ?_
  have none := congrArg (Nat.testBit · j) due
  rw [bit_eq_testBit] at enabled
  simp only [Nat.testBit_and, Nat.zero_testBit] at none
  rw [Nat.testBit_and, Nat.testBit_mod_two_pow, Nat.testBit_or, Nat.testBit_two_pow]
  by_cases same : k = j
  · subst same
    simp [event, enabled]
  · rw [decide_eq_false same, Bool.or_false, Bool.and_assoc, none, Bool.and_false]

end State

theorem exec_engEventEdge {e : Fin 96} (cores : s.coresRun = true) (cast : s.castRuns = true) (open_ : s.frozen (engRegion e) = false) (k : Fin 8) :
    exec (.engEventEdge e k) s = .next ((s.orBits (Reg.ENG_EVT_PEND e) (2 ^ k.val)).engBoundary e) := by
  change execEngEventEdge e k s = _
  exact if_pos (by simp [cores, cast, open_])

theorem edge_recorded {e : Fin 96} (cores : s.coresRun = true) (cast : s.castRuns = true) (open_ : s.frozen (engRegion e) = false) (k : Fin 8)
    (halted : s.flag (Reg.ENG_STAT_RUN e) = false) : exec (.engEventEdge e k) s = .next (s.orBits (Reg.ENG_EVT_PEND e) (2 ^ k.val)) := by
  rw [exec_engEventEdge cores cast open_, State.engBoundary_halted]
  rw [State.flag, s.get_orBits_ne _ (by simp)]
  exact halted

theorem edge_interrupts {e : Fin 96} (cores : s.coresRun = true) (cast : s.castRuns = true) (open_ : s.frozen (engRegion e) = false) (k : Fin 8)
    (quiet : (s.ex e).haltReq = false) (run : s.flag (Reg.ENG_STAT_RUN e) = true) (once : (s.ex e).rpt = 0) (free : (s.ex e).stall = none)
    (main : s.flag (Reg.ENG_STAT_INTR e) = false) (due : s.engDue e = 0) (enabled : bit (s.get (Reg.ENG_EVT_IEN e)) k = true) :
    ∃ t, exec (.engEventEdge e k) s = .next t ∧ t.get (Reg.ENG_STAT_PC e) = 0x7F8 + k ∧
      t.get (Reg.ENG_IPC_IPC e) = s.get (Reg.ENG_STAT_PC e) % 2048 ∧ t.flag (Reg.ENG_STAT_INTR e) = true ∧
      (∀ j < 8, bit (t.get (Reg.ENG_EVT_PEND e)) j = bit (s.get (Reg.ENG_EVT_PEND e)) j) ∧ (t.ex e).acc = (s.ex e).acc ∧
      EngFrame e [Reg.ENG_EVT_PEND e, Reg.ENG_STAT_PC e, Reg.ENG_IPC_IPC e, Reg.ENG_STAT_INTR e, Reg.ENG_CYC_CYCLES e] s t := by
  have shown {f : Fld} (out : f.key ≠ (Reg.ENG_EVT_PEND e).key) : (s.orBits (Reg.ENG_EVT_PEND e) (2 ^ k.val)).get f = s.get f
      := s.get_orBits_ne _ out
  have flag {f : Fld} (out : f.key ≠ (Reg.ENG_EVT_PEND e).key) : (s.orBits (Reg.ENG_EVT_PEND e) (2 ^ k.val)).flag f = s.flag f := by
    rw [State.flag, State.flag, shown out]
  have taken := State.engBoundary_interrupts (s := s.orBits (Reg.ENG_EVT_PEND e) (2 ^ k.val)) ((flag (by simp)).trans run) once free quiet
    ((flag (by simp)).trans main) k.isLt (State.engDue_edge k.isLt due enabled)
  have unpended : bit (s.get (Reg.ENG_EVT_PEND e)) k = false := by
    have none := congrArg (Nat.testBit · k) due
    unfold State.engDue at none
    simp only [Nat.testBit_and, Nat.zero_testBit] at none
    rw [bit_eq_testBit] at enabled ⊢
    rwa [enabled, Bool.and_true] at none
  refine ⟨_, by rw [exec_engEventEdge cores cast open_, taken], ?_, ?_, ?_, fun j event => ?_, ?_, ?_⟩
  · rw [State.engInterrupted, State.get_engCycles_ne _ _ (by simp), State.get_setEx, State.get_put_ne _ _ (by simp), State.get_setPc_same]
    omega
  · rw [State.engInterrupted, State.get_engCycles_ne _ _ (by simp), State.get_setEx, State.get_put_ne _ _ (by simp), State.get_put_ne _ _ (by simp),
      State.get_put_same, shown (by simp)]
    rfl
  · have handler : (1 : Nat) % 2 ^ 1 ≠ 0 := by decide
    rw [State.engInterrupted, State.flag, State.get_engCycles_ne _ _ (by simp), State.get_setEx, State.get_put_same]
    exact bne_iff_ne.2 handler
  · rw [State.engInterrupted, State.get_engCycles_ne _ _ (by simp), State.get_setEx, State.get_put_ne _ _ (by simp), State.get_put_ne _ _ (by simp),
      State.get_put_ne _ _ (by simp), State.pend_clrBits _ e _ event, State.pend_orBits s e _ event]
    by_cases same : k.val = j
    · rw [← same, unpended, beq_self_eq_true]
      rfl
    · rw [beq_false_of_ne same, Bool.or_false]
      exact Bool.and_true _
  · rw [State.engInterrupted, State.ex_engCycles, State.ex_setEx_same]
    rfl
  · have edge := engFrame_put (engFrame_refl e [Reg.ENG_EVT_PEND e, Reg.ENG_STAT_PC e, Reg.ENG_IPC_IPC e, Reg.ENG_STAT_INTR e, Reg.ENG_CYC_CYCLES e]
      s)
      (f := Reg.ENG_EVT_PEND e) (s.get (Reg.ENG_EVT_PEND e) ||| 2 ^ k.val) (by simp)
    exact engFrame_put (engFrame_setEx (engFrame_put (engFrame_put
      (engFrame_put (engFrame_put edge _ (by simp)) _ (by simp)) _ (by simp)) _ (by simp)) _)
      _ (by simp)

/-! ### GO and the control register (R267, Table SIG-6) -/

/-- The engines that go on where an entry is aborted. -/
def State.setHalted (s : State) (l : List Nat) : State := { s with pwr := { s.pwr with haltedEng := l } }

theorem engGo_runs (due : s.engDue e = 0) (quiet : (s.ex e).haltReq = false) (awake : s.quiescing = false) :
    s.engGo e = s.put (Reg.ENG_STAT_RUN e) 1 := by
  have starts : s.engStart e = s.put (Reg.ENG_STAT_RUN e) 1 := if_neg (by simp [awake])
  have stands := (engStands_refl quiet due [Reg.ENG_STAT_RUN e]).put (f := Reg.ENG_STAT_RUN e) 1 (by simp) ⟨by simp, by simp, by simp, by simp⟩
  rw [State.engGo, starts, State.engBoundary_quiet stands.quiet stands.due]

theorem engGo_quiesces (halted : s.flag (Reg.ENG_STAT_RUN e) = false) (quiesces : s.quiescing = true) :
    s.engGo e = s.setHalted (s.pwr.haltedEng.filter (fun x => x != e) ++ [e]) := by
  have starts : s.engStart e = s.setHalted (s.pwr.haltedEng.filter (fun x => x != e) ++ [e]) := if_pos quiesces
  rw [State.engGo, starts]
  exact State.engBoundary_halted halted

theorem goEdge_goes {e : Fin 96} (cores : s.coresRun = true) (cast : s.castRuns = true) (open_ : s.frozen (engRegion e) = false)
    (sound : s.get (Reg.ENG_STAT_FAULT e) = 0) (halted : s.flag (Reg.ENG_STAT_RUN e) = false) : exec (.goEdge e) s = .next (s.engGo e) := by
  change execGoEdge e s = _
  exact if_pos (by simp [cores, cast, open_, sound, halted])

theorem goEdge_faulted {e : Fin 96} (faulted : s.get (Reg.ENG_STAT_FAULT e) ≠ 0) : exec (.goEdge e) s = .next s := by
  change execGoEdge e s = _
  exact if_neg (by simp [faulted])

/-- An engine with its start address in PC, the engines that go on after an aborted entry being `l`. -/
def State.startReady (s : State) (e pc : Nat) (l : List Nat) : State :=
  ((s.put (Reg.ENG_CTRL_PC e) pc).setHalted l).put (Reg.ENG_STAT_PC e) (((s.put (Reg.ENG_CTRL_PC e) pc).setHalted l).get (Reg.ENG_CTRL_PC e))

/-- A start: the engine runs, or, while the device quiesces, is to go on where the entry is aborted. -/
theorem startReady_goes (due : s.engDue e = 0) (quiet : (s.ex e).haltReq = false) (halted : s.flag (Reg.ENG_STAT_RUN e) = false) {pc : Nat}
    (fits : pc < 2048) (l : List Nat) :
    ((s.startReady e pc l).engGo e).get (Reg.ENG_STAT_PC e) = pc ∧ ((s.startReady e pc l).engGo e).flag (Reg.ENG_STAT_RUN e) = !s.quiescing ∧
      (s.quiescing = true → e ∈ ((s.startReady e pc l).engGo e).pwr.haltedEng) ∧
      (s.startReady e pc l).engGo e = { s with regs := ((s.startReady e pc l).engGo e).regs
                                               pwr := { s.pwr with haltedEng := ((s.startReady e pc l).engGo e).pwr.haltedEng } } ∧
      RegsBut [Reg.ENG_CTRL_PC e, Reg.ENG_STAT_PC e, Reg.ENG_STAT_RUN e] s ((s.startReady e pc l).engGo e) := by
  have start : (s.startReady e pc l).get (Reg.ENG_STAT_PC e) = pc := by
    have held : ((s.put (Reg.ENG_CTRL_PC e) pc).setHalted l).get (Reg.ENG_CTRL_PC e) = pc := State.get_put_fits s fits
    rw [State.startReady, held]
    exact State.get_put_fits _ fits
  have shown {f : Fld} (pcOut : f.key ≠ (Reg.ENG_STAT_PC e).key) (ctrlOut : f.key ≠ (Reg.ENG_CTRL_PC e).key) :
      (s.startReady e pc l).get f = s.get f := (State.get_put_ne _ _ pcOut).trans (State.get_put_ne s _ ctrlOut)
  have still : (s.startReady e pc l).flag (Reg.ENG_STAT_RUN e) = false := by
    rw [State.flag, shown (by simp) (by simp)]
    exact halted
  have regs : RegsBut [Reg.ENG_CTRL_PC e, Reg.ENG_STAT_PC e, Reg.ENG_STAT_RUN e] s (s.startReady e pc l) :=
    regsBut_put (t := (s.put (Reg.ENG_CTRL_PC e) pc).setHalted l) (regsBut_put (regsBut_refl _ s) pc (by simp)) _ (by simp)
  cases awake : s.quiescing with
  | true =>
    rw [engGo_quiesces still awake]
    exact ⟨start, still, fun _ => List.mem_append_right _ List.mem_cons_self, rfl, regs⟩
  | false =>
    have undue : (s.startReady e pc l).engDue e = 0 := by
      unfold State.engDue
      rw [shown (by simp) (by simp), shown (by simp) (by simp)]
      exact due
    have runs : (1 : Nat) % 2 ^ 1 ≠ 0 := by decide
    rw [engGo_runs undue quiet awake]
    refine ⟨?_, ?_, nofun, rfl, regsBut_put regs 1 (by simp)⟩
    · rw [State.get_put_ne _ _ (by simp), start]
    · rw [State.flag, State.get_put_same]
      exact bne_iff_ne.2 runs

/-- A write of ENG_CTRL that starts the engine: a HALT beside it finds the engine halted, and takes it off those that go on. -/
theorem engCtrlWrite_starts (start : bit w 1 = true) (noClear : bit w 2 = false) (halted : s.flag (Reg.ENG_STAT_RUN e) = false)
    (sound : s.get (Reg.ENG_STAT_FAULT e) = 0) : ∃ l, s.engCtrlWrite e w = (s.startReady e (bits w 16 11) l).engGo e := by
  have shown {f : Fld} (out : f.key ≠ (Reg.ENG_CTRL_PC e).key)
      (l : List Nat) : ((s.put (Reg.ENG_CTRL_PC e) (bits w 16 11)).setHalted l).get f = s.get f :=
    State.get_put_ne s _ out
  have stays (l : List Nat) : ((s.put (Reg.ENG_CTRL_PC e) (bits w 16 11)).setHalted l).flag (Reg.ENG_STAT_RUN e) = false := by
    rw [State.flag, shown (by simp)]
    exact halted
  have asked : ∃ l, (if bit w 0 then (s.put (Reg.ENG_CTRL_PC e) (bits w 16 11)).engHaltAsk e else s.put (Reg.ENG_CTRL_PC e) (bits w 16 11)) =
      (s.put (Reg.ENG_CTRL_PC e) (bits w 16 11)).setHalted l := by
    split
    · exact ⟨s.pwr.haltedEng.filter (· != e), if_neg (ne_true_of_eq_false (stays _))⟩
    · exact ⟨s.pwr.haltedEng, rfl⟩
  obtain ⟨l, asked⟩ := asked
  refine ⟨l, ?_⟩
  unfold State.engCtrlWrite
  simp only [noClear, if_neg Bool.false_ne_true, asked]
  exact if_pos (by simp [start, stays, shown, sound])

/-- An engine that HALT has halted, the engines that go on after an aborted entry being `l`. -/
def State.haltDone (s : State) (e pc : Nat) (l : List Nat) : State :=
  ((((s.put (Reg.ENG_CTRL_PC e) pc).setHalted l).setEx e { s.ex e with haltReq := true }).setEx e { s.ex e with haltReq := false }).put
    (Reg.ENG_STAT_RUN e) 0

theorem engCtrlWrite_halts (halt : bit w 0 = true) (noStart : bit w 1 = false) (noClear : bit w 2 = false) (run : s.flag (Reg.ENG_STAT_RUN e) = true)
    (free : (s.ex e).stall = none) (once : (s.ex e).rpt = 0) :
    s.engCtrlWrite e w = s.haltDone e (bits w 16 11) (s.pwr.haltedEng.filter (fun x => x != e)) := by
  have runs : ((s.put (Reg.ENG_CTRL_PC e) (bits w 16 11)).setHalted (s.pwr.haltedEng.filter (fun x => x != e))).flag (Reg.ENG_STAT_RUN e) = true := by
    rw [← run]
    exact congrArg (· != 0) (State.get_put_ne s _ (by simp))
  have asked : (s.put (Reg.ENG_CTRL_PC e) (bits w 16 11)).engHaltAsk e = (((s.put (Reg.ENG_CTRL_PC e) (bits w 16 11)).setHalted
      (s.pwr.haltedEng.filter (fun x => x != e))).setEx e { s.ex e with haltReq := true }).engBoundary e := if_pos runs
  have record := State.ex_setEx_same ((s.put (Reg.ENG_CTRL_PC e) (bits w 16 11)).setHalted (s.pwr.haltedEng.filter (fun x => x != e))) e
    { s.ex e with haltReq := true }
  have halts := State.engBoundary_halts runs (s := ((s.put (Reg.ENG_CTRL_PC e) (bits w 16 11)).setHalted
    (s.pwr.haltedEng.filter (fun x => x != e))).setEx e { s.ex e with haltReq := true }) (by rw [record]; exact once) (by rw [record]; exact free)
    (by rw [record])
  unfold State.engCtrlWrite
  simp only [noClear, halt, noStart, if_neg Bool.false_ne_true, if_true, Bool.false_and, asked, halts, record]
  rfl

theorem haltDone_shows (s : State) (e pc : Nat) (l : List Nat) : (s.haltDone e pc l).flag (Reg.ENG_STAT_RUN e) = false ∧
    (s.haltDone e pc l).get (Reg.ENG_STAT_PC e) = s.get (Reg.ENG_STAT_PC e) ∧ ((s.haltDone e pc l).ex e).acc = (s.ex e).acc ∧
    (∀ f, f ≠ e → (s.haltDone e pc l).ex f = s.ex f) ∧ RegsBut [Reg.ENG_CTRL_PC e, Reg.ENG_STAT_RUN e] s (s.haltDone e pc l) ∧
    s.haltDone e pc l = { s with regs := (s.haltDone e pc l).regs, eng := (s.haltDone e pc l).eng, pwr := { s.pwr with haltedEng := l } } := by
  refine ⟨?_, ?_, ?_, fun f ne => ?_, ?_, rfl⟩
  · rw [State.flag, State.haltDone, State.get_put_same, Nat.zero_mod]
    rfl
  · exact (State.get_put_ne _ _ (by simp)).trans (State.get_put_ne s _ (by simp))
  · have record : (s.haltDone e pc l).ex e = { s.ex e with haltReq := false } := State.ex_setEx_same _ _ _
    rw [record]
  · exact (State.ex_setEx_ne _ _ ne).trans (State.ex_setEx_ne ((s.put (Reg.ENG_CTRL_PC e) pc).setHalted l) _ ne)
  · have put : RegsBut [Reg.ENG_CTRL_PC e, Reg.ENG_STAT_RUN e] s (s.put (Reg.ENG_CTRL_PC e) pc) := regsBut_put (regsBut_refl _ s) pc (by simp)
    exact regsBut_put (t := (((s.put (Reg.ENG_CTRL_PC e) pc).setHalted l).setEx e { s.ex e with haltReq := true }).setEx e
      { s.ex e with haltReq := false }) put 0 (by simp)

theorem engCtrlWrite_clears (noHalt : bit w 0 = false) (noStart : bit w 1 = false) (clear : bit w 2 = true) :
    s.engCtrlWrite e w = (s.put (Reg.ENG_CTRL_PC e) (bits w 16 11)).put (Reg.ENG_STAT_FAULT e) 0 := by
  unfold State.engCtrlWrite
  simp [clear, noHalt, noStart]

/-! ### The window (R270, R271) -/

/-- The engine and the place in its window that an address names. -/
theorem engine_of_address {e o : Nat} (inside : o < 0x8000) : (0x1C00000 + e * 0x8000 + o - 0x1C00000) / 0x8000 = e ∧
    (0x1C00000 + e * 0x8000 + o) % 0x8000 = o := by omega

theorem State.bankServe_program (s : State) (e : Fin 96) {o : Nat} (program : o < 0x2000) : s.bankServe (0x1C00000 + e * 0x8000 + o) = s := by
  unfold State.bankServe
  rw [(engine_of_address (by omega)).2]
  exact if_neg (by omega)

/-- A bank's word outside an RPT is served at a cost of a cycle or none. -/
theorem State.bankServe_bank (e : Fin 96) {o : Nat} (low : 0x2000 ≤ o) (high : o < 0x6000) (once : (s.ex e).rpt = 0) :
    s.bankServe (0x1C00000 + e * 0x8000 + o) = if s.engRuns e && (s.ex e).stall.isNone then s.draw.engCycles e (s.drawn 1) else s := by
  have := e.isLt
  unfold State.bankServe
  dsimp only
  rw [(engine_of_address (by omega)).1, (engine_of_address (by omega)).2, if_pos (by omega), once]
  rfl

section
variable {e : Fin 96} {off : Fin 24576} (powered : s.fabricPowered = true)
include powered

theorem exec_engMemoryAccess_reads : exec (.engMemoryAccess e off none) s = .next { s.bankServe (engWin e + off / 4 * 4) with
    addr := { (s.bankServe (engWin e + off / 4 * 4)).addr with
      readData := (s.bankServe (engWin e + off / 4 * 4)).engMemWord (engWin e + off / 4 * 4) } } := by
  change execEngMemoryAccess e off none s = _
  exact if_neg (by simp [powered])

theorem exec_engMemoryAccess_writes (writable : ¬ (off.val / 4 * 4 < 0x2000 ∧ s.flag (Reg.ENG_STAT_RUN e) = true)) (w : Word) :
    exec (.engMemoryAccess e off (some w)) s = .next ((s.bankServe (engWin e + off / 4 * 4)).wput (engWin e + off / 4 * 4) w.toNat) := by
  change execEngMemoryAccess e off (some w) s = _
  exact (if_neg (by simp [powered])).trans (if_neg writable)

theorem exec_engMemoryAccess_refuses (program : off.val / 4 * 4 < 0x2000) (run : s.flag (Reg.ENG_STAT_RUN e) = true) (w : Word) :
    exec (.engMemoryAccess e off (some w)) s = .next (s.put (Reg.ENG_STAT_WERR e) 1) := by
  change execEngMemoryAccess e off (some w) s = _
  exact (if_neg (by simp [powered])).trans (if_pos ⟨program, run⟩)

end

/-! ### Settled -/

/-- Settles O40: each row through the lemma of what it finds: an instruction at rest, an ILLEGAL word, an answer, an event, a start or a halt, a
word of the window. -/
theorem engineSequencing : Obligations.EngineSequencing := by
  unfold Obligations.EngineSequencing
  refine ⟨fun e s w ready once => ?rows, fun e s code fits => s.engFault_shows e fits,
    fun e s w runs free quiet due word illegal op c row mine => ?illegal,
    fun e s key o v runs stall quiet due once found => ⟨release_answered runs stall quiet due found, fun code answer refused => ?refused⟩,
    fun e k s cores cast open_ quiet => ⟨edge_recorded cores cast open_ k, edge_interrupts cores cast open_ k quiet, fun sound halted due => ?go,
      goEdge_faulted⟩,
    fun e w s powered quiet => ⟨fun start noClear halted sound due => ?start, fun halt noStart noClear run free once => ?halt,
      fun noHalt noStart clear => ?clear⟩,
    fun e off s powered => ?window⟩
  case rows =>
    dsimp only
    refine ⟨rpt_ready ready, rpt_faults ready, fun op => ⟨blk_deep ready op, blk_breaks ready op, blk_opens ready op⟩, jmp_taken ready,
      fun op => jmp_passes ready op once, fun op => ⟨wait_stalls ready op, wait_passes ready op once⟩, fun op => sigo_passes ready op once,
      reti_faults ready, reti_returns ready, fun op => stop_halts ready op once, fun c h row => ?_⟩
    simp only [List.mem_cons, List.not_mem_nil, Prod.mk.injEq, or_false] at row
    obtain ⟨op, rfl, rfl⟩ | ⟨op, rfl, rfl⟩ := row
    · exact hq_issues ready op none (fun s w => s.engHqIssue e w none) rfl
    · exact hq_issues ready op (some (s.ex e).hr) (fun s w => s.engHqIssue e w (some (s.ex e).hr)) rfl
  case illegal =>
    subst word
    exact illegal_faults runs free quiet due illegal row mine
  case refused =>
    obtain ⟨fault, run, -⟩ := (s.hqFreed e key).engFault_shows e (code := 4) (by decide)
    exact ⟨_, by rw [exec_engStallRelease_hq runs stall, State.engHqEnd_refusal found answer refused], fault, run⟩
  case go =>
    have goes := goEdge_goes cores cast open_ sound halted
    exact ⟨fun awake => by rw [goes, engGo_runs due quiet awake], fun quiesces => by rw [goes, engGo_quiesces halted quiesces]; rfl⟩
  case start =>
    obtain ⟨l, starts⟩ := engCtrlWrite_starts start noClear halted sound
    have meaning : exec (.engStart e w) s = .next (s.engCtrlWrite e w.toNat) := congrArg Host.Outcome.next (if_pos (by simp [powered, start]))
    rw [meaning, starts]
    exact ⟨_, rfl, startReady_goes due quiet halted (bits_lt _ _ _) l⟩
  case halt =>
    have meaning : exec (.engHalt e w) s = .next (s.engCtrlWrite e w.toNat) := congrArg Host.Outcome.next (if_pos (by simp [powered, halt]))
    rw [meaning, engCtrlWrite_halts halt noStart noClear run free once]
    exact ⟨_, rfl, haltDone_shows s e _ _⟩
  case clear =>
    have meaning : exec (.engClrFault e w) s = .next (s.engCtrlWrite e w.toNat) := congrArg Host.Outcome.next (if_pos (by simp [powered, clear]))
    rw [meaning, engCtrlWrite_clears noHalt noStart clear]
  case window =>
    have inside := off.isLt
    refine ⟨exec_engMemoryAccess_reads powered, fun w writable => exec_engMemoryAccess_writes powered writable w,
      fun w program run => exec_engMemoryAccess_refuses powered program run w, s.bankServe_program e,
      fun bank => State.bankServe_bank e bank (by omega)⟩

end Sys2Proof.Machine

/-! SUPPORT. Network operations on handle queues, and their statement settled (R290, R360, R361, R373, Table STRM-4). -/

namespace Sys2Proof.Machine
set_option Elab.async false

/-! ### Where the registers of a queue stand (Table STRM-7) -/

/-- A field at bit `l` of the word at `a` of queue 0's block stands a block's length further for each queue before its own. -/
theorem key_hqBlock (q a l w r : Nat) : (Fld.mk (a + q * 0x40) l w r).key = q * 0x800 + (a * 32 + l) := by
  simp only [Fld.key]
  omega

section
variable (q : Nat)
@[simp] theorem key_hqFabric : (Reg.HQ_CFG_FABRIC q).key = q * 0x800 + (0x3000000 * 32 + 30) := key_hqBlock _ _ _ _ _
@[simp] theorem key_hqLevel : (Reg.HQ_STAT_LEVEL q).key = q * 0x800 + 0x3000004 * 32 := key_hqBlock _ _ _ _ _
@[simp] theorem key_hqWpush : (Reg.HQ_STAT_WPUSH q).key = q * 0x800 + (0x3000004 * 32 + 14) := key_hqBlock _ _ _ _ _
@[simp] theorem key_hqWpop : (Reg.HQ_STAT_WPOP q).key = q * 0x800 + (0x3000004 * 32 + 19) := key_hqBlock _ _ _ _ _
end

/-! ### A queue's handles and waiter lists -/

namespace State

@[simp] theorem hqList_setHqList (s : State) (q : Nat) (push : Bool) (l : List Nat) : (s.setHqList q push l).hqList q push = l := by
  cases push <;> exact tget_tput_same _ _ _ _

@[simp] theorem hqList_hqMap (s : State) (key : Nat) (f : HqOp → HqOp) (q : Nat) (push : Bool) :
    (s.hqMap key f).hqList q push = s.hqList q push := rfl
@[simp] theorem hqList_showHq (s : State) (p q : Nat) (push : Bool) : (s.showHq p).hqList q push = s.hqList q push := rfl

@[simp] theorem hqHeld_hqMap (s : State) (key : Nat) (f : HqOp → HqOp) (q : Nat) : (s.hqMap key f).hqHeld q = s.hqHeld q := rfl

@[simp] theorem hqHeld_setHqList (s : State) (p q : Nat) (push : Bool) (l : List Nat) : (s.setHqList p push l).hqHeld q = s.hqHeld q := by
  cases push <;> rfl

/-- What HQ_STAT shows does not say where the queue is held. -/
@[simp] theorem hqHeld_showHq (s : State) (q : Nat) : (s.showHq q).hqHeld q = s.hqHeld q := by
  have fabric : (s.showHq q).flag (Reg.HQ_CFG_FABRIC q) = s.flag (Reg.HQ_CFG_FABRIC q) := by simp [flag, showHq, get_put_ne]
  have block : (s.showHq q).hqBlock q = s.hqBlock q := by
    rw [hqBlock, hqBlock, fabric]
    rfl
  rw [hqHeld, hqHeld, block]
  rfl

/-! ### An operation that meets its queue (R360, R361, Table STRM-4) -/

section
variable {s : State} {o : HqOp}

theorem hqMeet_disabled (off : s.flag (Reg.HQ_CFG_EN o.q) = false) : s.hqMeet o = s.hqAnswer o 1 0 := if_pos (by simp [off])

variable (on : s.flag (Reg.HQ_CFG_EN o.q) = true)
include on

theorem hqMeet_null (null : o.push = some nullHandle) : s.hqMeet o = s.hqAnswer o 3 0 := by
  rw [hqMeet, if_neg (by simp [on]), if_pos null]

variable (handle : o.push ≠ some nullHandle)
include handle

theorem hqMeet_free (open_ : s.hqFrozen o.q = false) (room : 0 < s.hqFree o.q o.push.isSome) : s.hqMeet o = s.hqApply o := by
  rw [hqMeet, if_neg (by simp [on]), if_neg handle, if_pos (by simp [open_, room])]

variable (refuses : s.hqFrozen o.q = true ∨ s.hqFree o.q o.push.isSome = 0) (wanted : o.withdrawn = false)
include refuses wanted

theorem hqMeet_waits (place : (s.hqList o.q o.push.isSome).length < 16) : s.hqMeet o =
    ((s.setHqList o.q o.push.isSome (s.hqList o.q o.push.isSome ++ [o.key])).hqMap o.key (fun o => { o with phase := .waiter })).showHq o.q := by
  rw [hqMeet, if_neg (by simp [on]), if_neg handle, if_neg (by rcases refuses with h | h <;> simp [h]), if_neg (by simp [wanted]), if_pos place]

theorem hqMeet_retries (full : 16 ≤ (s.hqList o.q o.push.isSome).length) : s.hqMeet o = s.hqMap o.key (fun o => { o with phase := .retry }) := by
  rw [hqMeet, if_neg (by simp [on]), if_neg handle, if_neg (by rcases refuses with h | h <;> simp [h]), if_neg (by simp [wanted]),
    if_neg (by omega)]

end

end State

/-! ### The network rows -/

section
variable {s : State} {i : Nat} {o : HqOp} (found : s.hq.ops[i]? = some o)
include found

/-- The first operation of its source on its way meets its queue, once what is in the network has arrived. -/
theorem exec_hqOpArrive (powered : s.plinthPowered = true) (flight : o.phase = .flight)
    (first : (s.hq.ops.take i).any (fun q => q.phase == .flight && sameHqSource q.who o.who) = false) :
    exec (.hqOpArrive i) s = .next (s.netSettle.hqMeet o) := by
  change execHqOpArrive i s = _
  unfold execHqOpArrive
  rw [found]
  exact if_pos ⟨flight, by simp [first], powered⟩

theorem exec_hqRetry_reserved (powered : s.plinthPowered = true) (reserved : o.phase = .reserved) (open_ : s.hqFrozen o.q = false) :
    exec (.hqRetry i) s = .next (s.hqApply o) := by
  change execHqRetry i s = _
  unfold execHqRetry
  rw [found]
  dsimp only
  rw [if_neg (by simp [powered]), if_neg (by simp [reserved]), if_pos (by simp [reserved, open_])]

theorem exec_hqRetry_again (powered : s.plinthPowered = true) (retry : o.phase = .retry) : exec (.hqRetry i) s = .next (s.hqMeet o) := by
  change execHqRetry i s = _
  unfold execHqRetry
  rw [found]
  dsimp only
  rw [if_neg (by simp [powered]), if_pos retry]

theorem exec_hqResponse_tile {code v t pc sd : Nat} (answer : o.phase = .resp code v) (who : o.who = .tile t pc sd) :
    exec (.hqResponse i) s = .next ((s.netSettle.hqDrop o.key).tileHqAnswer t pc sd o.push.isSome code v) := by
  change execHqResponse i s = _
  unfold execHqResponse
  rw [found]
  dsimp only
  rw [answer, who]

theorem exec_hqResponse_steeper {code v t st bk hk : Nat} (answer : o.phase = .resp code v) (who : o.who = .steeper t st bk hk) :
    exec (.hqResponse i) s = .next ((s.netSettle.hqDrop o.key).steepHqAnswer t st bk hk o.push.isSome code v) := by
  change execHqResponse i s = _
  unfold execHqResponse
  rw [found]
  dsimp only
  rw [answer, who]

end

theorem exec_hqReservationExpire {s : State} {q : Fin 1024} {push : Bool} {k : Nat}
    (oldest : (s.hqList q push).find? (fun k => s.hqReserved k) = some k) :
    exec (.hqReservationExpire q push) s = .next (s.hqMap k (fun o => { o with phase := .waiter })) := by
  change execHqReservationExpire q push s = _
  rw [execHqReservationExpire, oldest]

/-- Settles O38: an operation that arrives through the lemma of what it finds at its queue, the other rows through their own. -/
theorem handleQueueOperations : Obligations.HandleQueueOperations := by
  unfold Obligations.HandleQueueOperations
  refine ⟨fun i o s found powered => ⟨fun flight first => ?arrives, exec_hqRetry_reserved found powered, exec_hqRetry_again found powered,
    fun code v t pc sd => exec_hqResponse_tile found, fun code v t st bk hk => exec_hqResponse_steeper found⟩,
    fun q push k s => exec_hqReservationExpire⟩
  have arrives := exec_hqOpArrive found powered flight first
  refine ⟨fun off => ?_, fun on null => ?_, fun on handle open_ room => ?_, fun on handle refuses wanted => ⟨fun place => ?_, fun full => ?_⟩⟩
  · exact arrives.trans (congrArg _ (State.hqMeet_disabled (s := s.netSettle) off))
  · exact arrives.trans (congrArg _ (State.hqMeet_null (s := s.netSettle) on null))
  · exact arrives.trans (congrArg _ (State.hqMeet_free (s := s.netSettle) on handle open_ room))
  · refine ⟨_, arrives, ?_⟩
    rw [State.hqMeet_waits (s := s.netSettle) on handle refuses wanted place]
    simp only [State.hqList_showHq, State.hqList_hqMap, State.hqList_setHqList, State.hqHeld_showHq, State.hqHeld_hqMap, State.hqHeld_setHqList]
    exact ⟨rfl, rfl⟩
  · exact arrives.trans (congrArg _ (State.hqMeet_retries (s := s.netSettle) on handle refuses wanted full))

end Sys2Proof.Machine

/-! SUPPORT. A tile's registers, its record, and what a halt of it leaves as it was (R290, Table TILE-5). -/

namespace Sys2Proof.Machine
set_option Elab.async false

/-! ### Where the registers of a tile stand (Table TILE-5) -/

/-- A field at bit `l` of the word at `a` of tile 0's window stands a window's length further for each tile before its own. -/
theorem key_tileWindow (t a l w r : Nat) : (Fld.mk (a + t * 0x10000) l w r).key = t * 0x200000 + (a * 32 + l) := by
  simp only [Fld.key]
  omega

/-- The same of the words of a register with one word for each `k`. -/
theorem key_tileWords (t k a l w r : Nat) : (Fld.mk (a + t * 0x10000 + k * 4) l w r).key = t * 0x200000 + (k * 128 + (a * 32 + l)) := by
  simp only [Fld.key]
  omega

section
variable (t k : Nat)

@[simp] theorem key_tctrlAsid : (Reg.TCTRL_ASID t).key = t * 0x200000 + (0x1008000 * 32 + 24) := key_tileWindow _ _ _ _ _
@[simp] theorem key_tctrlPc : (Reg.TCTRL_PC t).key = t * 0x200000 + (0x1008000 * 32 + 8) := key_tileWindow _ _ _ _ _
@[simp] theorem key_tctrlCtx : (Reg.TCTRL_CTX t).key = t * 0x200000 + (0x1008000 * 32 + 5) := key_tileWindow _ _ _ _ _
@[simp] theorem key_tctrlFromPc : (Reg.TCTRL_FROM_PC t).key = t * 0x200000 + (0x1008000 * 32 + 4) := key_tileWindow _ _ _ _ _
@[simp] theorem key_tstatPc : (Reg.TSTAT_PC t).key = t * 0x200000 + (0x1008004 * 32 + 20) := key_tileWindow _ _ _ _ _
@[simp] theorem key_tstatFaulted : (Reg.TSTAT_FAULTED t).key = t * 0x200000 + (0x1008004 * 32 + 15) := key_tileWindow _ _ _ _ _
@[simp] theorem key_tstatRun : (Reg.TSTAT_RUN t).key = t * 0x200000 + (0x1008004 * 32 + 13) := key_tileWindow _ _ _ _ _
@[simp] theorem key_tstatStall : (Reg.TSTAT_STALL t).key = t * 0x200000 + (0x1008004 * 32 + 12) := key_tileWindow _ _ _ _ _
@[simp] theorem key_tstatCause : (Reg.TSTAT_CAUSE t).key = t * 0x200000 + (0x1008004 * 32 + 10) := key_tileWindow _ _ _ _ _
@[simp] theorem key_tstartRow : (Reg.TSTART_ROW t).key = t * 0x200000 + 0x1008008 * 32 := key_tileWindow _ _ _ _ _
@[simp] theorem key_tfaultCode : (Reg.TFAULT0_CODE t).key = t * 0x200000 + (0x1008010 * 32 + 28) := key_tileWindow _ _ _ _ _
@[simp] theorem key_tfaultPc : (Reg.TFAULT0_PC t).key = t * 0x200000 + (0x1008010 * 32 + 16) := key_tileWindow _ _ _ _ _
@[simp] theorem key_tfaultDetail : (Reg.TFAULT0_DETAIL t).key = t * 0x200000 + 0x1008010 * 32 := key_tileWindow _ _ _ _ _
@[simp] theorem key_tcycCycles : (Reg.TCYC_CYCLES t).key = t * 0x200000 + 0x1008020 * 32 := key_tileWindow _ _ _ _ _
@[simp] theorem key_tevtCtx : (Reg.TEVT_CTX t).key = t * 0x200000 + (0x1008028 * 32 + 2) := key_tileWindow _ _ _ _ _
@[simp] theorem key_tevtHalted : (Reg.TEVT_HALTED t).key = t * 0x200000 + (0x1008028 * 32 + 1) := key_tileWindow _ _ _ _ _
@[simp] theorem key_tevtFault : (Reg.TEVT_FAULT t).key = t * 0x200000 + 0x1008028 * 32 := key_tileWindow _ _ _ _ _
@[simp] theorem key_tfaultkReg : (Reg.TFAULTK_REG t k).key = t * 0x200000 + (k * 128 + (0x1008014 * 32 + 28)) := key_tileWords _ _ _ _ _ _
@[simp] theorem key_tfaultkType : (Reg.TFAULTK_TYPE t k).key = t * 0x200000 + (k * 128 + (0x1008014 * 32 + 24)) := key_tileWords _ _ _ _ _ _
@[simp] theorem key_tfaultkRows : (Reg.TFAULTK_ROWS t k).key = t * 0x200000 + (k * 128 + (0x1008014 * 32 + 16)) := key_tileWords _ _ _ _ _ _
@[simp] theorem key_tfaultkColb : (Reg.TFAULTK_COLB t k).key = t * 0x200000 + (k * 128 + 0x1008014 * 32) := key_tileWords _ _ _ _ _ _

end

/-- The log and the mailbox have their registers below the tiles' windows. -/
theorem below_tiles : ∀ g ∈ logFields ++ replyFields, g.key < 0x1000000 * 32 := by decide

/-! ### A tile's record -/

namespace State

@[simp] theorem tx_setTx_same (s : State) (t : Nat) (x : TileX) : (s.setTx t x).tx t = x := tget_tput_same _ _ _ _
theorem tx_setTx_ne (s : State) {t n : Nat} (x : TileX) (ne : n ≠ t) : (s.setTx t x).tx n = s.tx n := tget_tput_ne _ _ _ _ ne
@[simp] theorem tx_put (s : State) (f : Fld) (v t : Nat) : (s.put f v).tx t = s.tx t := rfl
@[simp] theorem get_setTx (s : State) (t : Nat) (x : TileX) (f : Fld) : (s.setTx t x).get f = s.get f := rfl

theorem flag_put_ne (s : State) {f g : Fld} (v : Nat) (h : g.key ≠ f.key) : (s.put f v).flag g = s.flag g := by
  rw [flag, flag, get_put_ne _ _ h]

/-! ### A halt (R290) -/

/-- Replies to waiting TILE_HALTs change what replies change, and the list of those that wait. -/
theorem settleHalts_frame (s : State) : ∃ l, ReplyFrame { s with tu := { s.tu with halts := l } } s.settleHalts := by
  refine ⟨s.tu.halts.filter (fun e => !s.haltSettled e.1), ?_⟩
  unfold settleHalts
  exact List.foldlRecOn (motive := ReplyFrame _) _ _ (ReplyFrame.refl _) fun u hu e _ => hu.trans (u.completeReq_frame _ _)

theorem settleHalts_regs (s : State) : RegsBut replyFields s s.settleHalts := by
  unfold settleHalts
  exact List.foldlRecOn (motive := RegsBut replyFields s) _ _ (regsBut_refl _ _) fun u hu e _ => regsBut_trans hu (u.completeReq_regsBut _ _)

@[simp] theorem tx_settleHalts (s : State) (t : Nat) : s.settleHalts.tx t = s.tx t := by
  obtain ⟨l, _, _, _, _, _, frame⟩ := s.settleHalts_frame
  rw [frame]
  rfl

/-- An event changes registers and the signals sent. -/
theorem event_shape (s : State) (f : Fld) (m pos : Nat) (en : Fld) (vec : Nat) (fe : Out) :
    ∃ r o, s.event f m pos en vec fe = { s with regs := r, out := o } := by
  unfold event
  dsimp only
  split <;> exact ⟨_, _, rfl⟩

theorem tileEvent_shape (s : State) (t pos : Nat) : ∃ r o, s.tileEvent t pos = { s with regs := r, out := o } := event_shape _ _ _ _ _ _ _

@[simp] theorem tx_tileEvent (s : State) (t pos n : Nat) : (s.tileEvent t pos).tx n = s.tx n := by
  obtain ⟨_, _, shape⟩ := s.tileEvent_shape t pos
  rw [shape]
  rfl

/-- The fields of TEVT. -/
def tileEvents (t : Nat) : List Fld := [Reg.TEVT_FAULT t, Reg.TEVT_HALTED t, Reg.TEVT_CTX t]

theorem tileEvent_regs (s : State) (t pos : Nat) : RegsBut (tileEvents t) s (s.tileEvent t pos) := by
  have set (f : Fld) (mem : f ∈ tileEvents t) : RegsBut (tileEvents t) s (s.event f 1 pos (Reg.TIRQ_EN_EN t) 2 (.tileIrq t)) := by
    have written := regsBut_put (regsBut_refl (tileEvents t) s) (s.get f ||| 1) mem
    unfold event
    dsimp only
    split <;> exact written
  refine set _ ?_
  unfold tileEvents
  split_ifs <;> simp

/-- The tile's own fields and record once it has halted. -/
def tileStopped (s : State) (t cause : Nat) : State :=
  (((s.put (Reg.TSTAT_RUN t) 0).put (Reg.TSTAT_STALL t) 0).put (Reg.TSTAT_CAUSE t) cause).setTx t
    { s.tx t with stall := none, haltReq := none, step := false }

theorem tileHalted_runs {s : State} {t : Nat} (runs : s.tileRuns t = true) (cause : Nat) :
    s.tileHalted t cause = ((s.tileStopped t cause).tileEvent t 1).settleHalts := if_pos runs

theorem tileHalted_still {s : State} {t : Nat} (still : s.tileRuns t = false) (cause : Nat) : s.tileHalted t cause = s :=
  if_neg (by simp [still])

/-- The fields that a halt writes: the tile's own, and the mailbox's for the replies. -/
def haltOwn (t : Nat) : List Fld := [Reg.TSTAT_RUN t, Reg.TSTAT_STALL t, Reg.TSTAT_CAUSE t] ++ tileEvents t
def haltFields (t : Nat) : List Fld := haltOwn t ++ replyFields

/-- They stand in the tile's own window. -/
theorem haltOwn_window (t : Nat) : ∀ g ∈ haltOwn t, t * 0x200000 + 0x1000000 * 32 ≤ g.key ∧ g.key < (t + 1) * 0x200000 + 0x1000000 * 32 := by
  simp only [haltOwn, tileEvents, List.cons_append, List.nil_append, List.forall_mem_cons, key_tstatRun, key_tstatStall, key_tstatCause,
    key_tevtFault, key_tevtHalted, key_tevtCtx]
  exact ⟨by omega, by omega, by omega, by omega, by omega, by omega, fun g hg => absurd hg List.not_mem_nil⟩

theorem tileHalted_regs (s : State) (t cause : Nat) : RegsBut (haltFields t) s (s.tileHalted t cause) := by
  by_cases runs : s.tileRuns t = true
  · have stopped : RegsBut (haltFields t) s (s.tileStopped t cause) :=
      regsBut_put (regsBut_put (regsBut_put (regsBut_refl _ _) _ (by simp [haltFields, haltOwn])) _ (by simp [haltFields, haltOwn])) _
        (by simp [haltFields, haltOwn])
    rw [tileHalted_runs runs]
    exact regsBut_trans (regsBut_trans stopped (regsBut_mono (tileEvent_regs _ _ _) fun g hg => by simp [haltFields, haltOwn, hg]))
      (regsBut_mono (settleHalts_regs _) fun g hg => by simp [haltFields, haltOwn, hg])
  · rw [tileHalted_still (by simpa using runs)]
    exact regsBut_refl _ _

/-- A field of a tile that a halt does not write. -/
theorem get_tileHalted (s : State) (t cause : Nat) {f : Fld} (high : 0x1000000 * 32 ≤ f.key)
    (out : ∀ g ∈ haltOwn t, g.key ≠ f.key) :
    (s.tileHalted t cause).get f = s.get f := by
  refine get_of_regsBut (s.tileHalted_regs t cause) fun g hg => ?_
  obtain own | reply := List.mem_append.1 hg
  · exact out g own
  · have := below_tiles g (List.mem_append_right _ reply)
    omega

/-- A halt changes registers, tiles' records, waiting TILE_HALTs, and what replies change. -/
theorem tileHalted_frame (s : State) (t cause : Nat) :
    ∃ x l, ReplyFrame { s with tu := { s.tu with tiles := x, halts := l } } (s.tileHalted t cause) := by
  by_cases runs : s.tileRuns t = true
  · rw [tileHalted_runs runs]
    obtain ⟨l, settled⟩ := ((s.tileStopped t cause).tileEvent t 1).settleHalts_frame
    obtain ⟨r, o, shape⟩ := (s.tileStopped t cause).tileEvent_shape t 1
    refine ⟨(s.tileStopped t cause).tu.tiles, l, ReplyFrame.trans ?_ settled⟩
    rw [shape]
    exact ⟨r, s.cmd, s.mesh, s.fab, o, rfl⟩
  · rw [tileHalted_still (by simpa using runs)]
    exact ⟨_, _, ReplyFrame.refl s⟩

section
variable (s : State) (t cause : Nat)

@[simp] theorem tileHalted_win : (s.tileHalted t cause).win = s.win := by
  obtain ⟨_, _, _, _, _, _, _, frame⟩ := s.tileHalted_frame t cause
  rw [frame]
@[simp] theorem tileHalted_mem : (s.tileHalted t cause).mem = s.mem := by
  obtain ⟨_, _, _, _, _, _, _, frame⟩ := s.tileHalted_frame t cause
  rw [frame]
@[simp] theorem tileHalted_rows : (s.tileHalted t cause).tu.rows = s.tu.rows := by
  obtain ⟨_, _, _, _, _, _, _, frame⟩ := s.tileHalted_frame t cause
  rw [frame]
@[simp] theorem tileHalted_sync : (s.tileHalted t cause).sync = s.sync := by
  obtain ⟨_, _, _, _, _, _, _, frame⟩ := s.tileHalted_frame t cause
  rw [frame]
@[simp] theorem tileHalted_hq : (s.tileHalted t cause).hq = s.hq := by
  obtain ⟨_, _, _, _, _, _, _, frame⟩ := s.tileHalted_frame t cause
  rw [frame]

end

theorem get_settleHalts (s : State) {f : Fld} (high : 0x1000000 * 32 ≤ f.key) : s.settleHalts.get f = s.get f :=
  get_of_regsBut s.settleHalts_regs fun g hg => by
    have := below_tiles g (List.mem_append_right _ hg)
    omega

theorem get_tileEvent (s : State) (t pos : Nat) {f : Fld} (out : ∀ g ∈ tileEvents t, g.key ≠ f.key) :
    (s.tileEvent t pos).get f = s.get f := get_of_regsBut (s.tileEvent_regs t pos) out

/-- A tile that is asked to halt at once does not run. -/
theorem tileRuns_tileHalted (s : State) (t cause : Nat) : (s.tileHalted t cause).tileRuns t = false := by
  by_cases runs : s.tileRuns t = true
  · rw [tileHalted_runs runs, tileRuns, flag, get_settleHalts _ (by simp only [key_tstatRun]; omega),
      get_tileEvent _ _ _ (by simp [tileEvents]), tileStopped, get_setTx, get_put_ne _ _ (by simp), get_put_ne _ _ (by simp), get_put_same]
    rfl
  · rw [tileHalted_still (by simpa using runs)]
    simpa using runs

theorem get_tileHalted_cause {s : State} {t : Nat} (runs : s.tileRuns t = true) (cause : Nat) :
    (s.tileHalted t cause).get (Reg.TSTAT_CAUSE t) = cause % 4 := by
  rw [tileHalted_runs runs, get_settleHalts _ (by simp only [key_tstatCause]; omega), get_tileEvent _ _ _ (by simp [tileEvents]), tileStopped,
    get_setTx, get_put_same]
  rfl

/-- Other tiles run on, or stay halted. -/
theorem tileRuns_tileHalted_ne (s : State) {t n : Nat} (cause : Nat) (ne : n ≠ t) : (s.tileHalted t cause).tileRuns n = s.tileRuns n := by
  rw [tileRuns, tileRuns, flag, flag, get_tileHalted _ _ _ (by simp only [key_tstatRun]; omega) fun g hg => ?_]
  have window := haltOwn_window t g hg
  rw [key_tstatRun]
  omega

/-- No halt leaves a stall where there was none. -/
theorem stall_tileHalted {s : State} {t n : Nat} (cause : Nat) (free : (s.tx n).stall = none) : ((s.tileHalted t cause).tx n).stall = none := by
  by_cases runs : s.tileRuns t = true
  · rw [tileHalted_runs runs, tx_settleHalts, tx_tileEvent, tileStopped]
    by_cases own : n = t
    · rw [own, tx_setTx_same]
    · rwa [tx_setTx_ne _ _ own]
  · rwa [tileHalted_still (by simpa using runs)]

end State

end Sys2Proof.Machine

/-! SUPPORT. Starting, halting and clearing a tile, and its instruction memory (R285, R286, R290, R293, R297, Table TILE-5). -/

namespace Sys2Proof.Machine
set_option Elab.async false

namespace State

variable {s u : State} {t w : Nat}

/-! ### A tile starts (R286) -/

/-- Writes to the tiles' windows do not freeze a region or load one. -/
theorem tileShut_of_regsBut {fs : List Fld} (h : RegsBut fs s u) (high : ∀ g ∈ fs, 0x1000000 * 32 ≤ g.key) (n : Nat) :
    u.tileShut n = s.tileShut n := by
  have same {f : Fld} (low : f.key < 0x1000000 * 32) : u.get f = s.get f :=
    get_of_regsBut h fun g hg => by have := high g hg; omega
  rw [tileShut, tileShut, frozen, frozen, same (by decide), same (by decide)]

/-- Where a start leaves PC and TSTART: at TCTRL.PC where FROM_PC is set, else as they were. -/
def tileAimed (s : State) (t : Nat) (step : Bool) : State :=
  if s.flag (Reg.TCTRL_FROM_PC t) && !step then (s.put (Reg.TSTAT_PC t) (s.get (Reg.TCTRL_PC t))).put (Reg.TSTART_ROW t) 0 else s

theorem tileAimed_frame (s : State) (t : Nat) (step : Bool) : s.tileAimed t step = { s with regs := (s.tileAimed t step).regs } := by
  unfold tileAimed
  split <;> rfl

section
variable (open_ : s.tileShut t = false) (still : s.tileRuns t = false) (sound : s.flag (Reg.TSTAT_FAULTED t) = false)
  (powered : s.fabricPowered = true) (awake : s.quiescing = false)
include open_ still sound powered awake

/-- A tile that a start suits runs. -/
theorem tileGo_goes (step : Bool) : s.tileGo t step =
    ((s.tileAimed t step).setTx t { s.tx t with step := step, haltReq := none }).put (Reg.TSTAT_RUN t) 1 := by
  have aimed := s.tileAimed_frame t step
  have tx : (s.tileAimed t step).tx t = s.tx t := by rw [aimed]; rfl
  have calm : (((s.tileAimed t step).setTx t { s.tx t with step := step, haltReq := none }).put (Reg.TSTAT_RUN t) 1).quiescing = false := by
    rw [aimed]
    exact awake
  rw [← tx] at calm ⊢
  exact (if_neg (by simp [powered, open_, still, sound])).trans (if_neg fun q => Bool.false_ne_true (calm.symm.trans q))

theorem tileGo_shows (step : Bool) : (s.tileGo t step).flag (Reg.TSTAT_RUN t) = true ∧ ((s.tileGo t step).tx t).step = step ∧
    (s.tileGo t step).get (Reg.TSTAT_PC t) =
      (if s.flag (Reg.TCTRL_FROM_PC t) && !step then s.get (Reg.TCTRL_PC t) % 2 ^ 12 else s.get (Reg.TSTAT_PC t)) ∧
    (s.tileGo t step).get (Reg.TSTART_ROW t) = (if s.flag (Reg.TCTRL_FROM_PC t) && !step then 0 else s.get (Reg.TSTART_ROW t)) ∧
    (s.tileGo t step).get (Reg.TCTRL_PC t) = s.get (Reg.TCTRL_PC t) ∧
    s.tileGo t step = { s with regs := (s.tileGo t step).regs, tu := (s.tileGo t step).tu } := by
  rw [tileGo_goes open_ still sound powered awake]
  refine ⟨by rw [flag, get_put_same]; rfl, by simp, ?_, ?_, ?_, ?_⟩
  · rw [get_put_ne _ _ (by simp), get_setTx, tileAimed]
    split
    · rw [get_put_ne _ _ (by simp), get_put_same]
      rfl
    · rfl
  · rw [get_put_ne _ _ (by simp), get_setTx, tileAimed]
    split
    · rw [get_put_same, Nat.zero_mod]
    · rfl
  · rw [get_put_ne _ _ (by simp), get_setTx, tileAimed]
    split <;> simp [get_put_ne]
  · rw [tileAimed_frame]
    rfl

end

/-! ### TCTRL written (Table TILE-5) -/

/-- The RW fields of TCTRL written. -/
def tctrlStored (s : State) (t w : Nat) : State :=
  (((s.put (Reg.TCTRL_ASID t) (bits w 24 8)).put (Reg.TCTRL_PC t) (bits w 8 12)).put (Reg.TCTRL_CTX t) (bits w 5 1)).put
    (Reg.TCTRL_FROM_PC t) (bits w 4 1)

def tctrlFields (t : Nat) : List Fld := [Reg.TCTRL_ASID t, Reg.TCTRL_PC t, Reg.TCTRL_CTX t, Reg.TCTRL_FROM_PC t]

theorem tctrlStored_regs (s : State) (t w : Nat) : RegsBut (tctrlFields t) s (s.tctrlStored t w) :=
  regsBut_put (regsBut_put (regsBut_put (regsBut_put (regsBut_refl _ _) _ (by simp [tctrlFields])) _ (by simp [tctrlFields])) _
    (by simp [tctrlFields])) _ (by simp [tctrlFields])

theorem tctrlFields_high (t : Nat) : ∀ g ∈ tctrlFields t, 0x1000000 * 32 ≤ g.key := by
  simp only [tctrlFields, List.forall_mem_cons, key_tctrlAsid, key_tctrlPc, key_tctrlCtx, key_tctrlFromPc]
  exact ⟨by omega, by omega, by omega, by omega, by simp⟩

theorem get_tctrlStored (s : State) (t w : Nat) {f : Fld} (out : ∀ g ∈ tctrlFields t, g.key ≠ f.key) :
    (s.tctrlStored t w).get f = s.get f := get_of_regsBut (s.tctrlStored_regs t w) out

theorem tctrlStored_shows (s : State) (t w : Nat) : (s.tctrlStored t w).get (Reg.TCTRL_PC t) = bits w 8 12 ∧
    (s.tctrlStored t w).flag (Reg.TCTRL_FROM_PC t) = bit w 4 := by
  constructor
  · rw [tctrlStored, get_put_ne _ _ (by simp), get_put_ne _ _ (by simp)]
    exact get_put_fits _ (bits_lt _ _ _)
  · have field : (s.tctrlStored t w).get (Reg.TCTRL_FROM_PC t) = bits w 4 1 := get_put_fits _ (bits_lt w 4 1)
    rw [flag, field, bit]
    have := bits_lt w 4 1
    obtain h | h : bits w 4 1 = 0 ∨ bits w 4 1 = 1 := by omega
    all_goals simp [h]

section
variable (s) (noHalt : bit w 1 = false) (noClear : bit w 3 = false)
include noHalt noClear

theorem tctrlWrite_starts (start : bit w 0 = true) : s.tctrlWrite t w = (s.tctrlStored t w).tileStart t false := by
  simp [tctrlWrite, tctrlStored, noHalt, noClear, start]

theorem tctrlWrite_steps (noStart : bit w 0 = false) (step : bit w 2 = true) : s.tctrlWrite t w = (s.tctrlStored t w).tileStart t true := by
  simp [tctrlWrite, tctrlStored, noHalt, noClear, noStart, step]

end

theorem tctrlWrite_halts (noStart : bit w 0 = false) (halt : bit w 1 = true) (noStep : bit w 2 = false) (noClear : bit w 3 = false) :
    s.tctrlWrite t w = (s.tctrlStored t w).tileHalt t 0 := by
  simp [tctrlWrite, tctrlStored, noStart, halt, noStep, noClear]

theorem tctrlWrite_clears (noStart : bit w 0 = false) (noHalt : bit w 1 = false) (noStep : bit w 2 = false) (clear : bit w 3 = true) :
    s.tctrlWrite t w = (s.tctrlStored t w).tileClear t := by
  simp [tctrlWrite, tctrlStored, noStart, noHalt, noStep, clear]

theorem tileStart_waits {step : Bool} (ctx : (s.tx t).ctx.isSome = true) :
    s.tileStart t step = s.setTx t { s.tx t with startWait := (s.tx t).startWait ++ [step] } := if_pos ctx

theorem tileStart_goes {step : Bool} (ctx : (s.tx t).ctx = none) : s.tileStart t step = s.tileGo t step := if_neg (by simp [ctx])

/-- A write of TCTRL that starts or steps a tile which it suits. -/
theorem tctrlStart_shows (step : Bool) (ctx : (s.tx t).ctx = none) (still : s.tileRuns t = false) (sound : s.flag (Reg.TSTAT_FAULTED t) = false)
    (open_ : s.tileShut t = false) (awake : s.quiescing = false) (powered : s.fabricPowered = true) :
    ∃ u, (s.tctrlStored t w).tileStart t step = u ∧ u.flag (Reg.TSTAT_RUN t) = true ∧ (u.tx t).step = step ∧
      u.get (Reg.TSTAT_PC t) = (if bit w 4 && !step then bits w 8 12 else s.get (Reg.TSTAT_PC t)) ∧
      u.get (Reg.TSTART_ROW t) = (if bit w 4 && !step then 0 else s.get (Reg.TSTART_ROW t)) ∧ u = { s with regs := u.regs, tu := u.tu } := by
  obtain ⟨aim, from_⟩ := s.tctrlStored_shows t w
  have kept {f : Fld} (out : ∀ g ∈ tctrlFields t, g.key ≠ f.key) := s.get_tctrlStored t w out
  obtain ⟨run, stepped, pc, row, -, frame⟩ := tileGo_shows (s := s.tctrlStored t w) (t := t)
    ((tileShut_of_regsBut (s.tctrlStored_regs t w) (tctrlFields_high t) t).trans open_)
    (by rwa [tileRuns, flag, kept (by simp [tctrlFields])]) (by rwa [flag, kept (by simp [tctrlFields])]) powered awake step
  rw [from_, aim, Nat.mod_eq_of_lt (bits_lt _ _ _), kept (by simp [tctrlFields])] at pc
  rw [from_, kept (by simp [tctrlFields])] at row
  exact ⟨_, tileStart_goes ctx, run, stepped, pc, row, frame⟩

/-- A halt asked of a running tile that does not stall is a halt at once. -/
theorem tileHalt_free (free : (s.tx t).stall = none) (cause : Nat) : s.tileHalt t cause = s.tileHalted t cause := by
  by_cases runs : s.tileRuns t = true
  · rw [tileHalt, if_neg (by simp [runs]), free]
  · rw [tileHalted_still (by simpa using runs)]
    exact if_pos (by simpa using runs)

/-! ### Instruction memory (R285) -/

/-- A window write while the tile runs is discarded with WERR. -/
theorem instrWrite_refused (req : Requester) (k : Nat) (high : Bool) (w : Nat) (runs : s.tileRuns t = true) :
    s.instrWrite req t k high w = s.windowRefused req t (tileWin t + 8 * k) (tileWin t + 8 * k + 4) := if_pos runs

theorem instrWrite_low (req : Requester) (k w : Nat) (still : s.tileRuns t = false) :
    s.instrWrite req t k false w = s.hold req (tileWin t + 8 * k) w := by
  simp [instrWrite, still]

/-- The one word that a requester holds for an instruction is taken whole. -/
theorem takeHeld_only {req : Requester} {a lo : Nat} (held : s.addr.held = [{ req := req, addr := a, word := lo }]) :
    s.takeHeld req a (a + 4) = ({ s with addr := { s.addr with held := [] } }, [some lo]) := by
  simp [takeHeld, held]

theorem instrWrite_high {req : Requester} {k lo : Nat} (w : Nat) (still : s.tileRuns t = false)
    (held : s.addr.held = [{ req := req, addr := tileWin t + 8 * k, word := lo }]) : s.instrWrite req t k true w =
      (State.wput { s with addr := { s.addr with held := [] } } (tileWin t + 8 * k) lo).wput (tileWin t + 8 * k + 4) w := by
  simp [instrWrite, still, takeHeld_only held]

/-- Both words of an instruction written change that instruction alone. -/
theorem tileWord_wput (s : State) (t lo hi : Nat) {k j : Nat} : ((s.wput (tileWin t + 8 * k) lo).wput (tileWin t + 8 * k + 4) hi).tileWord t j =
    if j = k then lo % 2 ^ 32 + hi % 2 ^ 32 * 2 ^ 32 else s.tileWord t j := by
  unfold tileWord
  split
  · subst j
    rw [wget_wput_ne _ _ (by omega), wget_wput_same, wget_wput_same]
  · rw [wget_wput_ne _ _ (by omega), wget_wput_ne _ _ (by omega), wget_wput_ne _ _ (by omega), wget_wput_ne _ _ (by omega)]

end State

/-! ### TILE_START, TILE_HALT and TILE_FAULT_CLEAR (R297) -/

section
variable {s : State} {c : Ctx}

theorem tilesOf_one {n : Nat} (one : n ≠ 0xFF) : tilesOf n = [n] := if_neg one
theorem tilesOf_all : tilesOf 0xFF = List.range 192 := if_pos rfl

theorem State.startRefused_none {n : Nat} : s.startRefused n = none ↔
    s.tileShut n = false ∧ s.tileRuns n = false ∧ s.flag (Reg.TSTAT_FAULTED n) = false := by
  rw [State.startRefused]
  split_ifs with shut runs faulted
  · simp [shut]
  · simp [runs]
  · simp [faulted]
  · simp [Bool.not_eq_true _ ▸ shut, Bool.not_eq_true _ ▸ runs, Bool.not_eq_true _ ▸ faulted]

theorem tileStartRun_waits (runs : s.ctxRuns (c.at 0 1) = true) : tileStartRun s c = (s, Ans.late) := if_pos runs

section
variable (free : s.ctxRuns (c.at 0 1) = false)
include free

theorem tileStartRun_refused (one : c.at 0 1 ≠ 0xFF) {e : Nat} (refused : s.startRefused (c.at 0 1) = some e) :
    tileStartRun s c = (s, Ans.code 0xE e) := by
  change leAt c.data 0 1 ≠ 0xFF at one
  change s.startRefused (leAt c.data 0 1) = some e at refused
  rw [tileStartRun, if_neg (by simp [free]), State.tileStartDo]
  dsimp only
  rw [if_neg one, refused]

/-- The fields of TCTRL that TILE_START writes, and the tile started. -/
def State.tileSent (s : State) (c : Ctx) (n : Nat) : State :=
  ((s.put (Reg.TCTRL_FROM_PC n) (c.at 1 1)).put (Reg.TCTRL_PC n) (c.at 2 2)).tileGo n false

theorem tileStartRun_one (one : c.at 0 1 ≠ 0xFF) (suits : s.startRefused (c.at 0 1) = none) : tileStartRun s c =
    (s.tileSent c (c.at 0 1), Ans.ok (leBytes 4 ((s.tileSent c (c.at 0 1)).tstat (c.at 0 1)) ++ leBytes 4 0)) := by
  change leAt c.data 0 1 ≠ 0xFF at one
  change s.startRefused (leAt c.data 0 1) = none at suits
  rw [tileStartRun, if_neg (by simp [free]), State.tileStartDo]
  dsimp only
  rw [if_neg one, if_neg one, suits, tilesOf_one one]
  simp only [List.filter_cons, suits, Option.isNone_none, if_true, List.filter_nil]
  rfl

theorem tileStartRun_all (all : c.at 0 1 = 0xFF) : ∃ v, tileStartRun s c = (v, Ans.ok (leBytes 4 (v.tstat 0) ++
    leBytes 4 (192 - ((List.range 192).filter (fun t => (s.startRefused t).isNone)).length))) := by
  change leAt c.data 0 1 = 0xFF at all
  rw [tileStartRun, if_neg (by simp [free]), State.tileStartDo]
  dsimp only
  rw [all, if_pos rfl, if_pos rfl, tilesOf_all, List.length_range]
  exact ⟨_, rfl⟩

end

/-- Tiles asked to halt of which none stalls have all halted, and so stay those that had. -/
theorem State.tileRuns_foldl_tileHalt (l : List Nat) (s : State) (free : ∀ t ∈ l, (s.tx t).stall = none) {n : Nat}
    (halts : n ∈ l ∨ s.tileRuns n = false) : (l.foldl (fun s t => s.tileHalt t 0) s).tileRuns n = false := by
  induction l generalizing s with
  | nil => simpa using halts
  | cons t l ih =>
    rw [List.foldl_cons, State.tileHalt_free (free t List.mem_cons_self)]
    refine ih _ (fun m hm => State.stall_tileHalted 0 (free m (List.mem_cons_of_mem _ hm))) ?_
    by_cases own : n = t
    · subst own
      exact .inr (s.tileRuns_tileHalted n 0)
    · rw [s.tileRuns_tileHalted_ne 0 own]
      exact halts.imp_left fun h => (List.mem_cons.1 h).resolve_left own

theorem tileHaltRun_shut (one : c.at 0 1 ≠ 0xFF) (shut : s.tileShut (c.at 0 1) = true) : tileHaltRun s c = (s, Ans.code 0xE 3) :=
  if_pos ⟨one, shut⟩

theorem tileHaltRun_halts (open_ : c.at 0 1 = 0xFF ∨ s.tileShut (c.at 0 1) = false) (free : ∀ t ∈ tilesOf (c.at 0 1), (s.tx t).stall = none) :
    ∀ t ∈ tilesOf (c.at 0 1), (tileHaltRun s c).1.tileRuns t = false := by
  intro t named
  have halted := State.tileRuns_foldl_tileHalt ((tilesOf (c.at 0 1)).filter fun t => s.tileRuns t) s
    (fun n hn => free n (List.mem_of_mem_filter hn)) (n := t) (by
      by_cases runs : s.tileRuns t = true
      · exact .inl (List.mem_filter.2 ⟨named, runs⟩)
      · exact .inr (by simpa using runs))
  unfold tileHaltRun
  dsimp only
  rw [if_neg (by rintro ⟨one, shut⟩; rcases open_ with h | h <;> simp_all)]
  split <;> exact halted

/-- Faulted tiles cleared one after another: a tile among them is no longer faulted, and none that was not becomes so. -/
theorem State.faulted_foldl_tileClear (l : List Nat) (s : State) {n : Nat} (clears : n ∈ l ∨ s.flag (Reg.TSTAT_FAULTED n) = false) :
    (l.foldl (fun s t => s.tileClear t) s).flag (Reg.TSTAT_FAULTED n) = false := by
  induction l generalizing s with
  | nil => simpa using clears
  | cons t l ih =>
    refine ih _ ?_
    by_cases own : n = t
    · subst own
      exact .inr (by simp [State.tileClear, State.flag])
    · refine (clears.imp_left fun h => (List.mem_cons.1 h).resolve_left own).imp_right fun sound => ?_
      have kept : tfind (s.clearRegs (tileWin t + 0x8010) (tileWin t + 0x8020)).regs (Reg.TSTAT_FAULTED n).key =
          tfind s.regs (Reg.TSTAT_FAULTED n).key :=
        (tfind_tclear _ _ _ _).trans (if_neg (by simp [tileWin]; omega))
      change (s.tileClear t).flag _ = false
      rwa [State.tileClear, State.flag_put_ne _ _ (by simp; omega), State.flag, State.get, tget, kept]

theorem tileFaultClearRun_one (one : c.at 0 1 ≠ 0xFF) : tileFaultClearRun s c =
    (if s.flag (Reg.TSTAT_FAULTED (c.at 0 1)) then s.tileClear (c.at 0 1) else s, Ans.ok (s.tileFaultData (c.at 0 1))) := by
  rw [tileFaultClearRun]
  rw [tilesOf_one one, if_neg one, if_neg one, List.append_nil]
  by_cases faulted : s.flag (Reg.TSTAT_FAULTED (c.at 0 1)) = true
  · simp [faulted]
  · simp [Bool.not_eq_true _ ▸ faulted]

theorem tileFaultClearRun_all (all : c.at 0 1 = 0xFF) : ∃ v, tileFaultClearRun s c = (v, Ans.ok (s.tileFaultData 0 ++
    leBytes 4 (192 - ((List.range 192).filter (fun t => s.flag (Reg.TSTAT_FAULTED t))).length))) ∧
    ∀ t < 192, v.flag (Reg.TSTAT_FAULTED t) = false := by
  rw [tileFaultClearRun]
  rw [all, if_pos rfl, if_pos rfl, tilesOf_all]
  refine ⟨_, rfl, fun t tile => State.faulted_foldl_tileClear _ _ ?_⟩
  by_cases faulted : s.flag (Reg.TSTAT_FAULTED t) = true
  · exact .inl (List.mem_filter.2 ⟨List.mem_range.2 tile, faulted⟩)
  · exact .inr (by simpa using faulted)

theorem tileCtxSaveRun_starts (suits : s.ctxRefused (c.at 0 1) = none) : ∃ mode, tileCtxSaveRun s c =
    (s.setTx (c.at 0 1) { s.tx (c.at 0 1) with ctx := some { save := true, addr := c.at 4 8, mode := mode, req := c.p } }, Ans.late) := by
  rw [tileCtxSaveRun]
  dsimp only
  rw [suits]
  exact ⟨_, rfl⟩

@[simp] theorem length_leBytes (n x : Nat) : (leBytes n x).length = n := by
  induction n generalizing x with
  | zero => rfl
  | succ n ih => simp [leBytes, ih]

end

/-! ### Context operations complete (R293, R294) -/

section
variable {s : State} {t : Fin 192} {k : CtxRun} (ctx : (s.tx t).ctx = some k) (cores : s.coresRun = true)
include ctx cores

theorem exec_tileCtxComplete_saves (save : k.save = true) (admitted : s.mustWait k.addr (s.ctxRecord t (k.mode == 1)).length = false) :
    exec (.tileCtxComplete t) s = .next ((((s.netAccess t k.addr (s.ctxRecord t (k.mode == 1)).length true).writeMem 2 k.addr
      (s.ctxRecord t (k.mode == 1))).tileEvent t 2).ctxEnd t k.req (Ans.ok (leBytes 4 (s.ctxRecord t (k.mode == 1)).length))) := by
  change execTileCtxComplete t s = _
  unfold execTileCtxComplete
  rw [ctx]
  dsimp only
  rw [if_neg (by simp [cores, save, admitted]), if_pos save]

theorem exec_tileCtxComplete_restores (restore : k.save = false) (admitted : s.mustWait k.addr 1280 = false) :
    exec (.tileCtxComplete t) s = .next (s.ctxRestore t k) := by
  change execTileCtxComplete t s = _
  unfold execTileCtxComplete
  rw [ctx]
  dsimp only
  rw [if_neg (by simp [cores, restore, admitted]), if_neg (by simp [restore])]

end

end Sys2Proof.Machine

/-! SUPPORT. The statement of tile control settled (R285, R286, R290, R292, R293, R294, R297, Table TILE-5). -/

namespace Sys2Proof.Machine
set_option Elab.async false

/-! ### The rows of a tile's window -/

section
variable {s : State} (powered : s.fabricPowered = true) (t : Fin 192)
include powered

theorem exec_tctrlStart {w : Word} (start : bit w.toNat 0 = true) : exec (.tctrlStart t w) s = .next (s.tctrlWrite t w.toNat) :=
  congrArg Host.Outcome.next (if_pos (by simp [powered, start]))
theorem exec_tctrlStep {w : Word} (step : bit w.toNat 2 = true) : exec (.tctrlStep t w) s = .next (s.tctrlWrite t w.toNat) :=
  congrArg Host.Outcome.next (if_pos (by simp [powered, step]))
theorem exec_tctrlHalt {w : Word} (halt : bit w.toNat 1 = true) : exec (.tctrlHalt t w) s = .next (s.tctrlWrite t w.toNat) :=
  congrArg Host.Outcome.next (if_pos (by simp [powered, halt]))
theorem exec_tctrlClrFault {w : Word} (clear : bit w.toNat 3 = true) : exec (.tctrlClrFault t w) s = .next (s.tctrlWrite t w.toNat) :=
  congrArg Host.Outcome.next (if_pos (by simp [powered, clear]))
theorem exec_tileInstrWrite (req : Requester) (k : Fin 4096) (high : Bool) (w : Word) :
    exec (.tileInstrWrite req t k high w) s = .next (s.instrWrite req t k high w.toNat) :=
  congrArg Host.Outcome.next (if_pos powered)

end

/-- A running tile that does not stall halts at a write of HALT with CAUSE 0, where it stands. -/
theorem State.tctrlHalt_shows {s : State} {t w : Nat} (runs : s.tileRuns t = true) (free : (s.tx t).stall = none) :
    ∃ u, (s.tctrlStored t w).tileHalt t 0 = u ∧ u.flag (Reg.TSTAT_RUN t) = false ∧ u.get (Reg.TSTAT_CAUSE t) = 0 ∧
      u.get (Reg.TSTAT_PC t) = s.get (Reg.TSTAT_PC t) ∧ u.get (Reg.TSTART_ROW t) = s.get (Reg.TSTART_ROW t) ∧ u.win = s.win ∧ u.mem = s.mem ∧
      u.tu.rows = s.tu.rows := by
  have kept {f : Fld} (out : ∀ g ∈ State.tctrlFields t, g.key ≠ f.key) := s.get_tctrlStored t w out
  have goes : (s.tctrlStored t w).tileRuns t = true := by rwa [State.tileRuns, State.flag, kept (by simp [State.tctrlFields])]
  refine ⟨_, State.tileHalt_free (s := s.tctrlStored t w) free 0, State.tileRuns_tileHalted _ _ _, State.get_tileHalted_cause goes 0, ?_, ?_, ?_⟩
  · rw [State.get_tileHalted _ _ _ (by simp only [key_tstatPc]; omega) (by simp [State.haltOwn, State.tileEvents]), kept (by simp [State.tctrlFields])]
  · rw [State.get_tileHalted _ _ _ (by simp only [key_tstartRow]; omega) (by simp [State.haltOwn, State.tileEvents]), kept (by simp [State.tctrlFields])]
  · rw [State.tileHalted_win, State.tileHalted_mem, State.tileHalted_rows]
    exact ⟨rfl, rfl, rfl⟩

/-- A tile that TILE_START suits runs, with TCTRL.PC as the command gives it. -/
theorem State.tileSent_shows {s : State} {c : Ctx} {n : Nat} (suits : s.startRefused n = none) (powered : s.fabricPowered = true)
    (awake : s.quiescing = false) (fits : c.at 2 2 < 2 ^ 12) : (s.tileSent c n).flag (Reg.TSTAT_RUN n) = true ∧
      (s.tileSent c n).get (Reg.TCTRL_PC n) = c.at 2 2 ∧
      s.tileSent c n = { s with regs := (s.tileSent c n).regs, tu := (s.tileSent c n).tu } := by
  obtain ⟨open_, still, sound⟩ := State.startRefused_none.1 suits
  have regs : RegsBut (State.tctrlFields n) s ((s.put (Reg.TCTRL_FROM_PC n) (c.at 1 1)).put (Reg.TCTRL_PC n) (c.at 2 2)) :=
    regsBut_put (regsBut_put (regsBut_refl _ _) _ (by simp [State.tctrlFields])) _ (by simp [State.tctrlFields])
  have kept {f : Fld} (out : ∀ g ∈ State.tctrlFields n, g.key ≠ f.key) := get_of_regsBut regs out
  obtain ⟨run, -, -, -, pc, frame⟩ := State.tileGo_shows (t := n)
    ((State.tileShut_of_regsBut regs (State.tctrlFields_high n) n).trans open_)
    (by rwa [State.tileRuns, State.flag, kept (by simp [State.tctrlFields])]) (by rwa [State.flag, kept (by simp [State.tctrlFields])])
    powered awake false
  exact ⟨run, pc.trans (State.get_put_fits _ fits), frame⟩

/-- Settles O43: each write of the window, each end of a context operation and each command through the lemma of its case. -/
theorem tileControl : Obligations.TileControl := by
  unfold Obligations.TileControl
  refine ⟨fun t w s powered => ⟨fun c step row start steps noHalt noClear ctx still sound open_ awake => ?starts,
      fun start noHalt noClear ctx => ?waits, fun noStart halt noStep noClear alone runs free => ?halts,
      fun noStart noHalt noStep clear => ?clears⟩,
    fun req t k w s powered => ⟨fun still => ⟨?low, fun lo held => ?high⟩, fun runs high => ?refused⟩,
    fun t k s ctx cores => ⟨exec_tileCtxComplete_saves ctx cores, fun restore admitted => ?restores⟩,
    fun s b u p c => ?commands⟩
  case starts =>
    obtain ⟨v, started, shows⟩ := State.tctrlStart_shows (w := w.toNat) step ctx still sound open_ awake powered
    refine ⟨v, ?_, shows⟩
    rw [← started]
    simp only [List.mem_cons, List.not_mem_nil, Prod.mk.injEq, or_false] at row
    obtain ⟨rfl, rfl⟩ | ⟨rfl, rfl⟩ := row
    · rw [exec_tctrlStart powered t start, State.tctrlWrite_starts s noHalt noClear start]
    · rw [exec_tctrlStep powered t (steps rfl), State.tctrlWrite_steps s noHalt noClear start (steps rfl)]
  case waits =>
    rw [exec_tctrlStart powered t start, State.tctrlWrite_starts s noHalt noClear start]
    exact congrArg _ (State.tileStart_waits (s := s.tctrlStored t w.toNat) ctx)
  case halts =>
    obtain ⟨v, halted, shows⟩ := State.tctrlHalt_shows (w := w.toNat) runs free
    exact ⟨v, by rw [exec_tctrlHalt powered t halt, State.tctrlWrite_halts noStart halt noStep noClear, halted], shows⟩
  case clears =>
    rw [exec_tctrlClrFault powered t clear, State.tctrlWrite_clears noStart noHalt noStep clear]
    rfl
  case low => rw [exec_tileInstrWrite powered, State.instrWrite_low req k w.toNat still]
  case high =>
    refine ⟨_, by rw [exec_tileInstrWrite powered, State.instrWrite_high w.toNat still held], ?_, rfl, fun j _ other => ?_, rfl⟩
    · rw [State.tileWord_wput, if_pos rfl, Nat.mod_eq_of_lt w.isLt]
    · rw [State.tileWord_wput, if_neg other]
      rfl
  case refused =>
    have meaning := exec_tileInstrWrite powered t req k high w
    rw [State.instrWrite_refused req k high w.toNat runs] at meaning
    refine ⟨_, meaning, ?_, rfl⟩
    rw [State.windowRefused, State.flag, State.get_put_same]
    rfl
  case restores =>
    have meaning := exec_tileCtxComplete_restores ctx cores restore admitted
    rw [State.ctxRestore] at meaning
    dsimp only at meaning ⊢
    refine ⟨fun poison => ?_, fun d clean bad => ?_, fun clean good => ⟨fun out => ?_, fun inside poison => ?_, fun inside sound => ?_⟩⟩
    · rw [meaning, if_pos poison]
    · rw [meaning, if_neg (by simp [clean]), bad]
    · rw [meaning, if_neg (by simp [clean]), good]
      exact congrArg _ (if_pos out)
    · rw [meaning, if_neg (by simp [clean]), good]
      exact congrArg _ ((if_neg (by simp [inside])).trans (if_pos poison))
    · rw [meaning, if_neg (by simp [clean]), good]
      exact congrArg _ ((if_neg (by simp [inside])).trans (if_neg (by simp [sound])))
  case commands =>
    have answers {op : OpSpec} {r : State × Ans} (h : Reaches op s p c b u) (run : op.run u c = r) :
        serve op p s = .next (answered b c r) := by rw [serve_of_reaches h, run]
    refine ⟨fun reaches one free e refused => answers reaches (tileStartRun_refused free one refused),
      fun reaches one free suits powered awake => ⟨_, answers reaches (tileStartRun_one free one suits), ?started⟩, fun reaches all free => ?startedAll,
      fun reaches runs => answers reaches (tileStartRun_waits runs),
      fun reaches open_ free => ⟨_, _, answers reaches rfl, tileHaltRun_halts open_ free⟩,
      fun reaches one shut => answers reaches (tileHaltRun_shut one shut), fun reaches suits => ?saved,
      fun reaches => ⟨_, answers reaches rfl, ?status⟩, fun reaches one => answers reaches (tileFaultClearRun_one one),
      fun reaches all => ?clearedAll⟩
    case started =>
      have checks := firstBad_none (range_of_reaches reaches)
      simp only [List.forall_mem_cons, decide_eq_true_eq] at checks
      obtain ⟨-, -, pc, -⟩ := checks
      exact State.tileSent_shows suits powered awake (by omega)
    case startedAll =>
      obtain ⟨v, run⟩ := tileStartRun_all (all ▸ free) all
      exact ⟨v, answers reaches run⟩
    case saved =>
      obtain ⟨mode, run⟩ := tileCtxSaveRun_starts suits
      exact ⟨_, answers reaches run, ⟨_, congrArg TileX.ctx (State.tx_setTx_same _ _ _), rfl, rfl, rfl⟩, rfl⟩
    case status => simp [List.range_succ]
    case clearedAll =>
      obtain ⟨v, run, cleared⟩ := tileFaultClearRun_all (s := u) all
      exact ⟨v, answers reaches run, cleared⟩

end Sys2Proof.Machine

/-! SUPPORT. A tile's instruction rows: the row that takes the instruction at PC, a fault's registers, and rows done in order (R287, R288,
R298, R299, R300, R318). -/

namespace Sys2Proof.Machine
set_option Elab.async false

/-! ### The row that takes the instruction at PC (R298, R300) -/

namespace State

section
variable {s : State} {t op w : Nat} {f : Nat → Nat → State}

/-- An ILLEGAL word faults at the row of its OP, and at any row where no row has its OP. -/
theorem tileRun_illegal (issues : s.tileIssues t = true) (word : s.tileWord t (s.get (Reg.TSTAT_PC t)) = w)
    (mine : bits w 58 6 = op ∨ bits w 58 6 ∉ tileOps) {d : Nat} (illegal : tileIllegal w = some d) :
    s.tileRun t op f = .next ((s.put (Reg.TSTART_ROW t) 0).tileFault t 2 (s.get (Reg.TSTAT_PC t)) d) := by
  rw [tileRun, word, if_pos (by rcases mine with h | h <;> simp [issues, h]), illegal]

/-- A legal word acts at the row of its OP. -/
theorem tileRun_ready (ready : TileReady t s w) (mine : bits w 58 6 = op) : s.tileRun t op f = .next (f (s.get (Reg.TSTAT_PC t)) w) := by
  obtain ⟨issues, word, legal, -⟩ := ready
  rw [tileRun, word, if_pos (by simp [issues, mine]), legal]

end

end State

/-- The instruction rows of a tile, each with its OP (Table TISA-1). -/
def tileRowsOf (t : Fin 192) (n : Nat) : List (Instr × Nat) :=
  [(Instr.tileNop t, 0), (.tcfg t, 1), (.tload t n, 2), (.tstore t n, 3), (.tmma t n, 4), (.tew t n, 5), (.tred t n, 6), (.tcvt t n, 7),
    (.tpair t n, 8), (.trel t, 9), (.salu t, 0x10), (.salui t, 0x11), (.sld t, 0x12), (.sst t, 0x13), (.pset t, 0x14), (.br t, 0x18), (.tileJmp t, 0x19),
    (.tileStop t, 0x1A), (.tileSwait t, 0x20), (.tileSsig t, 0x21), (.tileHpop t, 0x22), (.tileHpush t, 0x23), (.srun t, 0x24)]

theorem exec_tileRowsOf (t : Fin 192) (n : Nat) (s : State) {c : Instr} {op : Nat} (row : (c, op) ∈ tileRowsOf t n) :
    ∃ f, exec c s = s.tileRun t op f := by
  have all : ∀ p ∈ tileRowsOf t n, ∃ f, exec p.1 s = s.tileRun t p.2 f := by
    simp only [tileRowsOf, List.forall_mem_cons]
    exact ⟨⟨_, (rfl : execTileNop t s = s.tileRun t 0 _)⟩, ⟨_, (rfl : execTcfg t s = s.tileRun t 1 _)⟩,
      ⟨_, (rfl : execTload t n s = s.tileRun t 2 _)⟩, ⟨_, (rfl : execTstore t n s = s.tileRun t 3 _)⟩,
      ⟨_, (rfl : execTmma t n s = s.tileRun t 4 _)⟩, ⟨_, (rfl : execTew t n s = s.tileRun t 5 _)⟩, ⟨_, (rfl : execTred t n s = s.tileRun t 6 _)⟩,
      ⟨_, (rfl : execTcvt t n s = s.tileRun t 7 _)⟩, ⟨_, (rfl : execTpair t n s = s.tileRun t 8 _)⟩, ⟨_, (rfl : execTrel t s = s.tileRun t 9 _)⟩,
      ⟨_, (rfl : execSalu t s = s.tileRun t 0x10 _)⟩, ⟨_, (rfl : execSalui t s = s.tileRun t 0x11 _)⟩,
      ⟨_, (rfl : execSld t s = s.tileRun t 0x12 _)⟩, ⟨_, (rfl : execSst t s = s.tileRun t 0x13 _)⟩, ⟨_, (rfl : execPset t s = s.tileRun t 0x14 _)⟩,
      ⟨_, (rfl : execBr t s = s.tileRun t 0x18 _)⟩, ⟨_, (rfl : execTileJmp t s = s.tileRun t 0x19 _)⟩,
      ⟨_, (rfl : execTileStop t s = s.tileRun t 0x1A _)⟩, ⟨_, (rfl : execTileSwait t s = s.tileRun t 0x20 _)⟩,
      ⟨_, (rfl : execTileSsig t s = s.tileRun t 0x21 _)⟩, ⟨_, (rfl : execTileHpop t s = s.tileRun t 0x22 _)⟩,
      ⟨_, (rfl : execTileHpush t s = s.tileRun t 0x23 _)⟩, ⟨_, (rfl : execSrun t s = s.tileRun t 0x24 _)⟩,
      fun _ none => absurd none List.not_mem_nil⟩
  exact all (c, op) row

/-! ### A fault (R287, R318) -/

namespace State

section
variable (s : State) (t n : Nat) (o : Nat × Nat × Nat × Nat)

/-- A word of TFAULT1–TFAULT3 written leaves the fields of every other word. -/
theorem get_putOperand {f : Fld} (out : f.key < t * 0x200000 + (n * 128 + 0x1008014 * 32) ∨ t * 0x200000 + (n * 128 + 0x1008018 * 32) ≤ f.key) :
    (s.putOperand t n o).get f = s.get f := by
  unfold putOperand
  rw [get_put_ne _ _ (by simp only [key_tfaultkColb]; omega), get_put_ne _ _ (by simp only [key_tfaultkRows]; omega),
    get_put_ne _ _ (by simp only [key_tfaultkType]; omega), get_put_ne _ _ (by simp only [key_tfaultkReg]; omega)]

end

/-- TFAULT0 as a fault leaves it. -/
def tileSaid (s : State) (t code pc detail : Nat) : State :=
  ((s.put (Reg.TFAULT0_CODE t) code).put (Reg.TFAULT0_PC t) pc).put (Reg.TFAULT0_DETAIL t) detail

/-- TFAULT and FAULTED as a fault leaves them. -/
def tileMarked (s : State) (t code pc detail : Nat) (os : List (Nat × Nat × Nat × Nat)) : State :=
  ((((s.tileSaid t code pc detail).putOperand t 0 (os.getD 0 noOperand)).putOperand t 1 (os.getD 1 noOperand)).putOperand t 2
    (os.getD 2 noOperand)).put (Reg.TSTAT_FAULTED t) 1

/-- The cycles counted of an instruction that faults. -/
def tileSpent (s : State) (t : Nat) : State := if s.tileRuns t then s.draw.tileCycles t (s.drawn 6) else s

theorem tileFaultOps_eq (s : State) (t code pc detail : Nat) (os : List (Nat × Nat × Nat × Nat)) : ∃ data, s.tileFaultOps t code pc detail os =
    (((((s.tileSpent t).tileMarked t code pc detail os).tileHalted t 2).put (Reg.TSTAT_CAUSE t) 2).tileEvent t 0).logEvent 0x0501 t data :=
  ⟨_, rfl⟩

/-- A field outside TFAULT1–TFAULT3 but FAULTED's reads as TFAULT0 was left. -/
theorem get_tileMarked (s : State) (t code pc detail : Nat) (os : List (Nat × Nat × Nat × Nat)) {f : Fld} {o : Nat}
    (key : f.key = t * 0x200000 + o) (out : o < 0x1008014 * 32 ∨ 0x1008020 * 32 ≤ o) (faulted : o ≠ 0x1008004 * 32 + 15) :
    (s.tileMarked t code pc detail os).get f = (s.tileSaid t code pc detail).get f := by
  rw [tileMarked, get_put_ne _ _ (by simp only [key_tstatFaulted]; omega), get_putOperand _ _ _ _ (by omega), get_putOperand _ _ _ _ (by omega),
    get_putOperand _ _ _ _ (by omega)]

/-- A field of the tile that neither its halt nor its event writes reads after the fault as it was marked. -/
theorem get_tileFaultOps (s : State) (t code pc detail : Nat) (os : List (Nat × Nat × Nat × Nat)) {f : Fld} (high : 0x1000000 * 32 ≤ f.key)
    (out : ∀ g ∈ haltOwn t, g.key ≠ f.key) :
    (s.tileFaultOps t code pc detail os).get f = ((s.tileSpent t).tileMarked t code pc detail os).get f := by
  obtain ⟨data, shape⟩ := s.tileFaultOps_eq t code pc detail os
  rw [shape, get_logEvent _ _ _ _ fun g hg => ?_, get_tileEvent _ _ _ fun g hg => out g (List.mem_append_right _ hg),
    get_put_ne _ _ (out _ (by simp [haltOwn])).symm, get_tileHalted _ _ _ high out]
  have := below_tiles g (List.mem_append_left _ hg)
  omega

/-- A fault halts its tile. -/
theorem tileRuns_tileFaultOps (s : State) (t code pc detail : Nat) (os : List (Nat × Nat × Nat × Nat)) :
    (s.tileFaultOps t code pc detail os).tileRuns t = false := by
  obtain ⟨data, shape⟩ := s.tileFaultOps_eq t code pc detail os
  rw [shape, tileRuns, flag, get_logEvent _ _ _ _ fun g hg => ?_, get_tileEvent _ _ _ (by simp [tileEvents]), get_put_ne _ _ (by simp)]
  · exact tileRuns_tileHalted _ _ _
  · have := below_tiles g (List.mem_append_left _ hg)
    rw [key_tstatRun]
    omega

theorem get_tileSpent (s : State) (t : Nat) {f : Fld} (out : f.key ≠ (Reg.TCYC_CYCLES t).key) : (s.tileSpent t).get f = s.get f := by
  unfold tileSpent
  split
  · exact get_put_ne _ _ out
  · rfl

theorem tileSpent_shape (s : State) (t : Nat) : ∃ r d, s.tileSpent t = { s with regs := r, draws := d } := by
  unfold tileSpent
  split <;> exact ⟨_, _, rfl⟩

/-- Window memory, rows of registers and accumulators, memory, sync operations and handle queues stay as they are. -/
def DataKept (s u : State) : Prop := u.win = s.win ∧ u.tu.rows = s.tu.rows ∧ u.mem = s.mem ∧ u.sync = s.sync ∧ u.hq = s.hq

theorem DataKept.trans {s t u : State} (h : DataKept s t) (k : DataKept t u) : DataKept s u := by
  obtain ⟨win, rows, mem, sync, hq⟩ := h
  obtain ⟨win', rows', mem', sync', hq'⟩ := k
  exact ⟨win'.trans win, rows'.trans rows, mem'.trans mem, sync'.trans sync, hq'.trans hq⟩

/-- A register written is none of these. -/
theorem DataKept.put {s t : State} (h : DataKept s t) (f : Fld) (v : Nat) : DataKept s (t.put f v) := h

theorem DataKept.refl (s : State) : DataKept s s := ⟨rfl, rfl, rfl, rfl, rfl⟩

theorem DataKept.putOperand {s t : State} (h : DataKept s t) (k n : Nat) (o : Nat × Nat × Nat × Nat) : DataKept s (t.putOperand k n o) :=
  (((h.put _ _).put _ _).put _ _).put _ _

theorem tileFaultOps_keeps (s : State) (t code pc detail : Nat) (os : List (Nat × Nat × Nat × Nat)) :
    DataKept s (s.tileFaultOps t code pc detail os) := by
  have logged (u : State) (data : List Byte) : DataKept u (u.logEvent 0x0501 t data) := by
    obtain ⟨_, _, _, _, frame⟩ := u.logEvent_frame 0x0501 t data
    rw [frame]
    exact ⟨rfl, rfl, rfl, rfl, rfl⟩
  have told (u : State) : DataKept u (u.tileEvent t 0) := by
    obtain ⟨_, _, shape⟩ := u.tileEvent_shape t 0
    rw [shape]
    exact ⟨rfl, rfl, rfl, rfl, rfl⟩
  have halted (u : State) : DataKept u (u.tileHalted t 2) :=
    ⟨u.tileHalted_win t 2, u.tileHalted_rows t 2, u.tileHalted_mem t 2, u.tileHalted_sync t 2, u.tileHalted_hq t 2⟩
  have marked (u : State) : DataKept u (u.tileMarked t code pc detail os) :=
    (((((((DataKept.refl u).put _ _).put _ _).put _ _).putOperand _ _ _).putOperand _ _ _).putOperand _ _ _).put _ _
  have spent : DataKept s (s.tileSpent t) := by
    obtain ⟨_, _, shape⟩ := s.tileSpent_shape t
    rw [shape]
    exact ⟨rfl, rfl, rfl, rfl, rfl⟩
  obtain ⟨data, shape⟩ := s.tileFaultOps_eq t code pc detail os
  rw [shape]
  exact ((((spent.trans (marked _)).trans (halted _)).put _ _).trans (told _)).trans (logged _ _)

/-- TFAULT0, FAULTED and TSTART after a fault whose instruction does none of its rows. -/
theorem tileFaultOps_shows (s : State) (t pc : Nat) (os : List (Nat × Nat × Nat × Nat)) {code d : Nat} (kind : code < 16) (fits : d < 256) :
    let u := (s.put (Reg.TSTART_ROW t) 0).tileFaultOps t code pc d os
    u.get (Reg.TFAULT0_CODE t) = code ∧ u.get (Reg.TFAULT0_PC t) = pc % 4096 ∧ u.get (Reg.TFAULT0_DETAIL t) = d ∧
      u.flag (Reg.TSTAT_FAULTED t) = true ∧ u.get (Reg.TSTART_ROW t) = 0 := by
  intro u
  have said {f : Fld} {o : Nat} (key : f.key = t * 0x200000 + o) (high : 0x1000000 * 32 ≤ o) (out : ∀ g ∈ haltOwn t, g.key ≠ f.key) :=
    get_tileFaultOps (s.put (Reg.TSTART_ROW t) 0) t code pc d os (f := f) (by omega) out
  have own : ∀ f ∈ [Reg.TFAULT0_CODE t, Reg.TFAULT0_PC t, Reg.TFAULT0_DETAIL t, Reg.TSTAT_FAULTED t, Reg.TSTART_ROW t],
      ∀ g ∈ haltOwn t, g.key ≠ f.key := by
    simp [haltOwn, tileEvents]
  simp only [List.forall_mem_cons] at own
  obtain ⟨code', pc', detail', faulted', row', -⟩ := own
  refine ⟨?_, ?_, ?_, ?_, ?_⟩
  · rw [said (key_tfaultCode t) (by omega) code', get_tileMarked _ _ _ _ _ _ (key_tfaultCode t) (by omega) (by omega), tileSaid,
      get_put_ne _ _ (by simp), get_put_ne _ _ (by simp)]
    exact get_put_fits _ kind
  · rw [said (key_tfaultPc t) (by omega) pc', get_tileMarked _ _ _ _ _ _ (key_tfaultPc t) (by omega) (by omega), tileSaid,
      get_put_ne _ _ (by simp), get_put_same]
    rfl
  · rw [said (key_tfaultDetail t) (by omega) detail', get_tileMarked _ _ _ _ _ _ (key_tfaultDetail t) (by omega) (by omega), tileSaid]
    exact get_put_fits _ fits
  · rw [flag, said (key_tstatFaulted t) (by omega) faulted', tileMarked, get_put_same]
    rfl
  · rw [said (key_tstartRow t) (by omega) row', get_tileMarked _ _ _ _ _ _ (key_tstartRow t) (by omega) (by omega), tileSaid,
      get_put_ne _ _ (by simp), get_put_ne _ _ (by simp), get_put_ne _ _ (by simp), get_tileSpent _ _ (by simp), get_put_same, Nat.zero_mod]

end State

/-! ### Rows in ascending order (R288) -/

/-- Rows that meet no memory are done one after another, as many as asked for and left. -/
theorem rowsFrom_clean (f : State → Nat → State) (total n : Nat) (s : State) (r : Nat) : rowsFrom (cleanRow f) total n s r =
    ((List.range (min n (total - r))).foldl (fun s i => f s (r + i)) s, r + min n (total - r), false) := by
  induction n generalizing s r with
  | zero => simp [rowsFrom]
  | succ n ih =>
    rw [rowsFrom]
    split
    · rw [Nat.sub_eq_zero_of_le ‹_›]
      simp
    · have left : min (n + 1) (total - r) = min n (total - (r + 1)) + 1 := by omega
      have next (i : Nat) : r + 1 + i = r + (i + 1) := by omega
      dsimp only [cleanRow]
      rw [if_neg (by simp), ih, left, List.range_succ_eq_map, List.foldl_cons, List.foldl_map, next]
      simp only [next, Nat.add_zero, Nat.succ_eq_add_one]

namespace State

/-- An operation by rows does as many as are asked for and left: with the last of them it is over, else TSTART holds the first not done. -/
theorem tileRows_clean {s : State} {t : Nat} (pc n total : Nat) (cyc : Nat → Nat) (f : State → Nat → State) (runs : (s.tx t).step = false) :
    let r0 := s.get (Reg.TSTART_ROW t)
    let k := min (max 1 n) (total - r0)
    let u := (List.range k).foldl (fun s i => f s (r0 + i)) s
    (u.tx t).step = false → s.tileRows t pc n total cyc (cleanRow f) =
      if total ≤ r0 + k then u.tileGoto t (pc + 1) (cyc (r0 + k) - cyc r0)
      else (u.put (Reg.TSTART_ROW t) (r0 + k)).tileCycles t (cyc (r0 + k) - cyc r0) := by
  intro r0 k u still
  have past : max (r0 + k) r0 = r0 + k := by omega
  have many : (if (s.tx t).step then 1 else max 1 n) = max 1 n := if_neg (by simp [runs])
  rw [tileRows, many, rowsFrom_clean]
  change (if false = true then _ else if total ≤ r0 + k then u.tileGoto t (pc + 1) (cyc (max (r0 + k) r0) - cyc r0) else _) = _
  rw [if_neg (by simp), past]
  refine if_congr Iff.rfl rfl (if_neg ?_)
  exact fun steps => Bool.false_ne_true (still.symm.trans steps)

end State

end Sys2Proof.Machine

/-! SUPPORT. Rows and elements of a tile's operands, and a row of TMMA (R278, R305, R306, Table TISA-2). -/

namespace Sys2Proof.Machine
set_option Elab.async false

/-! ### Elements of a row -/

/-- An element of packed elements is the element, cut to its width. -/
theorem bits_packElems (ty : Nat) {l : List Nat} {j : Nat} (inside : j < l.length) :
    bits (packElems ty l) (elemBits ty * j) (elemBits ty) = cut (elemBits ty) l[j] := by
  induction l generalizing j with
  | nil => exact absurd inside (Nat.not_lt_zero j)
  | cons e l ih =>
    have split : packElems ty (e :: l) = cut (elemBits ty) e + 2 ^ elemBits ty * packElems ty l := rfl
    rw [split, bits, Nat.shiftRight_eq_div_pow]
    cases j with
    | zero => simp [cut]
    | succ j =>
      have rest := ih (Nat.lt_of_succ_lt_succ inside)
      rw [bits, Nat.shiftRight_eq_div_pow] at rest
      rw [show elemBits ty * (j + 1) = elemBits ty + elemBits ty * j from Nat.add_comm _ _, pow_add, ← Nat.div_div_eq_div_mul,
        Nat.add_mul_div_left _ _ (Nat.two_pow_pos _), cut, Nat.div_eq_of_lt (Nat.mod_lt _ (Nat.two_pow_pos _)), Nat.zero_add, rest, List.getElem_cons_succ]

/-- Bits below a cut survive it. -/
theorem bits_cut_of_le (x : Nat) {l w n : Nat} (below : l + w ≤ n) : bits (cut n x) l w = bits x l w := by
  refine Nat.eq_of_testBit_eq fun i => ?_
  rw [testBit_bits, testBit_bits, cut, Nat.testBit_mod_two_pow]
  by_cases h : i < w
  · rw [decide_eq_true (by omega : l + i < n), Bool.true_and]
  · simp [h]

/-- An accumulator holds 32-bit elements (Table TISA-2). -/
theorem elemBits_of_tmmaType {a b acc ty per : Nat} (known : tmmaType a b acc = some (ty, per)) : elemBits ty = 32 := by
  have among : ty = 9 ∨ ty = 7 ∨ ty = 8 := by
    unfold tmmaType at known
    dsimp only at known
    split_ifs at known <;> simp_all
  rcases among with rfl | rfl | rfl <;> rfl

/-! ### A row of an accumulator written -/

namespace State

section
variable (s : State) (t : Nat) {k : Nat}

theorem oEmpty_setRow_acc (r v : Nat) (acc : k < 4) : (s.setRow t ⟨true, k⟩ r v).oEmpty t ⟨true, k⟩ = false := by
  have holds : (s.setRow t ⟨true, k⟩ r v).get (Reg.TACC_EMPTY t) = setBits (s.get (Reg.TACC_EMPTY t)) k 1 0 % 2 ^ 4 := get_put_same _ _ _
  rw [oEmpty, if_pos rfl, holds, bit_cut _ acc, bit_setBits_zero]

/-- The row written reads as written. -/
theorem oRow_setRow_acc (v : Nat) {r : Nat} (acc : k < 4) (low : r < 16) : (s.setRow t ⟨true, k⟩ r v).oRow t ⟨true, k⟩ r = cut 512 v := by
  have holds : tget 0 (s.setRow t ⟨true, k⟩ r v).tu.rows (Opnd.key ⟨true, k⟩ t r) = setBits (tget 0 s.tu.rows (Opnd.key ⟨true, k⟩ t r)) 0 512 v :=
    tget_tput_same _ _ _ _
  have rows : (s.setRow t ⟨true, k⟩ r v).oRows t ⟨true, k⟩ = 16 := rfl
  have cols : (s.setRow t ⟨true, k⟩ r v).oColb t ⟨true, k⟩ = 64 := rfl
  rw [oRow, oEmpty_setRow_acc _ _ _ _ acc, holds, rows, cols, if_neg (by simp [low]), cut_setBits_low, cut]

/-- Another row of an accumulator that holds something stays. -/
theorem oRow_setRow_acc_ne (v : Nat) {r q : Nat} (acc : k < 4) (other : q ≠ r) (full : s.oEmpty t ⟨true, k⟩ = false) :
    (s.setRow t ⟨true, k⟩ r v).oRow t ⟨true, k⟩ q = s.oRow t ⟨true, k⟩ q := by
  have away : Opnd.key ⟨true, k⟩ t q ≠ Opnd.key ⟨true, k⟩ t r := by
    unfold Opnd.key
    omega
  have holds : tget 0 (s.setRow t ⟨true, k⟩ r v).tu.rows (Opnd.key ⟨true, k⟩ t q) = tget 0 s.tu.rows (Opnd.key ⟨true, k⟩ t q) :=
    tget_tput_ne _ _ _ _ away
  rw [oRow, oEmpty_setRow_acc _ _ _ _ acc, holds, oRow, full]
  rfl

end

/-! ### A row of TMMA -/

section
variable (t w : Nat) {ty per i : Nat} (s : State)

/-- The elements of a TMMA's accumulator row after the row is done. -/
def tmmaNew (t w ty : Nat) (s : State) (i : Nat) : List Nat :=
  let a : Opnd := ⟨false, bits w 53 3⟩
  let b : Opnd := ⟨false, bits w 50 3⟩
  let old := rowElems ty 16 (s.oRow t ⟨true, bits w 56 2⟩ i)
  (List.range 16).map fun j =>
    if j < s.oRows t b then tmmaElem (s.oType t a) (s.oType t b) ty (bit w 46) (bit w 47) (old.getD j 0) (rowElems (s.oType t a) (s.oElems t a) (s.oRow t a i))
      (rowElems (s.oType t b) (s.oElems t a) (s.oRow t b j))
    else old.getD j 0

theorem tmmaRow_eq : tmmaRow t w ty s i =
    (s.giveType t ⟨true, bits w 56 2⟩ ty).setRow t ⟨true, bits w 56 2⟩ i (packElems ty (tmmaNew t w ty s i)) := rfl

/-- An element of the row: the sum of products and the old value below RB's rows, and the old value beyond. -/
theorem bits_tmmaRow (wide : elemBits ty = 32) (low : i < 16) {j : Nat} (col : j < 16) :
    let a : Opnd := ⟨false, bits w 53 3⟩
    let b : Opnd := ⟨false, bits w 50 3⟩
    let d : Opnd := ⟨true, bits w 56 2⟩
    let old := bits (s.oRow t d i) (32 * j) 32
    let row (o : Opnd) (r : Nat) := rowElems (s.oType t o) (s.oElems t a) (s.oRow t o r)
    bits ((tmmaRow t w ty s i).oRow t d i) (32 * j) 32 =
      if s.oRows t b ≤ j then old else tmmaElem (s.oType t a) (s.oType t b) ty (bit w 46) (bit w 47) old (row a i) (row b j) % 2 ^ 32 := by
  intro a b d old row
  have was : (rowElems ty 16 (s.oRow t d i)).getD j 0 = old := by
    simp [rowElems, wide, col, old, Nat.mul_comm]
  have new : (tmmaNew t w ty s i)[j]'(by simpa [tmmaNew] using col) =
      if j < s.oRows t b then tmmaElem (s.oType t a) (s.oType t b) ty (bit w 46) (bit w 47) old (row a i) (row b j) else old := by
    simp only [tmmaNew, List.getElem_map, List.getElem_range]
    rw [was]
  have packed := bits_packElems ty (l := tmmaNew t w ty s i) (j := j) (by simpa [tmmaNew] using col)
  rw [wide, new] at packed
  rw [tmmaRow_eq, oRow_setRow_acc _ _ _ (bits_lt w 56 2) low, bits_cut_of_le _ (by omega), packed]
  by_cases h : s.oRows t b ≤ j
  · rw [if_neg (Nat.not_lt.2 h), if_pos h]
    exact Nat.mod_eq_of_lt (bits_lt _ _ _)
  · rw [if_pos (Nat.not_le.1 h), if_neg h, cut]

/-- The other rows of an accumulator that holds something stay. -/
theorem oRow_tmmaRow_ne {r : Nat} (other : r ≠ i) (full : s.oEmpty t ⟨true, bits w 56 2⟩ = false) :
    (tmmaRow t w ty s i).oRow t ⟨true, bits w 56 2⟩ r = s.oRow t ⟨true, bits w 56 2⟩ r := by
  have kept : s.giveType t ⟨true, bits w 56 2⟩ ty = s := if_neg (by simp [full])
  rw [tmmaRow_eq, kept]
  exact s.oRow_setRow_acc_ne t _ (bits_lt w 56 2) other full

end

end State

end Sys2Proof.Machine

/-! SUPPORT. What TLOAD and TSTORE touch in memory, row by row (R302, R303). -/

namespace Sys2Proof.Machine
set_option Elab.async false

namespace State

/-! ### A row of TSTORE -/

theorem setByte_outside (s : State) {a x : Nat} (b : Byte) (out : x ≠ a) : (s.setByte a b).byteAt x = s.byteAt x :=
  (s.byteAt_setBytes a x [b]).trans (if_neg (by simp; omega))

/-- A word of the store written changes none but its own bytes. -/
theorem storeWord_outside (s : State) (writer t v mask : Nat) {a x : Nat} (out : x < storeAddr t a ∨ storeAddr t a + 8 ≤ x) :
    (s.storeWord writer t a v mask).byteAt x = s.byteAt x := by
  have place (b : Nat) : storeAddr t (a + b) = storeAddr t a + b := (Nat.add_assoc _ _ _).symm
  have below : ∀ b ∈ setBitsOf 8 mask, b < 8 := fun b hb => List.mem_range.1 (List.mem_of_mem_filter hb)
  unfold storeWord
  split
  · rfl
  split
  · exact s.writeMem_outside writer (by simpa using out)
  split
  · have bytes (s' : State) : ((setBitsOf 8 mask).foldl (fun s b => s.setByte (storeAddr t (a + b)) (BitVec.ofNat 8 (v / 256 ^ b))) s').byteAt x =
        s'.byteAt x :=
      List.foldlRecOn (motive := fun u : State => u.byteAt x = s'.byteAt x) _ _ rfl fun u hu b hb =>
        (u.setByte_outside _ (by have := below b hb; rw [place]; omega)).trans hu
    rw [bytes]
    split
    · exact (s.correct_frame _).sameMemory x
    · rfl
  · have first : (setBitsOf 8 mask).headD 0 < 8 := by
      cases h : setBitsOf 8 mask with
      | nil => simp
      | cons b l => exact below b (h ▸ List.mem_cons_self)
    exact s.writeMem_outside writer (by rw [place]; simp only [zeros, List.length_replicate]; omega)

/-- A row of the store written changes none but its 64 bytes. -/
theorem storeRow_outside (s : State) (t v mask : Nat) {a x : Nat} (row : a % 64 = 0) (out : x < storeAddr t a ∨ storeAddr t a + 64 ≤ x) :
    (s.storeRow t a v mask).byteAt x = s.byteAt x := by
  have first : a / 64 * 64 = a := Nat.div_mul_cancel (Nat.dvd_of_mod_eq_zero row)
  unfold storeRow
  rw [first]
  refine List.foldlRecOn (motive := fun u : State => u.byteAt x = s.byteAt x) _ _ rfl fun u hu k hk => ?_
  have := List.mem_range.1 hk
  exact (u.storeWord_outside _ t _ _ (by unfold storeAddr at out ⊢; omega)).trans hu

theorem setByte_frame (s : State) (a : Nat) (b : Byte) : WriteFrame s (s.setByte a b) := ⟨_, _, _, _, _, _, rfl⟩

theorem storeWord_frame (s : State) (writer t a v mask : Nat) : WriteFrame s (s.storeWord writer t a v mask) := by
  unfold storeWord
  split
  · exact WriteFrame.refl s
  split
  · exact s.writeMem_frame _ _ _
  split
  · refine List.foldlRecOn (motive := WriteFrame s) _ _ ?_ fun u hu b _ => hu.trans (u.setByte_frame _ _)
    split
    · exact (s.correct_frame _).write
    · exact WriteFrame.refl s
  · exact s.writeMem_frame _ _ _

theorem storeRow_frame (s : State) (t a v mask : Nat) : WriteFrame s (s.storeRow t a v mask) :=
  List.foldlRecOn (motive := WriteFrame s) _ _ (WriteFrame.refl s) fun u hu _ _ => hu.trans (u.storeWord_frame _ _ _ _ _)

theorem partAddr_aligned (s : State) (t w : Nat) (p : RowPart) (r : Nat) : s.partAddr t w p r % 64 = 0 := Nat.mul_mod_left _ _

/-- Row addresses read the tile's scalars alone. -/
theorem partAddr_of_frame {s u : State} (frame : WriteFrame s u) (t w : Nat) (p : RowPart) (r : Nat) : u.partAddr t w p r = s.partAddr t w p r := by
  obtain ⟨_, _, _, _, _, _, shape⟩ := frame
  rw [shape]
  rfl

/-- A row of a TSTORE changes none but the bytes of the rows of its parts. -/
theorem tstoreRow_outside (t w r : Nat) (ps : List RowPart) (s : State) (x : Nat)
    (out : ∀ p ∈ ps, r < p.rows → x < storeAddr t (s.partAddr t w p r) ∨ storeAddr t (s.partAddr t w p r) + 64 ≤ x) :
    (tstoreRow t w ps s r).1.byteAt x = s.byteAt x := by
  refine (List.foldlRecOn (motive := fun u : State => WriteFrame s u ∧ u.byteAt x = s.byteAt x) _ _ ⟨WriteFrame.refl s, rfl⟩ fun u hu p hp => ?_).2
  obtain ⟨frame, kept⟩ := hu
  have away := out p (List.mem_of_mem_filter hp) (of_decide_eq_true (List.mem_filter.1 hp).2)
  have addr := partAddr_of_frame frame t w p r
  exact ⟨frame.trans (u.storeRow_frame _ _ _ _),
    (u.storeRow_outside t _ _ (addr ▸ s.partAddr_aligned t w p r) (addr ▸ away)).trans kept⟩

/-! ### A row of TLOAD -/

theorem loadRow_frame (s : State) (t a : Nat) : ∃ u v e, s.loadRow t a = (u, v, e) ∧ ReadFrame s u :=
  ⟨_, _, _, rfl, s.readMem_frame 1 _ 64⟩

theorem loadRows_sameMemory (t w r : Nat) (ps : List RowPart) (s : State) : SameMemory s (s.loadRows t w r ps).1 := by
  induction ps generalizing s with
  | nil => exact fun _ => rfl
  | cons p ps ih =>
    obtain ⟨u, v, e, shape, frame⟩ := s.loadRow_frame t (s.partAddr t w p r)
    rw [loadRows]
    split
    · exact ih s
    rw [shape]
    dsimp only
    split
    · exact frame.sameMemory
    · exact sameMemory_trans frame.sameMemory (ih u)

theorem loadPart_sameMemory (s : State) (t w : Nat) (p : RowPart) (v r : Nat) : SameMemory s (s.loadPart t w p v r) := by
  have row (u : State) : SameMemory u (u.setRow t p.o r v) := by
    unfold setRow setEmpty
    split <;> exact fun _ => rfl
  unfold loadPart
  split
  · have word (u : State) (a v : Nat) : SameMemory u (u.wput a v) := fun _ => rfl
    unfold setVreg
    exact List.foldlRecOn (motive := SameMemory s) _ _ (fun _ => rfl) fun u hu _ _ => sameMemory_trans hu (word u _ _)
  split
  · refine sameMemory_trans ?_ (row _)
    unfold giveType
    split <;> exact fun _ => rfl
  · exact row s

/-- A row of a TLOAD changes no memory. -/
theorem tloadRow_sameMemory (t w r : Nat) (ps : List RowPart) (s : State) : SameMemory s (tloadRow t w ps s r).1 := by
  have read := loadRows_sameMemory t w r ps s
  unfold tloadRow
  dsimp only
  split
  · exact read
  · exact List.foldlRecOn (motive := SameMemory s) _ _ read fun u hu e _ => sameMemory_trans hu (u.loadPart_sameMemory t w e.1 e.2 r)

end State

end Sys2Proof.Machine

/-! O42 (R288, R299, R300, R302, R303, R305, R307–R310, Table TISA-5): a tile's loads, stores and matrix instructions. -/

namespace Sys2Proof.Machine
set_option Elab.async false

/-! ### TMMA, TEW, TRED, TCVT, TPAIR at PC -/

section
variable {t : Fin 192} {s : State} {w : Nat} (ready : TileReady t s w) (n : Nat)
include ready

theorem exec_tmma_ready (op : bits w 58 6 = 4) :
    let pc := s.get (Reg.TSTAT_PC t)
    let a : Opnd := ⟨false, bits w 53 3⟩
    let b : Opnd := ⟨false, bits w 50 3⟩
    let d : Opnd := ⟨true, bits w 56 2⟩
    (s.oType t a = 0 ∨ s.oType t b = 0 → exec (.tmma t n) s = .next (s.shapeFault t pc 1 [d, a, b])) ∧
    (s.oType t a ≠ 0 → s.oType t b ≠ 0 → tmmaType (s.oType t a) (s.oType t b) (bits w 48 2) = none →
      exec (.tmma t n) s = .next (s.shapeFault t pc 2 [d, a, b])) ∧
    ∀ ty per, s.oType t a ≠ 0 → s.oType t b ≠ 0 → tmmaType (s.oType t a) (s.oType t b) (bits w 48 2) = some (ty, per) →
      (s.oElems t a ≠ s.oElems t b → exec (.tmma t n) s = .next (s.shapeFault t pc 3 [d, a, b])) ∧
      (s.oElems t a = s.oElems t b → s.oEmpty t d = false → s.oType t d ≠ ty → exec (.tmma t n) s = .next (s.shapeFault t pc 5 [d, a, b])) ∧
      (s.oElems t a = s.oElems t b → (s.oEmpty t d = true ∨ s.oType t d = ty) →
        exec (.tmma t n) s = .next (s.tileRows t pc n (s.oRows t a) (rowCycles 2 per) (cleanRow (State.tmmaRow t w ty)))) := by
  intro pc a b d
  have run : exec (.tmma t n) s = execTmma t n s := rfl
  rw [run, execTmma, State.tileRun_ready ready op]
  dsimp only
  refine ⟨fun none => ?_, fun ha hb unknown => ?_, fun ty per ha hb known => ?_⟩
  · rw [if_pos none]
  · rw [if_neg (not_or.2 ⟨ha, hb⟩), unknown]
  · rw [if_neg (not_or.2 ⟨ha, hb⟩), known]
    dsimp only
    refine ⟨fun differ => ?_, fun same full other => ?_, fun same suits => ?_⟩
    · rw [if_pos differ]
    · rw [if_neg (not_not.2 same), if_pos (by simp [d, full, other])]
    · rw [if_neg (not_not.2 same), if_neg (by rcases suits with h | h <;> simp [d, h])]

theorem exec_tew_ready (op : bits w 58 6 = 5) :
    let pc := s.get (Reg.TSTAT_PC t)
    (∀ e, s.tewShape t w = .inr e → exec (.tew t n) s = .next (s.shapeFault t pc e (tewOpnds w))) ∧
    ∀ ty, s.tewShape t w = .inl ty → exec (.tew t n) s = .next (s.tileRows t pc n (s.oRows t ((tewOpnds w).getD 1 ⟨false, 0⟩)) (rowCycles 2 1)
      (cleanRow (State.tewDo t w ty))) := by
  have run : exec (.tew t n) s = execTew t n s := rfl
  rw [run, execTew, State.tileRun_ready ready op]
  exact ⟨fun e shape => by rw [shape], fun ty shape => by rw [shape]⟩

theorem exec_tpair_ready (op : bits w 58 6 = 8) :
    let pc := s.get (Reg.TSTAT_PC t)
    (s.tpairShape t w ≠ 0 → exec (.tpair t n) s = .next (s.shapeFault t pc (s.tpairShape t w) (tpairOpnds w))) ∧
    (s.tpairShape t w = 0 → exec (.tpair t n) s = .next (s.tileRows t pc n (s.oRows t ((tpairOpnds w).getD 1 ⟨false, 0⟩)) (rowCycles 2 2)
      (cleanRow (State.tpairDo t w)))) := by
  have run : exec (.tpair t n) s = execTpair t n s := rfl
  rw [run, execTpair, State.tileRun_ready ready op]
  exact ⟨fun bad => by rw [if_pos bad], fun good => by rw [if_neg (not_not.2 good)]⟩

theorem exec_tred_ready (op : bits w 58 6 = 6) :
    let pc := s.get (Reg.TSTAT_PC t)
    let a : Opnd := ⟨bit w 57, bits w 53 4⟩
    let vd := bits w 49 4
    (s.oType t a = 0 → exec (.tred t n) s = .next (s.shapeFault t pc (if a.acc then 7 else 1) [a])) ∧
    (s.oType t a ≠ 0 → bit w 48 = true → 16 < s.oElems t a → exec (.tred t n) s = .next (s.shapeFault t pc 6 [a])) ∧
    (s.oType t a ≠ 0 → (bit w 48 = false ∨ s.oElems t a ≤ 16) → exec (.tred t n) s = .next (s.tileRows t pc n (s.oRows t a) (rowCycles 2 1)
      (cleanRow (fun u r => u.setVreg t vd (tredRow (s.oType t a) (bits w 46 2) (s.oElems t a) (u.oRows t a) r (bit w 48) (bit w 45) (u.oRow t a r)
        (u.vreg t vd)))))) := by
  intro pc a vd
  have run : exec (.tred t n) s = execTred t n s := rfl
  rw [run, execTred, State.tileRun_ready ready op]
  dsimp only
  refine ⟨fun none => ?_, fun typed axis wide => ?_, fun typed fits => ?_⟩
  · rw [if_pos none]
  · rw [if_neg typed, if_pos (by simp [a, axis, wide])]
  · rw [if_neg typed, if_neg (by rcases fits with h | h <;> simp [a, h])]

theorem exec_tcvt_ready (op : bits w 58 6 = 7) :
    let pc := s.get (Reg.TSTAT_PC t)
    let a : Opnd := ⟨bit w 57, bits w 53 4⟩
    let d : Opnd := ⟨false, bits w 50 3⟩
    let src := s.oType t a
    let dst := s.oType t d
    let cb := tcvtColb dst (s.oElems t a)
    (dst = 0 ∨ src = 0 ∧ a.acc = false → exec (.tcvt t n) s = .next (s.shapeFault t pc 1 [d, a])) ∧
    (dst ≠ 0 → src = 0 → a.acc = true → exec (.tcvt t n) s = .next (s.shapeFault t pc 7 [d, a])) ∧
    (src ≠ 0 → dst ≠ 0 → (src = 8 ∨ dst = 8) → exec (.tcvt t n) s = .next (s.shapeFault t pc 2 [d, a])) ∧
    (src ≠ 0 → dst ≠ 0 → src ≠ 8 → dst ≠ 8 → 64 < cb → exec (.tcvt t n) s = .next (s.shapeFault t pc 6 [d, a])) ∧
    (src ≠ 0 → dst ≠ 0 → src ≠ 8 → dst ≠ 8 → cb ≤ 64 → exec (.tcvt t n) s = .next (s.tileRows t pc n (s.oRows t a) (rowCycles 2 1)
      (cleanRow (fun u r => (u.takeShape t d dst (s.oRows t a) cb).setRow t d r (packElems dst
        ((rowElems src (s.oElems t a) (u.oRow t a r)).map (tcvtElem src dst (bits w 45 5) (bit w 44) (bit w 43)))))))) := by
  intro pc a d src dst cb
  have run : exec (.tcvt t n) s = execTcvt t n s := rfl
  have typed (hd : dst ≠ 0) (h : src ≠ 0 ∨ a.acc = true) : ¬ (dst = 0 ∨ src = 0 ∧ (!a.acc) = true) := by
    rcases h with h | h <;> simp [hd, h]
  rw [run, execTcvt, State.tileRun_ready ready op]
  dsimp only
  refine ⟨fun none => ?_, fun hd hs acc => ?_, fun hs hd pair => ?_, fun hs hd ns nd wide => ?_, fun hs hd ns nd fits => ?_⟩
  · rw [if_pos (by simpa [a] using none)]
  · rw [if_neg (typed hd (.inr acc)), if_pos hs]
  · rw [if_neg (typed hd (.inl hs)), if_neg hs, if_pos pair]
  · rw [if_neg (typed hd (.inl hs)), if_neg hs, if_neg (not_or.2 ⟨ns, nd⟩), if_pos wide]
  · rw [if_neg (typed hd (.inl hs)), if_neg hs, if_neg (not_or.2 ⟨ns, nd⟩), if_neg (Nat.not_lt.2 fits)]

end

/-! ### TLOAD and TSTORE at PC -/

namespace State

/-- The registers and accumulators that a TLOAD or TSTORE names. -/
def ldstRegs (s : State) (t w : Nat) : List Opnd := ((s.ldstParts t w).filter (fun p => !p.vec)).map (fun p => p.o)

/-- The COLB given holds a whole number of elements of every typed register. -/
def LdstWhole (s : State) (t w : Nat) : Prop :=
  ∀ o ∈ s.ldstRegs t w, o.acc = false → s.oType t o ≠ 0 → wholeElems (s.oType t o) (bits w 18 6 + 1) = true

/-- A register without type is among them. -/
def LdstUntyped (s : State) (t w : Nat) : Prop := ∃ o ∈ s.ldstRegs t w, o.acc = false ∧ s.oType t o = 0

/-- An accumulator that holds another type is among them. -/
def LdstMistyped (s : State) (t w : Nat) : Prop := ∃ o ∈ s.ldstRegs t w, o.acc = true ∧ s.oEmpty t o = false ∧ s.oType t o ≠ bits w 32 4

section
variable (s : State) (t w : Nat)

/-- Accumulators are named alone (R302). -/
theorem acc_of_mem_ldstRegs {o q : Opnd} (ho : o ∈ s.ldstRegs t w) (hq : q ∈ s.ldstRegs t w) (acc : o.acc = true) : q.acc = true := by
  unfold ldstRegs ldstParts at ho hq
  by_cases regs : bits w 56 2 = 0
  · simp only [if_pos regs] at ho
    exfalso
    have : o.acc = false := by
      split_ifs at ho <;> simp at ho <;> rcases ho with rfl | rfl <;> rfl
    simp [this] at acc
  · by_cases accs : bits w 56 2 = 1
    · simp [accs] at hq
      rw [hq]
    · simp [regs, accs] at ho

theorem ldst_partial_iff :
    (bit w 28 && ((s.ldstRegs t w).filter (fun o => !o.acc)).any (fun o => s.oType t o != 0 && !wholeElems (s.oType t o) (bits w 18 6 + 1))) = true ↔
      bit w 28 = true ∧ ¬ s.LdstWhole t w := by
  simp [LdstWhole]

theorem ldst_untyped_iff : ((s.ldstRegs t w).filter (fun o => !o.acc)).any (fun o => s.oType t o == 0) = true ↔ s.LdstUntyped t w := by
  simp [LdstUntyped]

theorem ldst_mistyped_iff :
    (bits w 58 6 == 2 && (s.ldstRegs t w).any (fun o => o.acc && !s.oEmpty t o && s.oType t o != bits w 32 4)) = true ↔
      bits w 58 6 = 2 ∧ s.LdstMistyped t w := by
  simp [LdstMistyped, and_assoc]

end

section
variable (s : State) (t pc w n : Nat) (row : Nat → Nat → List RowPart → State → Nat → State × Bool)

/-- What a TLOAD or TSTORE of operands that agree does. -/
def ldstMoves : State :=
  let ps := s.ldstParts t w
  match s.ldstBeyond t w ps with
  | some r => (s.put (Reg.TSTART_ROW t) 0).tileFault t 3 pc (r % 256)
  | none =>
    let s1 := if bit w 28 then ps.foldl (fun s p => s.takeShape t p.o 0 p.rows p.colb) s else s
    let k := min (if (s.tx t).step then 1 else max 1 n) (partRows ps - s.get (Reg.TSTART_ROW t))
    (s1.refused t k).tileRows t pc n (partRows ps) (fun r => ldstCycles w r + s.ownDelays t w ps r) (row t w ps)

theorem ldst_eq : s.ldst t pc w n row =
    if bit w 28 && ((s.ldstRegs t w).filter (fun o => !o.acc)).any (fun o => s.oType t o != 0 && !wholeElems (s.oType t o) (bits w 18 6 + 1)) then
      (s.put (Reg.TSTART_ROW t) 0).tileFault t 2 pc 5
    else if ((s.ldstRegs t w).filter (fun o => !o.acc)).any (fun o => s.oType t o == 0) then s.shapeFault t pc 1 (s.ldstRegs t w)
    else if bits w 58 6 == 2 && (s.ldstRegs t w).any (fun o => o.acc && !s.oEmpty t o && s.oType t o != bits w 32 4) then
      s.shapeFault t pc 5 (s.ldstRegs t w)
    else s.ldstMoves t pc w n row := rfl

variable {s t w}

theorem ldst_partial (shaped : bit w 28 = true) (part : ¬ s.LdstWhole t w) :
    s.ldst t pc w n row = (s.put (Reg.TSTART_ROW t) 0).tileFault t 2 pc 5 := by
  rw [ldst_eq, if_pos ((s.ldst_partial_iff t w).2 ⟨shaped, part⟩)]

theorem ldst_untyped (whole : bit w 28 = true → s.LdstWhole t w) (untyped : s.LdstUntyped t w) :
    s.ldst t pc w n row = s.shapeFault t pc 1 (s.ldstRegs t w) := by
  rw [ldst_eq, if_neg (mt (s.ldst_partial_iff t w).1 fun ⟨shaped, part⟩ => part (whole shaped)), if_pos ((s.ldst_untyped_iff t w).2 untyped)]

theorem ldst_agree (whole : bit w 28 = true → s.LdstWhole t w) (typed : ¬ s.LdstUntyped t w)
    (own : bits w 58 6 = 2 → ¬ s.LdstMistyped t w) : s.ldst t pc w n row = s.ldstMoves t pc w n row := by
  rw [ldst_eq, if_neg (mt (s.ldst_partial_iff t w).1 fun ⟨shaped, part⟩ => part (whole shaped)), if_neg (mt (s.ldst_untyped_iff t w).1 typed),
    if_neg (mt (s.ldst_mistyped_iff t w).1 fun ⟨load, other⟩ => own load other)]

/-- Where an accumulator is named no register is, so that its type is the only check. -/
theorem ldst_mistyped (load : bits w 58 6 = 2) (other : s.LdstMistyped t w) : s.ldst t pc w n row = s.shapeFault t pc 5 (s.ldstRegs t w) := by
  obtain ⟨o, named, acc, -, -⟩ := id other
  have accs {q : Opnd} (hq : q ∈ s.ldstRegs t w) : q.acc = true := s.acc_of_mem_ldstRegs t w named hq acc
  have whole : s.LdstWhole t w := fun q hq reg => absurd (accs hq) (by simp [reg])
  have typed : ¬ s.LdstUntyped t w := fun ⟨q, hq, reg, _⟩ => absurd (accs hq) (by simp [reg])
  rw [ldst_eq, if_neg (mt (s.ldst_partial_iff t w).1 fun ⟨_, part⟩ => part whole), if_neg (mt (s.ldst_untyped_iff t w).1 typed),
    if_pos ((s.ldst_mistyped_iff t w).2 ⟨load, other⟩)]

theorem ldstMoves_beyond {r : Nat} (beyond : s.ldstBeyond t w (s.ldstParts t w) = some r) :
    s.ldstMoves t pc w n row = (s.put (Reg.TSTART_ROW t) 0).tileFault t 3 pc (r % 256) := by
  rw [ldstMoves]
  simp only [beyond]

theorem ldstMoves_within (within : s.ldstBeyond t w (s.ldstParts t w) = none) (runs : (s.tx t).step = false) :
    let ps := s.ldstParts t w
    let u := if bit w 28 then ps.foldl (fun u p => u.takeShape t p.o 0 p.rows p.colb) s else s
    let k := min (max 1 n) (partRows ps - s.get (Reg.TSTART_ROW t))
    s.ldstMoves t pc w n row = (u.draw.tileCycles t (u.drawn 32 % (14 * k + 1))).tileRows t pc n (partRows ps)
      (fun r => ldstCycles w r + s.ownDelays t w ps r) (row t w ps) := by
  intro ps u k
  rw [ldstMoves]
  simp only [within, runs]
  rfl

end

end State

theorem exec_ldst_ready {t : Fin 192} {s : State} {w : Nat} (ready : TileReady t s w) (n : Nat) {c : Instr}
    {row : Nat → Nat → List RowPart → State → Nat → State × Bool}
    (named : (bits w 58 6, c, row) ∈ [(2, Instr.tload t n, State.tloadRow), (3, Instr.tstore t n, State.tstoreRow)]) :
    exec c s = .next (s.ldst t (s.get (Reg.TSTAT_PC t)) w n row) := by
  simp only [List.mem_cons, List.not_mem_nil, or_false, Prod.mk.injEq] at named
  rcases named with ⟨op, rfl, rfl⟩ | ⟨op, rfl, rfl⟩
  · have run : exec (.tload t n) s = execTload t n s := rfl
    rw [run, execTload, State.tileRun_ready ready op]
  · have run : exec (.tstore t n) s = execTstore t n s := rfl
    rw [run, execTstore, State.tileRun_ready ready op]

/-- TLOAD and TSTORE at PC: each disagreement faults, and operands that agree move their rows. -/
theorem exec_ldst_outcomes {t : Fin 192} {s : State} {w : Nat} (ready : TileReady t s w) (n : Nat) {c : Instr}
    {row : Nat → Nat → List RowPart → State → Nat → State × Bool}
    (named : (bits w 58 6, c, row) ∈ [(2, Instr.tload t n, State.tloadRow), (3, Instr.tstore t n, State.tstoreRow)]) :
    let pc := s.get (Reg.TSTAT_PC t)
    let ps := s.ldstParts t w
    let regs := s.ldstRegs t w
    let agree := (bit w 28 = true → s.LdstWhole t w) ∧ (∀ o ∈ regs, s.oType t o ≠ 0 ∨ o.acc = true) ∧
      (bits w 58 6 = 2 → ∀ o ∈ regs, o.acc = true → s.oEmpty t o = true ∨ s.oType t o = bits w 32 4)
    (bit w 28 = true → ¬ s.LdstWhole t w → exec c s = .next ((s.put (Reg.TSTART_ROW t) 0).tileFault t 2 pc 5)) ∧
    ((bit w 28 = true → s.LdstWhole t w) → s.LdstUntyped t w → exec c s = .next (s.shapeFault t pc 1 regs)) ∧
    (bits w 58 6 = 2 → s.LdstMistyped t w → exec c s = .next (s.shapeFault t pc 5 regs)) ∧
    (∀ r, agree → s.ldstBeyond t w ps = some r → exec c s = .next ((s.put (Reg.TSTART_ROW t) 0).tileFault t 3 pc (r % 256))) ∧
    (agree → s.ldstBeyond t w ps = none → let u := if bit w 28 then ps.foldl (fun u p => u.takeShape t p.o 0 p.rows p.colb) s else s
      let k := min (max 1 n) (partRows ps - s.get (Reg.TSTART_ROW t))
      exec c s = .next ((u.draw.tileCycles t (u.drawn 32 % (14 * k + 1))).tileRows t pc n (partRows ps)
        (fun r => ldstCycles w r + s.ownDelays t w ps r) (row t w ps))) := by
  intro pc ps regs agree
  rw [exec_ldst_ready ready n named]
  have moves (ok : agree) : s.ldst t pc w n row = s.ldstMoves t pc w n row := by
    obtain ⟨whole, typed, own⟩ := ok
    refine State.ldst_agree pc n row whole (fun ⟨o, ho, reg, bare⟩ => ?_) fun load ⟨o, ho, acc, full, other⟩ => ?_
    · exact (typed o ho).elim (· bare) fun acc => Bool.false_ne_true (reg.symm.trans acc)
    · exact (own load o ho acc).elim (fun empty => Bool.false_ne_true (full.symm.trans empty)) other
  refine ⟨fun shaped part => ?_, fun whole untyped => ?_, fun load other => ?_, fun r ok beyond => ?_, fun ok within => ?_⟩
  · rw [State.ldst_partial pc n row shaped part]
  · rw [State.ldst_untyped pc n row whole untyped]
  · rw [State.ldst_mistyped pc n row load other]
  · rw [moves ok, State.ldstMoves_beyond pc n row beyond]
  · obtain ⟨-, -, -, runs⟩ := ready
    rw [moves ok, State.ldstMoves_within pc n row within runs]

/-- Settles O42: an instruction's row unfolds to its checks of R299, the rows that meet no memory are a fold over the rows left, a row of
TMMA is read back element by element, and a row of TSTORE writes within its parts' addresses. -/
theorem tileMatrixInstructions : Obligations.TileMatrixInstructions := by
  unfold Obligations.TileMatrixInstructions
  refine ⟨?illegal, ?fault, ?rows, ?ready, ?store, ?load⟩
  case illegal =>
    intro t n s w d issues word illegal c op row mine
    obtain ⟨f, run⟩ := exec_tileRowsOf t n s row
    rw [run, State.tileRun_illegal issues word mine illegal]
  case fault =>
    intro t s code pc d os _ kind fits u
    obtain ⟨code', pc', detail, faulted, start⟩ := s.tileFaultOps_shows t pc os kind fits
    obtain ⟨win, rows, mem, sync, hq⟩ := (s.put (Reg.TSTART_ROW t) 0).tileFaultOps_keeps t code pc d os
    exact ⟨code', pc', detail, faulted, State.tileRuns_tileFaultOps _ _ _ _ _ _, start, win, rows, mem, sync, hq⟩
  case rows =>
    intro s t pc n total cyc f r0 k u runs still
    exact State.tileRows_clean pc n total cyc f runs still
  case ready =>
    intro t n s w ready pc op
    refine ⟨fun h => ?_, exec_tew_ready ready n, exec_tred_ready ready n, exec_tcvt_ready ready n, exec_tpair_ready ready n,
      fun c row named => exec_ldst_outcomes ready n named⟩
    obtain ⟨untyped, unknown, known⟩ := exec_tmma_ready ready n h
    refine ⟨untyped, unknown, fun ty per ha hb types => ?_, fun ty per ha hb types same suits =>
      ⟨?_, fun i hi j hj => ⟨?_, fun r _ other full => ?_⟩⟩⟩
    · obtain ⟨differ, other, -⟩ := known ty per ha hb types
      exact ⟨differ, other⟩
    · obtain ⟨-, -, agree⟩ := known ty per ha hb types
      exact agree same suits
    · exact s.bits_tmmaRow t w (elemBits_of_tmmaType types) hi hj
    · exact s.oRow_tmmaRow_ne t w other full
  case store => exact State.tstoreRow_outside
  case load => exact State.tloadRow_sameMemory

end Sys2Proof.Machine

/-! SUPPORT. Bits set within a number, and where a tile stands once an instruction is done: its PC, TSTART and cycles, with the scalars and
predicates that it may have written (R298, R312, Table TILE-1). -/

namespace Sys2Proof.Machine
set_option Elab.async false

/-! ### Bits set within a number -/

/-- The bits above those set, those set, and the bits below. -/
theorem setBits_eq (x l w v : Nat) : setBits x l w v = 2 ^ l * (2 ^ w * (x / 2 ^ (l + w)) + v % 2 ^ w) + x % 2 ^ l := by
  have parts : x = x % 2 ^ l + 2 ^ l * bits x l w + 2 ^ (l + w) * (x / 2 ^ (l + w)) := by
    rw [bits, Nat.shiftRight_eq_div_pow, pow_add, ← Nat.div_div_eq_div_mul, mul_assoc, add_assoc, ← mul_add, Nat.mod_add_div, Nat.mod_add_div]
  rw [setBits, Nat.shiftLeft_eq, Nat.shiftLeft_eq, mul_comm (bits x l w), mul_comm (v % 2 ^ w), mul_add, ← mul_assoc, ← pow_add]
  omega

theorem testBit_setBits (x l w v i : Nat) :
    (setBits x l w v).testBit i = if l ≤ i ∧ i < l + w then v.testBit (i - l) else x.testBit i := by
  rw [setBits_eq, Nat.testBit_two_pow_mul_add _ (Nat.mod_lt _ (Nat.two_pow_pos l))]
  by_cases below : i < l
  · rw [if_pos below, if_neg (by omega), Nat.testBit_mod_two_pow, decide_eq_true below, Bool.true_and]
  · rw [if_neg below, Nat.testBit_two_pow_mul_add _ (Nat.mod_lt _ (Nat.two_pow_pos w))]
    by_cases inside : i - l < w
    · rw [if_pos inside, if_pos (by omega), Nat.testBit_mod_two_pow, decide_eq_true inside, Bool.true_and]
    · rw [if_neg inside, if_neg (by omega), Nat.testBit_div_two_pow]
      congr 1
      omega

/-- Bits apart from those set stay. -/
theorem bits_setBits_apart (x v : Nat) {l w m n : Nat} (apart : m + n ≤ l ∨ l + w ≤ m) : bits (setBits x l w v) m n = bits x m n := by
  refine Nat.eq_of_testBit_eq fun i => ?_
  rw [testBit_bits, testBit_bits, testBit_setBits]
  by_cases inside : i < n
  · rw [if_neg (by omega)]
  · simp [inside]

theorem bit_setBits_ne (x v : Nat) {k j : Nat} (ne : j ≠ k) : bit (setBits x k 1 v) j = bit x j := by
  rw [bit, bit, bits_setBits_apart _ _ (by omega)]

/-! ### An instruction done (R298) -/

namespace State

section
variable {s u : State} {t : Nat}

/-- Outside of single steps an instruction done writes the tile's place and cycles alone. -/
theorem tileGoto_eq (runs : (u.tx t).step = false) (pc n : Nat) :
    u.tileGoto t pc n = ((u.put (Reg.TSTART_ROW t) 0).put (Reg.TSTAT_PC t) (pc % 4096)).tileCycles t n :=
  if_neg fun steps => Bool.false_ne_true (runs.symm.trans steps)

theorem tileGoto_regsOnly (runs : (u.tx t).step = false) (pc n : Nat) : u.tileGoto t pc n = { u with regs := (u.tileGoto t pc n).regs } := by
  rw [tileGoto_eq runs]
  rfl

theorem tileGoto_regs (runs : (u.tx t).step = false) (pc n : Nat) : RegsBut (tileAt t) u (u.tileGoto t pc n) := by
  rw [tileGoto_eq runs]
  exact regsBut_put (regsBut_put (regsBut_put (regsBut_refl _ u) _ (by simp [tileAt])) _ (by simp [tileAt])) _ (by simp [tileAt])

/-- Cycles counted before the instruction is done are its own. -/
theorem tileGoto_done (runs : (u.tx t).step = false) {d : Nat}
    (spent : u.get (Reg.TCYC_CYCLES t) % 2 ^ 64 = (s.get (Reg.TCYC_CYCLES t) + d) % 2 ^ 64) (pc n : Nat) :
    TileDone t s (u.tileGoto t pc n) pc (n + d) := by
  rw [tileGoto_eq runs, tileCycles]
  refine ⟨?_, ?_, ?_⟩
  · rw [get_put_ne _ _ (by simp), get_put_same]
    exact Nat.mod_mod _ _
  · rw [get_put_ne _ _ (by simp), get_put_ne _ _ (by simp), get_put_same, Nat.zero_mod]
  · rw [get_put_same, get_put_ne _ _ (by simp), get_put_ne _ _ (by simp)]
    change (u.get (Reg.TCYC_CYCLES t) + n) % 2 ^ 64 = _
    omega

/-- The same where none were counted before. -/
theorem tileGoto_done_of_get (runs : (u.tx t).step = false) (same : u.get (Reg.TCYC_CYCLES t) = s.get (Reg.TCYC_CYCLES t)) (pc n : Nat) :
    TileDone t s (u.tileGoto t pc n) pc n := tileGoto_done runs (d := 0) (congrArg (· % 2 ^ 64) same) pc n

end

/-! ### Scalars and predicates (Table TILE-1) -/

section
variable (s : State) (t k v : Nat)

/-- Window words below `lo` and from `hi` on in a tile's window read as before. -/
def WinBut (t lo hi : Nat) (s u : State) : Prop := ∀ x, (x < tileWin t + lo ∨ tileWin t + hi ≤ x) → u.wget x = s.wget x

theorem setSreg_winOnly : s.setSreg t k v = { s with win := (s.setSreg t k v).win } := by
  unfold setSreg
  split <;> rfl

theorem sreg_setSreg : (s.setSreg t k v).sreg t k = if k = 0 then 0 else v % 2 ^ 32 := by
  unfold sreg setSreg
  split
  · rfl
  · exact wget_wput_same _ _ _

theorem setSreg_winBut : WinBut t (0x9000 + 4 * k) (0x9004 + 4 * k) s (s.setSreg t k v) := by
  intro x out
  unfold setSreg
  split
  · rfl
  · exact wget_wput_ne _ _ (by omega)

theorem setPreg_winOnly : s.setPreg t k v = { s with win := (s.setPreg t k v).win } := by
  unfold setPreg
  split <;> rfl

theorem preg_setPreg : (s.setPreg t k v).preg t k = if k = 0 then 2 ^ 64 - 1 else v % 2 ^ 64 := by
  unfold preg setPreg
  split
  · rfl
  · rw [wget_wput_ne _ _ (by omega), wget_wput_same, wget_wput_same]
    omega

theorem setPreg_winBut : WinBut t (0x9500 + 8 * k) (0x9508 + 8 * k) s (s.setPreg t k v) := by
  intro x out
  unfold setPreg
  split
  · rfl
  · rw [wget_wput_ne _ _ (by omega), wget_wput_ne _ _ (by omega)]

end

end State

/-- An instruction that does nothing but move on to `pc` in `n` cycles. -/
def TileWent (t : Nat) (c : Instr) (s : State) (pc n : Nat) : Prop :=
  ∃ u, exec c s = .next u ∧ TileDone t s u pc n ∧ u = { s with regs := u.regs } ∧ RegsBut (tileAt t) s u

/-- An instruction that makes the scalar or predicate that `get` reads show `v`, with the window words of [lo, hi), and moves on. -/
def TileSet (t : Nat) (c : Instr) (s : State) (pc : Nat) (get : State → Nat) (v lo hi : Nat) : Prop :=
  ∃ u, exec c s = .next u ∧ TileDone t s u (pc + 1) 1 ∧ get u = v ∧ State.WinBut t lo hi s u ∧
    u = { s with regs := u.regs, win := u.win } ∧ RegsBut (tileAt t) s u

section
variable {s : State} {t pc n k v : Nat} {c : Instr} (runs : (s.tx t).step = false)
include runs

theorem tileWent_of_goto (run : exec c s = .next (s.tileGoto t pc n)) : TileWent t c s pc n :=
  ⟨_, run, State.tileGoto_done_of_get runs rfl _ _, State.tileGoto_regsOnly runs _ _, State.tileGoto_regs runs _ _⟩

theorem tileSet_of_win {u : State} (winOnly : u = { s with win := u.win }) {get : State → Nat} {lo hi : Nat}
    (reads : ∀ r, get { u with regs := r } = v) (out : State.WinBut t lo hi s u) (run : exec c s = .next (u.tileGoto t (pc + 1) 1)) :
    TileSet t c s pc get v lo hi := by
  have still : (u.tx t).step = false := by rw [winOnly]; exact runs
  have place := State.tileGoto_regs still (pc + 1) 1
  have done := State.tileGoto_done_of_get (s := s) still (by rw [winOnly]; rfl) (pc + 1) 1
  have only := State.tileGoto_regsOnly still (pc + 1) 1
  refine ⟨_, run, done, ?_, ?_, ?_, ?_⟩
  · rw [only, reads]
  · rw [only]
    exact out
  · rw [only, winOnly]
  · rw [winOnly] at place ⊢
    exact place

theorem tileSet_of_setSreg (run : exec c s = .next ((s.setSreg t k v).tileGoto t (pc + 1) 1)) :
    TileSet t c s pc (fun u => u.sreg t k) (if k = 0 then 0 else v % 2 ^ 32) (0x9000 + 4 * k) (0x9004 + 4 * k) :=
  tileSet_of_win runs (s.setSreg_winOnly t k v) (fun _ => s.sreg_setSreg t k v) (s.setSreg_winBut t k v) run

theorem tileSet_of_setPreg (run : exec c s = .next ((s.setPreg t k v).tileGoto t (pc + 1) 1)) :
    TileSet t c s pc (fun u => u.preg t k) (if k = 0 then 2 ^ 64 - 1 else v % 2 ^ 64) (0x9500 + 8 * k) (0x9508 + 8 * k) :=
  tileSet_of_win runs (s.setPreg_winOnly t k v) (fun _ => s.preg_setPreg t k v) (s.setPreg_winBut t k v) run

end

end Sys2Proof.Machine

/-! SUPPORT. What a tile's registers and accumulators read as once their rows, EMPTY, type and shape are written (R278, R301, R311). -/

namespace Sys2Proof.Machine
set_option Elab.async false

section
variable (t k : Nat)

@[simp] theorem key_tshapeEmpty : (Reg.TSHAPE_EMPTY t k).key = t * 0x200000 + (k * 128 + (0x1008040 * 32 + 31)) := key_tileWords _ _ _ _ _ _
@[simp] theorem key_tshapeType : (Reg.TSHAPE_TYPE t k).key = t * 0x200000 + (k * 128 + (0x1008040 * 32 + 24)) := key_tileWords _ _ _ _ _ _
@[simp] theorem key_tshapeRows : (Reg.TSHAPE_ROWS t k).key = t * 0x200000 + (k * 128 + (0x1008040 * 32 + 16)) := key_tileWords _ _ _ _ _ _
@[simp] theorem key_tshapeColb : (Reg.TSHAPE_COLB t k).key = t * 0x200000 + (k * 128 + 0x1008040 * 32) := key_tileWords _ _ _ _ _ _
@[simp] theorem key_taccEmpty : (Reg.TACC_EMPTY t).key = t * 0x200000 + (0x1008060 * 32 + 8) := key_tileWindow _ _ _ _ _
@[simp] theorem key_taccAtype : (Reg.TACC_ATYPE t).key = t * 0x200000 + 0x1008060 * 32 := key_tileWindow _ _ _ _ _

end

/-- The operand stands in its file: eight tile registers, four accumulators. -/
def Opnd.InFile (o : Opnd) : Prop := o.k < classTop o.acc

namespace State

/-! ### Rows -/

/-- The rows of an operand zeroed one by one read zero, and no other row changes. -/
theorem rows_foldl_putRow (t : Nat) (o : Opnd) (n : Nat) (s : State) (k : Nat) :
    tget 0 ((List.range n).foldl (fun s r => s.putRow t o r 0) s).tu.rows k =
      if o.key t 0 ≤ k ∧ k < o.key t n then 0 else tget 0 s.tu.rows k := by
  induction n with
  | zero => rw [if_neg (by omega)]; rfl
  | succ n ih =>
    have next : o.key t (n + 1) = o.key t n + 1 := rfl
    have first : o.key t n = o.key t 0 + n := rfl
    rw [List.range_succ, List.foldl_append, List.foldl_cons, List.foldl_nil, putRow]
    by_cases last : k = o.key t n
    · rw [last, tget_tput_same, if_pos (by omega)]
    · rw [tget_tput_ne _ _ _ _ last, ih]
      exact if_congr (by omega) rfl rfl

theorem rows_zeroRows_own (s : State) (t : Nat) (o : Opnd) {r : Nat} (low : r < 16) : tget 0 (s.zeroRows t o).tu.rows (o.key t r) = 0 := by
  rw [zeroRows, rows_foldl_putRow, if_pos (by unfold Opnd.key; omega)]

theorem rows_zeroRows_other (s : State) (t : Nat) {o q : Opnd} (ho : o.InFile) (hq : q.InFile) (ne : q ≠ o) {r : Nat} (low : r < 16) :
    tget 0 (s.zeroRows t o).tu.rows (q.key t r) = tget 0 s.tu.rows (q.key t r) := by
  have apart : q.num ≠ o.num := by
    obtain ⟨a, k⟩ := o
    obtain ⟨b, j⟩ := q
    cases a <;> cases b <;> simp_all [Opnd.num, Opnd.InFile, classTop] <;> omega
  rw [zeroRows, rows_foldl_putRow, if_neg (by unfold Opnd.key; omega)]

theorem zeroRows_rowsOnly (s : State) (t : Nat) (o : Opnd) : s.zeroRows t o = { s with tu := { s.tu with rows := (s.zeroRows t o).tu.rows } } :=
  List.foldlRecOn (motive := fun u : State => u = { s with tu := { s.tu with rows := u.tu.rows } }) _ _ rfl fun u hu r _ => by
    rw [putRow, hu]

theorem get_zeroRows (s : State) (t : Nat) (o : Opnd) (f : Fld) : (s.zeroRows t o).get f = s.get f := by
  have regs : (s.zeroRows t o).regs = s.regs := by rw [zeroRows_rowsOnly]
  rw [get, get, regs]

/-! ### EMPTY and ATYPE -/

section
variable (s : State) (t : Nat) {o q : Opnd} (e : Bool)

@[simp] theorem setEmpty_tu (o : Opnd) : (s.setEmpty t o e).tu = s.tu := by
  unfold setEmpty
  split <;> rfl

@[simp] theorem setAtype_tu (k a : Nat) : (s.setAtype t k a).tu = s.tu := rfl
@[simp] theorem setShape_tu (k rows colb : Nat) : (s.setShape t k rows colb).tu = s.tu := rfl

/-- Types, shapes and ATYPE stay. -/
theorem get_setEmpty {f : Fld} (k : Nat)
    (other : f ∈ [Reg.TSHAPE_TYPE t k, Reg.TSHAPE_ROWS t k, Reg.TSHAPE_COLB t k, Reg.TACC_ATYPE t]) : (s.setEmpty t o e).get f = s.get f := by
  simp only [List.mem_cons, List.not_mem_nil, or_false] at other
  have place : ∃ a b, f.key = t * 0x200000 + (a * 128 + (0x1008040 * 32 + b)) ∧ b ∈ [0, 16, 24] := by
    rcases other with rfl | rfl | rfl | rfl
    · exact ⟨k, 24, key_tshapeType _ _, by decide⟩
    · exact ⟨k, 16, key_tshapeRows _ _, by decide⟩
    · exact ⟨k, 0, key_tshapeColb _ _, by decide⟩
    · exact ⟨8, 0, key_taccAtype _, by decide⟩
  obtain ⟨a, b, key, among⟩ := place
  simp only [List.mem_cons, List.not_mem_nil, or_false] at among
  unfold setEmpty
  split
  · exact get_put_ne _ _ (by rw [key, key_taccEmpty]; omega)
  · exact get_put_ne _ _ (by rw [key, key_tshapeEmpty]; omega)

theorem oEmpty_setEmpty_same (ho : o.InFile) : (s.setEmpty t o e).oEmpty t o = e := by
  obtain ⟨acc, k⟩ := o
  cases acc with
  | true =>
    have low : k < 4 := ho
    change bit ((s.put (Reg.TACC_EMPTY t) (setBits (s.get (Reg.TACC_EMPTY t)) k 1 (b2n e))).get (Reg.TACC_EMPTY t)) k = e
    rw [get_put_same]
    exact (bit_cut _ low).trans (bit_setBits _ _ _)
  | false => exact flag_setFlag_same _ _ _ Nat.one_ne_zero

theorem oEmpty_setEmpty_ne (ho : o.InFile) (hq : q.InFile) (ne : q ≠ o) : (s.setEmpty t o e).oEmpty t q = s.oEmpty t q := by
  obtain ⟨acc, k⟩ := o
  obtain ⟨acc', j⟩ := q
  have own : k < classTop acc := ho
  have other : j < classTop acc' := hq
  cases acc' with
  | true =>
    change bit ((s.setEmpty t ⟨acc, k⟩ e).get (Reg.TACC_EMPTY t)) j = bit (s.get (Reg.TACC_EMPTY t)) j
    cases acc with
    | true =>
      have apart : j ≠ k := fun same => ne (by rw [same])
      change bit ((s.put (Reg.TACC_EMPTY t) (setBits (s.get (Reg.TACC_EMPTY t)) k 1 (b2n e))).get (Reg.TACC_EMPTY t)) j = _
      rw [get_put_same]
      exact (bit_cut _ other).trans (bit_setBits_ne _ _ apart)
    | false =>
      have below : k < 8 := own
      exact congrArg (bit · j) (get_put_ne _ _ (by simp only [key_taccEmpty, key_tshapeEmpty]; omega))
  | false =>
    have below : j < 8 := other
    change ((s.setEmpty t ⟨acc, k⟩ e).get (Reg.TSHAPE_EMPTY t j) != 0) = (s.get (Reg.TSHAPE_EMPTY t j) != 0)
    refine congrArg (· != 0) ?_
    cases acc with
    | true => exact get_put_ne _ _ (by simp only [key_taccEmpty, key_tshapeEmpty]; omega)
    | false =>
      have apart : j ≠ k := fun same => ne (by rw [same])
      exact get_put_ne _ _ (by simp only [key_tshapeEmpty]; omega)

theorem aType_setAtype {k : Nat} (a : Nat) (low : k < 4) : (s.setAtype t k a).aType t k = a % 4 := by
  rw [aType, setAtype, get_put_same]
  exact (bits_cut_of_le (n := 8) _ (by omega)).trans (bits_setBits_same _ _ _ _)

theorem aType_setAtype_ne {k j : Nat} (a : Nat) (low : j < 4) (ne : j ≠ k) : (s.setAtype t k a).aType t j = s.aType t j := by
  rw [aType, setAtype, get_put_same]
  exact (bits_cut_of_le (n := 8) _ (by omega)).trans (bits_setBits_apart _ _ (by omega))

end

/-! ### An operand's row -/

/-- A row is what its operand's EMPTY and shape let through of the row stored. -/
theorem oRow_congr {s u : State} {t : Nat} {q : Opnd} {r : Nat} (empty : u.oEmpty t q = s.oEmpty t q) (rows : u.oRows t q = s.oRows t q)
    (colb : u.oColb t q = s.oColb t q) (stored : tget 0 u.tu.rows (q.key t r) = tget 0 s.tu.rows (q.key t r)) : u.oRow t q r = s.oRow t q r := by
  rw [oRow, oRow, empty, rows, colb, stored]

theorem oRow_of_empty {s : State} {t : Nat} {o : Opnd} (empty : s.oEmpty t o = true) (r : Nat) : s.oRow t o r = 0 :=
  if_pos (.inl empty)

theorem oRow_of_zero {s : State} {t : Nat} {o : Opnd} {r : Nat} (stored : tget 0 s.tu.rows (o.key t r) = 0) : s.oRow t o r = 0 := by
  rw [oRow, stored, cut, Nat.zero_mod, ite_self]

/-! ### What writing them leaves -/

/-- Registers and rows alone have changed, and no cycles were counted. -/
def ShapeFrame (t : Nat) (s u : State) : Prop :=
  u = { s with regs := u.regs, tu := { s.tu with rows := u.tu.rows } } ∧ u.get (Reg.TCYC_CYCLES t) = s.get (Reg.TCYC_CYCLES t)

namespace ShapeFrame
variable {t : Nat} {s u v : State}

theorem refl (t : Nat) (s : State) : ShapeFrame t s s := ⟨rfl, rfl⟩

theorem trans (h : ShapeFrame t s u) (k : ShapeFrame t u v) : ShapeFrame t s v := by
  obtain ⟨only, cycles⟩ := h
  obtain ⟨only', cycles'⟩ := k
  exact ⟨by rw [only', only], cycles'.trans cycles⟩

theorem tx (h : ShapeFrame t s u) (n : Nat) : u.tx n = s.tx n := by
  obtain ⟨only, -⟩ := h
  rw [only]
  rfl

theorem put (h : ShapeFrame t s u) {f : Fld} (v : Nat) (apart : (Reg.TCYC_CYCLES t).key ≠ f.key) : ShapeFrame t s (u.put f v) :=
  h.trans ⟨rfl, get_put_ne _ _ apart⟩

theorem zeroRows (h : ShapeFrame t s u) (o : Opnd) : ShapeFrame t s (u.zeroRows t o) :=
  h.trans ⟨(u.zeroRows_rowsOnly t o).trans (by rw [u.zeroRows_rowsOnly t o]), u.get_zeroRows t o _⟩

theorem setEmpty (h : ShapeFrame t s u) (o : Opnd) (e : Bool) : ShapeFrame t s (u.setEmpty t o e) := by
  unfold State.setEmpty
  split
  · exact h.put _ (by simp)
  · exact h.put _ (by simp only [key_tcycCycles, key_tshapeEmpty]; omega)

theorem setAtype (h : ShapeFrame t s u) (k a : Nat) : ShapeFrame t s (u.setAtype t k a) := h.put _ (by simp)

end ShapeFrame

/-! ### An instruction done leaves them (R298) -/

section
variable {u : State} {t : Nat} (runs : (u.tx t).step = false) (pc n : Nat) (o : Opnd)
include runs

theorem get_tileGoto {f : Fld} (behind : t * 0x200000 + 0x1008040 * 32 ≤ f.key) : (u.tileGoto t pc n).get f = u.get f :=
  get_of_regsBut (tileGoto_regs runs pc n) fun g hg => by
    simp only [tileAt, List.mem_cons, List.not_mem_nil, or_false] at hg
    rcases hg with rfl | rfl | rfl
    · rw [key_tstatPc]; omega
    · rw [key_tstartRow]; omega
    · rw [key_tcycCycles]; omega

theorem aType_tileGoto (k : Nat) : (u.tileGoto t pc n).aType t k = u.aType t k := by
  rw [aType, aType, get_tileGoto runs _ _ (by rw [key_taccAtype]; omega)]

theorem oEmpty_tileGoto : (u.tileGoto t pc n).oEmpty t o = u.oEmpty t o := by
  rw [oEmpty, oEmpty, flag, flag, get_tileGoto runs _ _ (by rw [key_taccEmpty]; omega), get_tileGoto runs _ _ (by rw [key_tshapeEmpty]; omega)]

theorem oType_tileGoto : (u.tileGoto t pc n).oType t o = u.oType t o := by
  rw [oType, oType, oEmpty_tileGoto runs, aType_tileGoto runs, get_tileGoto runs _ _ (by rw [key_tshapeType]; omega)]

theorem oRows_tileGoto : (u.tileGoto t pc n).oRows t o = u.oRows t o := by
  rw [oRows, oRows, get_tileGoto runs _ _ (by rw [key_tshapeRows]; omega)]

theorem oColb_tileGoto : (u.tileGoto t pc n).oColb t o = u.oColb t o := by
  rw [oColb, oColb, get_tileGoto runs _ _ (by rw [key_tshapeColb]; omega)]

theorem oRow_tileGoto (r : Nat) : (u.tileGoto t pc n).oRow t o r = u.oRow t o r :=
  oRow_congr (oEmpty_tileGoto runs pc n o) (oRows_tileGoto runs pc n o) (oColb_tileGoto runs pc n o) (by rw [tileGoto_regsOnly runs])

end

end State

end Sys2Proof.Machine

/-! SUPPORT. TCFG and TREL: the fields and rows they write, and those of every other operand (R301, R311). -/

namespace Sys2Proof.Machine
set_option Elab.async false

/-! ### What the checks of R300 leave -/

/-- A legal word has no reserved value, no register outside its file and no type that R301 does not allow. -/
theorem checks_of_legal {w : Nat} (legal : tileIllegal w = none) :
    reservedValue (bits w 58 6) w = false ∧ regBeyond (bits w 58 6) w = false ∧ typeBroken (bits w 58 6) w = false := by
  unfold tileIllegal at legal
  dsimp only at legal
  split_ifs at legal with known rc zero reserved beyond pair type
  exact ⟨by simpa using reserved, by simpa using beyond, by simpa using type⟩

/-- The register or accumulator that a TCFG names. -/
def tcfgOpnd (w : Nat) : Opnd := ⟨bit w 57, bits w 53 4⟩

section
variable {w : Nat} (legal : tileIllegal w = none) (op : bits w 58 6 = 1)
include legal op

theorem tcfgOpnd_inFile : (tcfgOpnd w).InFile := by
  obtain ⟨-, inside, -⟩ := checks_of_legal legal
  rw [op, regBeyond, if_pos rfl, decide_eq_false_iff_not, Nat.not_le] at inside
  exact inside

/-- The type of an accumulator is one of the three that ATYPE tells. -/
theorem tyOfA_aOfTy_of_tcfg (acc : bit w 57 = true) : tyOfA (aOfTy (bits w 49 4)) = bits w 49 4 ∧ aOfTy (bits w 49 4) < 4 := by
  obtain ⟨-, -, typed⟩ := checks_of_legal legal
  have among : bits w 49 4 = 7 ∨ bits w 49 4 = 8 ∨ bits w 49 4 = 9 := by
    simp [op, typeBroken, acc] at typed
    tauto
  rcases among with h | h | h <;> rw [h] <;> decide

end

/-- The fields that say what an operand holds. -/
def Opnd.fields (t : Nat) (q : Opnd) : List Fld :=
  if q.acc then [Reg.TACC_EMPTY t] else [Reg.TSHAPE_EMPTY t q.k, Reg.TSHAPE_ROWS t q.k, Reg.TSHAPE_COLB t q.k]

namespace State

/-! ### An operand that stays -/

/-- An operand is empty or not as before, with its shape and the rows stored. -/
def OpndKept (t : Nat) (q : Opnd) (s u : State) : Prop :=
  u.oEmpty t q = s.oEmpty t q ∧ u.oRows t q = s.oRows t q ∧ u.oColb t q = s.oColb t q ∧
    ∀ r < 16, tget 0 u.tu.rows (q.key t r) = tget 0 s.tu.rows (q.key t r)

namespace OpndKept
variable {t : Nat} {q o : Opnd} {s u v : State}

theorem refl (t : Nat) (q : Opnd) (s : State) : OpndKept t q s s := ⟨rfl, rfl, rfl, fun _ _ => rfl⟩

theorem trans (h : OpndKept t q s u) (k : OpndKept t q u v) : OpndKept t q s v := by
  obtain ⟨empty, rows, colb, stored⟩ := h
  obtain ⟨empty', rows', colb', stored'⟩ := k
  exact ⟨empty'.trans empty, rows'.trans rows, colb'.trans colb, fun r low => (stored' r low).trans (stored r low)⟩

theorem oRow (h : OpndKept t q s u) {r : Nat} (low : r < 16) : u.oRow t q r = s.oRow t q r := by
  obtain ⟨empty, rows, colb, stored⟩ := h
  exact oRow_congr empty rows colb (stored r low)

/-- Its own fields decide what an operand holds. -/
theorem of_get (own : ∀ f ∈ q.fields t, u.get f = s.get f) (stored : ∀ r < 16, tget 0 u.tu.rows (q.key t r) = tget 0 s.tu.rows (q.key t r)) :
    OpndKept t q s u := by
  obtain ⟨acc, k⟩ := q
  cases acc with
  | true =>
    have empty : u.get (Reg.TACC_EMPTY t) = s.get (Reg.TACC_EMPTY t) := own _ (by simp [Opnd.fields])
    exact ⟨congrArg (bit · k) empty, rfl, rfl, stored⟩
  | false =>
    simp only [Opnd.fields, Bool.false_eq_true, if_false, List.forall_mem_cons] at own
    obtain ⟨empty, rows, colb, -⟩ := own
    exact ⟨congrArg (· != 0) empty, rows, colb, stored⟩

theorem put (h : OpndKept t q s u) {f : Fld} (x : Nat) (apart : ∀ g ∈ q.fields t, g.key ≠ f.key) : OpndKept t q s (u.put f x) :=
  h.trans (of_get (fun g hg => get_put_ne _ _ (apart g hg)) fun _ _ => rfl)

theorem zeroRows (h : OpndKept t q s u) (ho : o.InFile) (hq : q.InFile) (ne : q ≠ o) : OpndKept t q s (u.zeroRows t o) :=
  h.trans (of_get (fun f _ => u.get_zeroRows t o f) fun _ low => u.rows_zeroRows_other t ho hq ne low)

theorem setEmpty (h : OpndKept t q s u) (e : Bool) (ho : o.InFile) (hq : q.InFile) (ne : q ≠ o) : OpndKept t q s (u.setEmpty t o e) := by
  refine h.trans ⟨u.oEmpty_setEmpty_ne t e ho hq ne, ?_, ?_, fun r _ => by rw [setEmpty_tu]⟩
  · rw [oRows, u.get_setEmpty t e q.k (by simp), oRows]
  · rw [oColb, u.get_setEmpty t e q.k (by simp), oColb]

end OpndKept

/-! ### TCFG (R301) -/

section
variable (s : State) (t : Nat) {w : Nat}

theorem tcfg_acc (acc : bit w 57 = true) : s.tcfg t w =
    ((s.zeroRows t (tcfgOpnd w)).setAtype t (bits w 53 4) (aOfTy (bits w 49 4))).setEmpty t (tcfgOpnd w) false := by
  simp only [tcfg, tcfgOpnd, acc, if_true]

theorem tcfg_reg (reg : bit w 57 = false) : s.tcfg t w =
    (((s.zeroRows t (tcfgOpnd w)).put (Reg.TSHAPE_TYPE t (bits w 53 4)) (bits w 49 4)).setShape t (bits w 53 4) (bits w 45 4 + 1)
      (bits w 39 6 + 1)).setEmpty t (tcfgOpnd w) true := by
  simp only [tcfg, tcfgOpnd, reg, Bool.false_eq_true, if_false]

theorem tcfg_frame : ShapeFrame t s (s.tcfg t w) := by
  have zeroed := (ShapeFrame.refl t s).zeroRows (tcfgOpnd w)
  cases h : bit w 57 with
  | true =>
    rw [tcfg_acc s t h]
    exact (zeroed.setAtype _ _).setEmpty _ _
  | false =>
    rw [tcfg_reg s t h]
    exact (((zeroed.put _ (by simp only [key_tcycCycles, key_tshapeType]; omega)).put _
      (by simp only [key_tcycCycles, key_tshapeRows]; omega)).put _ (by simp only [key_tcycCycles, key_tshapeColb]; omega)).setEmpty _ _

theorem oEmpty_tcfg (file : (tcfgOpnd w).InFile) : (s.tcfg t w).oEmpty t (tcfgOpnd w) = !bit w 57 := by
  cases h : bit w 57 with
  | true => rw [tcfg_acc s t h]; exact oEmpty_setEmpty_same _ _ _ file
  | false => rw [tcfg_reg s t h]; exact oEmpty_setEmpty_same _ _ _ file

/-- Its rows are stored as zeros. -/
theorem rows_tcfg {r : Nat} (low : r < 16) : tget 0 (s.tcfg t w).tu.rows ((tcfgOpnd w).key t r) = 0 := by
  cases h : bit w 57 with
  | true => rw [tcfg_acc s t h, setEmpty_tu, setAtype_tu]; exact s.rows_zeroRows_own t _ low
  | false => rw [tcfg_reg s t h, setEmpty_tu, setShape_tu, put_tu]; exact s.rows_zeroRows_own t _ low

theorem aType_tcfg (acc : bit w 57 = true) (file : (tcfgOpnd w).InFile) (known : aOfTy (bits w 49 4) < 4) :
    (s.tcfg t w).aType t (bits w 53 4) = aOfTy (bits w 49 4) := by
  have low : bits w 53 4 < 4 := by
    have := file
    rwa [Opnd.InFile, tcfgOpnd, acc] at this
  rw [tcfg_acc s t acc, aType, get_setEmpty _ _ _ 0 (by simp)]
  exact (aType_setAtype _ _ _ low).trans (Nat.mod_eq_of_lt known)

theorem shape_tcfg (reg : bit w 57 = false) : (s.tcfg t w).get (Reg.TSHAPE_TYPE t (bits w 53 4)) = bits w 49 4 ∧
    (s.tcfg t w).get (Reg.TSHAPE_ROWS t (bits w 53 4)) = bits w 45 4 + 1 ∧
    (s.tcfg t w).get (Reg.TSHAPE_COLB t (bits w 53 4)) = bits w 39 6 + 1 := by
  have rows := bits_lt w 45 4
  have colb := bits_lt w 39 6
  rw [tcfg_reg s t reg]
  refine ⟨?_, ?_, ?_⟩
  · rw [get_setEmpty _ _ _ (bits w 53 4) (by simp), setShape, get_put_ne _ _ (by simp), get_put_ne _ _ (by simp)]
    exact get_put_fits _ (bits_lt w 49 4)
  · rw [get_setEmpty _ _ _ (bits w 53 4) (by simp), setShape, get_put_ne _ _ (by simp)]
    exact get_put_fits (f := Reg.TSHAPE_ROWS t (bits w 53 4)) _ (show bits w 45 4 + 1 < 2 ^ 5 by omega)
  · rw [get_setEmpty _ _ _ (bits w 53 4) (by simp), setShape]
    exact get_put_fits (f := Reg.TSHAPE_COLB t (bits w 53 4)) _ (show bits w 39 6 + 1 < 2 ^ 7 by omega)

/-- Every other operand stays. -/
theorem tcfg_others (file : (tcfgOpnd w).InFile) {q : Opnd} (hq : q.InFile) (ne : q ≠ tcfgOpnd w) : OpndKept t q s (s.tcfg t w) := by
  have zeroed := (OpndKept.refl t q s).zeroRows file hq ne
  obtain ⟨acc, j⟩ := q
  cases h : bit w 57 with
  | true =>
    rw [tcfg_acc s t h]
    refine (zeroed.put _ ?_).setEmpty _ file hq ne
    cases acc with
    | true => simp [Opnd.fields]
    | false =>
      have low : j < 8 := hq
      simp only [Opnd.fields, Bool.false_eq_true, if_false, List.forall_mem_cons, key_tshapeEmpty, key_tshapeRows, key_tshapeColb, key_taccAtype]
      exact ⟨by omega, by omega, by omega, fun _ none => absurd none List.not_mem_nil⟩
  | false =>
    have below : bits w 53 4 < 8 := by
      have := file
      rwa [Opnd.InFile, tcfgOpnd, h] at this
    rw [tcfg_reg s t h]
    have apart {f : Fld} (own : ∃ b < 32, f.key = t * 0x200000 + (bits w 53 4 * 128 + (0x1008040 * 32 + b))) :
        ∀ g ∈ Opnd.fields t ⟨acc, j⟩, g.key ≠ f.key := by
      obtain ⟨b, inside, key⟩ := own
      cases acc with
      | true =>
        simp only [Opnd.fields, if_true, List.forall_mem_cons, key, key_taccEmpty]
        exact ⟨by omega, fun _ none => absurd none List.not_mem_nil⟩
      | false =>
        have : j ≠ bits w 53 4 := fun same => ne (by rw [same, tcfgOpnd, h])
        simp only [Opnd.fields, Bool.false_eq_true, if_false, List.forall_mem_cons, key, key_tshapeEmpty, key_tshapeRows, key_tshapeColb]
        exact ⟨by omega, by omega, by omega, fun _ none => absurd none List.not_mem_nil⟩
    exact (((zeroed.put _ (apart ⟨24, by omega, key_tshapeType _ _⟩)).put _ (apart ⟨16, by omega, key_tshapeRows _ _⟩)).put _
      (apart ⟨0, by omega, key_tshapeColb _ _⟩)).setEmpty _ file hq ne

end

end State

/-! ### TREL (R311) -/

namespace State

section
variable (s : State) (t : Nat) {o q : Opnd}

theorem oEmpty_of_get {u : State} (acc : u.get (Reg.TACC_EMPTY t) = s.get (Reg.TACC_EMPTY t))
    (reg : u.get (Reg.TSHAPE_EMPTY t q.k) = s.get (Reg.TSHAPE_EMPTY t q.k)) : u.oEmpty t q = s.oEmpty t q := by
  rw [oEmpty, oEmpty, flag, flag, acc, reg]

/-- An operand emptied: its rows zeroed and EMPTY set. -/
def emptied (o : Opnd) : State := (s.zeroRows t o).setEmpty t o true

theorem release_acc (k : Nat) : s.release t ⟨true, k⟩ = (s.emptied t ⟨true, k⟩).setAtype t k 0 := by
  simp only [release, emptied, if_true]

theorem release_reg (k : Nat) : s.release t ⟨false, k⟩ = s.emptied t ⟨false, k⟩ := by
  simp only [release, emptied, Bool.false_eq_true, if_false]

theorem release_frame (o : Opnd) : ShapeFrame t s (s.release t o) := by
  obtain ⟨acc, k⟩ := o
  have emptied (o : Opnd) : ShapeFrame t s (s.emptied t o) := ((ShapeFrame.refl t s).zeroRows o).setEmpty o true
  cases acc with
  | true => rw [release_acc]; exact (emptied _).setAtype _ _
  | false => rw [release_reg]; exact emptied _

theorem oEmpty_emptied (ho : o.InFile) (hq : q.InFile) : (s.emptied t o).oEmpty t q = (decide (q = o) || s.oEmpty t q) := by
  rw [emptied]
  by_cases same : q = o
  · rw [same, oEmpty_setEmpty_same _ _ _ ho, decide_eq_true rfl, Bool.true_or]
  · rw [oEmpty_setEmpty_ne _ _ _ ho hq same, oEmpty_of_get s t (s.get_zeroRows t o _) (s.get_zeroRows t o _), decide_eq_false same, Bool.false_or]

theorem oEmpty_release (ho : o.InFile) (hq : q.InFile) : (s.release t o).oEmpty t q = (decide (q = o) || s.oEmpty t q) := by
  obtain ⟨acc, k⟩ := o
  cases acc with
  | true =>
    rw [release_acc, ← oEmpty_emptied s t ho hq]
    exact oEmpty_of_get _ _ (get_put_ne _ _ (by simp)) (get_put_ne _ _ (by simp only [key_tshapeEmpty, key_taccAtype]; omega))
  | false => rw [release_reg, oEmpty_emptied s t ho hq]

theorem get_emptied {f : Fld} (k : Nat) (other : f ∈ [Reg.TSHAPE_TYPE t k, Reg.TSHAPE_ROWS t k, Reg.TSHAPE_COLB t k, Reg.TACC_ATYPE t]) :
    (s.emptied t o).get f = s.get f := by
  rw [emptied, get_setEmpty _ _ _ k other, get_zeroRows]

theorem aType_release (ho : o.InFile) {j : Nat} (low : j < 4) : (s.release t o).aType t j = if o = ⟨true, j⟩ then 0 else s.aType t j := by
  have kept (o : Opnd) : (s.emptied t o).aType t j = s.aType t j := by
    rw [aType, get_emptied _ _ 0 (by simp), aType]
  obtain ⟨acc, k⟩ := o
  cases acc with
  | false => rw [release_reg, kept, if_neg (by simp)]
  | true =>
    rw [release_acc]
    by_cases same : k = j
    · rw [same, if_pos rfl, aType_setAtype _ _ _ low]
    · rw [if_neg (by simpa using same), aType_setAtype_ne _ _ _ low (Ne.symm same), kept]

/-- A tile register keeps its type and shape. -/
theorem get_release_shape (o : Opnd) {k : Nat} (reg : k < 8) {f : Fld}
    (shape : f ∈ [Reg.TSHAPE_TYPE t k, Reg.TSHAPE_ROWS t k, Reg.TSHAPE_COLB t k]) : (s.release t o).get f = s.get f := by
  have kept (o : Opnd) : (s.emptied t o).get f = s.get f := get_emptied s t k (List.mem_append_left [Reg.TACC_ATYPE t] shape)
  obtain ⟨acc, n⟩ := o
  cases acc with
  | false => rw [release_reg, kept]
  | true =>
    have apart : f.key ≠ (Reg.TACC_ATYPE t).key := by
      simp only [List.mem_cons, List.not_mem_nil, or_false] at shape
      rcases shape with rfl | rfl | rfl
      · rw [key_tshapeType, key_taccAtype]; omega
      · rw [key_tshapeRows, key_taccAtype]; omega
      · rw [key_tshapeColb, key_taccAtype]; omega
    rw [release_acc, setAtype, get_put_ne _ _ apart, kept]

end

/-! ### Several released -/

/-- The registers and accumulators named released in turn. -/
def releaseAll (s : State) (t : Nat) (l : List Opnd) : State := l.foldl (fun s o => s.release t o) s

section
variable (s : State) (t : Nat) (l : List Opnd)

theorem releaseAll_frame : ShapeFrame t s (s.releaseAll t l) :=
  List.foldlRecOn (motive := ShapeFrame t s) _ _ (ShapeFrame.refl t s) fun u hu o _ => hu.trans (u.release_frame t o)

theorem oEmpty_releaseAll (file : ∀ o ∈ l, o.InFile) {q : Opnd} (hq : q.InFile) :
    (s.releaseAll t l).oEmpty t q = (decide (q ∈ l) || s.oEmpty t q) := by
  induction l generalizing s with
  | nil => simp [releaseAll]
  | cons o l ih =>
    obtain ⟨own, rest⟩ := List.forall_mem_cons.1 file
    have first : (s.releaseAll t (o :: l)) = (s.release t o).releaseAll t l := rfl
    rw [first, ih _ rest, oEmpty_release s t own hq, ← Bool.or_assoc, Bool.or_comm (decide _) (decide _), ← Bool.decide_or]
    simp only [List.mem_cons]

theorem aType_releaseAll (file : ∀ o ∈ l, o.InFile) {j : Nat} (low : j < 4) :
    (s.releaseAll t l).aType t j = if ⟨true, j⟩ ∈ l then 0 else s.aType t j := by
  induction l generalizing s with
  | nil => simp [releaseAll]
  | cons o l ih =>
    obtain ⟨own, rest⟩ := List.forall_mem_cons.1 file
    have first : (s.releaseAll t (o :: l)) = (s.release t o).releaseAll t l := rfl
    rw [first, ih _ rest, aType_release s t own low]
    by_cases later : (⟨true, j⟩ : Opnd) ∈ l
    · rw [if_pos later, if_pos (List.mem_cons_of_mem _ later)]
    · rw [if_neg later]
      exact if_congr (by simp [later, eq_comm]) rfl rfl

theorem get_releaseAll_shape {k : Nat} (reg : k < 8) {f : Fld} (shape : f ∈ [Reg.TSHAPE_TYPE t k, Reg.TSHAPE_ROWS t k, Reg.TSHAPE_COLB t k]) :
    (s.releaseAll t l).get f = s.get f :=
  List.foldlRecOn (motive := fun u : State => u.get f = s.get f) _ _ rfl fun u hu o _ => (u.get_release_shape t o reg shape).trans hu

theorem shape_releaseAll {k : Nat} (reg : k < 8) : (s.releaseAll t l).oType t ⟨false, k⟩ = s.oType t ⟨false, k⟩ ∧
    (s.releaseAll t l).oRows t ⟨false, k⟩ = s.oRows t ⟨false, k⟩ ∧ (s.releaseAll t l).oColb t ⟨false, k⟩ = s.oColb t ⟨false, k⟩ :=
  ⟨s.get_releaseAll_shape t l reg (by simp), s.get_releaseAll_shape t l reg (by simp), s.get_releaseAll_shape t l reg (by simp)⟩

end

end State

/-! ### The registers of a MASK -/

section
variable (m : Nat)

theorem inFile_of_mem_maskOpnds : ∀ o ∈ maskOpnds m, o.InFile := by
  intro o named
  obtain ⟨b, among, rfl⟩ := List.mem_map.1 named
  have low : b < 12 := List.mem_range.1 (List.mem_of_mem_filter among)
  split
  · next reg => exact reg
  · exact show b - 8 < 4 by omega

theorem reg_mem_maskOpnds {k : Nat} (low : k < 8) : ⟨false, k⟩ ∈ maskOpnds m ↔ bit m k = true := by
  constructor
  · intro named
    obtain ⟨b, among, same⟩ := List.mem_map.1 named
    have set := (List.mem_filter.1 among).2
    split at same
    · obtain ⟨-, rfl⟩ := Opnd.mk.injEq .. ▸ same
      exact set
    · simp at same
  · exact fun set => List.mem_map.2 ⟨k, List.mem_filter.2 ⟨List.mem_range.2 (by omega), set⟩, if_pos low⟩

theorem acc_mem_maskOpnds {k : Nat} (low : k < 4) : ⟨true, k⟩ ∈ maskOpnds m ↔ bit m (8 + k) = true := by
  constructor
  · intro named
    obtain ⟨b, among, same⟩ := List.mem_map.1 named
    have set := (List.mem_filter.1 among).2
    split at same
    · simp at same
    · have place : b = 8 + k := by
        have := congrArg Opnd.k same
        dsimp only at this
        omega
      rwa [← place]
  · intro set
    refine List.mem_map.2 ⟨8 + k, List.mem_filter.2 ⟨List.mem_range.2 (by omega), set⟩, ?_⟩
    rw [if_neg (by omega), Nat.add_sub_cancel_left]

end

end Sys2Proof.Machine

/-! SUPPORT. The functions of scalar instructions, the word that SST stores, and operations issued to a sync object of this device (R312,
R313, R314, R381). -/

namespace Sys2Proof.Machine
set_option Elab.async false

/-! ### Functions and conditions (R312, R313) -/

/-- The functions of SALU and SALUI on `a` and `b`, by FN (R312). -/
def saluFns (a b : Nat) : List (Nat × Nat) :=
  [(0, a + b), (1, a + 2 ^ 32 - b), (2, a * b), (3, a &&& b), (4, a ||| b), (5, a ^^^ b),
    (6, a * 2 ^ (b % 32)), (7, a / 2 ^ (b % 32)), (8, unsgn 32 (sgn 32 a / 2 ^ (b % 32))), (9, if sgn 32 a < sgn 32 b then 1 else 0),
    (10, if a < b then 1 else 0), (11, unsgn 32 (min (sgn 32 a) (sgn 32 b))), (12, unsgn 32 (max (sgn 32 a) (sgn 32 b)))]

/-- Each is what `salu` computes, cut to 32 bits. -/
theorem salu_of_mem_saluFns {a b fn v : Nat} (row : (fn, v) ∈ saluFns a b) : salu fn a b % 2 ^ 32 = v % 2 ^ 32 := by
  have all : ∀ p ∈ saluFns a b, salu p.1 a b % 2 ^ 32 = p.2 % 2 ^ 32 := by simp [saluFns, salu, b2n]
  exact all (fn, v) row

/-- When a BR with condition `c` is taken (R313). -/
def BrTaken (c a b : Nat) : Prop :=
  c = 0 ∧ a = b ∨ c = 1 ∧ a ≠ b ∨ c = 2 ∧ sgn 32 a < sgn 32 b ∨ c = 3 ∧ sgn 32 b ≤ sgn 32 a ∨ c = 4 ∧ a < b ∨ c = 5 ∧ b ≤ a

theorem brHolds_iff {c : Nat} (a b : Nat) (known : c < 6) : brHolds c a b = true ↔ BrTaken c a b := by
  interval_cases c <;> simp [brHolds, BrTaken]

/-- A legal BR has one of the six conditions (Table TISA-1). -/
theorem cond_lt_of_legal {w : Nat} (legal : tileIllegal w = none) (op : bits w 58 6 = 0x18) : bits w 55 3 < 6 := by
  obtain ⟨known, -, -⟩ := checks_of_legal legal
  simpa [op, reservedValue] using known

/-! ### The word that SST stores (R281, R312) -/

/-- The four bytes of a scalar, least significant first. -/
def scalarBytes (v : Nat) : List Byte := (List.range 4).map (fun k => BitVec.ofNat 8 (v / 256 ^ k))

theorem setBitsOf_half {o : Nat} (half : o = 0 ∨ o = 4) : setBitsOf 8 (0xF * 2 ^ o) = [o, o + 1, o + 2, o + 3] := by
  rcases half with rfl | rfl <;> rfl

namespace State

/-- A scalar written to one half of a store word. -/
def storeHalf (s : State) (t a v : Nat) : State := s.storeWord 1 t (a - a % 8) (v * 2 ^ (8 * (a % 8))) (0xF * 2 ^ (a % 8))

section
variable (s : State) (t v : Nat) {a : Nat} (aligned : a % 4 = 0)

theorem storeHalf_frame : WriteFrame s (s.storeHalf t a v) := s.storeWord_frame _ _ _ _ _

include aligned

/-- Without an uncorrectable error its bytes are written, else the word is lost. -/
theorem storeHalf_eq : s.storeHalf t a v =
    if tget 0 s.ecc (storeAddr t a / 8 * 8) ≤ 1 then
      (if tget 0 s.ecc (storeAddr t a / 8 * 8) = 1 then s.correct (storeAddr t a / 8 * 8) else s).setBytes (storeAddr t a) (scalarBytes v)
    else s.writeMem 1 (storeAddr t a) (zeros 1) := by
  have half : a % 8 = 0 ∨ a % 8 = 4 := by omega
  have word : storeAddr t (a - a % 8) = storeAddr t a / 8 * 8 := by unfold storeAddr; omega
  have place (i : Nat) : storeAddr t (a - a % 8 + (a % 8 + i)) = storeAddr t a + i := by unfold storeAddr; omega
  have byte (i : Nat) : v * 2 ^ (8 * (a % 8)) / 256 ^ (a % 8 + i) = v / 256 ^ i := by
    rw [show 256 ^ (a % 8 + i) = 256 ^ i * 2 ^ (8 * (a % 8)) by rw [pow_add, pow_mul, mul_comm]; norm_num,
      Nat.mul_div_mul_right _ _ (Nat.two_pow_pos _)]
  have some_ : 0xF * 2 ^ (a % 8) % 256 ≠ 0 := by rcases half with h | h <;> rw [h] <;> decide
  have part : 0xF * 2 ^ (a % 8) % 256 ≠ 255 := by rcases half with h | h <;> rw [h] <;> decide
  rw [storeHalf, storeWord, if_neg some_, if_neg part, setBitsOf_half half, word]
  refine if_congr Iff.rfl ?_ ?_
  · have at0 := place 0
    have byte0 := byte 0
    simp only [Nat.add_zero] at at0 byte0
    simp only [List.foldl_cons, List.foldl_nil, place, byte, at0, byte0]
    rfl
  · exact congrArg (s.writeMem 1 · (zeros 1)) (place 0)

/-- No byte but the word's four changes. -/
theorem storeHalf_outside {x : Nat} (out : x < storeAddr t a ∨ storeAddr t a + 4 ≤ x) : (s.storeHalf t a v).byteAt x = s.byteAt x := by
  have length : (scalarBytes v).length = 4 := rfl
  rw [storeHalf_eq s t v aligned]
  split
  · rw [byteAt_setBytes, length, if_neg (by omega)]
    split
    · exact (s.correct_frame _).sameMemory x
    · rfl
  · exact s.writeMem_outside 1 (by simp only [zeros, List.length_replicate]; omega)

theorem storeHalf_clean (clean : tget 0 s.ecc (storeAddr t a / 8 * 8) = 0) :
    s.storeHalf t a v = s.setBytes (storeAddr t a) (scalarBytes v) := by
  rw [storeHalf_eq s t v aligned, clean]
  rfl

end

theorem byteAt_setBytes_scalar (s : State) (a v : Nat) {k : Nat} (low : k < 4) :
    (s.setBytes a (scalarBytes v)).byteAt (a + k) = BitVec.ofNat 8 (v / 256 ^ k) := by
  have length : (scalarBytes v).length = 4 := rfl
  rw [byteAt_setBytes, length, if_pos (by omega), Nat.add_sub_cancel_left]
  simp [scalarBytes, low]

/-! ### Operations issued (R314, R315) -/

/-- Fields of tiles are not the device's number in its ensemble. -/
theorem ensId_of_regsBut {fs : List Fld} {s u : State} (regs : RegsBut fs s u) (tiles : ∀ g ∈ fs, 0x1000000 * 32 ≤ g.key) : u.ensId = s.ensId :=
  get_of_regsBut regs fun g hg same => by
    have low : Reg.ENS_STAT_ID.key < 0x1000000 * 32 := by decide
    have := tiles g hg
    omega

/-- The fields that tell where a tile stands are the tile's. -/
theorem tileAt_high (t : Nat) : ∀ g ∈ tileAt t, 0x1000000 * 32 ≤ g.key := by
  simp only [tileAt, List.forall_mem_cons, key_tstatPc, key_tstartRow, key_tcycCycles]
  exact ⟨by omega, by omega, by omega, fun _ none => absurd none List.not_mem_nil⟩

/-- An operation on an object of this device joins the list of those in flight and goes to the tile network. -/
theorem issueSync_local (s : State) (who : SyncWho) {obj : Nat} (wait : Bool) (fn v : Nat) (own : objDev obj = s.ensId) : ∃ m,
    s.issueSync who obj wait fn v none = ({ s with
      sync := { s.sync with ops := s.sync.ops ++ [{ key := s.sync.next, who := who, obj := obj, wait := wait, fn := fn, v := v, opid := 2 ^ 32,
                                                    epoch := 0, phase := .flight, withdrawn := false }],
                            next := s.sync.next + 1 }, mesh := m }, s.sync.next) := by
  unfold issueSync
  dsimp only
  rw [if_pos own]
  obtain ⟨m, sent⟩ := netSend_mesh { s with
    sync := { s.sync with ops := s.sync.ops ++ [{ key := s.sync.next, who := who, obj := obj, wait := wait, fn := fn, v := v, opid := 2 ^ 32,
                                                  epoch := 0, phase := .flight, withdrawn := false }],
                          next := s.sync.next + 1 } } who.place plinthPlace clsSyn 16
  exact ⟨m, by rw [sent]⟩

/-- The operation on an object of this device that a SWAIT or SSIG issues: a wait, or the function that FN names. -/
def syncIssued (s : State) (t w : Nat) (wait : Bool) (fn : Nat) : SyncOp :=
  { key := s.sync.next, who := .tile t (s.get (Reg.TSTAT_PC t)), obj := s.sreg t (bits w 48 5), wait := wait, fn := fn, v := s.svValue t w,
    opid := 2 ^ 32, epoch := 0, phase := .flight, withdrawn := false }

/-- A tile that stalls shows it, and knows the operation that it waits for. -/
theorem tileStalls_shows {s u : State} {t : Nat} (e : Nat × Bool) (regs : u.regs = (s.put (Reg.TSTART_ROW t) 0).regs) :
    (u.tileStalls t e).flag (Reg.TSTAT_STALL t) = true ∧ ((u.tileStalls t e).tx t).stall = some e ∧
      RegsBut [Reg.TSTART_ROW t, Reg.TSTAT_STALL t] s (u.tileStalls t e) := by
  refine ⟨?_, ?_, ?_⟩
  · rw [flag, tileStalls, get_put_same]
    rfl
  · rw [tileStalls, tx_put, tx_setTx_same]
  · have cleared : RegsBut [Reg.TSTART_ROW t, Reg.TSTAT_STALL t] s (s.put (Reg.TSTART_ROW t) 0) := regsBut_put (regsBut_refl _ s) _ (by simp)
    refine regsBut_put (fun k hk => ?_) _ (by simp)
    exact (congrArg (tfind · k) regs).trans (cleared k hk)

end State

end Sys2Proof.Machine

/-! O41 (R301, R311–R316, Tables TISA-1, TISA-5): a tile's scalar, predicate, branch, configuration and waiting instructions. -/

namespace Sys2Proof.Machine
set_option Elab.async false

section
variable {t w : Nat} {s : State}

theorem legal_of_tileReady (ready : TileReady t s w) : tileIllegal w = none := by
  obtain ⟨-, -, legal, -⟩ := ready
  exact legal

theorem unstepped_of_tileReady (ready : TileReady t s w) : (s.tx t).step = false := by
  obtain ⟨-, -, -, unstepped⟩ := ready
  exact unstepped

theorem tileRuns_of_tileReady (ready : TileReady t s w) : s.tileRuns t = true := by
  obtain ⟨issues, -, -, -⟩ := ready
  simp only [State.tileIssues, Bool.and_eq_true] at issues
  obtain ⟨⟨⟨-, runs⟩, -⟩, -⟩ := issues
  exact runs

end

/-- A halt leaves where the instruction before it has brought its tile. -/
theorem tileDone_tileHalted {t pc n : Nat} {s u : State} (done : TileDone t s u pc n) (cause : Nat) : TileDone t s (u.tileHalted t cause) pc n := by
  obtain ⟨at_, row, cycles⟩ := done
  have kept : ∀ f ∈ tileAt t, (u.tileHalted t cause).get f = u.get f := fun f hf =>
    u.get_tileHalted t cause (State.tileAt_high t f hf) fun g hg => by
      revert f g
      simp [tileAt, State.haltOwn, State.tileEvents]
  simp only [tileAt, List.forall_mem_cons] at kept
  obtain ⟨pc', row', cycles', -⟩ := kept
  exact ⟨pc'.trans at_, row'.trans row, cycles'.trans cycles⟩

/-! ### Scalars, predicates, branches at PC -/

section
variable {t : Fin 192} {s : State} {w : Nat} (ready : TileReady t s w)
include ready

theorem exec_salu_ready (op : bits w 58 6 = 0x10) {v : Nat}
    (fn : (bits w 39 4, v) ∈ saluFns (s.sreg t (bits w 48 5)) (s.sreg t (bits w 43 5))) :
    TileSet t (.salu t) s (s.get (Reg.TSTAT_PC t)) (fun u => u.sreg t (bits w 53 5)) (if bits w 53 5 = 0 then 0 else v % 2 ^ 32)
      (0x9000 + 4 * bits w 53 5) (0x9004 + 4 * bits w 53 5) := by
  rw [← salu_of_mem_saluFns fn]
  refine tileSet_of_setSreg (unstepped_of_tileReady ready) ?_
  change execSalu t s = _
  rw [execSalu, State.tileRun_ready ready op]

theorem exec_salui_ready (op : bits w 58 6 = 0x11) {v : Nat} (fn : (bits w 39 4, v) ∈ saluFns (s.sreg t (bits w 48 5)) (bits w 0 32)) :
    TileSet t (.salui t) s (s.get (Reg.TSTAT_PC t)) (fun u => u.sreg t (bits w 53 5)) (if bits w 53 5 = 0 then 0 else v % 2 ^ 32)
      (0x9000 + 4 * bits w 53 5) (0x9004 + 4 * bits w 53 5) := by
  rw [← salu_of_mem_saluFns fn]
  refine tileSet_of_setSreg (unstepped_of_tileReady ready) ?_
  change execSalui t s = _
  rw [execSalui, State.tileRun_ready ready op]

theorem exec_pset_ready (op : bits w 58 6 = 0x14) :
    let v := if bit w 54 then s.sreg t (bits w 48 5) + s.sreg t (bits w 43 5) * 2 ^ 32 else 2 ^ min (s.sreg t (bits w 48 5)) 64 - 1
    TileSet t (.pset t) s (s.get (Reg.TSTAT_PC t)) (fun u => u.preg t (bits w 55 3)) (if bits w 55 3 = 0 then 2 ^ 64 - 1 else v % 2 ^ 64)
      (0x9500 + 8 * bits w 55 3) (0x9508 + 8 * bits w 55 3) := by
  refine tileSet_of_setPreg (unstepped_of_tileReady ready) ?_
  change execPset t s = _
  rw [execPset, State.tileRun_ready ready op]

theorem exec_br_ready (op : bits w 58 6 = 0x18) :
    let taken := BrTaken (bits w 55 3) (s.sreg t (bits w 48 5)) (s.sreg t (bits w 43 5))
    (taken → TileWent t (.br t) s (bits w 0 12) 2) ∧ (¬ taken → TileWent t (.br t) s (s.get (Reg.TSTAT_PC t) + 1) 1) := by
  intro taken
  have holds := brHolds_iff (s.sreg t (bits w 48 5)) (s.sreg t (bits w 43 5)) (cond_lt_of_legal (legal_of_tileReady ready) op)
  have run : exec (.br t) s = .next (if brHolds (bits w 55 3) (s.sreg t (bits w 48 5)) (s.sreg t (bits w 43 5)) then s.tileGoto t (bits w 0 12) 2
      else s.tileGoto t (s.get (Reg.TSTAT_PC t) + 1) 1) := by
    change execBr t s = _
    rw [execBr, State.tileRun_ready ready op]
  refine ⟨fun yes => tileWent_of_goto (unstepped_of_tileReady ready) ?_, fun no => tileWent_of_goto (unstepped_of_tileReady ready) ?_⟩
  · rw [run, if_pos (holds.2 yes)]
  · rw [run, if_neg (mt holds.1 no)]

theorem exec_tileJmp_ready (op : bits w 58 6 = 0x19) : TileWent t (.tileJmp t) s (bits w 0 12) 2 := by
  refine tileWent_of_goto (unstepped_of_tileReady ready) ?_
  change execTileJmp t s = _
  rw [execTileJmp, State.tileRun_ready ready op]

theorem exec_tileNop_ready (op : bits w 58 6 = 0) : TileWent t (.tileNop t) s (s.get (Reg.TSTAT_PC t) + 1) 1 := by
  refine tileWent_of_goto (unstepped_of_tileReady ready) ?_
  change execTileNop t s = _
  rw [execTileNop, State.tileRun_ready ready op]

theorem exec_tileStop_ready (op : bits w 58 6 = 0x1A) :
    ∃ u, exec (.tileStop t) s = .next u ∧ TileDone t s u (s.get (Reg.TSTAT_PC t) + 1) 1 ∧ u.flag (Reg.TSTAT_RUN t) = false ∧
      u.get (Reg.TSTAT_CAUSE t) = 1 ∧ u.win = s.win ∧ u.mem = s.mem ∧ u.tu.rows = s.tu.rows := by
  have run : exec (.tileStop t) s = .next ((s.tileGoto t (s.get (Reg.TSTAT_PC t) + 1) 1).tileHalted t 1) := by
    change execTileStop t s = _
    rw [execTileStop, State.tileRun_ready ready op, State.tileGoto_eq (unstepped_of_tileReady ready)]
  have only := State.tileGoto_regsOnly (unstepped_of_tileReady ready) (s.get (Reg.TSTAT_PC t) + 1) 1
  have place := State.tileGoto_regs (unstepped_of_tileReady ready) (s.get (Reg.TSTAT_PC t) + 1) 1
  have done := State.tileGoto_done_of_get (s := s) (unstepped_of_tileReady ready) rfl (s.get (Reg.TSTAT_PC t) + 1) 1
  generalize s.tileGoto t (s.get (Reg.TSTAT_PC t) + 1) 1 = v at *
  have runs : v.tileRuns t = true := by
    rw [State.tileRuns, State.flag, get_of_regsBut place (by simp [tileAt])]
    exact tileRuns_of_tileReady ready
  refine ⟨_, run, tileDone_tileHalted done 1, State.tileRuns_tileHalted _ _ _, State.get_tileHalted_cause runs 1, ?_, ?_, ?_⟩
  · rw [State.tileHalted_win, only]
  · rw [State.tileHalted_mem, only]
  · rw [State.tileHalted_rows, only]

/-! ### SLD and SST at PC (R312) -/

theorem exec_scalarBeyond_ready {c : Instr} (named : (c, bits w 58 6) ∈ [(Instr.sld t, 0x12), (.sst t, 0x13)])
    (beyond : 0x40000 ≤ s.scalarAddr t w) :
    exec c s = .next ((s.put (Reg.TSTART_ROW t) 0).tileFault t 3 (s.get (Reg.TSTAT_PC t)) 0) := by
  simp only [List.mem_cons, List.not_mem_nil, or_false, Prod.mk.injEq] at named
  rcases named with ⟨rfl, op⟩ | ⟨rfl, op⟩
  · change execSld t s = _
    rw [execSld, State.tileRun_ready ready op]
    dsimp only
    rw [if_pos beyond]
  · change execSst t s = _
    rw [execSst, State.tileRun_ready ready op]
    dsimp only
    rw [if_pos beyond]

theorem exec_sld_ready (op : bits w 58 6 = 0x12) (inside : s.scalarAddr t w < 0x40000) :
    let r := s.readMem 1 (storeAddr t (s.scalarAddr t w)) 4
    (r.2.2 = false → let v := r.1.setSreg t (bits w 53 5) (leNat r.2.1)
      exec (.sld t) s = .next ((v.draw.tileCycles t (v.drawn 32 % 15)).tileGoto t (s.get (Reg.TSTAT_PC t) + 1) 4)) ∧
    (r.2.2 = true → exec (.sld t) s = .next ((r.1.put (Reg.TSTART_ROW t) 0).tileFault t 4 (s.get (Reg.TSTAT_PC t)) 0)) := by
  intro r
  have run : exec (.sld t) s = .next (if r.2.2 then (r.1.put (Reg.TSTART_ROW t) 0).tileFault t 4 (s.get (Reg.TSTAT_PC t)) 0
      else ((r.1.setSreg t (bits w 53 5) (leNat r.2.1)).refused t 1).tileGoto t (s.get (Reg.TSTAT_PC t) + 1) 4) := by
    change execSld t s = _
    rw [execSld, State.tileRun_ready ready op]
    dsimp only
    rw [if_neg (Nat.not_le.2 inside)]
  refine ⟨fun sound => ?_, fun poisoned => ?_⟩
  · rw [run, if_neg (by simp [sound])]
    rfl
  · rw [run, if_pos poisoned]

theorem exec_sst_ready (op : bits w 58 6 = 0x13) (inside : s.scalarAddr t w < 0x40000) : exec (.sst t) s =
    .next (((s.storeHalf t (s.scalarAddr t w) (s.sreg t (bits w 53 5))).refused t 1).tileGoto t (s.get (Reg.TSTAT_PC t) + 1) 4) := by
  change execSst t s = _
  rw [execSst, State.tileRun_ready ready op]
  dsimp only
  rw [if_neg (Nat.not_le.2 inside)]
  rfl

/-- SST changes the four bytes of its word alone, and holds the scalar there unless the word has an error. -/
theorem exec_sst_shows (op : bits w 58 6 = 0x13) (inside : s.scalarAddr t w < 0x40000) :
    let pc := s.get (Reg.TSTAT_PC t)
    let a := storeAddr t (s.scalarAddr t w)
    ∃ u, exec (.sst t) s = .next u ∧ u.get (Reg.TSTAT_PC t) = (pc + 1) % 4096 ∧ u.win = s.win ∧
      (∀ x, (x < a ∨ a + 4 ≤ x) → u.byteAt x = s.byteAt x) ∧
      (tget 0 s.ecc (a / 8 * 8) = 0 → (∀ k < 4, u.byteAt (a + k) = BitVec.ofNat 8 (s.sreg t (bits w 53 5) / 256 ^ k)) ∧
        (∃ d ≤ 14, TileDone t s u (pc + 1) (4 + d)) ∧ u = { s with regs := u.regs, mem := u.mem, draws := u.draws } ∧
        RegsBut (tileAt t) s u) := by
  intro pc a
  have aligned : s.scalarAddr t w % 4 = 0 := Nat.mul_mod_left _ _
  have frame := s.storeHalf_frame t (s.sreg t (bits w 53 5)) (a := s.scalarAddr t w)
  have outside {x : Nat} := s.storeHalf_outside t (s.sreg t (bits w 53 5)) aligned (x := x)
  have clean := s.storeHalf_clean t (s.sreg t (bits w 53 5)) aligned
  have run := exec_sst_ready ready op inside
  generalize s.storeHalf t (s.scalarAddr t w) (s.sreg t (bits w 53 5)) = m at *
  have unstepped : ((m.refused t 1).tx t).step = false := by
    have still := unstepped_of_tileReady ready
    obtain ⟨_, _, _, _, _, _, shape⟩ := frame
    rw [shape]
    exact still
  have only := State.tileGoto_regsOnly unstepped (pc + 1) 4
  obtain ⟨place, -, -⟩ := State.tileGoto_done_of_get (s := m.refused t 1) unstepped rfl (pc + 1) 4
  have bytes (x : Nat) : ((m.refused t 1).tileGoto t (pc + 1) 4).byteAt x = m.byteAt x := by
    rw [only]
    rfl
  refine ⟨_, run, place, ?_, fun x out => (bytes x).trans (outside out), fun sound => ?_⟩
  · obtain ⟨_, _, _, _, _, _, shape⟩ := frame
    rw [only, shape]
    rfl
  · have written := clean sound
    have spent : (m.refused t 1).get (Reg.TCYC_CYCLES t) % 2 ^ 64 = (s.get (Reg.TCYC_CYCLES t) + m.drawn 32 % 15) % 2 ^ 64 := by
      rw [State.refused, State.tileCycles, State.get_put_same, written]
      exact Nat.mod_mod _ _
    refine ⟨fun k low => ?_, ⟨m.drawn 32 % 15, by omega, State.tileGoto_done unstepped spent _ _⟩, ?_, ?_⟩
    · rw [bytes, written, State.byteAt_setBytes_scalar _ _ _ low]
    · rw [only, written]
      rfl
    · have counted : RegsBut (tileAt t) s (m.refused t 1) := by
        rw [written]
        exact regsBut_put (regsBut_refl _ s) _ (by simp [tileAt])
      exact regsBut_trans counted (State.tileGoto_regs unstepped _ _)

/-! ### TCFG and TREL at PC (R301, R311) -/

theorem exec_tcfg_ready (op : bits w 58 6 = 1) :
    let k := bits w 53 4
    let o : Opnd := ⟨bit w 57, k⟩
    ∃ u, exec (.tcfg t) s = .next u ∧ TileDone t s u (s.get (Reg.TSTAT_PC t) + 1) 1 ∧ (∀ r < 16, u.oRow t o r = 0) ∧ u.oEmpty t o = (!bit w 57) ∧
      (bit w 57 = true → u.oType t o = bits w 49 4) ∧
      (bit w 57 = false → u.oType t o = bits w 49 4 ∧ u.oRows t o = bits w 45 4 + 1 ∧ u.oColb t o = bits w 39 6 + 1) ∧
      (∀ q r, (q.acc = o.acc → q.k ≠ k) → q.k < (if q.acc then 4 else 8) → r < 16 → u.oRow t q r = s.oRow t q r) ∧
      u = { s with regs := u.regs, tu := u.tu } := by
  intro k o
  have run : exec (.tcfg t) s = .next ((s.tcfg t w).tileGoto t (s.get (Reg.TSTAT_PC t) + 1) 1) := by
    change execTcfg t s = _
    rw [execTcfg, State.tileRun_ready ready op]
  have file := tcfgOpnd_inFile (legal_of_tileReady ready) op
  obtain ⟨frame, cycles⟩ := s.tcfg_frame t (w := w)
  have unstepped : ((s.tcfg t w).tx t).step = false := by
    rw [(s.tcfg_frame t (w := w)).tx]
    exact unstepped_of_tileReady ready
  have empty := s.oEmpty_tcfg t file
  refine ⟨_, run, State.tileGoto_done_of_get unstepped cycles _ _, fun r low => ?_, ?_, fun acc => ?_, fun reg => ?_,
    fun q r other hq low => ?_, ?_⟩
  · rw [State.oRow_tileGoto unstepped]
    exact State.oRow_of_zero (s.rows_tcfg t low)
  · rw [State.oEmpty_tileGoto unstepped]
    exact empty
  · obtain ⟨known, small⟩ := tyOfA_aOfTy_of_tcfg (legal_of_tileReady ready) op acc
    have full : (s.tcfg t w).oEmpty t o = false := empty.trans (by rw [acc]; rfl)
    rw [State.oType_tileGoto unstepped, State.oType, if_pos acc, full, if_neg Bool.false_ne_true, s.aType_tcfg t acc file small]
    exact known
  · obtain ⟨type, rows, colb⟩ := s.shape_tcfg t reg
    have notAcc : ¬ o.acc = true := by simp [o, reg]
    rw [State.oType_tileGoto unstepped, State.oRows_tileGoto unstepped, State.oColb_tileGoto unstepped, State.oType, State.oRows, State.oColb,
      if_neg notAcc, if_neg notAcc, if_neg notAcc]
    exact ⟨type, rows, colb⟩
  · rw [State.oRow_tileGoto unstepped]
    exact (s.tcfg_others t file hq fun same => other (congrArg Opnd.acc same) (congrArg Opnd.k same)).oRow low
  · rw [State.tileGoto_regsOnly unstepped, frame]

theorem exec_trel_ready (op : bits w 58 6 = 9) :
    ∃ u, exec (.trel t) s = .next u ∧ TileDone t s u (s.get (Reg.TSTAT_PC t) + 1) 1 ∧ u = { s with regs := u.regs, tu := u.tu } ∧
      (∀ k < 8, bit (bits w 46 12) k = true → let o : Opnd := ⟨false, k⟩
        u.oEmpty t o = true ∧ u.oType t o = s.oType t o ∧ u.oRows t o = s.oRows t o ∧ u.oColb t o = s.oColb t o ∧ (∀ r, u.oRow t o r = 0)) ∧
      (∀ k < 4, bit (bits w 46 12) (8 + k) = true → u.oEmpty t ⟨true, k⟩ = true ∧ u.aType t k = 0) ∧
      (∀ k < 8, bit (bits w 46 12) k = false → u.oEmpty t ⟨false, k⟩ = s.oEmpty t ⟨false, k⟩) ∧
      (∀ k < 4, bit (bits w 46 12) (8 + k) = false → u.oEmpty t ⟨true, k⟩ = s.oEmpty t ⟨true, k⟩ ∧ u.aType t k = s.aType t k) ∧
      (bits w 46 12 = 0 → u = { s with regs := u.regs } ∧ RegsBut (tileAt t) s u) := by
  let l := maskOpnds (bits w 46 12)
  have run : exec (.trel t) s = .next ((s.releaseAll t l).tileGoto t (s.get (Reg.TSTAT_PC t) + 1) 1) := by
    change execTrel t s = _
    rw [execTrel, State.tileRun_ready ready op]
    rfl
  obtain ⟨frame, cycles⟩ := s.releaseAll_frame t l
  have unstepped : ((s.releaseAll t l).tx t).step = false := by
    rw [(s.releaseAll_frame t l).tx]
    exact unstepped_of_tileReady ready
  have empty (q : Opnd) (hq : q.InFile) := (State.oEmpty_tileGoto unstepped (s.get (Reg.TSTAT_PC t) + 1) 1 q).trans
    (s.oEmpty_releaseAll t l (inFile_of_mem_maskOpnds _) hq)
  have atype {k : Nat} (low : k < 4) := (State.aType_tileGoto unstepped (s.get (Reg.TSTAT_PC t) + 1) 1 k).trans
    (s.aType_releaseAll t l (inFile_of_mem_maskOpnds _) low)
  refine ⟨_, run, State.tileGoto_done_of_get unstepped cycles _ _, ?_, fun k low set => ?_, fun k low set => ⟨?_, ?_⟩, fun k low clear => ?_,
    fun k low clear => ⟨?_, ?_⟩, fun none => ?_⟩
  · rw [State.tileGoto_regsOnly unstepped, frame]
  · intro o
    obtain ⟨type, rows, colb⟩ := s.shape_releaseAll t l low
    have released : ((s.releaseAll t l).tileGoto t (s.get (Reg.TSTAT_PC t) + 1) 1).oEmpty t o = true := by
      rw [empty o low, decide_eq_true ((reg_mem_maskOpnds _ low).2 set), Bool.true_or]
    exact ⟨released, (State.oType_tileGoto unstepped _ _ o).trans type, (State.oRows_tileGoto unstepped _ _ o).trans rows,
      (State.oColb_tileGoto unstepped _ _ o).trans colb, State.oRow_of_empty released⟩
  · rw [empty ⟨true, k⟩ low, decide_eq_true ((acc_mem_maskOpnds _ low).2 set), Bool.true_or]
  · rw [atype low, if_pos ((acc_mem_maskOpnds _ low).2 set)]
  · rw [empty ⟨false, k⟩ low, decide_eq_false (mt (reg_mem_maskOpnds _ low).1 (by simp [clear])), Bool.false_or]
  · rw [empty ⟨true, k⟩ low, decide_eq_false (mt (acc_mem_maskOpnds _ low).1 (by simp [clear])), Bool.false_or]
  · rw [atype low, if_neg (mt (acc_mem_maskOpnds _ low).1 (by simp [clear]))]
  · have same : s.releaseAll t l = s := by
      have nobody : l = [] := by rw [show l = maskOpnds 0 from congrArg maskOpnds none]; rfl
      rw [nobody]
      rfl
    rw [same] at unstepped ⊢
    exact ⟨State.tileGoto_regsOnly unstepped _ _, State.tileGoto_regs unstepped _ _⟩

/-! ### SRUN, SWAIT, SSIG, HPOP, HPUSH at PC (R314–R316) -/

theorem exec_srun_ready (op : bits w 58 6 = 0x24) :
    let pc := s.get (Reg.TSTAT_PC t)
    let st := bits w 57 1
    let k := s.steepState t st
    let sd := bits w 43 5
    (bit w 56 = true → exec (.srun t) s = .next ((s.setSreg t sd (if k = 3 then 1 else k)).tileGoto t (pc + 1) 1)) ∧
    (bit w 56 = false → k ≠ 0 → exec (.srun t) s = .next ((s.setSreg t sd 0).tileGoto t (pc + 1) 1)) ∧
    (bit w 56 = false → k = 0 → exec (.srun t) s =
      .next (((s.startStream t st (bits w 0 6) (s.sreg t (bits w 48 5))).setSreg t sd 1).tileGoto t (pc + 1) 1)) := by
  intro pc st k sd
  have run : exec (.srun t) s = .next ((if bit w 56 then s.setSreg t sd (if k = 3 then 1 else k)
      else if k = 0 then (s.startStream t st (bits w 0 6) (s.sreg t (bits w 48 5))).setSreg t sd 1 else s.setSreg t sd 0).tileGoto t (pc + 1) 1) := by
    change execSrun t s = _
    rw [execSrun, State.tileRun_ready ready op]
  refine ⟨fun stat => ?_, fun start busy => ?_, fun start idle => ?_⟩
  · rw [run, if_pos stat]
  · rw [run, if_neg (by simp [start]), if_neg busy]
  · rw [run, if_neg (by simp [start]), if_pos idle]

theorem exec_badObject_ready {c : Instr} (named : (c, bits w 58 6) ∈ [(Instr.tileSwait t, 0x20), (.tileSsig t, 0x21)])
    (bad : 2 ^ 23 ≤ s.sreg t (bits w 48 5)) :
    exec c s = .next ((s.put (Reg.TSTART_ROW t) 0).tileFault t 6 (s.get (Reg.TSTAT_PC t)) 0xFF) := by
  simp only [List.mem_cons, List.not_mem_nil, or_false, Prod.mk.injEq] at named
  rcases named with ⟨rfl, op⟩ | ⟨rfl, op⟩
  · change execTileSwait t s = _
    rw [execTileSwait, State.tileRun_ready ready op]
    dsimp only
    rw [if_pos bad]
  · change execTileSsig t s = _
    rw [execTileSsig, State.tileRun_ready ready op]
    dsimp only
    rw [if_pos bad]

section
variable (good : s.sreg t (bits w 48 5) < 2 ^ 23)
include good

theorem exec_swait_ready (op : bits w 58 6 = 0x20) :
    let pc := s.get (Reg.TSTAT_PC t)
    let r := (s.put (Reg.TSTART_ROW t) 0).issueSync (.tile t pc) (s.sreg t (bits w 48 5)) true 0 (s.svValue t w) ((s.tx t).keptFor pc)
    exec (.tileSwait t) s = .next (r.1.tileStalls t (r.2, true)) := by
  intro pc r
  change execTileSwait t s = _
  rw [execTileSwait, State.tileRun_ready ready op]
  dsimp only
  rw [if_neg (Nat.not_le.2 good)]

theorem exec_ssig_ready (op : bits w 58 6 = 0x21) :
    let pc := s.get (Reg.TSTAT_PC t)
    exec (.tileSsig t) s = .next (((s.setTx t { s.tx t with kept := none }).tileGoto t (pc + 1) 1).issueSync (.tile t pc)
      (s.sreg t (bits w 48 5)) false (bits w 54 4) (s.svValue t w) ((s.tx t).keptFor pc)).1 := by
  intro pc
  change execTileSsig t s = _
  rw [execTileSsig, State.tileRun_ready ready op]
  dsimp only
  rw [if_neg (Nat.not_le.2 good)]

variable (own : objDev (s.sreg t (bits w 48 5)) = s.ensId) (fresh : (s.tx t).kept = none)
include own fresh

theorem exec_swait_local (op : bits w 58 6 = 0x20) :
    ∃ u, exec (.tileSwait t) s = .next u ∧ u.sync.ops = s.sync.ops ++ [s.syncIssued t w true 0] ∧ u.flag (Reg.TSTAT_STALL t) = true ∧
      (u.tx t).stall = some (s.sync.next, true) ∧ RegsBut [Reg.TSTART_ROW t, Reg.TSTAT_STALL t] s u ∧
      u = { s with regs := u.regs, sync := u.sync, tu := u.tu, mesh := u.mesh } := by
  have first : (s.tx t).keptFor (s.get (Reg.TSTAT_PC t)) = none := by rw [TileX.keptFor, fresh]
  have here : objDev (s.sreg t (bits w 48 5)) = (s.put (Reg.TSTART_ROW t) 0).ensId :=
    own.trans (State.ensId_of_regsBut (regsBut_put (regsBut_refl (tileAt t) s) _ (by simp [tileAt])) (State.tileAt_high t)).symm
  obtain ⟨m, issued⟩ := (s.put (Reg.TSTART_ROW t) 0).issueSync_local (.tile t (s.get (Reg.TSTAT_PC t))) true 0 (s.svValue t w) here
  have run := exec_swait_ready ready good op
  simp only [first, issued] at run
  obtain ⟨shown, stall, regs⟩ := State.tileStalls_shows (s := s) (t := t) (s.sync.next, true) (u := { s.put (Reg.TSTART_ROW t) 0 with
    sync := { s.sync with ops := s.sync.ops ++ [s.syncIssued t w true 0], next := s.sync.next + 1 }, mesh := m }) rfl
  exact ⟨_, run, rfl, shown, stall, regs, rfl⟩

theorem exec_ssig_local (op : bits w 58 6 = 0x21) :
    ∃ u, exec (.tileSsig t) s = .next u ∧ u.sync.ops = s.sync.ops ++ [s.syncIssued t w false (bits w 54 4)] ∧
      TileDone t s u (s.get (Reg.TSTAT_PC t) + 1) 1 ∧ u.tx t = s.tx t ∧ u.tu.rows = s.tu.rows ∧
      u = { s with regs := u.regs, sync := u.sync, tu := u.tu, mesh := u.mesh } ∧ RegsBut (tileAt t) s u := by
  have first : (s.tx t).keptFor (s.get (Reg.TSTAT_PC t)) = none := by rw [TileX.keptFor, fresh]
  have same : ({ s.tx t with kept := none } : TileX) = s.tx t := by rw [← fresh]
  have unstepped : ((s.setTx t (s.tx t)).tx t).step = false := by
    rw [State.tx_setTx_same]
    exact unstepped_of_tileReady ready
  have run := exec_ssig_ready ready good op
  dsimp only at run same
  rw [first, same] at run
  have only := State.tileGoto_regsOnly unstepped (s.get (Reg.TSTAT_PC t) + 1) 1
  have done := State.tileGoto_done_of_get (s := s) unstepped rfl (s.get (Reg.TSTAT_PC t) + 1) 1
  have regs := State.tileGoto_regs unstepped (s.get (Reg.TSTAT_PC t) + 1) 1
  generalize (s.setTx t (s.tx t)).tileGoto t (s.get (Reg.TSTAT_PC t) + 1) 1 = v at *
  have here : objDev (s.sreg t (bits w 48 5)) = v.ensId :=
    own.trans (State.ensId_of_regsBut (s := s) regs (State.tileAt_high t)).symm
  obtain ⟨m, issued⟩ := v.issueSync_local (.tile t (s.get (Reg.TSTAT_PC t))) false (bits w 54 4) (s.svValue t w) here
  rw [issued] at run
  refine ⟨_, run, ?_, done, ?_, ?_, ?_, regs⟩
  · rw [only]
    rfl
  · rw [only]
    exact State.tx_setTx_same _ _ _
  · rw [only]
    rfl
  · rw [only]
    rfl

end

theorem exec_hqIssue_ready {c : Instr} {q : HqWho × Option Nat} (named : (bits w 58 6, c, q) ∈
      [(0x22, Instr.tileHpop t, (HqWho.tile t (s.get (Reg.TSTAT_PC t)) (bits w 53 5), none)),
        (0x23, .tileHpush t, (.tile t (s.get (Reg.TSTAT_PC t)) 0, some (s.sreg t (bits w 48 5))))]) :
    let r := (s.put (Reg.TSTART_ROW t) 0).issueHq q.1 (bits w 0 10) q.2
    exec c s = .next (r.1.tileStalls t (r.2, false)) := by
  intro r
  simp only [List.mem_cons, List.not_mem_nil, or_false, Prod.mk.injEq] at named
  rcases named with ⟨op, rfl, rfl⟩ | ⟨op, rfl, rfl⟩
  · change execTileHpop t s = _
    rw [execTileHpop, State.tileRun_ready ready op]
  · change execTileHpush t s = _
    rw [execTileHpush, State.tileRun_ready ready op]

theorem exec_hqIssue_shows {c : Instr} {q : HqWho × Option Nat} (named : (bits w 58 6, c, q) ∈
      [(0x22, Instr.tileHpop t, (HqWho.tile t (s.get (Reg.TSTAT_PC t)) (bits w 53 5), none)),
        (0x23, .tileHpush t, (.tile t (s.get (Reg.TSTAT_PC t)) 0, some (s.sreg t (bits w 48 5))))]) :
    ∃ u, exec c s = .next u ∧ u.flag (Reg.TSTAT_STALL t) = true ∧ (u.tx t).stall = some (s.hq.next, false) ∧
      u.hq.ops = s.hq.ops ++ [{ key := s.hq.next, who := q.1, q := bits w 0 10, push := q.2, phase := .flight, withdrawn := false }] ∧
      RegsBut [Reg.TSTART_ROW t, Reg.TSTAT_STALL t] s u ∧ u = { s with regs := u.regs, hq := u.hq, tu := u.tu, mesh := u.mesh } := by
  have run := exec_hqIssue_ready ready named
  obtain ⟨m, issued⟩ := (s.put (Reg.TSTART_ROW t) 0).issueHq_shape q.1 (bits w 0 10) q.2
  simp only [issued] at run
  obtain ⟨shown, stall, regs⟩ := State.tileStalls_shows (s := s) (t := t) (s.hq.next, false) (u := { s.put (Reg.TSTART_ROW t) 0 with
    hq := { s.hq with ops := s.hq.ops ++ [{ key := s.hq.next, who := q.1, q := bits w 0 10, push := q.2, phase := .flight, withdrawn := false }],
                      next := s.hq.next + 1 }, mesh := m }) rfl
  exact ⟨_, run, shown, stall, rfl, regs, rfl⟩

end

/-- Settles O41: each instruction at PC through the lemma of what it does. -/
theorem tileScalarAndControlInstructions : Obligations.TileScalarAndControlInstructions := by
  unfold Obligations.TileScalarAndControlInstructions
  refine ⟨fun s t o r empty => State.oRow_of_empty empty r, fun t s w ready => ?_⟩
  exact ⟨fun v op fn => exec_salu_ready ready op fn, fun v op fn => exec_salui_ready ready op fn, exec_pset_ready ready,
    fun c named beyond => exec_scalarBeyond_ready ready named beyond, exec_sld_ready ready, exec_sst_shows ready, exec_br_ready ready,
    exec_tileJmp_ready ready, exec_tileNop_ready ready, fun op _ => exec_tileStop_ready ready op, exec_tcfg_ready ready, exec_trel_ready ready,
    exec_srun_ready ready, fun c named bad => exec_badObject_ready ready named bad,
    fun good own fresh => ⟨exec_swait_local ready good own fresh, exec_ssig_local ready good own fresh⟩,
    fun good => ⟨exec_swait_ready ready good, exec_ssig_ready ready good⟩, fun c q named => exec_hqIssue_shows ready named⟩

end Sys2Proof.Machine
